-- ==== Sys2Proof/Word.lean ====
section
/-!
DEFINITION. Words, sparse maps and the small vocabulary of names that the operands of the commands and the state share:
tiles, clusters, stages, stacks, ports, bus functions, pages of BAR0 (01 R10, 02 R31 to R33, 02 R40).
-/
namespace Sys2Proof

/-- A 32-bit register word (02 R35). -/
abbrev Word := BitVec 32
/-- A 64-bit word. -/
abbrev DWord := BitVec 64
/-- A byte. -/
abbrev Byte := BitVec 8

/-- Tile index t = y * 48 + x (01 R10). -/
abbrev TileId := Fin 1920
/-- Cluster index c = cy * 6 + cx (01 R10). -/
abbrev ClusterId := Fin 24
/-- Stage slot S0 to S11 (01 R22). -/
abbrev StageId := Fin 12
/-- HBM stack H0 to H11 (01 R15). -/
abbrev StackId := Fin 12
/-- Fabric port P0 to P15. -/
abbrev PortId := Fin 16

/-- Bits `hi` down to `lo` of a word, as a number. -/
def bits (w : Word) (hi lo : Nat) : Nat := (w.toNat >>> lo) % 2 ^ (hi + 1 - lo)

/-- Bit `n` of a word. -/
def bit (w : Word) (n : Nat) : Bool := w.toNat.testBit n

/-- `w` with bits `hi` down to `lo` replaced by the low bits of `v`. -/
def putBits (w : Word) (hi lo v : Nat) : Word :=
  let m := (2 ^ (hi + 1 - lo) - 1) <<< lo
  (w &&& ~~~(BitVec.ofNat 32 m)) ||| (BitVec.ofNat 32 ((v % 2 ^ (hi + 1 - lo)) <<< lo))

/-- 1 for true, 0 for false. -/
def ofBool (b : Bool) : Nat := if b then 1 else 0

/-- Signed value of the low `n` bits of a number (two's complement). -/
def signedOf (n : Nat) (v : Nat) : Int :=
  if v % 2 ^ n < 2 ^ (n - 1) then (v % 2 ^ n : Nat) else ((v % 2 ^ n : Nat) : Int) - ((2 ^ n : Nat) : Int)

/-- The `n`-bit two's-complement code of an integer. -/
def codeOf (n : Nat) (v : Int) : Nat := (v % ((2 ^ n : Nat) : Int)).toNat

/-- A number held at `m`: a counter that saturates. -/
def satAdd (m a b : Nat) : Nat := min m (a + b)

/-- A sparse map: pairs in strictly rising order of the key, none equal to the value an unlisted key reads as. -/
abbrev SMap (α : Type) := List (Nat × α)

/-- The entry at key `k`, if one is listed. -/
def SMap.find? {α : Type} (m : SMap α) (k : Nat) : Option α :=
  match m with
  | [] => none
  | (j, v) :: r => if j = k then some v else SMap.find? r k

/-- The value at key `k`; `d` where no entry is listed. -/
def SMap.get {α : Type} (d : α) (m : SMap α) (k : Nat) : α := (SMap.find? m k).getD d

/-- The map without key `k`. -/
def SMap.erase {α : Type} (m : SMap α) (k : Nat) : SMap α := m.filter fun e => e.1 != k

/-- The map with key `k` at `v`, in order. -/
def SMap.put {α : Type} (m : SMap α) (k : Nat) (v : α) : SMap α :=
  match m with
  | [] => [(k, v)]
  | (j, w) :: r => if j = k then (k, v) :: r else if k < j then (k, v) :: (j, w) :: r else (j, w) :: SMap.put r k v

/-- The map with key `k` at `v`, the entry dropped where `v` is the default `d`. -/
def SMap.set {α : Type} [DecidableEq α] (d : α) (m : SMap α) (k : Nat) (v : α) : SMap α :=
  if v = d then SMap.erase m k else SMap.put m k v

/-- Every listed key is above `b`, the keys rise strictly. -/
def SMap.sortedFrom {α : Type} (b : Option Nat) (m : SMap α) : Bool :=
  match m with
  | [] => true
  | (k, _) :: r => (match b with | none => true | some x => decide (x < k)) && SMap.sortedFrom (some k) r

/-- The keys rise strictly and no entry holds the default. -/
def SMap.wf {α : Type} [DecidableEq α] (d : α) (m : SMap α) : Bool :=
  SMap.sortedFrom none m && m.all (fun e => decide (e.2 ≠ d))

/-- A sorted list of numbers without repeats: insert one. -/
def insertNat (k : Nat) : List Nat → List Nat
  | [] => [k]
  | j :: r => if j = k then j :: r else if k < j then k :: j :: r else j :: insertNat k r

/-- Element `i` of a list replaced. -/
def setAt {α : Type} (l : List α) (i : Nat) (v : α) : List α := l.set i v

/-- A function of the host: the physical function, or the virtual function VF(s+1) of stage s (01 R25). -/
inductive Fn where
  | pf
  | vf (s : StageId)
  deriving DecidableEq, Repr

/-- The number a function has in ERR_FIRST.FN and LOCK.OWNER: 0 for the physical function, n for VFn (02 R43). -/
def Fn.num : Fn → Nat
  | .pf => 0
  | .vf s => s.val + 1

/-- The pages of BAR0, in the order of their type codes (02 R32, R33, R40). -/
inductive PageKind where
  | dev | opt | keep | rst | clk | time | pwr | cue | therm | ras | log | cve | daily | sec | miryn
  | stage | clu | hbm | port | uam | pcie | volt | freq | stin | sens | nrg
  | tile | seq | arr | vec | spd | rtr | slate | gath | perf
  deriving DecidableEq, Repr

/-- One register, or an array of registers, of a page: the offset of the first, how many, how far apart, the reset value
in an M-tile's page and in an S-tile's, and the bits of each access type (00 R6); `lk` are the bits LOCK freezes (02 R48). -/
structure RegDef where
  off : Nat
  cnt : Nat
  stride : Nat
  rst : Nat
  rstS : Nat
  rw : Nat
  rws : Nat
  rk : Nat
  w1c : Nat
  wo : Nat
  lk : Nat
  deriving DecidableEq, Repr

/-- What differs among the common headers of the pages (02 R39): the type code, CAP in an M-tile and an S-tile, CTRL's
reset and its RW, RWS and lockable bits, STATUS's reset, the RW1C causes and the level-copy causes. -/
structure PageInfo where
  type : Nat
  cap : Nat
  capS : Nat
  ctrlRst : Nat
  ctrlRw : Nat
  ctrlRws : Nat
  ctrlLk : Nat
  statusRst : Nat
  irq : Nat
  level : Nat
  deriving DecidableEq, Repr

/-- A field of a register: its register's offset in the page, the distance to the next register of an array, its bits. -/
structure Fld where
  off : Nat
  stride : Nat
  hi : Nat
  lo : Nat
  deriving DecidableEq, Repr

end Sys2Proof
end

