-- ==== Sys2Proof/Syntax/Operands.lean ====
section
/-!
DEFINITION. The types of the commands' operands beyond numbers and words.
-/
namespace Sys2Proof

/-- A BAR0 offset: 256 MiB (02 R31). -/
abbrev Addr := BitVec 28

/-- What an ECC check finds in a word read (06 R150, 10 R241, 11 R279, R280): no error, one corrected, one not correctable; in a burst of an HBM
stack also a correction that the stack's own on-die ECC made and reports. A command that reads takes a list: the outcomes for the words it
reads that have one, in order; past the list's end there is no error. -/
inductive Ecc where
  | ok
  | corr
  | uncorr
  | onDie
  deriving DecidableEq, Repr

/-- A slate: local slate `n` of tile `t`, or rim slate `i` (07 R176, R179). -/
inductive SlateRef where
  | loc (t : TileId) (n : Fin 16)
  | rim (i : Fin 1024)
  deriving DecidableEq, Repr

/-- Where a slate's COUNT and THRESH are written: slate `n` of a tile's SLATE page, or the rim slate that a STAGE page's RSL_SEL selects
(07 R191, R192). -/
inductive SlateReg where
  | loc (t : TileId) (n : Fin 16)
  | sel (s : StageId)
  deriving DecidableEq, Repr

/-- A page whose CNT_CLEAR one row covers: TIME, or FREQ or STIN of a cluster (15 R410). -/
inductive TimePage where
  | time
  | freq (c : ClusterId)
  | stin (c : ClusterId)
  deriving DecidableEq, Repr

/-- A register of a control core. -/
abbrev Reg := Fin 32

/-- A link across a seam (01 R9): between columns 15 and 16 (`col 0`) or 31 and 32 (`col 1`) in row `y`, or between rows 19 and 20 in
column `x`. -/
inductive SeamLink where
  | col (k : Fin 2) (y : Fin 40)
  | row (x : Fin 48)
  deriving DecidableEq, Repr

/-- The two tiles at the ends of a seam link (01 R9, R10). -/
def SeamLink.ends : SeamLink → List Nat
  | .col k y => [y.val * 48 + 15 + 16 * k.val, y.val * 48 + 16 + 16 * k.val]
  | .row x => [19 * 48 + x.val, 20 * 48 + x.val]

/-- A load or store of RV32I (07 R181). -/
inductive MemOp where
  | lb
  | lh
  | lw
  | lbu
  | lhu
  | sb
  | sh
  | sw
  deriving DecidableEq, Repr

/-- A requester of a scratchpad port whose data moves at its own command (06 R146): the wide readers (weight loader, the vector engine's three
sources, mover, gather engine's rows), the narrow readers (sequencer, control cores, gather engine's IDs and hit cache), the wide writers
(receiver, vector engine's DST, gather engine's pooled rows), the narrow writers (vector engine, control cores, gather engine, receiver). -/
inductive PortUnit where
  | loader
  | srcA
  | srcB
  | srcC
  | mover
  | gatherRows
  | sequencer
  | core0
  | core1
  | gather
  | receiver
  | vecDst
  | pooled
  | vecNarrow
  | core0Store
  | core1Store
  | gatherStore
  | receiverNarrow
  deriving DecidableEq, Repr

/-- The unit asks for the write port. -/
def PortUnit.wr : PortUnit → Bool
  | .receiver | .vecDst | .pooled | .vecNarrow | .core0Store | .core1Store | .gatherStore | .receiverNarrow => true
  | .loader | .srcA | .srcB | .srcC | .mover | .gatherRows | .sequencer | .core0 | .core1 | .gather => false

/-- The unit asks for a wide access. -/
def PortUnit.wide : PortUnit → Bool
  | .loader | .srcA | .srcB | .srcC | .mover | .gatherRows | .receiver | .vecDst | .pooled => true
  | .sequencer | .core0 | .core1 | .gather | .vecNarrow | .core0Store | .core1Store | .gatherStore | .receiverNarrow => false

/-- The unit's rank at its port, among wide or among narrow requests (06 R146). -/
def PortUnit.rank : PortUnit → Nat
  | .loader => 3 | .srcA => 4 | .srcB => 5 | .srcC => 6 | .mover => 7 | .gatherRows => 8
  | .sequencer => 1 | .core0 => 2 | .core1 => 3 | .gather => 4
  | .receiver => 1 | .vecDst => 2 | .pooled => 3
  | .vecNarrow => 1 | .core0Store => 2 | .core1Store => 3 | .gatherStore => 4 | .receiverNarrow => 5

/-- A request a unit presents at a port in a tile cycle (06 R142, R145, R146): the unit, the first word it touches, a wide access by
columns, a narrow write of fewer than 32 bytes. -/
structure PortReq where
  unit : PortUnit
  word : Nat
  col : Bool := false
  part : Bool := false
  deriving DecidableEq, Repr

/-- A Uamuga frame (12 R302): its header fields, AUX as one 64-bit number, and its payload bytes as they stand on the wire. VER and WIRE_LEN
are not held: VER is 1, WIRE_LEN the payload's length. -/
structure Frame where
  ty : Nat := 0
  poison : Bool := false
  streamed : Bool := false
  ece : Bool := false
  retx : Bool := false
  enc : Nat := 0
  dstCtx : Nat := 0
  srcCtx : Nat := 0
  ring : Nat := 0
  psn : Nat := 0
  msn : Nat := 0
  elem : Nat := 0
  lenM1 : Nat := 0
  off : Nat := 0
  aux : Nat := 0
  payload : List Byte := []
  deriving DecidableEq, Repr

/-- What the bytes of a received frame do not say: how many bytes the ingress queue of its stage and port holds as it arrives (12 R330, R331),
and the FEC codewords corrected and uncorrectable since the last frame (12 R337). -/
structure RxInfo where
  held : Nat := 0
  fecCorr : Nat := 0
  fecUncorr : Nat := 0
  deriving DecidableEq, Repr

/-- A JTAG instruction (13 R354); `mirynDebug` stands for those that reach Miryn's debug port. -/
inductive JtagInstr where
  | bypass
  | idcode
  | sample
  | preload
  | extest
  | clamp
  | highz
  | mirynDebug
  deriving DecidableEq, Repr

/-- A read on the SMBus: the 7-bit address, the command code, and how many data bytes the transaction carries (13 R350, R351). -/
structure SmbRead where
  addr : Nat
  code : Nat
  len : Nat
  deriving DecidableEq, Repr

/-- A write on the SMBus: the 7-bit address, the data bytes, and whether the PEC is right (13 R350, R351). -/
structure SmbWrite where
  addr : Nat
  bytes : List Byte
  pec : Bool
  deriving DecidableEq, Repr

/-- What a margin monitor of a cluster reports (15 R396): a stand-in's slack in ps, the deviation of a cycle's period from the mean in ps, the
duty cycle in tenths of a percent. -/
inductive Margin where
  | slack (n : Fin 8) (ps : Int)
  | jitter (ps : Nat)
  | duty (permille : Nat)
  deriving DecidableEq, Repr

/-- What the power unit predicts a load step from and holds for its notice (14 R375, R376): a shot start of a tile after idle, the START or WRAP
of a stage, a change of a stage's issue gate, a frequency change. -/
inductive StepCause where
  | shot (t : TileId)
  | stage (s : StageId)
  | gate (s : StageId)
  | freq
  deriving DecidableEq, Repr

/-- A predicted load step: its rail (14 R375: 0 to 23 clusters, 24 VDDM, 25 VDD_RIM), its signed size in amperes, its cause. -/
structure LoadStep where
  rail : Fin 26
  amps : Int
  cause : StepCause
  deriving DecidableEq, Repr

/-- An entry of a function's MSI-X table as the host writes it through BAR4: vector, message address, message data (13 R341). -/
structure MsixEntry where
  vec : Nat
  addr : Nat
  data : Nat
  deriving DecidableEq, Repr

end Sys2Proof
end

