-- ==== Sys2Proof/Syntax.lean ====
section
/-!
DEFINITION. The commands of the block: one constructor per row of spec/opcode_table.json, in the table's order, with the
operands of the row. The operands are the model's own choice (log 7): the table gives none.
-/
namespace Sys2Proof

/-- A command. -/
inductive Instr where
  /-- REGISTER_WRITE (R45): A BAR0 or tile-block write to a register with no row of its own is checked in order, then applied or dropped and counted. -/
  | registerWrite (fn : Fn) (addr : Addr) (be : Bool) (w : Word) (more : List (Bool × Word))
  /-- PAIR_LOW_READ (R36): A read of the low word of a 64-bit register pair latches the high word for the next read by the same function. -/
  | pairLowRead (fn : Fn) (addr : Addr) (n : Fin 4097)
  /-- LOCK_PAGE (R47): A LOCK write with KEY 0xA5 and LOCKED 1 locks the page, sets HOLD and records the owner. -/
  | lockPage (fn : Fn) (page : Addr) (hold : Bool)
  /-- UNLOCK_PAGE (R47): A LOCK write with KEY 0x5A and LOCKED 0 unlocks the page if HOLD is 0 and the writer is the owner or the physical function. -/
  | unlockPage (fn : Fn) (page : Addr)
  /-- ERR_COUNT_CLEAR (R43): Writing ERR_COUNT.CLEAR sets COUNT to 0 and clears ERR_FIRST. -/
  | errCountClear (fn : Fn) (page : Addr)
  /-- IRQ_STATUS_WRITE (R49): A write of 1s to IRQ_STATUS clears causes, and a message is sent if the page stays pending. -/
  | irqStatusWrite (fn : Fn) (page : Addr) (w : Word)
  /-- IRQ_ENABLE_WRITE (R49): A write to IRQ_ENABLE changes the enables, and a message is sent if the page is left pending. -/
  | irqEnableWrite (fn : Fn) (page : Addr) (w : Word)
  /-- PERF_CNT_CLEAR (R54): Writing PERF.CNT_CLEAR clears CYCLES and EVT[0-3]. -/
  | perfCntClear (fn : Fn) (t : TileId)
  /-- RECT_WRITE (R27): A physical-function write of STAGE[s].RECT is checked against state, R22 and other stages' ranges, and then defines or dissolves the stage. -/
  | rectWrite (fn : Fn) (st : StageId) (w : Word)
  /-- PORT_MASK_WRITE (R26): A PORT_MASK write is checked against the option block and the four-stage limit, and closes contexts on removed ports. -/
  | portMaskWrite (fn : Fn) (st : StageId) (w : Word)
  /-- STAGE_LOAD (R502): The LOAD command is checked, puts the stage's tiles behind their wrappers and starts the stage call sheet. -/
  | stageLoad (fn : Fn) (st : StageId)
  /-- STAGE_START (R28): The START command moves a loaded stage to RUN, releases its tiles and writes KAS images. -/
  | stageStart (fn : Fn) (st : StageId)
  /-- STAGE_WRAP (R28): The WRAP command moves a LOADING or RUN stage to WRAP to drain. -/
  | stageWrap (fn : Fn) (st : StageId)
  /-- STAGE_RESET (R428): The RESET command moves the stage at once to RESET and starts the stage restart. -/
  | stageReset (fn : Fn) (st : StageId)
  /-- WRAP_DRAIN_COMPLETE (R28): When all units of a wrapping stage are idle and its transfers complete, the stage goes to IDLE. -/
  | wrapDrainComplete (st : StageId)
  /-- WRAP_TIMEOUT_EXPIRE (R28): A drain not complete within WRAP_TIMEOUT.MS moves the stage to FAULT with code 0x09. -/
  | wrapTimeoutExpire (st : StageId)
  /-- STAGE_RESTART_COMPLETE (R428): When the stage restart finishes, the stage returns from RESET to IDLE within 150 ms. -/
  | stageRestartComplete (st : StageId)
  /-- MATRIX_INSTRUCTION (R80): A matrix instruction at the head of the array queue is checked, sparse checked and metadata drops marked, before its rows enter. -/
  | matrixInstruction (t : TileId) (e : List Ecc)
  /-- ARRAY_ROW_ENTER (R59): An activation row enters the named arrays when operands, block and ring room are ready. -/
  | arrayRowEnter (t : TileId) (stallW stallA stallC : Nat)
  /-- ACC_ROW_WRITE (R59): A row's result is written to the accumulator bank 72 tile cycles after it entered, with tag, wrap and poison rules. -/
  | accRowWrite (t : TileId)
  /-- WEIGHT_LOADER_DESCRIPTOR (R77): A weight loader descriptor at the head of its queue is checked and its blocks scheduled for loading. -/
  | weightLoaderDescriptor (t : TileId) (e : List Ecc)
  /-- WEIGHT_BUFFER_FREE (R76): A weight buffer frees 65 tile cycles after the last row of the last instruction using its block, and the loader starts the next block. -/
  | weightBufferFree (t : TileId)
  /-- WEIGHT_BLOCK_USABLE (R76): After its last wide access, a weight block becomes usable and produces a block token. -/
  | weightBlockUsable (t : TileId) (e : List Ecc)
  /-- FEEDER_ROW_REQUEST (R75): A feeder requests the next aligned data or scale row into a free slot. -/
  | feederRowRequest (t : TileId) (f : Fin 2) (scale : Bool)
  /-- FEEDER_DESCRIPTOR_CROSS (R80): A feeder crossing into its next descriptor runs checks 8 and 11 and continues or halts the arrays. -/
  | feederDescriptorCross (t : TileId) (f : Fin 2) (e : List Ecc)
  /-- ARR_CNT_CLEAR (R86): Writing ARR.CNT_CLEAR clears the ARR counters at 0x040-0x05C. -/
  | arrCntClear (fn : Fn) (t : TileId)
  /-- SPARSE_CTRL_CLEAR (R217): Writing SPARSE_CTRL.CLEAR clears SPARSE_DROP and SPARSE_FIRST. -/
  | sparseCtrlClear (fn : Fn) (t : TileId) (en : Bool)
  /-- VECTOR_DESCRIPTOR (R135): A vector descriptor at the head of its queue is checked before any element enters, with guard settings latched. -/
  | vectorDescriptor (t : TileId) (e : List Ecc)
  /-- VECTOR_ROW (R109): The vector engine requests a row's operands and computes it, releasing accumulator rows as read. -/
  | vectorRow (t : TileId) (late stallIn : Nat) (e : List Ecc)
  /-- VECTOR_ROW_COMPLETE (R164): A vector row's results are written, reduced and guarded, and the step completes. -/
  | vectorRowComplete (t : TileId) (stallOut : Nat) (e : List Ecc)
  /-- SUMMARY_PUSH (R126): A summary enters the summary FIFO when it has room, setting SUM_AVAIL on empty to non-empty. -/
  | summaryPush (t : TileId) (stall : Nat)
  /-- LFSR_SEED_WRITE (R122): A write of the LFSR_SEED pair sets the seed used at the next RESEED, and a zero seed is rejected. -/
  | lfsrSeedWrite (fn : Fn) (t : TileId) (lo hi : Word)
  /-- VEC_CNT_CLEAR (R139): Writing VEC.CNT_CLEAR clears the VEC counters and GUARD_FIRST. -/
  | vecCntClear (fn : Fn) (t : TileId)
  /-- SCRATCHPAD_GRANT (R146): Each scratchpad port grants a wide access or narrow accesses by priority in a tile cycle. -/
  | scratchpadGrant (t : TileId) (others : List PortReq)
  /-- REQUEST_PROMOTE (R148): A scratchpad request that has waited 64 tile cycles is promoted and counted. -/
  | requestPromote (t : TileId)
  /-- READ_DATA_RETURN (R144): Read data reaches the requester 7 tile cycles after grant, with ECC, cold-read and poison handling. -/
  | readDataReturn (t : TileId) (e : List Ecc)
  /-- MERGE_WRITE_GRANT (R145): The write half of a partial-word merge is granted when the bank's write port is free. -/
  | mergeWriteGrant (t : TileId) (e : List Ecc)
  /-- ECC_WRITEBACK (R150): A corrected or uncorrectable scratchpad word is written back at scrubber rank unless another write comes first. -/
  | eccWriteback (t : TileId)
  /-- SCRUB_READ (R150): The scrubber reads the next written word every SCRUB_INT tile cycles. -/
  | scrubRead (t : TileId)
  /-- SPD_INIT_COMPLETE (R149): The post-reset clearing of scratchpad tags completes within 32 tile cycles and SPD.STATUS.INIT falls. -/
  | spdInitComplete (t : TileId)
  /-- REMOTE_ACCESS_SERVE (R153): The target tile serves an arriving remote access as a narrow access at remote rank. -/
  | remoteAccessServe (i : Nat)
  /-- READ_REPLY (R243): A read reply arrives at its requester and completes the read. -/
  | readReply (i : Nat)
  /-- SPD_IND_READ (R154): IND_CMD read reads the word at IND_ADDR into IND_DATA0-7. -/
  | spdIndRead (fn : Fn) (t : TileId)
  /-- SPD_IND_WRITE (R154): IND_CMD write writes IND_DATA0-7 to the word at IND_ADDR. -/
  | spdIndWrite (fn : Fn) (t : TileId)
  /-- SPD_IND_DONE (R154): An indirect command completes and IND_BUSY clears. -/
  | spdIndDone (t : TileId)
  /-- SPD_CNT_CLEAR (R156): Writing SPD.CNT_CLEAR clears the SPD counters. -/
  | spdCntClear (fn : Fn) (t : TileId)
  /-- DESCRIPTOR_PREFETCH (R160): A queue prefetches a descriptor's header up to four ahead. -/
  | descriptorPrefetch (t : TileId) (u : Fin 8) (e : List Ecc)
  /-- SHOT_START (R168): The SHOT.START instruction starts, queues or stalls on a shot whose header is at rs1. -/
  | shotStart (t : TileId) (k : Fin 2) (rs1 : Reg) (e : List Ecc)
  /-- SEQ_SHOT_START (R168): A host write of SEQ.SHOT_START starts a shot, makes it pending, or is dropped if one is pending. -/
  | seqShotStart (fn : Fn) (t : TileId) (row : Fin 8192) (e : List Ecc)
  /-- PENDING_SHOT_START (R168): A pending shot starts in the cycle after the running shot completes. -/
  | pendingShotStart (t : TileId) (e : List Ecc)
  /-- SHOT_COMPLETE (R168): When every descriptor of every list completes, the shot completes and signals DONE_SLATE. -/
  | shotComplete (t : TileId)
  /-- CH_CFG_WRITE (R162): A write of CH_CFG[n] sets the channel capacity, AVAIL to 0 and SPACE to CAP. -/
  | chCfgWrite (fn : Fn) (t : TileId) (n : Fin 15) (w : Word)
  /-- SEQ_CNT_CLEAR (R189): Writing SEQ.CNT_CLEAR clears the SEQ counters. -/
  | seqCntClear (fn : Fn) (t : TileId)
  /-- CORE_LOAD_STORE (R181): A control-core load or store reaches its scratchpad, remote windows or tile block, or raises an access fault. -/
  | coreLoadStore (t : TileId) (k : Fin 2) (op : MemOp) (r base : Reg) (imm : BitVec 12) (e : List Ecc)
  /-- FENCE_I (R181): FENCE.I invalidates the core's instruction cache. -/
  | fenceI (t : TileId) (k : Fin 2)
  /-- SL_ADD (R182): SL.ADD adds rs2 to a local slate. -/
  | slAdd (t : TileId) (k : Fin 2) (rs1 rs2 : Reg)
  /-- SL_WAIT (R182): SL.WAIT stalls the core until a local slate is released. -/
  | slWait (t : TileId) (k : Fin 2) (rs1 : Reg)
  /-- SL_READ (R182): SL.READ returns a local slate's COUNT. -/
  | slRead (t : TileId) (k : Fin 2) (rd rs1 : Reg)
  /-- SL_SIG (R182): SL.SIG sends a TC0 slate add to a tile or rim slate of the stage. -/
  | slSig (t : TileId) (k : Fin 2) (rs1 rs2 : Reg)
  /-- SUM_TAKE (R182): SUM.TAKE takes the oldest summary, stalling while the FIFO is empty. -/
  | sumTake (t : TileId) (k : Fin 2) (rd : Reg)
  /-- PRED_SET (R182): PRED.SET makes a predicate valid with a value in the own tile or another tile of the stage. -/
  | predSet (t : TileId) (k : Fin 2) (rs1 rs2 : Reg)
  /-- SL_ARM (R182): SL.ARM sets a local slate's THRESH. -/
  | slArm (t : TileId) (k : Fin 2) (rs1 rs2 : Reg)
  /-- SL_POLL (R182): SL.POLL returns a local slate's REACHED. -/
  | slPoll (t : TileId) (k : Fin 2) (rd rs1 : Reg)
  /-- SUM_FLAGS (R182): SUM.FLAGS returns word 1 of the summary last taken. -/
  | sumFlags (t : TileId) (k : Fin 2) (rd : Reg)
  /-- PRED_CLR (R182): PRED.CLR makes the predicates named in rs1 not valid. -/
  | predClr (t : TileId) (k : Fin 2) (rs1 : Reg)
  /-- SLATE_WAIT_RELEASE (R176): In the cycle after a slate becomes REACHED, its waiting descriptors, cores and IRQ cause are released. -/
  | slateWaitRelease (r : SlateRef)
  /-- SLATE_REARM (R177): A slate with nonzero STEP raises THRESH by STEP and re-evaluates REACHED in the cycle after it is reached. -/
  | slateRearm (r : SlateRef)
  /-- SLATE_ADD_WRITE (R178): A host write of SLATE.ADD adds the value to the slate's COUNT. -/
  | slateAddWrite (fn : Fn) (t : TileId) (n : Fin 16) (w : Word)
  /-- SLATE_COUNT_WRITE (R176): A write of a slate's COUNT, local or rim, sets it and re-evaluates REACHED. -/
  | slateCountWrite (fn : Fn) (r : SlateReg) (w : Word)
  /-- SLATE_THRESH_WRITE (R176): A write of a slate's THRESH, local or rim, sets it and re-evaluates REACHED. -/
  | slateThreshWrite (fn : Fn) (r : SlateReg) (w : Word)
  /-- SLATE_ADD_MESSAGE (R178): An arriving TC0 slate-add message adds its value to the named slate. -/
  | slateAddMessage (i : Nat)
  /-- PREDICATE_TOKEN (R166): An arriving predicate token sets a predicate valid with its value. -/
  | predicateToken (i : Nat)
  /-- RIM_SLATE_BROADCAST (R180): A rim slate broadcast adds 1 to local slate TARGET in each good tile of the stage. -/
  | rimSlateBroadcast (i : Fin 1024)
  /-- CALL_SHEET_CONTROL (R245): An arriving call-sheet control message acts on its tile. -/
  | callSheetControl (i : Nat)
  /-- MOVER_DESCRIPTOR (R171): A mover descriptor at the head of its queue is checked for destination, mode and extent. -/
  | moverDescriptor (t : TileId) (e : List Ecc)
  /-- MOVER_TRANSFER_SEND (R171): A mover step issues when tracking and credit allow and sends one transfer, void or not. -/
  | moverTransferSend (t : TileId) (track credit : Nat) (e : List Ecc)
  /-- CREDIT_REQUEST (R173): A credit request arrives at a destination and is queued for units. -/
  | creditRequest (i : Nat)
  /-- CREDIT_GRANT (R173): A credit grant arrives at the sender, letting the mover step issue once all destinations grant. -/
  | creditGrant (i : Nat)
  /-- TRANSFER_ARRIVE (R173): An arriving transfer enters the receive queue, or the outtakes region in spill mode. -/
  | transferArrive (i : Nat)
  /-- RECEIVER_DESCRIPTOR (R172): A receiver descriptor at the head of its queue is checked. -/
  | receiverDescriptor (t : TileId) (e : List Ecc)
  /-- RECEIVER_WRITE (R172): The receiver writes a matching transfer, applies its remote slate increment and acknowledges it. -/
  | receiverWrite (t : TileId) (e : List Ecc)
  /-- TRANSFER_ACK (R174): An acknowledgement arrives at the mover, completing the step or halting it on an error response. -/
  | transferAck (i : Nat)
  /-- STALL_PROBE (R183): When the stall condition has held for STALL_LIMIT cycles, the tile sends or repeats a stall probe. -/
  | stallProbe (t : TileId)
  /-- PROBE_ARRIVE (R184): A stall probe arrives at the stage detector, which looks for a cycle of edges and sends confirm queries. -/
  | probeArrive (i : Nat)
  /-- CONFIRM_QUERY (R184): A confirm query arrives at a tile, which answers stalled only if its condition holds. -/
  | confirmQuery (i : Nat)
  /-- CONFIRM_ANSWER (R184): A confirm answer arrives at the detector and, when all are stalled, confirms the cycle. -/
  | confirmAnswer (i : Nat)
  /-- CONFIRM_TIMEOUT (R184): A cycle not confirmed within 2 µs of its query is dropped. -/
  | confirmTimeout (st : StageId)
  /-- PROBE_NO_CYCLE (R184): A probe in no cycle within two repeat periods is counted in DL_NOCYCLE. -/
  | probeNoCycle (t : TileId)
  /-- SPILL_RECORD_WRITE (R186): A spilling tile writes a transfer as a record to the outtakes ring, faulting the stage if it does not fit. -/
  | spillRecordWrite (t : TileId)
  /-- OUTTAKES_REFILL (R187): The rim refills a matching record into a spilling tile's receive queue when it has room, leaving spill mode after the last. -/
  | outtakesRefill (t : TileId) (e : List Ecc)
  /-- SCOUT_LIST (R210): A scout list reaching the row fetcher is checked and served as a sparse or dense pass. -/
  | scoutList (i : Nat)
  /-- FETCH_START (R276): A start transfer of FORM 0x5D triggers a dense pass of a fetch program. -/
  | fetchStart (i : Nat)
  /-- FETCH_PASS_START (R277): A waiting fetch pass starts when the program has room, reading and checking its record. -/
  | fetchPassStart (p : Fin 256) (e : List Ecc)
  /-- FETCH_CMD_GO (R296): Writing FETCH_CMD.GO sends LEN bytes from the scratchpad to the row fetcher. -/
  | fetchCmdGo (fn : Fn) (t : TileId) (len16M1 : Fin 512) (e : List Ecc)
  /-- SCOUT_CLEAR (R211): Writing SCOUT_CLEAR clears the scout counters. -/
  | scoutClear (fn : Fn) (st : StageId)
  /-- GATHER_DESCRIPTOR (R226): A gather descriptor at the head of its queue is checked before bag 0. -/
  | gatherDescriptor (t : TileId) (e : List Ecc)
  /-- GATHER_BAG (R227): The gather engine hashes a bag's IDs and issues local, cached or remote row fetches or adds. -/
  | gatherBag (t : TileId) (e : List Ecc)
  /-- GATHER_REMOTE_REQUEST (R232): The engine sends a batched remote row request when 1,024 rows are collected or the last open bag is hashed. -/
  | gatherRemoteRequest (t : TileId) (n : Fin 4) (k : Nat)
  /-- GATHER_ROW_ARRIVE (R229): A fetched row arrives, fills the hit cache and is pooled in ID order. -/
  | gatherRowArrive (i : Nat) (e : List Ecc)
  /-- GATHER_BAG_COMPLETE (R234): A bag's output row is written or all its adds acknowledged, completing the step. -/
  | gatherBagComplete (t : TileId) (e : List Ecc)
  /-- HIT_CACHE_INVALIDATE (R231): Writing HC_CTRL.INV invalidates the hit cache. -/
  | hitCacheInvalidate (fn : Fn) (t : TileId)
  /-- HC_CFG_WRITE (R231): A write of HC_CFG configures and invalidates the hit cache. -/
  | hcCfgWrite (fn : Fn) (t : TileId) (w : Word)
  /-- GATH_CNT_CLEAR (R237): Writing GATH.CNT_CLEAR clears the GATH counters. -/
  | gathCntClear (fn : Fn) (t : TileId)
  /-- PACKET_ROUTE (R247): A router receives a flit or control message, checks ECC, and delivers, forwards, multicasts or drops it. -/
  | packetRoute (i : Nat) (hdr : Ecc) (corr : Nat) (bad : List Nat)
  /-- RIM_PACKET_ACCEPT (R253): The rim accepts a packet from an entry tile only if the stage owns its endpoint. -/
  | rimPacketAccept (i : Nat)
  /-- MIX_FLIT_ARRIVE (R257): A mixdown flit arrives in a holding buffer tagged with its slot, or is dropped if no slot names it. -/
  | mixFlitArrive (i : Nat) (lo hi : Ecc)
  /-- MIX_SLOT_FIRE (R257): A scheduled slot fires when its inputs and credit are present, combining and sending or ejecting. -/
  | mixSlotFire (t : TileId) (p : Fin 256)
  /-- MIX_CREDIT_RETURN (R257): A slot credit returns 3 tile cycles after the downstream slot consumes the flit. -/
  | mixCreditReturn (t : TileId) (out : Fin 5)
  /-- MIX_ACK (R259): The eject acknowledgement returns along the chain, completing contributing mover steps. -/
  | mixAck
  /-- MIX_SCHEDULE_STOP (R260): A router finishes its current period and stops at slot 0 for a frequency change. -/
  | mixScheduleStop (t : TileId)
  /-- TC0_LIMIT_RELEASE (R262): A TC0 message held by the four-per-128-cycle limiter is released. -/
  | tc0LimitRelease (t : TileId) (expired : Nat)
  /-- RTR_CNT_CLEAR (R266): Writing RTR.CNT_CLEAR clears the RTR counters. -/
  | rtrCntClear (fn : Fn) (t : TileId)
  /-- HBM_READ_REQUEST (R273): A controller serves a read, correcting, poisoning or refusing it as the code and state require. -/
  | hbmReadRequest (i : Nat) (e : List Ecc) (stack : Nat)
  /-- HBM_WRITE_REQUEST (R273): A controller accepts and acknowledges a write, with poison marks and mirror dirty bits. -/
  | hbmWriteRequest (i : Nat) (e : List Ecc)
  /-- HBM_ADD_REQUEST (R283): A controller applies a near-memory add to each 32-byte word atomically. -/
  | hbmAddRequest (i : Nat) (e : List Ecc)
  /-- HBM_PATROL_SCRUB (R282): The patrol scrubber reads the next burst so every burst is read once per SCRUB_HOURS. -/
  | hbmPatrolScrub (h : StackId) (e : List Ecc) (stack : Nat)
  /-- HBM_ZERO_FILL_COMPLETE (R288): A stack's zero-fill completes, INIT_BUSY falls and READY rises. -/
  | hbmZeroFillComplete (h : StackId) (ok : Bool)
  /-- HBM_WARM_READY (R290): After warm-reset release the controllers accept requests again and READY reads 1. -/
  | hbmWarmReady (h : StackId)
  /-- HBM_CNT_CLEAR (R293): Writing HBM.CNT_CLEAR clears the HBM counters and UNCORR_ADDR. -/
  | hbmCntClear (fn : Fn) (h : StackId)
  /-- POISON_CONSUMED_CLEAR (R295): Writing POISON_CONSUMED.CLEAR clears COUNT and POISON_AT. -/
  | poisonConsumedClear (fn : Fn) (st : StageId)
  /-- LINK_DOWN (R300): A port's link falls; frames are held and the fall is counted. -/
  | linkDown (p : PortId)
  /-- LINK_UP (R300): A port's link comes up and held frames flow. -/
  | linkUp (p : PortId)
  /-- DATA_FRAME (R304): A received DATA frame is checked and placed into a ring buffer, with acknowledgement. -/
  | dataFrame (p : PortId) (w : List Byte) (k : RxInfo) (e : List Ecc)
  /-- ACK_FRAME (R313): A received ACK advances the window, adjusts CWND, retransmits SACK gaps and completes messages. -/
  | ackFrame (p : PortId) (w : List Byte) (k : RxInfo) (halve gap : Bool) (e : List Ecc)
  /-- NAK_FRAME (R316): A received NAK refuses a frame, failing the message or backing it off. -/
  | nakFrame (p : PortId) (w : List Byte) (k : RxInfo)
  /-- RTS_FRAME (R321): A received RTS queues a streamed message on its ring. -/
  | rtsFrame (p : PortId) (w : List Byte) (k : RxInfo) (e : List Ecc)
  /-- GRANT_FRAME (R321): A received GRANT raises the bytes the sender may send. -/
  | grantFrame (p : PortId) (w : List Byte) (k : RxInfo)
  /-- WREAD_FRAME (R323): A received WREAD is served from the window as RRESP frames, or refused. -/
  | wreadFrame (p : PortId) (w : List Byte) (k : RxInfo) (e : List Ecc)
  /-- RRESP_FRAME (R323): A received RRESP frame is placed at DST + OFFSET. -/
  | rrespFrame (p : PortId) (w : List Byte) (k : RxInfo) (e : List Ecc)
  /-- WWRITE_FRAME (R323): A received WWRITE frame is written into the window, or refused. -/
  | wwriteFrame (p : PortId) (w : List Byte) (k : RxInfo) (e : List Ecc)
  /-- WADD_FRAME (R323): A received WADD frame is applied as near-memory adds in the window, or refused. -/
  | waddFrame (p : PortId) (w : List Byte) (k : RxInfo) (e : List Ecc)
  /-- MARK_FRAME (R328): A received MARK frame stores the mark number in RX_MARK of its context. -/
  | markFrame (p : PortId) (w : List Byte) (k : RxInfo) (e : List Ecc)
  /-- OPEN_FRAME (R307): A received OPEN opens an OPENING context or restarts an OPEN one, answered by OPEN_ACK. -/
  | openFrame (p : PortId) (w : List Byte) (k : RxInfo)
  /-- OPEN_ACK_FRAME (R307): A received OPEN_ACK moves an OPENING context to OPEN. -/
  | openAckFrame (p : PortId) (w : List Byte) (k : RxInfo)
  /-- MGMT_FRAME (R467): A MGMT request is answered by Miryn with status or digest, within rate limits. -/
  | mgmtFrame (p : PortId) (w : List Byte) (k : RxInfo)
  /-- ADDRESS_REQUEST (R299): An ARP request or Neighbor Solicitation for the port's address is answered by Miryn. -/
  | addressRequest (p : PortId) (w : List Byte) (k : RxInfo)
  /-- OTHER_FRAME (R299): A frame not accepted by address or encapsulation checks is dropped and counted. -/
  | otherFrame (p : PortId) (w : List Byte) (k : RxInfo)
  /-- SEND_REQUEST (R309): A SEND request is checked and queued as a message to a peer ring. -/
  | sendRequest (i : Nat)
  /-- WREAD_REQUEST (R309): A WREAD request is checked and queued as a read of a peer window. -/
  | wreadRequest (i : Nat)
  /-- WWRITE_REQUEST (R309): A WWRITE request is checked and queued as a write into a peer window. -/
  | wwriteRequest (i : Nat)
  /-- WADD_REQUEST (R309): A WADD request is checked and queued as adds into a peer window. -/
  | waddRequest (i : Nat)
  /-- MARK_REQUEST (R328): A MARK request queues a mirror mark. -/
  | markRequest (i : Nat)
  /-- FRAME_SEND (R311): The rim sends the next frame of a message when window, CWND and grants allow. -/
  | frameSend (n : Fin 4096) (e : List Ecc)
  /-- ACK_TIMER (R313): 2 µs after the oldest unacknowledged frame, the receiver sends an ACK. -/
  | ackTimer (n : Fin 4096)
  /-- RETX_TIMEOUT (R314): The retransmission timeout expires; frames are resent, CWND halves, and RETRY_MAX exhaustion sends the context to ERROR. -/
  | retxTimeout (n : Fin 4096) (e : List Ecc)
  /-- RNR_BACKOFF_EXPIRE (R320): After the NO_BUF backoff the sender resends the message from offset 0. -/
  | rnrBackoffExpire (n : Fin 4096)
  /-- OPEN_RESEND (R307): An OPENING context resends its OPEN frame every 1 ms. -/
  | openResend (n : Fin 4096)
  /-- RING_GRANT (R321): While FREE exceeds RESERVE the receiver consumes a post entry and grants a buffer to the oldest streamed message. -/
  | ringGrant (r : Fin 256) (e : List Ecc)
  /-- GRANT_TIMER (R321): Within 2 µs of a grant the receiver sends a GRANT frame. -/
  | grantTimer (n : Fin 4096)
  /-- UCFG_READ (R306): UCFG_CMD READ copies the selected record into UCFG_DATA. -/
  | ucfgRead (fn : Fn) (st : StageId)
  /-- UCFG_WRITE (R306): UCFG_CMD WRITE checks and installs a context, ring, window or mirror-region record. -/
  | ucfgWrite (fn : Fn) (st : StageId)
  /-- CONTEXT_OPEN (R307): UCFG_CMD OPEN moves a context to OPENING. -/
  | contextOpen (fn : Fn) (st : StageId)
  /-- CONTEXT_CLOSE (R307): UCFG_CMD CLOSE moves a context to CLOSED and fails outstanding messages. -/
  | contextClose (fn : Fn) (st : StageId)
  /-- UCFG_CMD_COMPLETE (R306): A UCFG command completes within 2 µs and BUSY clears. -/
  | ucfgCmdComplete (st : StageId)
  /-- MIRROR_ENABLE (R326): Setting MIRROR_CTRL.EN is checked, sets every region granule dirty and starts a full copy. -/
  | mirrorEnable (fn : Fn) (st : StageId) (w : Word)
  /-- MIRROR_GRANULE_SEND (R327): The mirror engine clears a dirty bit and sends the granule as a WWRITE within its share. -/
  | mirrorGranuleSend (st : StageId)
  /-- MIRROR_MARK (R328): A write of MIRROR_MARK requests a mark, or is dropped as a fifth pending mark. -/
  | mirrorMark (fn : Fn) (st : StageId) (w : Word)
  /-- UAM_CLEAR (R334): Writing UAM_CLEAR clears the stage transport counters. -/
  | uamClear (fn : Fn) (st : StageId)
  /-- PORT_CNT_CLEAR (R337): Writing PORT.CNT_CLEAR clears the port counters. -/
  | portCntClear (fn : Fn) (p : PortId)
  /-- BAR2_READ (R343): A BAR2 read is translated to HBM reads or refused with Unsupported Request. -/
  | bar2Read (fn : Fn) (off : BitVec 36) (len : Fin 4097) (e : List Ecc)
  /-- BAR2_WRITE (R343): A BAR2 write is translated to HBM writes or dropped and counted. -/
  | bar2Write (fn : Fn) (off : BitVec 36) (data : List Byte) (ep : Bool) (e : List Ecc)
  /-- HOST_READ_REQUEST (R345): A tile read request to the PCIe endpoint is issued as memory reads under the stage's VF. -/
  | hostReadRequest (i : Nat) (bme : Bool) (mrrs : Fin 6)
  /-- HOST_WRITE_REQUEST (R345): A tile write to the PCIe endpoint is issued as memory write TLPs and acknowledged when sent. -/
  | hostWriteRequest (i : Nat) (bme : Bool) (mps : Fin 3)
  /-- HOST_COMPLETION (R345): A PCIe completion returns read data to the tile, or draws an error response on UR or CA. -/
  | hostCompletion (id off : Nat) (ok ep : Bool) (bytes : List Byte)
  /-- HOST_COMPLETION_TIMEOUT (R345): A host read with no completion within 50 ms draws an error response. -/
  | hostCompletionTimeout (id : Nat)
  /-- VF_FLR (R347): FLR of a VF resets its PCIe state and BAR2_BASE and sends RESET to its stage. -/
  | vfFlr (st : StageId)
  /-- PF_FLR (R347): FLR of the physical function causes a warm reset. -/
  | pfFlr
  /-- HOT_RESET (R347): A PCIe hot reset causes a warm reset. -/
  | hotReset
  /-- PCIE_LINK_DOWN (R347): PCIe link down causes a warm reset. -/
  | pcieLinkDown
  /-- PERST_N_ASSERT (R347): PERST_N asserted for 100 ns or more causes a warm reset. -/
  | perstNAssert
  /-- VF_ENABLE (R346): Setting NumVFs and VF Enable brings VFs into existence and sends their pending interrupts. -/
  | vfEnable (en : Bool) (n : Fin 13)
  /-- PCIE_CNT_CLEAR (R348): Writing PCIE.CNT_CLEAR clears the PCIE counters. -/
  | pcieCntClear (fn : Fn)
  /-- BAR2_ERR_CLEAR (R349): Writing STAGE[s].BAR2_ERR.CLEAR clears its count. -/
  | bar2ErrClear (fn : Fn) (st : StageId)
  /-- DMA_ERR_CLEAR (R349): Writing STAGE[s].DMA_ERR.CLEAR clears its count. -/
  | dmaErrClear (fn : Fn) (st : StageId)
  /-- SMB_IDENT (R350): SMBus IDENT returns the part identity and serial. -/
  | smbIdent (r : SmbRead)
  /-- SMB_STATUS (R350): SMBus STATUS returns READY, BELOW_RATING, REPLACE, MIRYN_UP and faulted stages. -/
  | smbStatus (r : SmbRead)
  /-- SMB_FAULT_CODE (R350): SMBus FAULT_CODE returns the code of the FAULT_N frame in progress. -/
  | smbFaultCode (r : SmbRead)
  /-- SMB_TEMP (R350): SMBus TEMP returns the hottest sensor reading. -/
  | smbTemp (r : SmbRead)
  /-- SMB_POWER (R350): SMBus POWER returns device power. -/
  | smbPower (r : SmbRead)
  /-- SMB_ENERGY (R350): SMBus ENERGY returns the device energy counter. -/
  | smbEnergy (r : SmbRead)
  /-- SMB_TOD_SET (R406): SMBus TOD_SET names the time of the next SYNC_PPS edge. -/
  | smbTodSet (w : SmbWrite)
  /-- SMB_TOD_GET (R350): SMBus TOD_GET returns reel time. -/
  | smbTodGet (r : SmbRead)
  /-- SMB_CAP_SET (R350): SMBus CAP_SET sets the BMC device cap. -/
  | smbCapSet (w : SmbWrite)
  /-- SMB_DIGEST (R350): SMBus DIGEST returns the configuration digest. -/
  | smbDigest (r : SmbRead)
  /-- SMB_LOG_NEXT (R458): SMBus LOG_NEXT returns the next unread log entry and advances its pointer on ACK. -/
  | smbLogNext (r : SmbRead) (ack : Bool)
  /-- SMB_SCL_TIMEOUT (R355): SCL held low beyond 25 ms resets the SMBus interface and discards the transaction. -/
  | smbSclTimeout
  /-- UART_RX_BYTE (R353): A received UART byte is buffered if console input is enabled, or dropped and counted. -/
  | uartRxByte (v : Byte) (stop : Bool)
  /-- JTAG_INSTRUCTION (R354): A JTAG instruction is loaded; disruptive ones decode as BYPASS unless permitted. -/
  | jtagInstruction (i : JtagInstr)
  /-- JTAG_TRST (R355): TRST_N low for 100 ns or more resets the TAP. -/
  | jtagTrst
  /-- SPI_TIMEOUT (R355): An SPI NOR command not answered within 10 ms fails and is counted. -/
  | spiTimeout (reading : Option (Fin 2))
  /-- POWER_TICK (R363): Every 10 µs the power unit estimates power, advances ramps and adjusts gates and frequencies against the limits. -/
  | powerTick (est bursts frames cls : List Nat) (steps : List LoadStep) (falls : List (Fin 26 × Int))
  /-- CALIBRATION_TICK (R358): Every 1 ms Miryn takes regulator readings and updates each rail's GAIN and OFFSET. -/
  | calibrationTick
  /-- TELEMETRY_READING (R360): A regulator telemetry reply is checked and used, or counted as a missed reading. -/
  | telemetryReading (n : Fin 32) (ok : Bool) (mv ma : Nat)
  /-- TELEMETRY_TIMEOUT (R360): A telemetry reply not received in time is a missed reading. -/
  | telemetryTimeout (n : Fin 32)
  /-- CUE_PUSH (R366): Writing CUE.PUSH checks the staged entry and queues, coalesces or rejects it. -/
  | cuePush (fn : Fn)
  /-- CUE_FLUSH (R366): Writing CUE.FLUSH empties the cue queue. -/
  | cueFlush (fn : Fn)
  /-- CUE_APPLY (R368): At its effective time the head cue entry becomes the active cue and starts its ramp. -/
  | cueApply
  /-- SAFE_CAP_TIMEOUT (R371): If Miryn has not returned within 2 s the safe cap joins the device cap sources. -/
  | safeCapTimeout
  /-- BALLAST_WRITE (R372): A write of PWR.BALLAST names the ballast stage from the next 10 µs step. -/
  | ballastWrite (fn : Fn) (w : Word)
  /-- TRACK_WINDOW_END (R374): At each 100 ms boundary the tracking error is published and counted. -/
  | trackWindowEnd
  /-- RAIL_NOTICE_WRITE_DONE (R376): The notice AVSBus write completes and RN_x asserts before the held step. -/
  | railNoticeWriteDone (r : Fin 26)
  /-- RAIL_NOTICE_RETRY (R376): A notice write not complete by t = -8 µs holds the step and reruns the sequence. -/
  | railNoticeRetry (r : Fin 26)
  /-- LOAD_STEP_RELEASE (R376): The held load step is released after its notice. -/
  | loadStepRelease (r : Fin 26)
  /-- RN_DEASSERT (R376): RN_x deasserts 20 µs after the step unless a later step holds it. -/
  | rnDeassert (r : Fin 26)
  /-- ENERGY_SNAPSHOT (R379): Writing SNAP_CTRL.SNAP copies every energy counter at the next whole microsecond. -/
  | energySnapshot (fn : Fn)
  /-- WINDOW_ARM (R379): Writing SNAP_CTRL.ARM arms an energy window, or is rejected. -/
  | windowArm (fn : Fn)
  /-- WINDOW_EDGE (R379): At WIN_START and WIN_START + WIN_LEN the counters are read and window differences published. -/
  | windowEdge
  /-- SENSOR_READ (R381): Every 10 µs the junction sensors are read, checked for plausibility and compared with the thresholds. -/
  | sensorRead (readings : List Int)
  /-- THROTTLE_STEP (R381): A throttled cluster's stage frequency falls a step every 100 µs, or rises a step per ms once cool. -/
  | throttleStep (sc : Fin 36)
  /-- BOARD_ALERT (R383): The board driving THERM_ALERT_N low brings ALERT_CAP into the device cap. -/
  | boardAlert
  /-- PWR_CNT_CLEAR (R384): Writing PWR.CNT_CLEAR clears the PWR counters and TELEM_FIRST. -/
  | pwrCntClear (fn : Fn)
  /-- CUE_CNT_CLEAR (R385): Writing CUE.CNT_CLEAR clears the CUE counters. -/
  | cueCntClear (fn : Fn)
  /-- FREQ_REQ_WRITE (R392): A write of FREQ.REQ_MHZ sets the cluster's requested frequency. -/
  | freqReqWrite (fn : Fn) (c : ClusterId) (w : Word)
  /-- FREQ_CHANGE (R394): The power unit takes a frequency change, suspends mixdown, starts notice and sets rail voltages. -/
  | freqChange (sc : Fin 36) (steps : List (Fin 26 × Int))
  /-- VOLTAGE_SETTLED (R394): Every rail reports its new voltage so the stop can begin. -/
  | voltageSettled (sc : Fin 36)
  /-- FREQ_STOP_BEGIN (R394): Clocks stop on a common cycle once voltage, notice and routers are ready. -/
  | freqStopBegin (sc : Fin 36)
  /-- FREQ_RESTART (R394): Clocks restart at the new frequency and routers restart at slot 0. -/
  | freqRestart (sc : Fin 36) (ns : Nat)
  /-- FREQ_CHANGE_ABANDON (R394): A rail not reporting by 100 µs abandons the change, retried 1 ms later. -/
  | freqChangeAbandon (sc : Fin 36)
  /-- MARGIN_WARNING (R396): A stand-in, jitter or duty warning is counted and stretches the cluster clock. -/
  | marginWarning (cl : ClusterId) (m : Margin)
  /-- STRETCH_RETURN (R397): After HOLD cycles without a warning the clock returns to nominal. -/
  | stretchReturn (cl : ClusterId) (cycles : Nat)
  /-- STANDIN_SAMPLE (R399): Once per hour Miryn samples each stand-in and updates DRIFT_PS. -/
  | standinSample (cl : ClusterId) (slack : List Int)
  /-- AGEING_REPLAN (R399): Every 1,000 hours Miryn computes and persists a new ageing guard per cluster. -/
  | ageingReplan
  /-- SYNC_TICK_SEND (R402): Every 1 µs the rim sends a sync tick into every valid stage. -/
  | syncTickSend
  /-- SYNC_TICK (R402): A tile receiving a sync tick corrects its reel-time copy. -/
  | syncTick (i : Nat)
  /-- PTP_SYNC (R404): A received PTP Sync is checked and feeds the offset measurement. -/
  | ptpSync (p : PortId) (domain master seq : Nat) (corr logInt : Int) (t1 : Option Int) (fine : Bool)
  /-- PTP_FOLLOW_UP (R404): A received Follow_Up is matched to its Sync or discarded. -/
  | ptpFollowUp (p : PortId) (domain master seq : Nat) (corr t1 : Int) (fine : Bool)
  /-- PTP_DELAY_RESP (R404): A received Delay_Resp completes a path-delay measurement or is discarded. -/
  | ptpDelayResp (p : PortId) (domain master seq : Nat) (corr t4 : Int)
  /-- PTP_ANNOUNCE (R404): A received Announce feeds master selection. -/
  | ptpAnnounce (p : PortId) (domain master : Nat) (best : Bool)
  /-- DELAY_REQ_SEND (R404): The time unit sends a Delay_Req on the selected port. -/
  | delayReqSend
  /-- PTP_LOSS (R404): No accepted Sync for 3 s or Announce timeout loses PTP and switches reference. -/
  | ptpLoss
  /-- PTP_QUALIFY (R404): After 16 s of accepted Syncs PTP qualifies and may become the reference. -/
  | ptpQualify
  /-- PPS_EDGE (R406): A SYNC_PPS rising edge is timestamped and accepted or counted as bad. -/
  | ppsEdge (fine : Bool)
  /-- PPS_LOSS (R406): No accepted PPS edge for 1.5 s loses PPS. -/
  | ppsLoss
  /-- SLEW_END (R409): The reel-time offset comes within 20 ns and SLEWING clears. -/
  | slewEnd
  /-- REFCLK_LOSS (R408): REFCLK stops or leaves ±1,000 ppm; the time unit switches to its internal oscillator. -/
  | refclkLoss
  /-- REFCLK_RETURN (R408): REFCLK returns in range and REFCLK_OK reads 1. -/
  | refclkReturn
  /-- TIME_CNT_CLEAR (R410): Writing a CNT_CLEAR of the TIME, FREQ or STIN page clears its counters. -/
  | timeCntClear (fn : Fn) (p : TimePage)
  /-- POWER_ON (R413): VDD_AON rising into range is a reset that reaches everything. -/
  | powerOn
  /-- PWR_OK_RISE (R423): PWR_OK rising starts cold bring-up with the option block load. -/
  | pwrOkRise (strap : Fin 4) (failed : List (Fin 256))
  /-- PWR_OK_LOSS (R413): PWR_OK falling for 100 ns or more resets everything and releases the rails. -/
  | pwrOkLoss
  /-- RESET_N_ASSERT (R415): An external RESET_N low of 100 ns or more resets everything. -/
  | resetNAssert
  /-- RESET_N_RELEASE (R492): RESET_N seen high starts bring-up within 10 µs. -/
  | resetNRelease (failed : List (Fin 256))
  /-- SOFTWARE_FULL_RESET (R413): RST.CMD ACTION 1 with the right key performs a software full reset. -/
  | softwareFullReset (fn : Fn)
  /-- WARM_RESET (R427): RST.CMD ACTION 2, or a warm source, starts a warm restart with HBM preserved. -/
  | warmReset (fn : Fn)
  /-- WARM_RESET_RELEASE (R427): 2 ms after assertion the internal warm reset is released and Miryn restarts. -/
  | warmResetRelease
  /-- VB_CLEAR (R438): Writing RST.VB_CLEAR clears VB_COUNT, LAST_CAUSE and VBAK_LOST. -/
  | vbClear (fn : Fn)
  /-- RAIL_GROUP_ENABLE (R481): A rail group is enabled at its earliest time once the previous group's power-good is seen. -/
  | railGroupEnable
  /-- VR_PG_RISE (R481): A rail's power-good input is seen high. -/
  | vrPgRise (n : Fin 32)
  /-- VR_PG_TIMEOUT (R431): A power-good not seen within 20 ms of enable releases the rail or the whole sequence. -/
  | vrPgTimeout (n : Fin 32)
  /-- RAIL_RETRY (R431): After 100 ms off a failed rail or sequence is enabled again, up to three times. -/
  | railRetry (which : Option ClusterId)
  /-- POWER_GOOD_LOSS (R432): A power-good falling in service resets everything with cause 6. -/
  | powerGoodLoss (n : Fin 32)
  /-- RAIL_RELEASE (R482): Rail groups are released in reverse order at their times after the cause. -/
  | railRelease
  /-- IMAGE_VERIFY (R421): Miryn's ROM verifies images in order and runs the first that verifies, or enters recovery. -/
  | imageVerify (sfdp : Bool) (ok : Bool × Bool) (ver : Fin 256 × Fin 256) (logOk spiOk : Bool)
  /-- OSCILLATOR_LOCK_TIMEOUT (R433): A cluster not locked within 5 ms is retried 100 MHz lower, or fenced after three retries. -/
  | oscillatorLockTimeout (cl : ClusterId)
  /-- AT_START_TEST_COMPLETE (R425): The at-start test ends, failing tiles enter the continuity list, and clusters are classified and published. -/
  | atStartTestComplete (failing : List TileId)
  /-- RESIDENT_CALL_SHEET (R426): Miryn writes the resident tile image into stageless good tiles, releases them and sets READY. -/
  | residentCallSheet (m n : List (Nat × List Byte)) (regs : List (Nat × Word)) (ms : Nat)
  /-- MIRYN_WATCHDOG (R435): 250 ms without a watchdog refresh or a lockstep fault resets Miryn alone. -/
  | mirynWatchdog
  /-- MIRYN_RETURN (R435): Miryn runs again, sets MIRYN_BACK and applies overdue cues. -/
  | mirynReturn
  /-- TILE_RESET_ASSERT (R414): TILE.RESET ASSERT puts the tile behind its wrapper and resets it. -/
  | tileResetAssert (fn : Fn) (t : TileId)
  /-- TILE_RESET_RELEASE (R414): TILE.RESET RELEASE opens the wrapper and starts the cores. -/
  | tileResetRelease (fn : Fn) (t : TileId)
  /-- VDDM_RETENTION (R478): After 100 ms with every tile held and READY, VDDM is lowered to retention. -/
  | vddmRetention
  /-- VDDM_RAISE_DONE (R478): VDDM reports its operating voltage and the waiting release or START proceeds. -/
  | vddmRaiseDone
  /-- CALL_SHEET_RECORD (R429): One stage call-sheet record is checked and written to its tiles; after the last, LOADED is set. -/
  | callSheetRecord (st : StageId) (e : List Ecc)
  /-- KEEP_WRITE (R419): A write of KEEP.DATA is checked for writer and wear and queued to persist. -/
  | keepWrite (fn : Fn) (w : Word)
  /-- KEEP_PERSIST (R419): A queued keep write persists to MRAM about 5 µs later and adds to the wear count. -/
  | keepPersist
  /-- RECOVERY_START (R437): Writing RECOV_CTRL.START begins a recovery image load. -/
  | recoveryStart (fn : Fn) (len4 : Fin 536870912)
  /-- RECOVERY_DATA (R437): Writing RECOV_DATA appends one word of the recovery image. -/
  | recoveryData (fn : Fn) (w : Word)
  /-- RECOVERY_VERIFY (R437): The ROM verifies the loaded image and writes it and resets, or sets FAIL. -/
  | recoveryVerify (ok : Bool)
  /-- STEP_MARK (R444): Writing STAGE[s].STEP_MARK counts a job step. -/
  | stepMark (fn : Fn) (st : StageId)
  /-- STEP_TIMEOUT (R444): A stage in RUN with no mark for TIMEOUT_MS gets one step counted by Miryn. -/
  | stepTimeout (st : StageId)
  /-- SUSPECT_QUEUE_TAKE (R443): Miryn takes a tile from the suspect queue and requests a known-answer shot. -/
  | suspectQueueTake
  /-- KAS_RUN (R445): A due or requested known-answer shot runs at the tile's next shot boundary. -/
  | kasRun (t : TileId)
  /-- KAS_COMPLETE (R447): Miryn compares the KAS signature, recording a match, a transient, or a confirmed fault. -/
  | kasComplete (t : TileId) (match_ : Bool)
  /-- FLAGS_CLR (R451): Writing RAS.FLAGS_CLR with the key clears the named device flags. -/
  | flagsClr (fn : Fn) (m : Fin 16)
  /-- TEST_GO (R453): Writing TEST_CTRL.GO starts a test of the selected kind if its condition holds. -/
  | testGo (fn : Fn) (w : Word)
  /-- TEST_ABORT (R454): Writing TEST_CTRL.ABORT ends the running test with RESULT 4. -/
  | testAbort (fn : Fn) (w : Word)
  /-- TEST_COMPLETE (R454): A test ends with its result, or incomplete if its condition was lost. -/
  | testComplete (pass : Bool) (count : Nat)
  /-- STRESS_CORNER_END (R455): A stress corner's time ends and the next corner starts. -/
  | stressCornerEnd (map : List (Fin 80)) (hot : Bool)
  /-- RAS_CNT_CLEAR (R470): Writing RAS.CNT_CLEAR clears the RAS counters. -/
  | rasCntClear (fn : Fn)
  /-- LOG_COALESCE_FLUSH (R458): At the end of a reel-time second coalesced events are written as one entry with REPEAT. -/
  | logCoalesceFlush (ok : Bool)
  /-- LOG_CNT_CLEAR (R471): Writing LOG.CNT_CLEAR clears OVERWRITTEN and DROPPED. -/
  | logCntClear (fn : Fn)
  /-- DAILY_SNAPSHOT (R461): Every 24 hours, or on DAILY.SNAP, Miryn writes a dailies record and keep summary. -/
  | dailySnapshot
  /-- CVE_GO (R464): Writing CVE CMD.GO latches parameters and starts or queues a scan job. -/
  | cveGo (fn : Fn) (n : Fin 4)
  /-- CVE_ABORT (R464): Writing CVE CMD.ABORT ends the running job with code 0x05. -/
  | cveAbort (fn : Fn) (n : Fin 4)
  /-- CVE_JOB_COMPLETE (R465): A scan job completes or ends out of range, and a pending job starts. -/
  | cveJobComplete (n : Fin 4) (spi : List (List Byte)) (e : List Ecc)
  /-- DIGEST_COMPUTE (R467): At READY, after START or each period Miryn computes and publishes the configuration digest. -/
  | digestCompute (fw img : List Byte) (mixed : Bool)
  /-- SEC_GO (R468): Writing SEC.CMD.GO starts verification of a signed option change. -/
  | secGo (fn : Fn)
  /-- SEC_VERIFY_DONE (R468): Within 50 ms Miryn accepts the signature and writes keep word 5, or rejects it. -/
  | secVerifyDone (valid : Bool)
  /-- FAULT_N_FRAME (R495): Every 2.0 s FAULT_N starts a frame carrying the active fault code. -/
  | faultNFrame
  /-- BOARD_ALERT_RELEASE (R383): The board stops driving THERM_ALERT_N low, BOARD_ALERT falls and ALERT_CAP leaves the device cap sources. -/
  | boardAlertRelease
  /-- PERST_N_DEASSERT (R423): PERST_N seen high lets the PCIe endpoint begin link training. -/
  | perstNDeassert
  /-- PCIE_LINK_UP (R339): PCIe link training completes, DL_UP, SPEED, WIDTH and FLIT are set, and IRQ cause LINK_CHANGE is raised. -/
  | pcieLinkUp (speed : Fin 6) (width : Fin 5) (flit : Bool)
  /-- VDD_AON_LOSS (R419): Removal of all power, including VDD_AON, loses unpersisted keep writes and lets FAULT_N float high. -/
  | vddAonLoss
  /-- VBAK_LOSS (R436): VBAK leaves its range, so LAST_CAUSE and VB_COUNT are lost and VBAK_LOST reads 1. -/
  | vbakLoss
  /-- MSI_X_ENABLE (R346): A function's MSI-X Enable is set or a vector is unmasked, and pending page interrupts owned by that function are sent. -/
  | msiXEnable (fn : Fn) (en : Bool) (masked : List (Fin 2048)) (table : List MsixEntry)
  /-- OSCILLATORS_LOCKED (R423): Every cluster's oscillators lock at the requested frequency and seam links are repaired, advancing cold bring-up or warm restart toward classification. -/
  | oscillatorsLocked (refclk : Bool) (seam : List SeamLink) (untrained : List StackId)
  deriving DecidableEq, Repr

end Sys2Proof
end

