-- ==== Sys2Proof/Machine/TileState.lean ====
section
/-!
DEFINITION. The state of one tile outside its registers (03 to 10): descriptor queues, arrays, feeders, weight buffers,
accumulators, vector engine, scratchpad, receive queue, tracked transfers, gather engine, mixdown buffers, control cores,
and what travels on the mesh.
-/
namespace Sys2Proof.Machine

/-- A byte-addressed memory: `cells` lists the non-zero bytes, `written` the 32-byte words whose unwritten tag is clear,
`poison` the 32-byte words whose poison mark is set (06 R149, 11 R284). -/
structure Mem where
  cells : List Host.Cell := []
  written : List Nat := []
  poison : List Nat := []
  deriving DecidableEq, Repr

/-- A run of bytes with the poison mark of each. -/
structure Run where
  bytes : List Byte := []
  bad : List Bool := []
  deriving DecidableEq, Repr

/-- A descriptor being run: its header word (07 R161), the words after it, void or not (07 R166), its step count, the steps
issued and completed, the steps completed ahead of their turn, and a serial number within its queue. -/
structure Desc where
  hdr : Word := 0
  words : List Word := []
  void : Bool := false
  steps : Nat := 0
  issued : Nat := 0
  done : Nat := 0
  ahead : List Nat := []
  ser : Nat := 0
  deriving DecidableEq, Repr

/-- One unit's descriptor queue (07 R159 to R163): the list of the running shot (first slot / 64, count, next slot to
prefetch), the prefetched headers with their poison, the body of the next descriptor once read, the descriptor at the head, those issued
whole and not complete, whether the head waits on its slate and whether that wait was released, and whether the queue is halted. -/
structure Queue where
  base : Nat := 0
  count : Nat := 0
  next : Nat := 0
  hdrs : List (Word × Bool) := []
  body : Option (List Word) := none
  cur : Option Desc := none
  drain : List Desc := []
  waiting : Bool := false
  released : Bool := false
  halted : Bool := false
  ser : Nat := 0
  deriving DecidableEq, Repr

/-- A weight block as loaded: format tag, sparse form, its bytes, and the poison of its 32-byte words (03 R74, R77, 08 R197). -/
structure WBlock where
  fmt : Nat := 0
  sparse : Nat := 0
  run : Run := {}
  deriving DecidableEq, Repr

/-- One weight buffer (03 R76): 0 free, 1 loading, 2 usable and not taken, 3 taken, 4 taken and no longer the current
block; blocks are taken in order of `ser`; the loader descriptor and the first scratchpad row of the block. -/
structure WBuf where
  st : Nat := 0
  ser : Nat := 0
  dser : Nat := 0
  row : Nat := 0
  block : WBlock := {}
  deriving DecidableEq, Repr

/-- One slot of a feeder: the aligned 512-byte row it holds or awaits, for which descriptor, and its data once arrived. -/
structure FSlot where
  ser : Nat := 0
  row : Nat := 0
  got : Option Run := none
  deriving DecidableEq, Repr

/-- A feeder (03 R75): its data slots, its scale slot, and per descriptor the next activation row to request and the last
aligned row requested. -/
structure Feeder where
  data : List FSlot := []
  scale : Option FSlot := none
  reqRow : Nat := 0
  lastAl : Option Nat := none
  deriving DecidableEq, Repr

/-- An activation row, or sub-row of a sparse instruction, with its scale bytes and whether any word of it is poisoned. -/
structure ARow where
  data : List Byte := []
  scale : List Byte := []
  bad : Bool := false
  deriving DecidableEq, Repr

/-- A row that has entered the arrays and is not yet written (03 R59): its instruction, row number, block and operands. -/
structure RowJob where
  ser : Nat := 0
  words : List Word := []
  row : Nat := 0
  block : WBlock := {}
  a : List ARow := []
  b : List ARow := []
  deriving DecidableEq, Repr

/-- An accumulator row of one array (03 R70): tag 0 EMPTY, 1 FP32, 2 INT32, 3 INT64; 64 words; poison of each element;
the two hidden check elements (05 R132). -/
structure AccRow where
  tag : Nat := 0
  vals : List Word := []
  bad : List Bool := []
  chkC : Nat := 0
  chkM : Nat := 0
  deriving DecidableEq, Repr

/-- A summary of the reduction unit (05 R125). -/
structure Summary where
  value : Word := 0
  info : Word := 0
  deriving DecidableEq, Repr

/-- The running reduction of a descriptor with RED_ROW = 0 (05 R124). -/
structure RedAcc where
  val : Nat := 0
  idx : Nat := 0
  any : Bool := false
  nan : Bool := false
  bad : Bool := false
  n : Nat := 0
  deriving DecidableEq, Repr

/-- A write a vector row owes to the scratchpad: byte address, bytes and the poison of each. -/
structure VWrite where
  addr : Nat := 0
  run : Run := {}
  deriving DecidableEq, Repr

/-- A vector row computed and not yet complete (05 R109): its descriptor and number, its writes, what the reduction unit
saw of each element (value and poison), the guard settings latched, the failures found, its counts, the LFSR after it. -/
structure VRow where
  ser : Nat := 0
  row : Nat := 0
  void : Bool := false
  guard : Word := 0
  writes : List VWrite := []
  seen : List (Nat × Bool) := []
  fails : List (Nat × Nat) := []
  skip : Nat := 0
  replaced : Nat := 0
  lost : Nat := 0
  mism : Nat := 0
  bad : Bool := false
  lfsr : Nat := 1
  deriving DecidableEq, Repr

/-- The vector engine (05): the guard settings latched for the descriptor in progress, the working LFSR state, the exponent
SLICE_I8 found, rows in flight, the accumulator rows the next row waits for once it has begun to wait, the running
reduction, summaries held for a full FIFO, the summary FIFO, and the summary last taken. -/
structure Vec where
  guard : Word := 0x15
  tol : Word := 0x1000
  wins : List (Word × Word) := []
  lfsr : Nat := 1
  sliceE : Int := 0
  rows : List VRow := []
  waits : Option (List (Nat × Nat)) := none
  red : RedAcc := {}
  held : List Summary := []
  fifo : List Summary := []
  taken : Summary := {}
  deriving DecidableEq, Repr

/-- Who waits for a scratchpad access: a feeder's data or scale slot, an indirect command, a remote access with its requester
and tag, the scrubber, the write-back of a corrected or an uncorrectable word (06 R150), a unit whose data moves at its own command. -/
inductive SpWho where
  | feedData (f : Nat) (ser row : Nat)
  | feedScale (f : Nat) (ser row : Nat)
  | indirect
  | remote (src tag : Nat)
  | scrub
  | writeback (bad : Bool)
  | unit (u : PortUnit)
  deriving DecidableEq, Repr

/-- A request at a scratchpad port (06 R141 to R148): write or read, wide or narrow, its rank, who made it, the first word
it touches (byte address / 32), the byte within the word and how many bytes are used, the bytes to write, a wide access by columns, cycles
waited, and its place among the promoted requests. -/
structure SpReq where
  wr : Bool := false
  wide : Bool := false
  col : Bool := false
  rank : Nat := 1
  who : SpWho := .indirect
  word : Nat := 0
  off : Nat := 0
  size : Nat := 32
  run : Run := {}
  waited : Nat := 0
  promo : Option Nat := none
  deriving DecidableEq, Repr

/-- A granted read on its way back, with the words it read as they were at the grant, those of them unwritten then, and those written
since (06 R144, R150). -/
structure SpRet where
  who : SpWho := .indirect
  word : Nat := 0
  off : Nat := 0
  size : Nat := 32
  run : Run := {}
  colds : List Nat := []
  stale : List Nat := []
  deriving DecidableEq, Repr

/-- The aligned row a streaming unit holds in its staging buffer (06 R143): for which descriptor, the row as it was when fetched, its words
unwritten then, those the unit has used, and those found uncorrectable. -/
structure Staged where
  ser : Nat := 0
  row : Nat := 0
  run : Run := {}
  colds : List Nat := []
  seen : List Nat := []
  errs : List Nat := []
  deriving DecidableEq, Repr

/-- The scratchpad (06): contents, requests waiting, reads granted and not returned, merges between their two grants, the banks whose
write port is taken in this tile cycle, the rows the streaming units hold, the word the scrubber reads next, how many promotions
there have been, and what waits for the clearing of the tags: writes of the rim's units and a submission to the row fetcher (06 R149). -/
structure Spd where
  mem : Mem := {}
  reqs : List SpReq := []
  rets : List SpRet := []
  merges : List SpReq := []
  wbusy : List Nat := []
  staged : SMap Staged := []
  scrubAt : Nat := 0
  promos : Nat := 0
  late : List (Nat × Run) := []
  submit : Option (Nat × Nat) := none
  deriving DecidableEq, Repr

/-- A transfer held in a receive queue (07 R173): sender, stream, sequence number, void, slate increment owed, payload,
whether it is a mixdown eject and the injections that contributed to it, whether it is a refill from the outtakes, and when it
arrived (07 R186). -/
structure Xfer where
  src : Nat := 0
  stream : Nat := 0
  seq : Nat := 0
  void : Bool := false
  rsen : Bool := false
  rslate : Nat := 0
  run : Run := {}
  eject : Bool := false
  refill : Bool := false
  arrival : Nat := 0
  from_ : List (Nat × Nat × Nat) := []
  deriving DecidableEq, Repr

/-- A tracked transfer of the mover (07 R174): which descriptor and step, its stream and sequence number, the destinations
still to acknowledge, and whether a mixdown transfer still has chunks to be acknowledged. -/
structure Track where
  ser : Nat := 0
  step : Nat := 0
  stream : Nat := 0
  seq : Nat := 0
  dests : List Nat := []
  chunks : Nat := 0
  err : Bool := false
  deriving DecidableEq, Repr

/-- A request for credit held at a destination (07 R173). -/
structure CreditReq where
  src : Nat := 0
  units : Nat := 0
  deriving DecidableEq, Repr

/-- A data-plane packet (10 R242, R243). -/
structure Pkt where
  kind : Nat := 0
  cls : Nat := 1
  rsp : Bool := false
  void : Bool := false
  rim : Bool := false
  dmode : Nat := 0
  dest : Nat := 0
  src : Nat := 0
  seq : Nat := 0
  stream : Nat := 0
  rsen : Bool := false
  rslate : Nat := 0
  hops : Nat := 0
  mcLast : Nat := 0
  entryX : Nat := 0
  edge : Nat := 0
  enc : Nat := 0
  bytes : Nat := 0
  endpoint : Nat := 0
  tag : Nat := 0
  addr : Nat := 0
  err : Bool := false
  run : Run := {}
  deriving DecidableEq, Repr

/-- A control message (10 R244). -/
structure Msg where
  type : Nat := 0
  rim : Bool := false
  hops : Nat := 0
  dest : Nat := 0
  src : Nat := 0
  arg : Nat := 0
  value : Nat := 0
  deriving DecidableEq, Repr

/-- What a control core is stalled in, if anything (07 R182). -/
inductive CoreStall where
  | none
  | slate (n : Nat)
  | sum (rd : Nat)
  | shot (row : Nat)
  | tc0
  deriving DecidableEq, Repr

/-- The exception a control core has raised (07 R181, R182). -/
inductive CoreTrap where
  | loadAccess (addr : Nat)
  | storeAccess (addr : Nat)
  deriving DecidableEq, Repr

/-- A remote access of a core on its way (06 R153): its tag, whether it is a store, the register to load, bytes, signed, the
address, and its place among the window's words (the target tile and word). -/
structure CoreWait where
  tag : Nat := 0
  store : Bool := false
  rd : Nat := 0
  size : Nat := 4
  sext : Bool := false
  addr : Nat := 0
  target : Nat := 0
  deriving DecidableEq, Repr

/-- A control core (07 R181, R182): running or held, its program counter and registers, what it stalls in, the exception
last raised, the instruction-cache lines held, the remote accesses on their way and the next tag. -/
structure Core where
  run : Bool := false
  pc : Word := 0
  x : List Word := List.replicate 32 0
  stall : CoreStall := .none
  trap : Option CoreTrap := none
  icache : List Nat := []
  awaits : List CoreWait := []
  tag : Nat := 0
  deriving DecidableEq, Repr

/-- An ID in use in an open bag (09 R227, R230): logical row, shard, local row, weight and its poison, whether its shard-map entry
is poisoned, the fetch it waits for, and its row once here. -/
structure BagId where
  row : Nat := 0
  shard : Nat := 0
  loc : Nat := 0
  weight : Nat := 0
  wbad : Bool := false
  mapBad : Bool := false
  tag : Nat := 0
  got : Option Run := none
  deriving DecidableEq, Repr

/-- A bag opened and not complete (09 R223, R224, R228): its descriptor and number, with a poisoned weight, bad or wholly poisoned, its IDs
still to be hashed (each with its weight and that weight's poison), those in use, and in UPDATE mode its gradient row and the adds not yet
acknowledged. -/
structure Bag where
  ser : Nat := 0
  bag : Nat := 0
  wtBad : Bool := false
  badBag : Bool := false
  badAll : Bool := false
  todo : List (Nat × Nat × Bool) := []
  ids : List BagId := []
  grad : Run := {}
  adds : Nat := 0
  deriving DecidableEq, Repr

/-- A tag of the hit cache (09 R230): entry, table, logical row, the fetch filling it if one is, and when it was last used. -/
structure HcTag where
  entry : Nat := 0
  table : Nat := 0
  row : Nat := 0
  fill : Option Nat := none
  used : Nat := 0
  deriving DecidableEq, Repr

/-- A row fetch (09 R229, R232): its number, table and row, the shard it comes from, its row there, its remote window and context,
remote or local, the remote request it was sent in, the parts of a local row still to arrive, those here by address, and whether
one came with an error. -/
structure Fetch where
  tag : Nat := 0
  table : Nat := 0
  row : Nat := 0
  shard : Nat := 0
  loc : Nat := 0
  win : Nat := 0
  ctx : Nat := 0
  remote : Bool := false
  req : Option Nat := none
  left : Nat := 0
  parts : SMap Run := []
  err : Bool := false
  deriving DecidableEq, Repr

/-- The gather engine (09): open bags, hit-cache tags, fetches outstanding or collected, the use clock of the cache, the next
number. -/
structure Gath where
  bags : List Bag := []
  tags : List HcTag := []
  fetches : List Fetch := []
  clock : Nat := 0
  tag : Nat := 0
  deriving DecidableEq, Repr

/-- A mixdown flit or chunk of 64 bytes (10 R256, R258): its bytes, the poison of its two halves, and the (tile, mover
descriptor, step) of each injection that contributed. -/
structure Chunk where
  bytes : List Byte := []
  badLo : Bool := false
  badHi : Bool := false
  from_ : List (Nat × Nat × Nat) := []
  deriving DecidableEq, Repr

/-- The mixdown part of a router (10 R256 to R260): injection buffer, held flits with input port and slot, credits spent
per output and those of them consumed downstream and on their way back, gathering chunks and transfers ejected per eject entry, suspended, the
slot the router has come to (10 R257). -/
structure Mix where
  inj : List Chunk := []
  held : List (Nat × Nat × Chunk) := []
  spent : List Nat := [0, 0, 0, 0, 0]
  owed : List Nat := [0, 0, 0, 0, 0]
  gather : List (List Chunk) := [[], [], [], [], [], [], [], []]
  ejected : List Nat := [0, 0, 0, 0, 0, 0, 0, 0]
  stopped : Bool := false
  next : Nat := 0
  deriving DecidableEq, Repr

/-- A deficit round robin: the one whose turn it is, and what each may still send (10 R246, R255, 12 R330). -/
structure Drr where
  cur : Nat := 0
  left : List Nat := []
  deriving DecidableEq, Repr

/-- The arbiters: of each router's data-plane outputs, of the rim paths, of each port's egress, the context each stage's turn at a port last
went to, and the place of each control output in its eight-slot frame (10 R246, R255, R261, 12 R330). -/
structure Arbs where
  data : SMap Drr := []
  rim : SMap Drr := []
  egress : SMap Drr := []
  ctx : SMap Nat := []
  frame : SMap Nat := []
  deriving DecidableEq, Repr

/-- A tile outside its registers. `part` is the row that is entering the arrays, some of its sub-rows to come (08 R199). `reel` is its reel-time copy (15 R402): the value below which it does not fall, the true time last
learnt and the nominal time at which it was learnt. -/
structure Tile where
  wrapped : Bool := true
  init : Bool := true
  queues : List Queue := List.replicate 9 {}
  shotRun : Bool := false
  shotHalt : Bool := false
  doneSen : Bool := false
  doneSlate : Nat := 0
  pendShot : Option Nat := none
  blkSer : Nat := 0
  wbufs : List WBuf := [{}, {}]
  curBlk : Option WBlock := none
  feedA : Feeder := {}
  feedB : Feeder := {}
  part : Option RowJob := none
  fly : List RowJob := []
  acc : SMap AccRow := []
  vec : Vec := {}
  sp : Spd := {}
  recvQ : List Xfer := []
  granted : Nat := 0
  creditReqs : List CreditReq := []
  grants : List (Nat × Nat) := []
  asked : List Nat := []
  tracked : List Track := []
  fresh : List Nat := []
  rearm : List Nat := []
  probing : Bool := false
  edges : List Nat := []
  spill : Bool := false
  tc0Sent : Nat := 0
  tc0Held : List (Msg × Nat) := []
  core0 : Core := {}
  core1 : Core := {}
  gath : Gath := {}
  mix : Mix := {}
  reel : Option (Nat × Nat × Nat) := none
  deriving DecidableEq, Repr

/-- What travels on the mesh: a packet, a control message, a mixdown flit with the slot that sent it. -/
inductive Item where
  | pkt (p : Pkt)
  | msg (m : Msg)
  | flit (slot : Nat) (c : Chunk)
  deriving DecidableEq, Repr

/-- Where a travelling item stands: at a router with its input port (0 L, 1 N, 2 S, 3 E, 4 W), delivered to a tile, at the
rim's gate behind an entry tile, or accepted by the rim for an endpoint. -/
inductive Loc where
  | router (t port : Nat)
  | tile (t : Nat)
  | gate (t : Nat)
  | rim (stage endpoint : Nat)
  deriving DecidableEq, Repr

/-- An item on its way. -/
structure Flight where
  loc : Loc
  item : Item
  deriving DecidableEq, Repr

end Sys2Proof.Machine
end

