-- ==== Sys2Proof/Machine/Memory.lean ====
section
/-!
DEFINITION. Byte memories with a written tag and a poison mark per 32-byte word: the scratchpads (06 R149 to R151) and the
HBM stacks (11). An unlisted byte is 0: what a read of an unwritten scratchpad word returns (06 R150) and what zero-fill
leaves in HBM (11 R288).
-/
namespace Sys2Proof.Machine

/-- The byte at address `a`. -/
def Mem.byte (m : Mem) (a : Nat) : Byte := SMap.get 0 m.cells a

/-- The 32-byte word `w` is written. -/
def Mem.isWritten (m : Mem) (w : Nat) : Bool := m.written.contains w

/-- The 32-byte word `w` is poisoned. -/
def Mem.isBad (m : Mem) (w : Nat) : Bool := m.poison.contains w

/-- `n` bytes from address `a`, each with the poison mark of its word. -/
def Mem.read (m : Mem) (a n : Nat) : Run :=
  { bytes := (List.range n).map fun i => m.byte (a + i)
    bad := (List.range n).map fun i => m.isBad ((a + i) / 32) }

/-- Any word holding one of the `n` bytes from `a` is poisoned. -/
def Mem.anyBad (m : Mem) (a n : Nat) : Bool :=
  n != 0 && (List.range ((a + n - 1) / 32 - a / 32 + 1)).any fun i => m.isBad (a / 32 + i)

/-- The words touched by `n` bytes from `a`. -/
def wordsOf (a n : Nat) : List Nat :=
  if n = 0 then [] else (List.range ((a + n - 1) / 32 - a / 32 + 1)).map (a / 32 + ·)

/-- How many of the `n` bytes from `a` no unwritten-tag has been cleared for: the unwritten words among them. -/
def Mem.coldWords (m : Mem) (a n : Nat) : Nat := ((wordsOf a n).filter fun w => !m.isWritten w).length

/-- One byte stored. -/
def Mem.setByte (m : Mem) (a : Nat) (b : Byte) : Mem := { m with cells := SMap.set 0 m.cells a b }

/-- Bytes stored from `a` on. -/
def Mem.setBytes (m : Mem) (a : Nat) : List Byte → Mem
  | [] => m
  | b :: r => Mem.setBytes (m.setByte a b) (a + 1) r

/-- The poison mark of word `w` set to `b`. -/
def Mem.setBad (m : Mem) (w : Nat) (b : Bool) : Mem :=
  { m with poison := if b then insertNat w m.poison else m.poison.filter (· != w) }

/-- Word `w` marked written. -/
def Mem.setWritten (m : Mem) (w : Nat) : Mem := { m with written := insertNat w m.written }

/-- The poison word `w` has after the run is written from `a`: a full-word write sets it if a written byte is poisoned and
clears it otherwise; a partial write leaves a poisoned word poisoned (06 R151). -/
def Mem.badAfter (m : Mem) (a : Nat) (r : Run) (w : Nat) : Bool :=
  let n := r.bytes.length
  let lo := max a (w * 32)
  let hi := min (a + n) (w * 32 + 32)
  let bad := ((r.bad.drop (lo - a)).take (hi - lo)).any id
  bad || (decide (hi - lo < 32) && m.isBad w)

/-- A run written from `a`: bytes, written tags and poison marks (06 R149, R151). -/
def Mem.write (m : Mem) (a : Nat) (r : Run) : Mem :=
  let ws := wordsOf a r.bytes.length
  let bads := ws.map fun w => (w, m.badAfter a r w)
  let m := m.setBytes a r.bytes
  bads.foldl (fun m e => (m.setWritten e.1).setBad e.1 e.2) m

/-- A run written from `a` with its poison marks and no written tag: HBM has none (11 R281, R288). -/
def Mem.store (m : Mem) (a : Nat) (r : Run) : Mem :=
  let bads := (wordsOf a r.bytes.length).map fun w => (w, m.badAfter a r w)
  bads.foldl (fun m e => m.setBad e.1 e.2) (m.setBytes a r.bytes)

/-- The canonical form: bytes in rising order and none zero, tags and marks in rising order. -/
def sortedNats : List Nat → Bool
  | [] => true
  | [_] => true
  | a :: b :: r => decide (a < b) && sortedNats (b :: r)

/-- The canonical form of a memory. -/
def Mem.wf (m : Mem) : Bool := SMap.wf (0 : Byte) m.cells && sortedNats m.written && sortedNats m.poison

/-- A run of `n` zero bytes, clean. -/
def zeroRun (n : Nat) : Run := { bytes := List.replicate n 0, bad := List.replicate n false }

/-- Bytes with one poison mark for all. -/
def runOf (l : List Byte) (bad : Bool) : Run := { bytes := l, bad := List.replicate l.length bad }

/-- Part of a run. -/
def Run.slice (r : Run) (i n : Nat) : Run := { bytes := (r.bytes.drop i).take n, bad := (r.bad.drop i).take n }

/-- One run after another. -/
def Run.append (r q : Run) : Run := { bytes := r.bytes ++ q.bytes, bad := r.bad ++ q.bad }

/-- Any byte of a run is poisoned. -/
def Run.anyBad (r : Run) : Bool := r.bad.any id

/-- A run's little-endian number. -/
def Run.nat (r : Run) : Nat := leN r.bytes
where
  leN : List Byte → Nat
    | [] => 0
    | b :: t => b.toNat + 256 * leN t

/-- A run with every byte poisoned. -/
def Run.poisoned (r : Run) : Run := { r with bad := r.bytes.map fun _ => true }

end Sys2Proof.Machine
end

