-- ==== Sys2Proof/Config.lean ====
section
/-!
DEFINITION. What the spec leaves open: constants without a body, which no proof can see through (log 3).
-/
namespace Sys2Proof

/-- The bits a transcendental lane returns for an operand whose result the spec bounds and does not state, taken where they keep to the bound
(05 R112): by operation code and FP32 operand. -/
opaque Config.laneBits : Nat → Word → Word

/-- Whether an inexact sum of an FP32 check element of the column-sum guard is rounded away from zero: the spec does not say how the check
elements round (05 R132). By the element before and the truncated sum. -/
opaque Config.checkUp : Word → Word → Bool

/-- How many blocks' worth of void transfers the sparse branch receives for a list that is not well formed: its SLOTS cannot be
trusted and the spec gives no other number (08 R210). By the list's word 1. -/
opaque Config.badSlots : Word → Nat

/-- The event code of an event that has no ERR_FIRST code and to which its chapter gives none (17 R457). By the kind of event. -/
opaque Config.eventCode : Nat → Nat

/-- The program counter of a control core after it raises an exception at a program counter: the manual names no trap vector (07 R181). -/
opaque Config.trapPc : Word → Word

/-- The code with which a write to the PWR or CUE page while Miryn is down counts in DEV.ERR_COUNT: not stated (14 R370). -/
opaque Config.downCode : Nat

/-- Argument word `i` of the log entry with a sequence number: source-specific, stated nowhere (17 R457). -/
opaque Config.logArg : Nat → Nat → Word

/-- A byte that a unit of the rim takes from a read answered with an error response, by its stage address: such a reply has no data (11 R273). -/
opaque Config.noData : Nat → Byte

/-- Bytes that the rim's queue of a stage towards a stack or the PCIe endpoint holds: not stated (10 R254). By endpoint. -/
opaque Config.rimDepth : Nat → Nat

/-- A fresh free value, by the state's counter: for a value the spec leaves open and bounds only where it is used. -/
opaque Config.value : Nat → Nat

/-- The voltage fused at test for point `f` of a cluster's plan, in mV (15 R398). -/
opaque Config.fuseMv : Nat → Nat → Nat

/-- The nominal voltages of the stacks fused in the LZ6, for rail index 28 to 30 (18 R477); taken within the ranges of 18 R476. -/
opaque Config.vhbmFuse : Nat → Nat

/-- The slack of stand-in `n` of a cluster at test, in ps (15 R399). -/
opaque Config.fusedPs : Nat → Nat → Int

/-- The 16-byte serial of the part (13 R350). -/
opaque Config.serial : Nat → Byte

/-- Byte `i` of the known-answer image of the reserved rows, for S-tiles or M-tiles: part of the firmware image (17 R445). -/
opaque Config.kasByte : Bool → Nat → Byte

/-- The words of SEC.NONCE just after power-on, by offset: random (17 R471). -/
opaque Config.nonce : Nat → Word

end Sys2Proof
end

