-- ==== Sys2Proof/Machine/Fields.lean ====
section
/-!
DEFINITION. Names of the register fields the meanings use, each by its page, register and field (00 R6 notation):
offset in the page, stride where the register is an array, highest and lowest bit.
-/
namespace Sys2Proof.Machine

/-- ARR.HALT_INFO (03 R86). -/
def F.ARR_HALT_INFO : Fld := ⟨0x060, 0, 31, 0⟩
/-- ARR.HALT_INFO.VALID (03 R86). -/
def F.ARR_HALT_INFO_VALID : Fld := ⟨0x060, 0, 31, 31⟩
/-- ARR.INSTR (03 R86). -/
def F.ARR_INSTR : Fld := ⟨0x048, 0, 31, 0⟩
/-- ARR.INT_WRAP (03 R86). -/
def F.ARR_INT_WRAP : Fld := ⟨0x058, 0, 31, 0⟩
/-- ARR.POISON_ROWS (03 R86). -/
def F.ARR_POISON_ROWS : Fld := ⟨0x05c, 0, 31, 0⟩
/-- ARR.ROWS_LO (03 R86). -/
def F.ARR_ROWS_LO : Fld := ⟨0x040, 0, 31, 0⟩
/-- ARR.SPARSE_CTRL.EVT_EN (08 R217). -/
def F.ARR_SPARSE_CTRL_EVT_EN : Fld := ⟨0x06c, 0, 0, 0⟩
/-- ARR.SPARSE_DROP (08 R217). -/
def F.ARR_SPARSE_DROP : Fld := ⟨0x068, 0, 31, 0⟩
/-- ARR.SPARSE_FIRST (08 R217). -/
def F.ARR_SPARSE_FIRST : Fld := ⟨0x070, 0, 31, 0⟩
/-- ARR.SPARSE_FIRST.VALID (08 R217). -/
def F.ARR_SPARSE_FIRST_VALID : Fld := ⟨0x070, 0, 31, 31⟩
/-- ARR.STALL_ACC (03 R86). -/
def F.ARR_STALL_ACC : Fld := ⟨0x054, 0, 31, 0⟩
/-- ARR.STALL_ACT (03 R86). -/
def F.ARR_STALL_ACT : Fld := ⟨0x050, 0, 31, 0⟩
/-- ARR.STALL_WEIGHT (03 R86). -/
def F.ARR_STALL_WEIGHT : Fld := ⟨0x04c, 0, 31, 0⟩
/-- CLK.REFCLK_LOSS.COUNT (15 R410). -/
def F.CLK_REFCLK_LOSS_COUNT : Fld := ⟨0x040, 0, 31, 0⟩
/-- CLK.STATUS.LOCKED (15 R410). -/
def F.CLK_STATUS_LOCKED : Fld := ⟨0x014, 0, 23, 0⟩
/-- CLK.STATUS.REFCLK_OK (15 R410). -/
def F.CLK_STATUS_REFCLK_OK : Fld := ⟨0x014, 0, 31, 31⟩
/-- CUE.APPLIED.COUNT (14 R385). -/
def F.CUE_APPLIED_COUNT : Fld := ⟨0x07c, 0, 31, 0⟩
/-- CUE.COALESCED.COUNT (14 R385). -/
def F.CUE_COALESCED_COUNT : Fld := ⟨0x074, 0, 31, 0⟩
/-- CUE.DITHER.MS (14 R385). -/
def F.CUE_DITHER_MS : Fld := ⟨0x04c, 0, 15, 0⟩
/-- CUE.LATE.COUNT (14 R385). -/
def F.CUE_LATE_COUNT : Fld := ⟨0x080, 0, 31, 0⟩
/-- CUE.PUSHED.COUNT (14 R385). -/
def F.CUE_PUSHED_COUNT : Fld := ⟨0x070, 0, 31, 0⟩
/-- CUE.REJECTED.COUNT (14 R385). -/
def F.CUE_REJECTED_COUNT : Fld := ⟨0x078, 0, 31, 0⟩
/-- CUE.TARGET.MODE (14 R385). -/
def F.CUE_TARGET_MODE : Fld := ⟨0x048, 0, 31, 30⟩
/-- CUE.TARGET.RAMP (14 R385). -/
def F.CUE_TARGET_RAMP : Fld := ⟨0x048, 0, 10, 0⟩
/-- CUE.TARGET.WATTS (14 R385). -/
def F.CUE_TARGET_WATTS : Fld := ⟨0x048, 0, 28, 16⟩
/-- CUE.TIME_LO.US (14 R385). -/
def F.CUE_TIME_LO_US : Fld := ⟨0x040, 0, 31, 0⟩
/-- CVE.BLOCKS_M1.COUNT (17 R472). -/
def F.CVE_BLOCKS_M1_COUNT : Fld := ⟨0x070, 0, 31, 0⟩
/-- CVE.CFG.TARGET (17 R472). -/
def F.CVE_CFG_TARGET : Fld := ⟨0x058, 0, 10, 0⟩
/-- CVE.CTRL.B64_M1 (17 R472). -/
def F.CVE_CTRL_B64_M1 : Fld := ⟨0x06c, 0, 5, 0⟩
/-- CVE.DONE_BLOCKS.COUNT (17 R472). -/
def F.CVE_DONE_BLOCKS_COUNT : Fld := ⟨0x084, 0, 31, 0⟩
/-- CVE.INIT_LO.INIT (17 R472). -/
def F.CVE_INIT_LO_INIT : Fld := ⟨0x048, 0, 31, 0⟩
/-- CVE.POISON_AT.BLOCK (17 R472). -/
def F.CVE_POISON_AT_BLOCK : Fld := ⟨0x088, 0, 31, 0⟩
/-- CVE.POLY_LO.POLY (17 R472). -/
def F.CVE_POLY_LO_POLY : Fld := ⟨0x040, 0, 31, 0⟩
/-- CVE.RESULT_LO.CRC (17 R472). -/
def F.CVE_RESULT_LO_CRC : Fld := ⟨0x07c, 0, 31, 0⟩
/-- CVE.SEQ_BASE.SEQ (17 R472). -/
def F.CVE_SEQ_BASE_SEQ : Fld := ⟨0x074, 0, 31, 0⟩
/-- CVE.START_LO.ADDR (17 R472). -/
def F.CVE_START_LO_ADDR : Fld := ⟨0x05c, 0, 31, 0⟩
/-- CVE.STATUS.DONE (17 R472). -/
def F.CVE_STATUS_DONE : Fld := ⟨0x014, 0, 29, 29⟩
/-- CVE.STATUS.POISON_SEEN (17 R472). -/
def F.CVE_STATUS_POISON_SEEN : Fld := ⟨0x014, 0, 28, 28⟩
/-- CVE.STRIDE_LO.BYTES (17 R472). -/
def F.CVE_STRIDE_LO_BYTES : Fld := ⟨0x064, 0, 31, 0⟩
/-- CVE.XOROUT_LO.XOROUT (17 R472). -/
def F.CVE_XOROUT_LO_XOROUT : Fld := ⟨0x050, 0, 31, 0⟩
/-- DAILY.LAST_SNAP_LO.NS (17 R471). -/
def F.DAILY_LAST_SNAP_LO_NS : Fld := ⟨0x050, 0, 31, 0⟩
/-- DAILY.SEL.ITEM (17 R471). -/
def F.DAILY_SEL_ITEM : Fld := ⟨0x040, 0, 6, 0⟩
/-- DAILY.STATUS.SOURCE (17 R471). -/
def F.DAILY_STATUS_SOURCE : Fld := ⟨0x014, 0, 31, 30⟩
/-- DEV.FENCE_MASK.FENCED (01 R20). -/
def F.DEV_FENCE_MASK_FENCED : Fld := ⟨0x04c, 0, 23, 0⟩
/-- DEV.GOOD_TILES.M_GOOD (01 R20). -/
def F.DEV_GOOD_TILES_M_GOOD : Fld := ⟨0x040, 0, 26, 16⟩
/-- DEV.GOOD_TILES.S_GOOD (01 R20). -/
def F.DEV_GOOD_TILES_S_GOOD : Fld := ⟨0x040, 0, 8, 0⟩
/-- DEV.HBM_FAIL.FAILED (11 R295). -/
def F.DEV_HBM_FAIL_FAILED : Fld := ⟨0x058, 0, 11, 0⟩
/-- DEV.MGMT_ERR.JTAG (13 R355). -/
def F.DEV_MGMT_ERR_JTAG : Fld := ⟨0x05c, 0, 7, 0⟩
/-- DEV.MGMT_ERR.SMB (13 R355). -/
def F.DEV_MGMT_ERR_SMB : Fld := ⟨0x05c, 0, 31, 24⟩
/-- DEV.MGMT_ERR.SPI (13 R355). -/
def F.DEV_MGMT_ERR_SPI : Fld := ⟨0x05c, 0, 15, 8⟩
/-- DEV.MGMT_ERR.UART (13 R355). -/
def F.DEV_MGMT_ERR_UART : Fld := ⟨0x05c, 0, 23, 16⟩
/-- DEV.RATING.BELOW_RATING (01 R20). -/
def F.DEV_RATING_BELOW_RATING : Fld := ⟨0x044, 0, 31, 31⟩
/-- DEV.RATING.FENCED_COUNT (01 R20). -/
def F.DEV_RATING_FENCED_COUNT : Fld := ⟨0x044, 0, 20, 16⟩
/-- DEV.RATING.SHORT_COUNT (01 R20). -/
def F.DEV_RATING_SHORT_COUNT : Fld := ⟨0x044, 0, 28, 24⟩
/-- DEV.SHORT_MASK.SHORT (01 R20). -/
def F.DEV_SHORT_MASK_SHORT : Fld := ⟨0x048, 0, 23, 0⟩
/-- DEV.STAGE_FAULTED.STAGE (02 R53). -/
def F.DEV_STAGE_FAULTED_STAGE : Fld := ⟨0x054, 0, 11, 0⟩
/-- FREQ.ABANDONED.COUNT (15 R410). -/
def F.FREQ_ABANDONED_COUNT : Fld := ⟨0x054, 0, 31, 0⟩
/-- FREQ.CHANGES.COUNT (15 R410). -/
def F.FREQ_CHANGES_COUNT : Fld := ⟨0x050, 0, 31, 0⟩
/-- FREQ.CUR.LIMIT (15 R410). -/
def F.FREQ_CUR_LIMIT : Fld := ⟨0x044, 0, 31, 28⟩
/-- FREQ.CUR.MHZ (15 R410). -/
def F.FREQ_CUR_MHZ : Fld := ⟨0x044, 0, 10, 0⟩
/-- FREQ.LAST_STOP.NS (15 R410). -/
def F.FREQ_LAST_STOP_NS : Fld := ⟨0x048, 0, 15, 0⟩
/-- FREQ.REQ_MHZ.MHZ (15 R410). -/
def F.FREQ_REQ_MHZ_MHZ : Fld := ⟨0x040, 0, 10, 0⟩
/-- GATH.ADDS.COUNT (09 R237). -/
def F.GATH_ADDS_COUNT : Fld := ⟨0x170, 0, 31, 0⟩
/-- GATH.ADD_POISON.COUNT (09 R237). -/
def F.GATH_ADD_POISON_COUNT : Fld := ⟨0x174, 0, 31, 0⟩
/-- GATH.BAD_BAGS.COUNT (09 R237). -/
def F.GATH_BAD_BAGS_COUNT : Fld := ⟨0x164, 0, 31, 0⟩
/-- GATH.CTRL.BAD_POISON (09 R236). -/
def F.GATH_CTRL_BAD_POISON : Fld := ⟨0x010, 0, 0, 0⟩
/-- GATH.HC_CFG.BASE16 (09 R236). -/
def F.GATH_HC_CFG_BASE16 : Fld := ⟨0x140, 0, 17, 0⟩
/-- GATH.HC_CFG.ENTRIES_LOG2 (09 R236). -/
def F.GATH_HC_CFG_ENTRIES_LOG2 : Fld := ⟨0x140, 0, 21, 18⟩
/-- GATH.HC_CFG.SLOT_B64_M1 (09 R236). -/
def F.GATH_HC_CFG_SLOT_B64_M1 : Fld := ⟨0x140, 0, 31, 28⟩
/-- GATH.HC_HIT.COUNT (09 R237). -/
def F.GATH_HC_HIT_COUNT : Fld := ⟨0x154, 0, 31, 0⟩
/-- GATH.HC_MERGE.COUNT (09 R237). -/
def F.GATH_HC_MERGE_COUNT : Fld := ⟨0x15c, 0, 31, 0⟩
/-- GATH.HC_MISS.COUNT (09 R237). -/
def F.GATH_HC_MISS_COUNT : Fld := ⟨0x158, 0, 31, 0⟩
/-- GATH.IDS.COUNT (09 R237). -/
def F.GATH_IDS_COUNT : Fld := ⟨0x150, 0, 31, 0⟩
/-- GATH.ID_DROP.COUNT (09 R237). -/
def F.GATH_ID_DROP_COUNT : Fld := ⟨0x160, 0, 31, 0⟩
/-- GATH.POISON_OUT.COUNT (09 R237). -/
def F.GATH_POISON_OUT_COUNT : Fld := ⟨0x17c, 0, 31, 0⟩
/-- GATH.REMOTE_ERR.COUNT (09 R237). -/
def F.GATH_REMOTE_ERR_COUNT : Fld := ⟨0x16c, 0, 31, 0⟩
/-- GATH.REMOTE_ROWS.COUNT (09 R237). -/
def F.GATH_REMOTE_ROWS_COUNT : Fld := ⟨0x168, 0, 31, 0⟩
/-- GATH.STALL_FETCH.CYCLES (09 R237). -/
def F.GATH_STALL_FETCH_CYCLES : Fld := ⟨0x178, 0, 31, 0⟩
/-- HBM.ADDR_ERR.COUNT (11 R293). -/
def F.HBM_ADDR_ERR_COUNT : Fld := ⟨0x064, 0, 31, 0⟩
/-- HBM.ADDS.COUNT (11 R293). -/
def F.HBM_ADDS_COUNT : Fld := ⟨0x060, 0, 31, 0⟩
/-- HBM.CORR.COUNT (11 R293). -/
def F.HBM_CORR_COUNT : Fld := ⟨0x050, 0, 31, 0⟩
/-- HBM.CTRL.SCRUB_EN (11 R292). -/
def F.HBM_CTRL_SCRUB_EN : Fld := ⟨0x010, 0, 0, 0⟩
/-- HBM.POISON_BURSTS.COUNT (11 R293). -/
def F.HBM_POISON_BURSTS_COUNT : Fld := ⟨0x05c, 0, 31, 0⟩
/-- HBM.STACK_CORR.COUNT (11 R293). -/
def F.HBM_STACK_CORR_COUNT : Fld := ⟨0x058, 0, 31, 0⟩
/-- HBM.STATUS.FAILED (11 R292). -/
def F.HBM_STATUS_FAILED : Fld := ⟨0x014, 0, 31, 31⟩
/-- HBM.STATUS.INIT_BUSY (11 R292). -/
def F.HBM_STATUS_INIT_BUSY : Fld := ⟨0x014, 0, 29, 29⟩
/-- HBM.STATUS.READY (11 R292). -/
def F.HBM_STATUS_READY : Fld := ⟨0x014, 0, 30, 30⟩
/-- HBM.UNCORR_ADDR_HI.ADDR_HI (11 R293). -/
def F.HBM_UNCORR_ADDR_HI_ADDR_HI : Fld := ⟨0x048, 0, 3, 0⟩
/-- HBM.UNCORR_ADDR_HI.VALID (11 R293). -/
def F.HBM_UNCORR_ADDR_HI_VALID : Fld := ⟨0x048, 0, 31, 31⟩
/-- HBM.UNCORR_ADDR_LO.ADDR_LO (11 R293). -/
def F.HBM_UNCORR_ADDR_LO_ADDR_LO : Fld := ⟨0x044, 0, 31, 0⟩
/-- HBM.UNCORR.COUNT (11 R293). -/
def F.HBM_UNCORR_COUNT : Fld := ⟨0x054, 0, 31, 0⟩
/-- KEEP.REFUSED.COUNT (16 R438). -/
def F.KEEP_REFUSED_COUNT : Fld := ⟨0x04c, 0, 31, 0⟩
/-- KEEP.SEL.INDEX (16 R438). -/
def F.KEEP_SEL_INDEX : Fld := ⟨0x040, 0, 7, 0⟩
/-- KEEP.STATUS.CHECK_FAIL (16 R438). -/
def F.KEEP_STATUS_CHECK_FAIL : Fld := ⟨0x014, 0, 8, 8⟩
/-- LOG.DROPPED.COUNT (17 R471). -/
def F.LOG_DROPPED_COUNT : Fld := ⟨0x06c, 0, 31, 0⟩
/-- LOG.OVERWRITTEN.COUNT (17 R471). -/
def F.LOG_OVERWRITTEN_COUNT : Fld := ⟨0x068, 0, 31, 0⟩
/-- LOG.RD_SEQ.SEQ (17 R471). -/
def F.LOG_RD_SEQ_SEQ : Fld := ⟨0x044, 0, 31, 0⟩
/-- MIRYN.IMAGE.SLOT (16 R438). -/
def F.MIRYN_IMAGE_SLOT : Fld := ⟨0x040, 0, 31, 31⟩
/-- MIRYN.RECOV_CTRL.BUSY (16 R438). -/
def F.MIRYN_RECOV_CTRL_BUSY : Fld := ⟨0x044, 0, 29, 29⟩
/-- MIRYN.RECOV_CTRL.FAIL (16 R438). -/
def F.MIRYN_RECOV_CTRL_FAIL : Fld := ⟨0x044, 0, 30, 30⟩
/-- MIRYN.RECOV_CTRL.LEN4 (16 R438). -/
def F.MIRYN_RECOV_CTRL_LEN4 : Fld := ⟨0x044, 0, 28, 0⟩
/-- MIRYN.STATUS.ROM (16 R438). -/
def F.MIRYN_STATUS_ROM : Fld := ⟨0x014, 0, 31, 31⟩
/-- NRG.CAP_W.W (14 R386). -/
def F.NRG_CAP_W_W : Fld := ⟨0x040, 0, 7, 0⟩
/-- NRG.TELEM_MISS.COUNT (14 R386). -/
def F.NRG_TELEM_MISS_COUNT : Fld := ⟨0x068, 0, 31, 0⟩
/-- PCIE.BAR2_BASE.GIB (13 R348). -/
def F.PCIE_BAR2_BASE_GIB : Fld := ⟨0x044, 0, 8, 0⟩
/-- PCIE.BAR2_ERR.COUNT (13 R348). -/
def F.PCIE_BAR2_ERR_COUNT : Fld := ⟨0x04c, 0, 31, 0⟩
/-- PCIE.BAR2_SEL.STACK (13 R348). -/
def F.PCIE_BAR2_SEL_STACK : Fld := ⟨0x040, 0, 31, 31⟩
/-- PCIE.BAR2_SEL.TARGET (13 R348). -/
def F.PCIE_BAR2_SEL_TARGET : Fld := ⟨0x040, 0, 3, 0⟩
/-- PCIE.POISON_TX.COUNT (13 R348). -/
def F.PCIE_POISON_TX_COUNT : Fld := ⟨0x050, 0, 31, 0⟩
/-- PCIE.STATUS.DL_UP (13 R348). -/
def F.PCIE_STATUS_DL_UP : Fld := ⟨0x014, 0, 31, 31⟩
/-- PCIE.STATUS.FLIT (13 R348). -/
def F.PCIE_STATUS_FLIT : Fld := ⟨0x014, 0, 30, 30⟩
/-- PCIE.STATUS.SPEED (13 R348). -/
def F.PCIE_STATUS_SPEED : Fld := ⟨0x014, 0, 29, 27⟩
/-- PCIE.STATUS.WIDTH (13 R348). -/
def F.PCIE_STATUS_WIDTH : Fld := ⟨0x014, 0, 26, 22⟩
/-- PERF.CTRL.FREEZE (02 R56). -/
def F.PERF_CTRL_FREEZE : Fld := ⟨0x010, 0, 0, 0⟩
/-- PERF.CYCLES_LO.CYCLES_LO (02 R56). -/
def F.PERF_CYCLES_LO_CYCLES_LO : Fld := ⟨0x048, 0, 31, 0⟩
/-- PERF.EVSEL[n].EVENT (02 R56). -/
def F.PERF_EVSEL_EVENT : Fld := ⟨0x050, 4, 7, 0⟩
/-- PERF.EVT_LO[n].COUNT_LO (02 R56). -/
def F.PERF_EVT_LO_COUNT_LO : Fld := ⟨0x060, 8, 31, 0⟩
/-- PORT.CFG.AN (12 R336). -/
def F.PORT_CFG_AN : Fld := ⟨0x040, 0, 28, 28⟩
/-- PORT.CFG.LINK_EN (12 R336). -/
def F.PORT_CFG_LINK_EN : Fld := ⟨0x040, 0, 31, 31⟩
/-- PORT.CFG.MEDIA (12 R336). -/
def F.PORT_CFG_MEDIA : Fld := ⟨0x040, 0, 30, 29⟩
/-- PORT.CFG.PTP_EN (12 R336). -/
def F.PORT_CFG_PTP_EN : Fld := ⟨0x040, 0, 25, 25⟩
/-- PORT.FEC_CORR.COUNT (12 R337). -/
def F.PORT_FEC_CORR_COUNT : Fld := ⟨0x09c, 0, 31, 0⟩
/-- PORT.FEC_UNCORR.COUNT (12 R337). -/
def F.PORT_FEC_UNCORR_COUNT : Fld := ⟨0x0a0, 0, 31, 0⟩
/-- PORT.LINK_DOWN.COUNT (12 R337). -/
def F.PORT_LINK_DOWN_COUNT : Fld := ⟨0x0a8, 0, 31, 0⟩
/-- PORT.PTP_RX.COUNT (12 R337). -/
def F.PORT_PTP_RX_COUNT : Fld := ⟨0x0a4, 0, 31, 0⟩
/-- PORT.RX_CORRUPT.COUNT (12 R337). -/
def F.PORT_RX_CORRUPT_COUNT : Fld := ⟨0x08c, 0, 31, 0⟩
/-- PORT.RX_FCS.COUNT (12 R337). -/
def F.PORT_RX_FCS_COUNT : Fld := ⟨0x088, 0, 31, 0⟩
/-- PORT.RX_FRAMES.COUNT (12 R337). -/
def F.PORT_RX_FRAMES_COUNT : Fld := ⟨0x084, 0, 31, 0⟩
/-- PORT.RX_NOCTX.COUNT (12 R337). -/
def F.PORT_RX_NOCTX_COUNT : Fld := ⟨0x090, 0, 31, 0⟩
/-- PORT.RX_OTHER.COUNT (12 R337). -/
def F.PORT_RX_OTHER_COUNT : Fld := ⟨0x094, 0, 31, 0⟩
/-- PORT.RX_QFULL.COUNT (12 R337). -/
def F.PORT_RX_QFULL_COUNT : Fld := ⟨0x098, 0, 31, 0⟩
/-- PORT.STATUS.LINK_UP (12 R336). -/
def F.PORT_STATUS_LINK_UP : Fld := ⟨0x014, 0, 31, 31⟩
/-- PORT.STATUS.OPT_DIS (12 R336). -/
def F.PORT_STATUS_OPT_DIS : Fld := ⟨0x014, 0, 29, 29⟩
/-- PORT.TS_ADJ.RX_ADJ (12 R336). -/
def F.PORT_TS_ADJ_RX_ADJ : Fld := ⟨0x06c, 0, 15, 0⟩
/-- PORT.TS_ADJ.TX_ADJ (12 R336). -/
def F.PORT_TS_ADJ_TX_ADJ : Fld := ⟨0x06c, 0, 31, 16⟩
/-- PORT.TX_FRAMES.COUNT (12 R337). -/
def F.PORT_TX_FRAMES_COUNT : Fld := ⟨0x080, 0, 31, 0⟩
/-- PWR.ALERT_CAP.W (14 R384). -/
def F.PWR_ALERT_CAP_W : Fld := ⟨0x050, 0, 12, 0⟩
/-- PWR.BALLAST.EN (14 R384). -/
def F.PWR_BALLAST_EN : Fld := ⟨0x054, 0, 31, 31⟩
/-- PWR.BALLAST.STAGE (14 R384). -/
def F.PWR_BALLAST_STAGE : Fld := ⟨0x054, 0, 27, 24⟩
/-- PWR.BMC_CAP.W (14 R384). -/
def F.PWR_BMC_CAP_W : Fld := ⟨0x048, 0, 12, 0⟩
/-- PWR.CTRL.BOOST (14 R384). -/
def F.PWR_CTRL_BOOST : Fld := ⟨0x010, 0, 1, 1⟩
/-- PWR.CTRL.STEADY (14 R384). -/
def F.PWR_CTRL_STEADY : Fld := ⟨0x010, 0, 0, 0⟩
/-- PWR.DITHER_HASH.HASH (14 R384). -/
def F.PWR_DITHER_HASH_HASH : Fld := ⟨0x05c, 0, 31, 0⟩
/-- PWR.HOST_CAP.W (14 R384). -/
def F.PWR_HOST_CAP_W : Fld := ⟨0x044, 0, 12, 0⟩
/-- PWR.LIMIT_EVENTS.COUNT (14 R384). -/
def F.PWR_LIMIT_EVENTS_COUNT : Fld := ⟨0x108, 0, 31, 0⟩
/-- PWR.POWER.W (14 R384). -/
def F.PWR_POWER_W : Fld := ⟨0x040, 0, 12, 0⟩
/-- PWR.RAIL_WIN[n].MAX_A (14 R384). -/
def F.PWR_RAIL_WIN_MAX_A : Fld := ⟨0x180, 4, 31, 16⟩
/-- PWR.RAIL_WIN[n].MIN_A (14 R384). -/
def F.PWR_RAIL_WIN_MIN_A : Fld := ⟨0x180, 4, 15, 0⟩
/-- PWR.RN_HOLDS.COUNT (14 R384). -/
def F.PWR_RN_HOLDS_COUNT : Fld := ⟨0x10c, 0, 31, 0⟩
/-- PWR.RN_LATE.COUNT (14 R384). -/
def F.PWR_RN_LATE_COUNT : Fld := ⟨0x110, 0, 31, 0⟩
/-- PWR.RN_THRESH[n].A (14 R384). -/
def F.PWR_RN_THRESH_A : Fld := ⟨0x200, 4, 7, 0⟩
/-- PWR.SNAP_CTRL.ARMED (14 R384). -/
def F.PWR_SNAP_CTRL_ARMED : Fld := ⟨0x060, 0, 0, 0⟩
/-- PWR.SNAP_CTRL.WIN_DONE (14 R384). -/
def F.PWR_SNAP_CTRL_WIN_DONE : Fld := ⟨0x060, 0, 1, 1⟩
/-- PWR.SNAP_TIME_LO.NS (14 R384). -/
def F.PWR_SNAP_TIME_LO_NS : Fld := ⟨0x070, 0, 31, 0⟩
/-- PWR.STATUS.LIMIT (14 R384). -/
def F.PWR_STATUS_LIMIT : Fld := ⟨0x014, 0, 28, 28⟩
/-- PWR.STATUS.STEADY_LOST (14 R384). -/
def F.PWR_STATUS_STEADY_LOST : Fld := ⟨0x014, 0, 29, 29⟩
/-- PWR.STATUS.TRACK (14 R384). -/
def F.PWR_STATUS_TRACK : Fld := ⟨0x014, 0, 25, 23⟩
/-- PWR.TELEM_FIRST (14 R384). -/
def F.PWR_TELEM_FIRST : Fld := ⟨0x104, 0, 31, 0⟩
/-- PWR.TELEM_FIRST.VALID (14 R384). -/
def F.PWR_TELEM_FIRST_VALID : Fld := ⟨0x104, 0, 31, 31⟩
/-- PWR.TELEM_MISS.COUNT (14 R384). -/
def F.PWR_TELEM_MISS_COUNT : Fld := ⟨0x100, 0, 31, 0⟩
/-- PWR.TRACK_ERR.W (14 R384). -/
def F.PWR_TRACK_ERR_W : Fld := ⟨0x058, 0, 15, 0⟩
/-- PWR.TRACK_MISS.COUNT (14 R384). -/
def F.PWR_TRACK_MISS_COUNT : Fld := ⟨0x118, 0, 31, 0⟩
/-- PWR.TRACK_WINDOWS.COUNT (14 R384). -/
def F.PWR_TRACK_WINDOWS_COUNT : Fld := ⟨0x114, 0, 31, 0⟩
/-- PWR.WIN_LEN.MS (14 R384). -/
def F.PWR_WIN_LEN_MS : Fld := ⟨0x06c, 0, 23, 0⟩
/-- PWR.WIN_START_LO.US (14 R384). -/
def F.PWR_WIN_START_LO_US : Fld := ⟨0x064, 0, 31, 0⟩
/-- RAS.AGED.CLUSTERS (17 R470). -/
def F.RAS_AGED_CLUSTERS : Fld := ⟨0x074, 0, 23, 0⟩
/-- RAS.CONFIRMED.COUNT (17 R470). -/
def F.RAS_CONFIRMED_COUNT : Fld := ⟨0x090, 0, 31, 0⟩
/-- RAS.CTRL.KA_EN (17 R470). -/
def F.RAS_CTRL_KA_EN : Fld := ⟨0x010, 0, 0, 0⟩
/-- RAS.DIGEST_LO.CRC (17 R470). -/
def F.RAS_DIGEST_LO_CRC : Fld := ⟨0x064, 0, 31, 0⟩
/-- RAS.DIGEST_TIME_LO.NS (17 R470). -/
def F.RAS_DIGEST_TIME_LO_NS : Fld := ⟨0x06c, 0, 31, 0⟩
/-- RAS.KA_CFG.CADENCE (17 R470). -/
def F.RAS_KA_CFG_CADENCE : Fld := ⟨0x040, 0, 4, 0⟩
/-- RAS.KA_LATE.COUNT (17 R470). -/
def F.RAS_KA_LATE_COUNT : Fld := ⟨0x088, 0, 31, 0⟩
/-- RAS.KA_MISMATCH.COUNT (17 R470). -/
def F.RAS_KA_MISMATCH_COUNT : Fld := ⟨0x084, 0, 31, 0⟩
/-- RAS.KA_RUNS.COUNT (17 R470). -/
def F.RAS_KA_RUNS_COUNT : Fld := ⟨0x080, 0, 31, 0⟩
/-- RAS.PLAUS_CSUM.COUNT (17 R470). -/
def F.RAS_PLAUS_CSUM_COUNT : Fld := ⟨0x094, 0, 31, 0⟩
/-- RAS.PLAUS_LOST (17 R470). -/
def F.RAS_PLAUS_LOST : Fld := ⟨0x0a4, 0, 31, 0⟩
/-- RAS.PLAUS_NANINF.COUNT (17 R470). -/
def F.RAS_PLAUS_NANINF_COUNT : Fld := ⟨0x098, 0, 31, 0⟩
/-- RAS.PLAUS_RANGE.COUNT (17 R470). -/
def F.RAS_PLAUS_RANGE_COUNT : Fld := ⟨0x09c, 0, 31, 0⟩
/-- RAS.PLAUS_SPARSE.COUNT (17 R470). -/
def F.RAS_PLAUS_SPARSE_COUNT : Fld := ⟨0x0a0, 0, 31, 0⟩
/-- RAS.STATUS.DIGEST_MIXED (17 R470). -/
def F.RAS_STATUS_DIGEST_MIXED : Fld := ⟨0x014, 0, 27, 27⟩
/-- RAS.STATUS.SUSPECT (17 R470). -/
def F.RAS_STATUS_SUSPECT : Fld := ⟨0x014, 0, 31, 31⟩
/-- RAS.SUSPECT.TILE (17 R470). -/
def F.RAS_SUSPECT_TILE : Fld := ⟨0x044, 0, 10, 0⟩
/-- RAS.TEST_CTRL.INDEX (17 R470). -/
def F.RAS_TEST_CTRL_INDEX : Fld := ⟨0x04c, 0, 10, 0⟩
/-- RAS.TEST_CTRL.KIND (17 R470). -/
def F.RAS_TEST_CTRL_KIND : Fld := ⟨0x04c, 0, 27, 24⟩
/-- RAS.TEST_CTRL.MODE (17 R470). -/
def F.RAS_TEST_CTRL_MODE : Fld := ⟨0x04c, 0, 23, 16⟩
/-- RAS.TEST_STATUS.BUSY (17 R470). -/
def F.RAS_TEST_STATUS_BUSY : Fld := ⟨0x050, 0, 31, 31⟩
/-- RAS.TEST_STATUS.CORNERS_FAILED (17 R470). -/
def F.RAS_TEST_STATUS_CORNERS_FAILED : Fld := ⟨0x050, 0, 19, 16⟩
/-- RAS.TEST_STATUS.FAIL_COUNT (17 R470). -/
def F.RAS_TEST_STATUS_FAIL_COUNT : Fld := ⟨0x050, 0, 15, 0⟩
/-- RAS.TEST_STATUS.RESULT (17 R470). -/
def F.RAS_TEST_STATUS_RESULT : Fld := ⟨0x050, 0, 30, 28⟩
/-- RAS.TRANSIENT.COUNT (17 R470). -/
def F.RAS_TRANSIENT_COUNT : Fld := ⟨0x08c, 0, 31, 0⟩
/-- RST.BOOT_FAIL.CODE (16 R438). -/
def F.RST_BOOT_FAIL_CODE : Fld := ⟨0x048, 0, 15, 8⟩
/-- RST.BOOT_MS.MS (16 R438). -/
def F.RST_BOOT_MS_MS : Fld := ⟨0x04c, 0, 15, 0⟩
/-- RST.LAST_CAUSE (16 R438). -/
def F.RST_LAST_CAUSE : Fld := ⟨0x044, 0, 31, 0⟩
/-- RST.LAST_CAUSE.CAUSE (16 R438). -/
def F.RST_LAST_CAUSE_CAUSE : Fld := ⟨0x044, 0, 3, 0⟩
/-- RST.STATUS.MIRYN_UP (16 R438). -/
def F.RST_STATUS_MIRYN_UP : Fld := ⟨0x014, 0, 30, 30⟩
/-- RST.STATUS.OPT_DEFAULT (16 R438). -/
def F.RST_STATUS_OPT_DEFAULT : Fld := ⟨0x014, 0, 29, 29⟩
/-- RST.STATUS.PHASE (16 R438). -/
def F.RST_STATUS_PHASE : Fld := ⟨0x014, 0, 27, 24⟩
/-- RST.STATUS.READY (16 R438). -/
def F.RST_STATUS_READY : Fld := ⟨0x014, 0, 31, 31⟩
/-- RST.STATUS.VBAK_LOST (16 R438). -/
def F.RST_STATUS_VBAK_LOST : Fld := ⟨0x014, 0, 28, 28⟩
/-- RST.VB_COUNT[n].COUNT (16 R438). -/
def F.RST_VB_COUNT_COUNT : Fld := ⟨0x050, 4, 15, 0⟩
/-- RTR.CLASS_WEIGHT.TC1 (10 R265). -/
def F.RTR_CLASS_WEIGHT_TC1 : Fld := ⟨0x06c, 0, 3, 0⟩
/-- RTR.CLASS_WEIGHT.TC2 (10 R265). -/
def F.RTR_CLASS_WEIGHT_TC2 : Fld := ⟨0x06c, 0, 7, 4⟩
/-- RTR.CLASS_WEIGHT.TC3 (10 R265). -/
def F.RTR_CLASS_WEIGHT_TC3 : Fld := ⟨0x06c, 0, 11, 8⟩
/-- RTR.HDR_DROP.COUNT (10 R266). -/
def F.RTR_HDR_DROP_COUNT : Fld := ⟨0x0ac, 0, 31, 0⟩
/-- RTR.LINK_CORR.COUNT (10 R266). -/
def F.RTR_LINK_CORR_COUNT : Fld := ⟨0x0b8, 0, 31, 0⟩
/-- RTR.MIX_CTRL.EN (10 R265). -/
def F.RTR_MIX_CTRL_EN : Fld := ⟨0x074, 0, 31, 31⟩
/-- RTR.MIX_CTRL.PERIOD_M1 (10 R265). -/
def F.RTR_MIX_CTRL_PERIOD_M1 : Fld := ⟨0x074, 0, 7, 0⟩
/-- RTR.MIX_DROP.COUNT (10 R266). -/
def F.RTR_MIX_DROP_COUNT : Fld := ⟨0x0b0, 0, 31, 0⟩
/-- RTR.MIX_EJECT[e].CHUNKS_M1 (10 R265). -/
def F.RTR_MIX_EJECT_CHUNKS_M1 : Fld := ⟨0x080, 4, 6, 0⟩
/-- RTR.MIX_EJECT[e].RSEN (10 R265). -/
def F.RTR_MIX_EJECT_RSEN : Fld := ⟨0x080, 4, 11, 11⟩
/-- RTR.MIX_EJECT[e].RSLATE (10 R265). -/
def F.RTR_MIX_EJECT_RSLATE : Fld := ⟨0x080, 4, 10, 7⟩
/-- RTR.MIX_EJECT[e].SEQ_BASE (10 R265). -/
def F.RTR_MIX_EJECT_SEQ_BASE : Fld := ⟨0x080, 4, 31, 16⟩
/-- RTR.MIX_EJECT[e].STREAM (10 R265). -/
def F.RTR_MIX_EJECT_STREAM : Fld := ⟨0x080, 4, 15, 12⟩
/-- RTR.MIX_SLOT[p].EJ (10 R265). -/
def F.RTR_MIX_SLOT_EJ : Fld := ⟨0x400, 4, 22, 20⟩
/-- RTR.MIX_SLOT[p].EN (10 R265). -/
def F.RTR_MIX_SLOT_EN : Fld := ⟨0x400, 4, 31, 31⟩
/-- RTR.MIX_SLOT[p].IN (10 R265). -/
def F.RTR_MIX_SLOT_IN : Fld := ⟨0x400, 4, 30, 26⟩
/-- RTR.MIX_SLOT[p].OP (10 R265). -/
def F.RTR_MIX_SLOT_OP : Fld := ⟨0x400, 4, 17, 17⟩
/-- RTR.MIX_SLOT[p].OUT (10 R265). -/
def F.RTR_MIX_SLOT_OUT : Fld := ⟨0x400, 4, 25, 23⟩
/-- RTR.MIX_SLOT[p].TYPE (10 R265). -/
def F.RTR_MIX_SLOT_TYPE : Fld := ⟨0x400, 4, 19, 18⟩
/-- RTR.MIX_WAIT.COUNT (10 R266). -/
def F.RTR_MIX_WAIT_COUNT : Fld := ⟨0x0b4, 0, 31, 0⟩
/-- RTR.ROUTE_COL[n].ENTRIES (10 R265). -/
def F.RTR_ROUTE_COL_ENTRIES : Fld := ⟨0x040, 4, 31, 0⟩
/-- RTR.ROUTE_DROP.COUNT (10 R266). -/
def F.RTR_ROUTE_DROP_COUNT : Fld := ⟨0x0a8, 0, 31, 0⟩
/-- RTR.ROUTE_ROW[n].ENTRIES (10 R265). -/
def F.RTR_ROUTE_ROW_ENTRIES : Fld := ⟨0x058, 4, 31, 0⟩
/-- RTR.TC0_HELD (10 R266). -/
def F.RTR_TC0_HELD : Fld := ⟨0x0bc, 0, 31, 0⟩
/-- RTR.WALL_DROP.COUNT (10 R266). -/
def F.RTR_WALL_DROP_COUNT : Fld := ⟨0x0a4, 0, 31, 0⟩
/-- RTR.TC0_SLOTS.MASK (10 R265). -/
def F.RTR_TC0_SLOTS_MASK : Fld := ⟨0x070, 0, 7, 0⟩
/-- SEC.NONCE_LO.NONCE (17 R471). -/
def F.SEC_NONCE_LO_NONCE : Fld := ⟨0x044, 0, 31, 0⟩
/-- SEC.STATUS.BUSY (17 R471). -/
def F.SEC_STATUS_BUSY : Fld := ⟨0x014, 0, 31, 31⟩
/-- SEC.STATUS.RESULT (17 R471). -/
def F.SEC_STATUS_RESULT : Fld := ⟨0x014, 0, 30, 28⟩
/-- SEC.VALUE.WORD5 (17 R471). -/
def F.SEC_VALUE_WORD5 : Fld := ⟨0x040, 0, 31, 0⟩
/-- SENS.SENSOR_BAD.COUNT (14 R386). -/
def F.SENS_SENSOR_BAD_COUNT : Fld := ⟨0x050, 0, 31, 0⟩
/-- SENS.TEMP[n].VALID (14 R386). -/
def F.SENS_TEMP_VALID : Fld := ⟨0x040, 4, 31, 31⟩
/-- SEQ.CH_CFG[n].CAP (07 R188). -/
def F.SEQ_CH_CFG_CAP : Fld := ⟨0x060, 4, 15, 0⟩
/-- SEQ.CH_STATE[n].AVAIL (07 R188). -/
def F.SEQ_CH_STATE_AVAIL : Fld := ⟨0x0a0, 4, 31, 16⟩
/-- SEQ.CH_STATE[n].SPACE (07 R188). -/
def F.SEQ_CH_STATE_SPACE : Fld := ⟨0x0a0, 4, 15, 0⟩
/-- SEQ.CORE_ENTRY0 (07 R188). -/
def F.SEQ_CORE_ENTRY0 : Fld := ⟨0x04c, 0, 31, 0⟩
/-- SEQ.CORE_ENTRY1 (07 R188). -/
def F.SEQ_CORE_ENTRY1 : Fld := ⟨0x050, 0, 31, 0⟩
/-- SEQ.DUP_DROP (07 R189). -/
def F.SEQ_DUP_DROP : Fld := ⟨0x0f8, 0, 31, 0⟩
/-- SEQ.HALT_INFO (07 R188). -/
def F.SEQ_HALT_INFO : Fld := ⟨0x054, 0, 31, 0⟩
/-- SEQ.HALT_INFO.VALID (07 R188). -/
def F.SEQ_HALT_INFO_VALID : Fld := ⟨0x054, 0, 31, 31⟩
/-- SEQ.LEN_MISMATCH (07 R189). -/
def F.SEQ_LEN_MISMATCH : Fld := ⟨0x0f4, 0, 31, 0⟩
/-- SEQ.PRED.VALID (07 R188). -/
def F.SEQ_PRED_VALID : Fld := ⟨0x048, 0, 15, 8⟩
/-- SEQ.PRED.VALUE (07 R188). -/
def F.SEQ_PRED_VALUE : Fld := ⟨0x048, 0, 7, 0⟩
/-- SEQ.PROBES.COUNT (07 R189). -/
def F.SEQ_PROBES_COUNT : Fld := ⟨0x0e8, 0, 31, 0⟩
/-- SEQ.STALL_CREDIT (07 R189). -/
def F.SEQ_STALL_CREDIT : Fld := ⟨0x0e4, 0, 31, 0⟩
/-- SEQ.STALL_TRACK (07 R189). -/
def F.SEQ_STALL_TRACK : Fld := ⟨0x0e0, 0, 31, 0⟩
/-- SEQ.VOID_STEPS (07 R189). -/
def F.SEQ_VOID_STEPS : Fld := ⟨0x0ec, 0, 31, 0⟩
/-- SEQ.XFER_ERR (07 R189). -/
def F.SEQ_XFER_ERR : Fld := ⟨0x0f0, 0, 31, 0⟩
/-- SLATE.COUNT[n].COUNT (07 R191). -/
def F.SLATE_COUNT_COUNT : Fld := ⟨0x040, 16, 31, 0⟩
/-- SLATE.CTRL[n].REACHED (07 R191). -/
def F.SLATE_CTRL_REACHED : Fld := ⟨0x048, 16, 0, 0⟩
/-- SLATE.CTRL[n].STEP (07 R191). -/
def F.SLATE_CTRL_STEP : Fld := ⟨0x048, 16, 31, 16⟩
/-- SLATE.THRESH[n].THRESH (07 R191). -/
def F.SLATE_THRESH_THRESH : Fld := ⟨0x044, 16, 31, 0⟩
/-- SPD.COLD_READS (06 R157). -/
def F.SPD_COLD_READS : Fld := ⟨0x084, 0, 31, 0⟩
/-- SPD.CTRL.COLD_IRQ (06 R155). -/
def F.SPD_CTRL_COLD_IRQ : Fld := ⟨0x010, 0, 1, 1⟩
/-- SPD.CTRL.COLD_POISON (06 R155). -/
def F.SPD_CTRL_COLD_POISON : Fld := ⟨0x010, 0, 0, 0⟩
/-- SPD.CTRL.SCRUB_EN (06 R155). -/
def F.SPD_CTRL_SCRUB_EN : Fld := ⟨0x010, 0, 2, 2⟩
/-- SPD.ECC_CORR (06 R157). -/
def F.SPD_ECC_CORR : Fld := ⟨0x088, 0, 31, 0⟩
/-- SPD.ECC_UNCORR (06 R157). -/
def F.SPD_ECC_UNCORR : Fld := ⟨0x08c, 0, 31, 0⟩
/-- SPD.IND_ADDR.WORD (06 R156). -/
def F.SPD_IND_ADDR_WORD : Fld := ⟨0x054, 0, 16, 0⟩
/-- SPD.IND_CMD.COLD (06 R156). -/
def F.SPD_IND_CMD_COLD : Fld := ⟨0x058, 0, 0, 0⟩
/-- SPD.IND_CMD.POISON (06 R156). -/
def F.SPD_IND_CMD_POISON : Fld := ⟨0x058, 0, 1, 1⟩
/-- SPD.IND_DATA[n].DATA (06 R156). -/
def F.SPD_IND_DATA_DATA : Fld := ⟨0x060, 4, 31, 0⟩
/-- SPD.PROMOTE.COUNT (06 R157). -/
def F.SPD_PROMOTE_COUNT : Fld := ⟨0x094, 0, 31, 0⟩
/-- SPD.REMOTE_ERR.COUNT (06 R157). -/
def F.SPD_REMOTE_ERR_COUNT : Fld := ⟨0x090, 0, 31, 0⟩
/-- SPD.STATUS.IND_BUSY (06 R155). -/
def F.SPD_STATUS_IND_BUSY : Fld := ⟨0x014, 0, 0, 0⟩
/-- STAGE.BAR2_BASE.GIB (13 R349). -/
def F.STAGE_BAR2_BASE_GIB : Fld := ⟨0x1c0, 0, 8, 0⟩
/-- STAGE.BAR2_ERR.COUNT (13 R349). -/
def F.STAGE_BAR2_ERR_COUNT : Fld := ⟨0x1c4, 0, 15, 0⟩
/-- STAGE.CTX_RANGE.COUNT (12 R334). -/
def F.STAGE_CTX_RANGE_COUNT : Fld := ⟨0x100, 0, 28, 16⟩
/-- STAGE.CTX_RANGE.FIRST (12 R334). -/
def F.STAGE_CTX_RANGE_FIRST : Fld := ⟨0x100, 0, 11, 0⟩
/-- STAGE.DL_CYCLES.COUNT (07 R192). -/
def F.STAGE_DL_CYCLES_COUNT : Fld := ⟨0x070, 0, 31, 0⟩
/-- STAGE.DL_NOCYCLE.COUNT (07 R192). -/
def F.STAGE_DL_NOCYCLE_COUNT : Fld := ⟨0x074, 0, 31, 0⟩
/-- STAGE.DMA_ERR.COUNT (13 R349). -/
def F.STAGE_DMA_ERR_COUNT : Fld := ⟨0x1c8, 0, 15, 0⟩
/-- STAGE.FETCH_RANGE.COUNT (11 R295). -/
def F.STAGE_FETCH_RANGE_COUNT : Fld := ⟨0x0d0, 0, 24, 16⟩
/-- STAGE.FETCH_RANGE.FIRST (11 R295). -/
def F.STAGE_FETCH_RANGE_FIRST : Fld := ⟨0x0d0, 0, 7, 0⟩
/-- STAGE.FETCH_TABLE_LO.ADDR_LO (11 R295). -/
def F.STAGE_FETCH_TABLE_LO_ADDR_LO : Fld := ⟨0x0d4, 0, 31, 0⟩
/-- STAGE.GATE.G (14 R387). -/
def F.STAGE_GATE_G : Fld := ⟨0x220, 0, 8, 0⟩
/-- STAGE.MARK_DONE.MARK (12 R334). -/
def F.STAGE_MARK_DONE_MARK : Fld := ⟨0x120, 0, 31, 0⟩
/-- STAGE.MIRROR_CTRL.CTX (12 R334). -/
def F.STAGE_MIRROR_CTRL_CTX : Fld := ⟨0x110, 0, 11, 0⟩
/-- STAGE.MIRROR_CTRL.EN (12 R334). -/
def F.STAGE_MIRROR_CTRL_EN : Fld := ⟨0x110, 0, 31, 31⟩
/-- STAGE.MIRROR_MAP_LO.ADDR_LO (12 R334). -/
def F.STAGE_MIRROR_MAP_LO_ADDR_LO : Fld := ⟨0x114, 0, 31, 0⟩
/-- STAGE.MSG_FAILS.COUNT (12 R334). -/
def F.STAGE_MSG_FAILS_COUNT : Fld := ⟨0x188, 0, 31, 0⟩
/-- STAGE.OUT_BASE.MIB (07 R192). -/
def F.STAGE_OUT_BASE_MIB : Fld := ⟨0x060, 0, 19, 0⟩
/-- STAGE.OUT_SIZE.MIB (07 R192). -/
def F.STAGE_OUT_SIZE_MIB : Fld := ⟨0x064, 0, 19, 0⟩
/-- STAGE.POISON_AT.POINT (11 R295). -/
def F.STAGE_POISON_AT_POINT : Fld := ⟨0x0dc, 0, 30, 28⟩
/-- STAGE.POISON_AT.TILE (11 R295). -/
def F.STAGE_POISON_AT_TILE : Fld := ⟨0x0dc, 0, 10, 0⟩
/-- STAGE.POISON_AT.VALID (11 R295). -/
def F.STAGE_POISON_AT_VALID : Fld := ⟨0x0dc, 0, 31, 31⟩
/-- STAGE.POISON_CONSUMED.COUNT (11 R295). -/
def F.STAGE_POISON_CONSUMED_COUNT : Fld := ⟨0x0e0, 0, 15, 0⟩
/-- STAGE.PORT_MASK.PORTS (01 R27). -/
def F.STAGE_PORT_MASK_PORTS : Fld := ⟨0x048, 0, 15, 0⟩
/-- STAGE.PWR_CAP.W (14 R387). -/
def F.STAGE_PWR_CAP_W : Fld := ⟨0x200, 0, 12, 0⟩
/-- STAGE.RECT.VALID (01 R27). -/
def F.STAGE_RECT_VALID : Fld := ⟨0x040, 0, 31, 31⟩
/-- STAGE.RETX.COUNT (12 R334). -/
def F.STAGE_RETX_COUNT : Fld := ⟨0x18c, 0, 31, 0⟩
/-- STAGE.RIM_WEIGHT.BOTTOM (10 R268). -/
def F.STAGE_RIM_WEIGHT_BOTTOM : Fld := ⟨0x0c0, 0, 7, 4⟩
/-- STAGE.RIM_WEIGHT.TOP (10 R268). -/
def F.STAGE_RIM_WEIGHT_TOP : Fld := ⟨0x0c0, 0, 3, 0⟩
/-- STAGE.RIM_DROP.COUNT (10 R268). -/
def F.STAGE_RIM_DROP_COUNT : Fld := ⟨0x0c4, 0, 31, 0⟩
/-- STAGE.RING_RANGE.COUNT (12 R334). -/
def F.STAGE_RING_RANGE_COUNT : Fld := ⟨0x104, 0, 24, 16⟩
/-- STAGE.RING_RANGE.FIRST (12 R334). -/
def F.STAGE_RING_RANGE_FIRST : Fld := ⟨0x104, 0, 7, 0⟩
/-- STAGE.RSL_RANGE.COUNT (07 R192). -/
def F.STAGE_RSL_RANGE_COUNT : Fld := ⟨0x080, 0, 26, 16⟩
/-- STAGE.RSL_RANGE.FIRST (07 R192). -/
def F.STAGE_RSL_RANGE_FIRST : Fld := ⟨0x080, 0, 9, 0⟩
/-- STAGE.RSL_SEL.INDEX (07 R192). -/
def F.STAGE_RSL_SEL_INDEX : Fld := ⟨0x084, 0, 9, 0⟩
/-- STAGE.RUNSTATE.LOADED (01 R27). -/
def F.STAGE_RUNSTATE_LOADED : Fld := ⟨0x044, 0, 8, 8⟩
/-- STAGE.RUNSTATE.STATE (01 R27). -/
def F.STAGE_RUNSTATE_STATE : Fld := ⟨0x044, 0, 2, 0⟩
/-- STAGE.RX_DROP.COUNT (12 R334). -/
def F.STAGE_RX_DROP_COUNT : Fld := ⟨0x194, 0, 31, 0⟩
/-- STAGE.RX_MSGS.COUNT (12 R334). -/
def F.STAGE_RX_MSGS_COUNT : Fld := ⟨0x184, 0, 31, 0⟩
/-- STAGE.RX_TRUNC.COUNT (12 R334). -/
def F.STAGE_RX_TRUNC_COUNT : Fld := ⟨0x190, 0, 31, 0⟩
/-- STAGE.SCOUT_BAD.COUNT (08 R211). -/
def F.STAGE_SCOUT_BAD_COUNT : Fld := ⟨0x0a8, 0, 31, 0⟩
/-- STAGE.SCOUT_LISTS.COUNT (08 R211). -/
def F.STAGE_SCOUT_LISTS_COUNT : Fld := ⟨0x0a0, 0, 31, 0⟩
/-- STAGE.SCOUT_OVERFLOW.COUNT (08 R211). -/
def F.STAGE_SCOUT_OVERFLOW_COUNT : Fld := ⟨0x0a4, 0, 31, 0⟩
/-- STAGE.SCOUT_PAD.COUNT (08 R211). -/
def F.STAGE_SCOUT_PAD_COUNT : Fld := ⟨0x0ac, 0, 31, 0⟩
/-- STAGE.SHEET_STAT.DONE (16 R440). -/
def F.STAGE_SHEET_STAT_DONE : Fld := ⟨0x248, 0, 15, 0⟩
/-- STAGE.SHEET_STAT.FAIL_REC (16 R440). -/
def F.STAGE_SHEET_STAT_FAIL_REC : Fld := ⟨0x248, 0, 31, 16⟩
/-- STAGE.SPILL_RECORDS.COUNT (07 R192). -/
def F.STAGE_SPILL_RECORDS_COUNT : Fld := ⟨0x078, 0, 31, 0⟩
/-- STAGE.STEPS.COUNT (17 R473). -/
def F.STAGE_STEPS_COUNT : Fld := ⟨0x284, 0, 31, 0⟩
/-- STAGE.TX_MSGS.COUNT (12 R334). -/
def F.STAGE_TX_MSGS_COUNT : Fld := ⟨0x180, 0, 31, 0⟩
/-- STAGE.UAM_REFUSED.COUNT (12 R334). -/
def F.STAGE_UAM_REFUSED_COUNT : Fld := ⟨0x1a0, 0, 31, 0⟩
/-- STAGE.UCFG_CMD.BUSY (12 R334). -/
def F.STAGE_UCFG_CMD_BUSY : Fld := ⟨0x10c, 0, 0, 0⟩
/-- STAGE.UCFG_SEL.INDEX (12 R334). -/
def F.STAGE_UCFG_SEL_INDEX : Fld := ⟨0x108, 0, 11, 0⟩
/-- STAGE.UCFG_SEL.KIND (12 R334). -/
def F.STAGE_UCFG_SEL_KIND : Fld := ⟨0x108, 0, 31, 30⟩
/-- STAGE.WIN_REFUSED.COUNT (12 R334). -/
def F.STAGE_WIN_REFUSED_COUNT : Fld := ⟨0x19c, 0, 31, 0⟩
/-- STAGE.WIN_SERVED.COUNT (12 R334). -/
def F.STAGE_WIN_SERVED_COUNT : Fld := ⟨0x198, 0, 31, 0⟩
/-- STIN.CLOCK_WARN.COUNT (15 R410). -/
def F.STIN_CLOCK_WARN_COUNT : Fld := ⟨0x07c, 0, 31, 0⟩
/-- STIN.CTRL.STRETCH_EN (15 R410). -/
def F.STIN_CTRL_STRETCH_EN : Fld := ⟨0x010, 0, 0, 0⟩
/-- STIN.SLACK[n].FUSED_PS (15 R410). -/
def F.STIN_SLACK_FUSED_PS : Fld := ⟨0x040, 4, 31, 16⟩
/-- STIN.SLACK[n].NOW_PS (15 R410). -/
def F.STIN_SLACK_NOW_PS : Fld := ⟨0x040, 4, 15, 0⟩
/-- STIN.SLACK_WARN.COUNT (15 R410). -/
def F.STIN_SLACK_WARN_COUNT : Fld := ⟨0x078, 0, 31, 0⟩
/-- STIN.STRETCH_CYCLES.COUNT (15 R410). -/
def F.STIN_STRETCH_CYCLES_COUNT : Fld := ⟨0x074, 0, 31, 0⟩
/-- STIN.WARN.JIT_PS (15 R410). -/
def F.STIN_WARN_JIT_PS : Fld := ⟨0x060, 0, 31, 16⟩
/-- STIN.WARN.SLACK_PS (15 R410). -/
def F.STIN_WARN_SLACK_PS : Fld := ⟨0x060, 0, 15, 0⟩
/-- STIN.STRETCH_EVENTS.COUNT (15 R410). -/
def F.STIN_STRETCH_EVENTS_COUNT : Fld := ⟨0x070, 0, 31, 0⟩
/-- THERM.ALERT_C.C16 (14 R386). -/
def F.THERM_ALERT_C_C16 : Fld := ⟨0x040, 0, 15, 0⟩
/-- THERM.HOT.C16 (14 R386). -/
def F.THERM_HOT_C16 : Fld := ⟨0x044, 0, 15, 0⟩
/-- THERM.RIM_TEMP[n].VALID (14 R386). -/
def F.THERM_RIM_TEMP_VALID : Fld := ⟨0x050, 4, 31, 31⟩
/-- THERM.THROTTLED.CLUSTERS (14 R386). -/
def F.THERM_THROTTLED_CLUSTERS : Fld := ⟨0x048, 0, 23, 0⟩
/-- THERM.THROTTLE_EVENTS.COUNT (14 R386). -/
def F.THERM_THROTTLE_EVENTS_COUNT : Fld := ⟨0x070, 0, 31, 0⟩
/-- TILE.FETCH_CMD.BUSY (11 R296). -/
def F.TILE_FETCH_CMD_BUSY : Fld := ⟨0x064, 0, 9, 9⟩
/-- TILE.FETCH_CMD.LEN16_M1 (11 R296). -/
def F.TILE_FETCH_CMD_LEN16_M1 : Fld := ⟨0x064, 0, 8, 0⟩
/-- TILE.FETCH_SRC.ADDR16 (11 R296). -/
def F.TILE_FETCH_SRC_ADDR16 : Fld := ⟨0x060, 0, 17, 0⟩
/-- TIME.CTRL.PPS_EN (15 R410). -/
def F.TIME_CTRL_PPS_EN : Fld := ⟨0x010, 0, 1, 1⟩
/-- TIME.CTRL.PTP_EN (15 R410). -/
def F.TIME_CTRL_PTP_EN : Fld := ⟨0x010, 0, 0, 0⟩
/-- TIME.OFFSET.NS (15 R410). -/
def F.TIME_OFFSET_NS : Fld := ⟨0x048, 0, 31, 0⟩
/-- TIME.PPS_BAD.COUNT (15 R410). -/
def F.TIME_PPS_BAD_COUNT : Fld := ⟨0x064, 0, 31, 0⟩
/-- TIME.PPS_CFG.ADJ_NS (15 R410). -/
def F.TIME_PPS_CFG_ADJ_NS : Fld := ⟨0x058, 0, 15, 0⟩
/-- TIME.PTP_CFG.ASYM_NS (15 R410). -/
def F.TIME_PTP_CFG_ASYM_NS : Fld := ⟨0x054, 0, 31, 16⟩
/-- TIME.PTP_CFG.DOMAIN (15 R410). -/
def F.TIME_PTP_CFG_DOMAIN : Fld := ⟨0x054, 0, 7, 0⟩
/-- TIME.PTP_DISCARD.COUNT (15 R410). -/
def F.TIME_PTP_DISCARD_COUNT : Fld := ⟨0x060, 0, 31, 0⟩
/-- TIME.PTP_PORTS.PORTS (15 R410). -/
def F.TIME_PTP_PORTS_PORTS : Fld := ⟨0x050, 0, 15, 0⟩
/-- TIME.STATUS.PPS_QUAL (15 R410). -/
def F.TIME_STATUS_PPS_QUAL : Fld := ⟨0x014, 0, 26, 26⟩
/-- TIME.STATUS.PTP_PORT (15 R410). -/
def F.TIME_STATUS_PTP_PORT : Fld := ⟨0x014, 0, 19, 16⟩
/-- TIME.STATUS.PTP_QUAL (15 R410). -/
def F.TIME_STATUS_PTP_QUAL : Fld := ⟨0x014, 0, 27, 27⟩
/-- TIME.STATUS.SET (15 R410). -/
def F.TIME_STATUS_SET : Fld := ⟨0x014, 0, 31, 31⟩
/-- TIME.STATUS.SLEWING (15 R410). -/
def F.TIME_STATUS_SLEWING : Fld := ⟨0x014, 0, 30, 30⟩
/-- TIME.STATUS.SRC (15 R410). -/
def F.TIME_STATUS_SRC : Fld := ⟨0x014, 0, 29, 28⟩
/-- TIME.SWITCHES.COUNT (15 R410). -/
def F.TIME_SWITCHES_COUNT : Fld := ⟨0x06c, 0, 31, 0⟩
/-- TIME.TOD_ERR.COUNT (15 R410). -/
def F.TIME_TOD_ERR_COUNT : Fld := ⟨0x068, 0, 31, 0⟩
/-- VEC.ACC_MISMATCH.COUNT (05 R139). -/
def F.VEC_ACC_MISMATCH_COUNT : Fld := ⟨0x08c, 0, 31, 0⟩
/-- VEC.CONST[n].VALUE (05 R138). -/
def F.VEC_CONST_VALUE : Fld := ⟨0x0e0, 4, 31, 0⟩
/-- VEC.CSUM_SKIP.COUNT (05 R139). -/
def F.VEC_CSUM_SKIP_COUNT : Fld := ⟨0x080, 0, 31, 0⟩
/-- VEC.CSUM_TOL (05 R138). -/
def F.VEC_CSUM_TOL : Fld := ⟨0x044, 0, 31, 0⟩
/-- VEC.CVT_REPLACED.COUNT (05 R139). -/
def F.VEC_CVT_REPLACED_COUNT : Fld := ⟨0x084, 0, 31, 0⟩
/-- VEC.GUARD_CSUM.COUNT (05 R139). -/
def F.VEC_GUARD_CSUM_COUNT : Fld := ⟨0x07c, 0, 31, 0⟩
/-- VEC.GUARD_CTRL (05 R138). -/
def F.VEC_GUARD_CTRL : Fld := ⟨0x040, 0, 31, 0⟩
/-- VEC.GUARD_FIRST (05 R138). -/
def F.VEC_GUARD_FIRST : Fld := ⟨0x05c, 0, 31, 0⟩
/-- VEC.GUARD_FIRST.VALID (05 R138). -/
def F.VEC_GUARD_FIRST_VALID : Fld := ⟨0x05c, 0, 31, 31⟩
/-- VEC.GUARD_NANINF.COUNT (05 R139). -/
def F.VEC_GUARD_NANINF_COUNT : Fld := ⟨0x078, 0, 31, 0⟩
/-- VEC.GUARD_RANGE.COUNT (05 R139). -/
def F.VEC_GUARD_RANGE_COUNT : Fld := ⟨0x074, 0, 31, 0⟩
/-- VEC.HALT_INFO (05 R138). -/
def F.VEC_HALT_INFO : Fld := ⟨0x058, 0, 31, 0⟩
/-- VEC.HALT_INFO.VALID (05 R138). -/
def F.VEC_HALT_INFO_VALID : Fld := ⟨0x058, 0, 31, 31⟩
/-- VEC.LFSR_SEED_LO.SEED_LO (05 R138). -/
def F.VEC_LFSR_SEED_LO_SEED_LO : Fld := ⟨0x048, 0, 31, 0⟩
/-- VEC.LFSR_STATE_LO.STATE_LO (05 R138). -/
def F.VEC_LFSR_STATE_LO_STATE_LO : Fld := ⟨0x050, 0, 31, 0⟩
/-- VEC.POISON_OUT.COUNT (05 R139). -/
def F.VEC_POISON_OUT_COUNT : Fld := ⟨0x090, 0, 31, 0⟩
/-- VEC.ROWS.COUNT (05 R139). -/
def F.VEC_ROWS_COUNT : Fld := ⟨0x064, 0, 31, 0⟩
/-- VEC.SLICE_LOST.COUNT (05 R139). -/
def F.VEC_SLICE_LOST_COUNT : Fld := ⟨0x088, 0, 31, 0⟩
/-- VEC.STALL_IN.CYCLES (05 R139). -/
def F.VEC_STALL_IN_CYCLES : Fld := ⟨0x068, 0, 31, 0⟩
/-- VEC.STALL_OUT.CYCLES (05 R139). -/
def F.VEC_STALL_OUT_CYCLES : Fld := ⟨0x06c, 0, 31, 0⟩
/-- VEC.STALL_SUM.CYCLES (05 R139). -/
def F.VEC_STALL_SUM_CYCLES : Fld := ⟨0x070, 0, 31, 0⟩
/-- VEC.WIN_HI[n].HI (05 R138). -/
def F.VEC_WIN_HI_HI : Fld := ⟨0x0a4, 8, 31, 0⟩
/-- VEC.WIN_LO[n].LO (05 R138). -/
def F.VEC_WIN_LO_LO : Fld := ⟨0x0a0, 8, 31, 0⟩
/-- VOLT.DRIFT_PS.PS (15 R410). -/
def F.VOLT_DRIFT_PS_PS : Fld := ⟨0x050, 0, 15, 0⟩
/-- VOLT.FMAX_MHZ.MHZ (15 R410). -/
def F.VOLT_FMAX_MHZ_MHZ : Fld := ⟨0x044, 0, 10, 0⟩
/-- VOLT.PLAN_SEL.POINT (15 R410). -/
def F.VOLT_PLAN_SEL_POINT : Fld := ⟨0x048, 0, 5, 0⟩
/-- VOLT.STATUS.AGE_VOLATILE (15 R410). -/
def F.VOLT_STATUS_AGE_VOLATILE : Fld := ⟨0x014, 0, 31, 31⟩
/-- VOLT.STATUS.V_MV (15 R410). -/
def F.VOLT_STATUS_V_MV : Fld := ⟨0x014, 0, 9, 0⟩

end Sys2Proof.Machine
end

