-- ==== Sys2Proof/Machine/Regs.lean ====
section
/-!
DEFINITION. The registers of BAR0: per page, the common header (02 R39) and the table of the registers its chapter defines.
A row is: offset, count, stride, reset (M-tile), reset (S-tile), RW, RWS, RK, RW1C, WO and lockable bits (00 R6, 02 R48).
-/
namespace Sys2Proof.Machine

/-- What the common header of each page holds (02 R40 for the type codes, the page's chapter for the rest). -/
def pageInfo : PageKind → PageInfo
  | .dev => ⟨1, 0, 0, 0, 0x7ff00000, 0, 0x7ff00000, 0, 1, 2⟩
  | .opt => ⟨2, 0, 0, 0, 0x7ff00000, 0, 0x7ff00000, 0, 1, 0⟩
  | .keep => ⟨3, 0, 0, 0, 0x7ff00000, 0, 0x7ff00000, 0, 7, 0⟩
  | .rst => ⟨4, 0, 0, 0, 0x7ff00000, 0, 0x7ff00000, 0, 7, 0⟩
  | .clk => ⟨5, 0, 0, 0, 0x7ff00000, 0, 0, 0, 3, 0⟩
  | .time => ⟨6, 0, 0, 3, 0x7ff00000, 3, 3, 0, 0x1f, 0⟩
  | .pwr => ⟨7, 0, 0, 0, 0x7ff00000, 3, 0, 0x1130, 0x7f, 0⟩
  | .cue => ⟨8, 0, 0, 0, 0x7ff00000, 0, 0, 0, 0xf, 0⟩
  | .therm => ⟨9, 0, 0, 0, 0x7ff00000, 0, 0, 0, 7, 0⟩
  | .ras => ⟨0xa, 0, 0, 1, 0x7ff00000, 1, 1, 0, 0x1f, 0⟩
  | .log => ⟨0xb, 0, 0, 0, 0x7ff00000, 0, 0, 0, 3, 0⟩
  | .cve => ⟨0xc, 0, 0, 0, 0x7ff00000, 0, 0, 0, 3, 0⟩
  | .daily => ⟨0xd, 0, 0, 0, 0x7ff00000, 0, 0, 0, 1, 0⟩
  | .sec => ⟨0xe, 0, 0, 0, 0x7ff00000, 0, 0, 0, 1, 0⟩
  | .miryn => ⟨0xf, 0, 0, 0, 0x7ff00000, 0, 0x7ff00000, 0x80000000, 1, 0⟩
  | .stage => ⟨0x10, 0, 0, 0, 0x7ff00000, 0, 0x7ff00000, 0, 5, 0⟩
  | .clu => ⟨0x11, 0, 0, 0, 0x7ff00000, 0, 0x7ff00000, 0, 1, 2⟩
  | .hbm => ⟨0x12, 0x3040, 0x3040, 1, 0x7ff00001, 0, 1, 0, 0xf, 0⟩
  | .port => ⟨0x13, 0, 0, 0, 0x7ff00000, 0, 0x7ff00000, 0, 7, 0⟩
  | .uam => ⟨0x14, 0x10000100, 0x10000100, 0, 0x7ff00000, 0, 0x7ff00000, 0, 1, 0⟩
  | .pcie => ⟨0x15, 0, 0, 0, 0x7ff00000, 0, 0x7ff00000, 0, 7, 0⟩
  | .volt => ⟨0x16, 0, 0, 0, 0x7ff00000, 0, 0, 0, 3, 0⟩
  | .freq => ⟨0x17, 0, 0, 0, 0x7ff00000, 0, 0, 0, 7, 0⟩
  | .stin => ⟨0x18, 0, 0, 1, 0x7ff00000, 1, 1, 0, 3, 0⟩
  | .sens => ⟨0x19, 0, 0, 0, 0x7ff00000, 0, 0x7ff00000, 0, 7, 0⟩
  | .nrg => ⟨0x1a, 0, 0, 0, 0x7ff00000, 0, 0x7ff00000, 0, 1, 0⟩
  | .tile => ⟨0x20, 0, 0, 0, 0x7ff00000, 0, 0x7ff00000, 0, 1, 2⟩
  | .seq => ⟨0x21, 0x800f00fe, 0x800f03e0, 0, 0x7ff00000, 0, 0, 0, 0x3f, 0⟩
  | .arr => ⟨0x22, 0x30fff, 0x30fff, 0, 0x7ff00000, 0, 0, 0, 0x1f, 0⟩
  | .vec => ⟨0x23, 0x2080280, 0x2080100, 0, 0x7ff00000, 0, 0, 0, 0x3f, 0⟩
  | .spd => ⟨0x24, 0x1000, 0x2000, 4, 0x7ff00007, 0, 7, 2, 0x1f, 0⟩
  | .rtr => ⟨0x25, 0x1000868, 0x1000868, 0, 0x7ff00000, 0, 0, 0xf, 0x1f, 0⟩
  | .slate => ⟨0x26, 0, 0, 0, 0x7ff00000, 0, 0x7ff00000, 0, 0x1ffff, 0⟩
  | .gath => ⟨0x27, 0, 0, 0, 0x7ff00001, 0, 0, 0, 0x1f, 0⟩
  | .perf => ⟨0x28, 0x1304, 0x1304, 0, 0x7ff00001, 0, 1, 0, 1, 0⟩

/-- The registers of the DEV page from offset 0x040 (01 R20, 02 R46, 02 R53, 11 R295, 13 R355). -/
def regsDev : List RegDef :=
  [⟨0x40, 1, 0, 0, 0, 0, 0, 0, 0, 0, 0⟩, -- GOOD_TILES
   ⟨0x44, 1, 0, 0, 0, 0, 0, 0, 0, 0, 0⟩, -- RATING
   ⟨0x48, 1, 0, 0, 0, 0, 0, 0, 0, 0, 0⟩, -- SHORT_MASK
   ⟨0x4c, 1, 0, 0, 0, 0, 0, 0, 0, 0, 0⟩, -- FENCE_MASK
   ⟨0x50, 1, 0, 0, 0, 0, 0, 0, 0, 0, 0⟩, -- ERR_ADDR
   ⟨0x54, 1, 0, 0, 0, 0, 0, 0, 0xfff, 0, 0⟩, -- STAGE_FAULTED
   ⟨0x58, 1, 0, 0, 0, 0, 0, 0, 0, 0, 0⟩, -- HBM_FAIL
   ⟨0x5c, 1, 0, 0, 0, 0, 0, 0, 0, 0, 0⟩] -- MGMT_ERR

/-- The registers of the OPT page from offset 0x040 (16 R438). -/
def regsOpt : List RegDef :=
  [⟨0x40, 0x10, 4, 0, 0, 0, 0, 0, 0, 0, 0⟩] -- ACTIVE[n]

/-- The registers of the KEEP page from offset 0x040 (16 R438). -/
def regsKeep : List RegDef :=
  [⟨0x40, 1, 0, 0, 0, 0xff, 0, 0, 0, 0, 0xff⟩, -- SEL
   ⟨0x44, 1, 0, 0, 0, 0, 0, 0xffffffff, 0, 0, 0xffffffff⟩, -- DATA
   ⟨0x48, 1, 0, 0, 0, 0, 0, 0, 0, 0, 0⟩, -- WEAR
   ⟨0x4c, 1, 0, 0, 0, 0, 0, 0, 0, 0, 0⟩] -- REFUSED

/-- The registers of the RST page from offset 0x040 (16 R438). -/
def regsRst : List RegDef :=
  [⟨0x40, 1, 0, 0, 0, 0, 0, 0, 0, 0xff000003, 0⟩, -- CMD
   ⟨0x44, 1, 0, 0, 0, 0, 0, 0, 0, 0, 0⟩, -- LAST_CAUSE
   ⟨0x48, 1, 0, 0, 0, 0, 0, 0, 0, 0, 0⟩, -- BOOT_FAIL
   ⟨0x4c, 1, 0, 0, 0, 0, 0, 0, 0, 0, 0⟩, -- BOOT_MS
   ⟨0x50, 8, 4, 0, 0, 0, 0, 0, 0, 0, 0⟩, -- VB_COUNT[n]
   ⟨0x70, 1, 0, 0, 0, 0, 0, 0, 0, 1, 0⟩] -- VB_CLEAR

/-- The registers of the CLK page from offset 0x040 (15 R410). -/
def regsClk : List RegDef :=
  [⟨0x40, 1, 0, 0, 0, 0, 0, 0, 0, 0, 0⟩] -- REFCLK_LOSS

/-- The registers of the TIME page from offset 0x040 (15 R410). -/
def regsTime : List RegDef :=
  [⟨0x40, 1, 0, 0, 0, 0, 0, 0, 0, 0, 0⟩, -- REEL_LO
   ⟨0x44, 1, 0, 0, 0, 0, 0, 0, 0, 0, 0⟩, -- REEL_HI
   ⟨0x48, 1, 0, 0, 0, 0, 0, 0, 0, 0, 0⟩, -- OFFSET
   ⟨0x4c, 1, 0, 0, 0, 0, 0, 0, 0, 0, 0⟩, -- ADJ
   ⟨0x50, 1, 0, 0, 0, 0, 0xffff, 0, 0, 0, 0xffff⟩, -- PTP_PORTS
   ⟨0x54, 1, 0, 0, 0, 0, 0xffff00ff, 0, 0, 0, 0xffff00ff⟩, -- PTP_CFG
   ⟨0x58, 1, 0, 0, 0, 0, 0xffff, 0, 0, 0, 0xffff⟩, -- PPS_CFG
   ⟨0x5c, 1, 0, 0, 0, 0, 0, 0, 0, 1, 0⟩, -- CNT_CLEAR
   ⟨0x60, 1, 0, 0, 0, 0, 0, 0, 0, 0, 0⟩, -- PTP_DISCARD
   ⟨0x64, 1, 0, 0, 0, 0, 0, 0, 0, 0, 0⟩, -- PPS_BAD
   ⟨0x68, 1, 0, 0, 0, 0, 0, 0, 0, 0, 0⟩, -- TOD_ERR
   ⟨0x6c, 1, 0, 0, 0, 0, 0, 0, 0, 0, 0⟩] -- SWITCHES

/-- The registers of the PWR page from offset 0x040 (14 R384). -/
def regsPwr : List RegDef :=
  [⟨0x40, 1, 0, 0, 0, 0, 0, 0, 0, 0, 0⟩, -- POWER
   ⟨0x44, 1, 0, 0x1130, 0x1130, 0, 0x1fff, 0, 0, 0, 0x1fff⟩, -- HOST_CAP
   ⟨0x48, 1, 0, 0x1130, 0x1130, 0, 0, 0, 0, 0, 0⟩, -- BMC_CAP
   ⟨0x4c, 1, 0, 0x898, 0x898, 0, 0, 0x1fff, 0, 0, 0⟩, -- SAFE_CAP
   ⟨0x50, 1, 0, 0x898, 0x898, 0, 0x1fff, 0, 0, 0, 0x1fff⟩, -- ALERT_CAP
   ⟨0x54, 1, 0, 0x100, 0x100, 0, 0x8f000000, 0, 0, 0, 0x8f000000⟩, -- BALLAST
   ⟨0x58, 1, 0, 0, 0, 0, 0, 0, 0, 0, 0⟩, -- TRACK_ERR
   ⟨0x5c, 1, 0, 0, 0, 0, 0, 0, 0, 0, 0⟩, -- DITHER_HASH
   ⟨0x60, 1, 0, 0, 0, 0, 0, 0, 0, 0xc0000000, 0⟩, -- SNAP_CTRL
   ⟨0x64, 1, 0, 0, 0, 0, 0xffffffff, 0, 0, 0, 0⟩, -- WIN_START_LO
   ⟨0x68, 1, 0, 0, 0, 0, 0xffffffff, 0, 0, 0, 0⟩, -- WIN_START_HI
   ⟨0x6c, 1, 0, 0, 0, 0, 0xffffff, 0, 0, 0, 0⟩, -- WIN_LEN
   ⟨0x70, 1, 0, 0, 0, 0, 0, 0, 0, 0, 0⟩, -- SNAP_TIME_LO
   ⟨0x74, 1, 0, 0, 0, 0, 0, 0, 0, 0, 0⟩, -- SNAP_TIME_HI
   ⟨0x78, 1, 0, 0, 0, 0, 0, 0, 0, 0, 0⟩, -- NRG_LO
   ⟨0x7c, 1, 0, 0, 0, 0, 0, 0, 0, 0, 0⟩, -- NRG_HI
   ⟨0x80, 1, 0, 0, 0, 0, 0, 0, 0, 0, 0⟩, -- NRG_SNAP_LO
   ⟨0x84, 1, 0, 0, 0, 0, 0, 0, 0, 0, 0⟩, -- NRG_SNAP_HI
   ⟨0x88, 1, 0, 0, 0, 0, 0, 0, 0, 0, 0⟩, -- NRG_WIN_LO
   ⟨0x8c, 1, 0, 0, 0, 0, 0, 0, 0, 0, 0⟩, -- NRG_WIN_HI
   ⟨0x90, 1, 0, 0, 0, 0, 0, 0, 0, 0, 0⟩, -- NRG_UNATTR_LO
   ⟨0x94, 1, 0, 0, 0, 0, 0, 0, 0, 0, 0⟩, -- NRG_UNATTR_HI
   ⟨0xa0, 5, 0x10, 0, 0, 0, 0, 0, 0, 0, 0⟩, -- TC_NRG_LO[k]
   ⟨0xa4, 5, 0x10, 0, 0, 0, 0, 0, 0, 0, 0⟩, -- TC_NRG_HI[k]
   ⟨0xa8, 5, 0x10, 0, 0, 0, 0, 0, 0, 0, 0⟩, -- TC_SNAP_LO[k]
   ⟨0xac, 5, 0x10, 0, 0, 0, 0, 0, 0, 0, 0⟩, -- TC_SNAP_HI[k]
   ⟨0x100, 1, 0, 0, 0, 0, 0, 0, 0, 0, 0⟩, -- TELEM_MISS
   ⟨0x104, 1, 0, 0, 0, 0, 0, 0, 0, 0, 0⟩, -- TELEM_FIRST
   ⟨0x108, 1, 0, 0, 0, 0, 0, 0, 0, 0, 0⟩, -- LIMIT_EVENTS
   ⟨0x10c, 1, 0, 0, 0, 0, 0, 0, 0, 0, 0⟩, -- RN_HOLDS
   ⟨0x110, 1, 0, 0, 0, 0, 0, 0, 0, 0, 0⟩, -- RN_LATE
   ⟨0x114, 1, 0, 0, 0, 0, 0, 0, 0, 0, 0⟩, -- TRACK_WINDOWS
   ⟨0x118, 1, 0, 0, 0, 0, 0, 0, 0, 0, 0⟩, -- TRACK_MISS
   ⟨0x11c, 1, 0, 0, 0, 0, 0, 0, 0, 1, 0⟩, -- CNT_CLEAR
   ⟨0x180, 0x20, 4, 0, 0, 0, 0xffffffff, 0, 0, 0, 0xffffffff⟩, -- RAIL_WIN[n]
   ⟨0x200, 0x1a, 4, 0x14, 0x14, 0, 0xff, 0, 0, 0, 0xff⟩] -- RN_THRESH[n]

/-- The registers of the CUE page from offset 0x040 (14 R385). -/
def regsCue : List RegDef :=
  [⟨0x40, 1, 0, 0, 0, 0xffffffff, 0, 0, 0, 0, 0xffffffff⟩, -- TIME_LO
   ⟨0x44, 1, 0, 0, 0, 0xffffffff, 0, 0, 0, 0, 0xffffffff⟩, -- TIME_HI
   ⟨0x48, 1, 0, 0, 0, 0xdfff07ff, 0, 0, 0, 0, 0xdfff07ff⟩, -- TARGET
   ⟨0x4c, 1, 0, 0, 0, 0xffff, 0, 0, 0, 0, 0xffff⟩, -- DITHER
   ⟨0x50, 1, 0, 0, 0, 0, 0, 0, 0, 1, 0⟩, -- PUSH
   ⟨0x54, 1, 0, 0, 0, 0, 0, 0, 0, 1, 0⟩, -- FLUSH
   ⟨0x58, 1, 0, 0, 0, 0, 0, 0, 0, 0, 0⟩, -- NEXT_LO
   ⟨0x5c, 1, 0, 0, 0, 0, 0, 0, 0, 0, 0⟩, -- NEXT_HI
   ⟨0x60, 1, 0, 0x11301130, 0x11301130, 0, 0, 0, 0, 0, 0⟩, -- ACTIVE
   ⟨0x70, 1, 0, 0, 0, 0, 0, 0, 0, 0, 0⟩, -- PUSHED
   ⟨0x74, 1, 0, 0, 0, 0, 0, 0, 0, 0, 0⟩, -- COALESCED
   ⟨0x78, 1, 0, 0, 0, 0, 0, 0, 0, 0, 0⟩, -- REJECTED
   ⟨0x7c, 1, 0, 0, 0, 0, 0, 0, 0, 0, 0⟩, -- APPLIED
   ⟨0x80, 1, 0, 0, 0, 0, 0, 0, 0, 0, 0⟩, -- LATE
   ⟨0x84, 1, 0, 0, 0, 0, 0, 0, 0, 1, 0⟩] -- CNT_CLEAR

/-- The registers of the THERM page from offset 0x040 (14 R386). -/
def regsTherm : List RegDef :=
  [⟨0x40, 1, 0, 0x5f0, 0x5f0, 0, 0xffff, 0, 0, 0, 0xffff⟩, -- ALERT_C
   ⟨0x44, 1, 0, 0, 0, 0, 0, 0, 0, 0, 0⟩, -- HOT
   ⟨0x48, 1, 0, 0, 0, 0, 0, 0, 0, 0, 0⟩, -- THROTTLED
   ⟨0x50, 8, 4, 0, 0, 0, 0, 0, 0, 0, 0⟩, -- RIM_TEMP[n]
   ⟨0x70, 1, 0, 0, 0, 0, 0, 0, 0, 0, 0⟩] -- THROTTLE_EVENTS

/-- The registers of the RAS page from offset 0x040 (17 R470). -/
def regsRas : List RegDef :=
  [⟨0x40, 1, 0, 0x3e80008, 0x3e80008, 0, 0xffff001f, 0, 0, 0, 0xffff001f⟩, -- KA_CFG
   ⟨0x44, 1, 0, 0, 0, 0, 0, 0, 0, 0, 0⟩, -- SUSPECT
   ⟨0x48, 1, 0, 0, 0, 0, 0, 0, 0, 0xff00000f, 0⟩, -- FLAGS_CLR
   ⟨0x4c, 1, 0, 0, 0, 0xfff07ff, 0, 0, 0, 0xc0000000, 0⟩, -- TEST_CTRL
   ⟨0x50, 1, 0, 0, 0, 0, 0, 0, 0, 0, 0⟩, -- TEST_STATUS
   ⟨0x54, 1, 0, 0, 0, 0, 0, 0, 0, 0, 0⟩, -- TEST_FAIL0
   ⟨0x58, 1, 0, 0, 0, 0, 0, 0, 0, 0, 0⟩, -- TEST_FAIL1
   ⟨0x5c, 1, 0, 0, 0, 0, 0, 0, 0, 0, 0⟩, -- TEST_FAIL2
   ⟨0x60, 1, 0, 0xa, 0xa, 0, 0xffff, 0, 0, 0, 0xffff⟩, -- DIGEST_CFG
   ⟨0x64, 1, 0, 0, 0, 0, 0, 0, 0, 0, 0⟩, -- DIGEST_LO
   ⟨0x68, 1, 0, 0, 0, 0, 0, 0, 0, 0, 0⟩, -- DIGEST_HI
   ⟨0x6c, 1, 0, 0, 0, 0, 0, 0, 0, 0, 0⟩, -- DIGEST_TIME_LO
   ⟨0x70, 1, 0, 0, 0, 0, 0, 0, 0, 0, 0⟩, -- DIGEST_TIME_HI
   ⟨0x74, 1, 0, 0, 0, 0, 0, 0, 0, 0, 0⟩, -- AGED
   ⟨0x80, 1, 0, 0, 0, 0, 0, 0, 0, 0, 0⟩, -- KA_RUNS
   ⟨0x84, 1, 0, 0, 0, 0, 0, 0, 0, 0, 0⟩, -- KA_MISMATCH
   ⟨0x88, 1, 0, 0, 0, 0, 0, 0, 0, 0, 0⟩, -- KA_LATE
   ⟨0x8c, 1, 0, 0, 0, 0, 0, 0, 0, 0, 0⟩, -- TRANSIENT
   ⟨0x90, 1, 0, 0, 0, 0, 0, 0, 0, 0, 0⟩, -- CONFIRMED
   ⟨0x94, 1, 0, 0, 0, 0, 0, 0, 0, 0, 0⟩, -- PLAUS_CSUM
   ⟨0x98, 1, 0, 0, 0, 0, 0, 0, 0, 0, 0⟩, -- PLAUS_NANINF
   ⟨0x9c, 1, 0, 0, 0, 0, 0, 0, 0, 0, 0⟩, -- PLAUS_RANGE
   ⟨0xa0, 1, 0, 0, 0, 0, 0, 0, 0, 0, 0⟩, -- PLAUS_SPARSE
   ⟨0xa4, 1, 0, 0, 0, 0, 0, 0, 0, 0, 0⟩, -- PLAUS_LOST
   ⟨0xa8, 1, 0, 0, 0, 0, 0, 0, 0, 1, 0⟩] -- CNT_CLEAR

/-- The registers of the LOG page from offset 0x040 (17 R471). Which of its fields are lockable, where
R470 says 'control registers', is read page by page: every RW, RWS and RK field (02 R48, 17 R470; DEDUCED, log 11). -/
def regsLog : List RegDef :=
  [⟨0x40, 1, 0, 0, 0, 0, 0, 0, 0, 0, 0⟩, -- HEAD
   ⟨0x44, 1, 0, 0, 0, 0xffffffff, 0, 0, 0, 0, 0xffffffff⟩, -- RD_SEQ
   ⟨0x48, 8, 4, 0, 0, 0, 0, 0, 0, 0, 0⟩, -- DATA[n]
   ⟨0x68, 1, 0, 0, 0, 0, 0, 0, 0, 0, 0⟩, -- OVERWRITTEN
   ⟨0x6c, 1, 0, 0, 0, 0, 0, 0, 0, 0, 0⟩, -- DROPPED
   ⟨0x70, 1, 0, 0, 0, 0, 0, 0, 0, 1, 0⟩] -- CNT_CLEAR

/-- The registers of the CVE page from offset 0x040 (17 R472). Which of its fields are lockable, where
R470 says 'control registers', is read page by page: every RW, RWS and RK field (02 R48, 17 R470; DEDUCED, log 11). -/
def regsCve : List RegDef :=
  [⟨0x40, 1, 0, 0, 0, 0xffffffff, 0, 0, 0, 0, 0xffffffff⟩, -- POLY_LO
   ⟨0x44, 1, 0, 0, 0, 0xffffffff, 0, 0, 0, 0, 0xffffffff⟩, -- POLY_HI
   ⟨0x48, 1, 0, 0, 0, 0xffffffff, 0, 0, 0, 0, 0xffffffff⟩, -- INIT_LO
   ⟨0x4c, 1, 0, 0, 0, 0xffffffff, 0, 0, 0, 0, 0xffffffff⟩, -- INIT_HI
   ⟨0x50, 1, 0, 0, 0, 0xffffffff, 0, 0, 0, 0, 0xffffffff⟩, -- XOROUT_LO
   ⟨0x54, 1, 0, 0, 0, 0xffffffff, 0, 0, 0, 0, 0xffffffff⟩, -- XOROUT_HI
   ⟨0x58, 1, 0, 0x1f0000, 0x1f0000, 0xff3f07ff, 0, 0, 0, 0, 0xff3f07ff⟩, -- CFG
   ⟨0x5c, 1, 0, 0, 0, 0xffffffff, 0, 0, 0, 0, 0xffffffff⟩, -- START_LO
   ⟨0x60, 1, 0, 0, 0, 0xffffffff, 0, 0, 0, 0, 0xffffffff⟩, -- START_HI
   ⟨0x64, 1, 0, 0, 0, 0xffffffff, 0, 0, 0, 0, 0xffffffff⟩, -- STRIDE_LO
   ⟨0x68, 1, 0, 0, 0, 0xffffffff, 0, 0, 0, 0, 0xffffffff⟩, -- STRIDE_HI
   ⟨0x6c, 1, 0, 0, 0, 0x3f, 0, 0, 0, 0, 0x3f⟩, -- CTRL
   ⟨0x70, 1, 0, 0, 0, 0xffffffff, 0, 0, 0, 0, 0xffffffff⟩, -- BLOCKS_M1
   ⟨0x74, 1, 0, 0, 0, 0xffffffff, 0, 0, 0, 0, 0xffffffff⟩, -- SEQ_BASE
   ⟨0x78, 1, 0, 0, 0, 0, 0, 0, 0, 0xc0000000, 0⟩, -- CMD
   ⟨0x7c, 1, 0, 0, 0, 0, 0, 0, 0, 0, 0⟩, -- RESULT_LO
   ⟨0x80, 1, 0, 0, 0, 0, 0, 0, 0, 0, 0⟩, -- RESULT_HI
   ⟨0x84, 1, 0, 0, 0, 0, 0, 0, 0, 0, 0⟩, -- DONE_BLOCKS
   ⟨0x88, 1, 0, 0, 0, 0, 0, 0, 0, 0, 0⟩] -- POISON_AT

/-- The registers of the DAILY page from offset 0x040 (17 R471). Which of its fields are lockable, where
R470 says 'control registers', is read page by page: every RW, RWS and RK field (02 R48, 17 R470; DEDUCED, log 11). -/
def regsDaily : List RegDef :=
  [⟨0x40, 1, 0, 0, 0, 0x7f, 0, 0, 0, 0, 0x7f⟩, -- SEL
   ⟨0x44, 1, 0, 0, 0, 0, 0, 0, 0, 0, 0⟩, -- DATA_LO
   ⟨0x48, 1, 0, 0, 0, 0, 0, 0, 0, 0, 0⟩, -- DATA_HI
   ⟨0x4c, 1, 0, 0, 0, 0, 0, 0, 0, 1, 0⟩, -- SNAP
   ⟨0x50, 1, 0, 0, 0, 0, 0, 0, 0, 0, 0⟩, -- LAST_SNAP_LO
   ⟨0x54, 1, 0, 0, 0, 0, 0, 0, 0, 0, 0⟩] -- LAST_SNAP_HI

/-- The registers of the SEC page from offset 0x040 (17 R471). Which of its fields are lockable, where
R470 says 'control registers', is read page by page: every RW, RWS and RK field (02 R48, 17 R470; DEDUCED, log 11). -/
def regsSec : List RegDef :=
  [⟨0x40, 1, 0, 0, 0, 0xffffffff, 0, 0, 0, 0, 0xffffffff⟩, -- VALUE
   ⟨0x44, 1, 0, 0, 0, 0, 0, 0, 0, 0, 0⟩, -- NONCE_LO
   ⟨0x48, 1, 0, 0, 0, 0, 0, 0, 0, 0, 0⟩, -- NONCE_HI
   ⟨0x80, 0x18, 4, 0, 0, 0xffffffff, 0, 0, 0, 0, 0xffffffff⟩, -- SIG[n]
   ⟨0xe0, 1, 0, 0, 0, 0, 0, 0, 0, 1, 0⟩] -- CMD

/-- The registers of the MIRYN page from offset 0x040 (16 R438). -/
def regsMiryn : List RegDef :=
  [⟨0x40, 1, 0, 0, 0, 0, 0, 0, 0, 0, 0⟩, -- IMAGE
   ⟨0x44, 1, 0, 0, 0, 0x1fffffff, 0, 0, 0, 0x80000000, 0x1fffffff⟩, -- RECOV_CTRL
   ⟨0x48, 1, 0, 0, 0, 0, 0, 0, 0, 0xffffffff, 0⟩] -- RECOV_DATA

/-- The registers of the STAGE page from offset 0x040 (01 R27, 07 R192, 08 R211, 10 R268, 11 R295, 12 R334, 13 R349, 14 R387, 16 R440, 17 R473). -/
def regsStage : List RegDef :=
  [⟨0x40, 1, 0, 0, 0, 0, 0x80003377, 0, 0, 0, 0x80003377⟩, -- RECT
   ⟨0x44, 1, 0, 0, 0, 0, 0, 0, 0, 0xf0000000, 0⟩, -- RUNSTATE
   ⟨0x48, 1, 0, 0, 0, 0, 0xffff, 0, 0, 0, 0xffff⟩, -- PORT_MASK
   ⟨0x4c, 1, 0, 0x64, 0x64, 0xffff, 0, 0, 0, 0, 0xffff⟩, -- WRAP_TIMEOUT
   ⟨0x60, 1, 0, 0, 0, 0, 0xfffff, 0, 0, 0, 0xfffff⟩, -- OUT_BASE
   ⟨0x64, 1, 0, 0x40, 0x40, 0, 0xfffff, 0, 0, 0, 0xfffff⟩, -- OUT_SIZE
   ⟨0x68, 1, 0, 0, 0, 0, 0, 0, 0, 0, 0⟩, -- OUT_USED
   ⟨0x6c, 1, 0, 0, 0, 0, 0, 0, 0, 0, 0⟩, -- DL_STATUS
   ⟨0x70, 1, 0, 0, 0, 0, 0, 0, 0, 0, 0⟩, -- DL_CYCLES
   ⟨0x74, 1, 0, 0, 0, 0, 0, 0, 0, 0, 0⟩, -- DL_NOCYCLE
   ⟨0x78, 1, 0, 0, 0, 0, 0, 0, 0, 0, 0⟩, -- SPILL_RECORDS
   ⟨0x80, 1, 0, 0, 0, 0, 0x7ff03ff, 0, 0, 0, 0x7ff03ff⟩, -- RSL_RANGE
   ⟨0x84, 1, 0, 0, 0, 0x3ff, 0, 0, 0, 0, 0x3ff⟩, -- RSL_SEL
   ⟨0x88, 1, 0, 0, 0, 0xffffffff, 0, 0, 0, 0, 0xffffffff⟩, -- RSL_COUNT
   ⟨0x8c, 1, 0, 1, 1, 0xffffffff, 0, 0, 0, 0, 0xffffffff⟩, -- RSL_THRESH
   ⟨0x90, 1, 0, 0, 0, 0xffff01f0, 0, 0, 0, 0, 0xffff01f0⟩, -- RSL_CTRL
   ⟨0xa0, 1, 0, 0, 0, 0, 0, 0, 0, 0, 0⟩, -- SCOUT_LISTS
   ⟨0xa4, 1, 0, 0, 0, 0, 0, 0, 0, 0, 0⟩, -- SCOUT_OVERFLOW
   ⟨0xa8, 1, 0, 0, 0, 0, 0, 0, 0, 0, 0⟩, -- SCOUT_BAD
   ⟨0xac, 1, 0, 0, 0, 0, 0, 0, 0, 0, 0⟩, -- SCOUT_PAD
   ⟨0xb0, 1, 0, 0, 0, 0, 0, 0, 0, 1, 0⟩, -- SCOUT_CLEAR
   ⟨0xc0, 1, 0, 0x11, 0x11, 0, 0xff, 0, 0, 0, 0xff⟩, -- RIM_WEIGHT
   ⟨0xc4, 1, 0, 0, 0, 0, 0, 0, 0, 0, 0⟩, -- RIM_DROP
   ⟨0xd0, 1, 0, 0, 0, 0, 0x1ff00ff, 0, 0, 0, 0x1ff00ff⟩, -- FETCH_RANGE
   ⟨0xd4, 1, 0, 0, 0, 0, 0xffffff00, 0, 0, 0, 0xffffffff⟩, -- FETCH_TABLE_LO
   ⟨0xd8, 1, 0, 0, 0, 0, 0xffffffff, 0, 0, 0, 0xffffffff⟩, -- FETCH_TABLE_HI
   ⟨0xdc, 1, 0, 0, 0, 0, 0, 0, 0, 0, 0⟩, -- POISON_AT
   ⟨0xe0, 1, 0, 0, 0, 0, 0, 0, 0, 0x80000000, 0⟩, -- POISON_CONSUMED
   ⟨0x100, 1, 0, 0, 0, 0, 0x1fff0fff, 0, 0, 0, 0x1fff0fff⟩, -- CTX_RANGE
   ⟨0x104, 1, 0, 0, 0, 0, 0x1ff00ff, 0, 0, 0, 0x1ff00ff⟩, -- RING_RANGE
   ⟨0x108, 1, 0, 0, 0, 0xc0000fff, 0, 0, 0, 0, 0xc0000fff⟩, -- UCFG_SEL
   ⟨0x10c, 1, 0, 0, 0, 0, 0, 0, 0, 0xf0000000, 0⟩, -- UCFG_CMD
   ⟨0x110, 1, 0, 0, 0, 0, 0x80f00fff, 0, 0, 0, 0x80f00fff⟩, -- MIRROR_CTRL
   ⟨0x114, 1, 0, 0, 0, 0, 0xfffff000, 0, 0, 0, 0xffffffff⟩, -- MIRROR_MAP_LO
   ⟨0x118, 1, 0, 0, 0, 0, 0xffffffff, 0, 0, 0, 0xffffffff⟩, -- MIRROR_MAP_HI
   ⟨0x11c, 1, 0, 0, 0, 0, 0, 0, 0, 0xffffffff, 0⟩, -- MIRROR_MARK
   ⟨0x120, 1, 0, 0, 0, 0, 0, 0, 0, 0, 0⟩, -- MARK_DONE
   ⟨0x124, 1, 0, 0, 0, 0, 0, 0, 0, 0, 0⟩, -- MIRROR_STAT
   ⟨0x140, 0x10, 4, 0, 0, 0xffffffff, 0, 0, 0, 0, 0xffffffff⟩, -- UCFG_DATA[n]
   ⟨0x180, 1, 0, 0, 0, 0, 0, 0, 0, 0, 0⟩] ++ -- TX_MSGS
  [⟨0x184, 1, 0, 0, 0, 0, 0, 0, 0, 0, 0⟩, -- RX_MSGS
   ⟨0x188, 1, 0, 0, 0, 0, 0, 0, 0, 0, 0⟩, -- MSG_FAILS
   ⟨0x18c, 1, 0, 0, 0, 0, 0, 0, 0, 0, 0⟩, -- RETX
   ⟨0x190, 1, 0, 0, 0, 0, 0, 0, 0, 0, 0⟩, -- RX_TRUNC
   ⟨0x194, 1, 0, 0, 0, 0, 0, 0, 0, 0, 0⟩, -- RX_DROP
   ⟨0x198, 1, 0, 0, 0, 0, 0, 0, 0, 0, 0⟩, -- WIN_SERVED
   ⟨0x19c, 1, 0, 0, 0, 0, 0, 0, 0, 0, 0⟩, -- WIN_REFUSED
   ⟨0x1a0, 1, 0, 0, 0, 0, 0, 0, 0, 0, 0⟩, -- UAM_REFUSED
   ⟨0x1a4, 1, 0, 0, 0, 0, 0, 0, 0, 1, 0⟩, -- UAM_CLEAR
   ⟨0x1c0, 1, 0, 0, 0, 0x1ff, 0, 0, 0, 0, 0x1ff⟩, -- BAR2_BASE
   ⟨0x1c4, 1, 0, 0, 0, 0, 0, 0, 0, 0x80000000, 0⟩, -- BAR2_ERR
   ⟨0x1c8, 1, 0, 0, 0, 0, 0, 0, 0, 0x80000000, 0⟩, -- DMA_ERR
   ⟨0x200, 1, 0, 0x1130, 0x1130, 0, 0x1fff, 0, 0, 0, 0x1fff⟩, -- PWR_CAP
   ⟨0x208, 1, 0, 0, 0, 0, 0, 0, 0, 0, 0⟩, -- NRG_LO
   ⟨0x20c, 1, 0, 0, 0, 0, 0, 0, 0, 0, 0⟩, -- NRG_HI
   ⟨0x210, 1, 0, 0, 0, 0, 0, 0, 0, 0, 0⟩, -- NRG_SNAP_LO
   ⟨0x214, 1, 0, 0, 0, 0, 0, 0, 0, 0, 0⟩, -- NRG_SNAP_HI
   ⟨0x218, 1, 0, 0, 0, 0, 0, 0, 0, 0, 0⟩, -- NRG_WIN_LO
   ⟨0x21c, 1, 0, 0, 0, 0, 0, 0, 0, 0, 0⟩, -- NRG_WIN_HI
   ⟨0x220, 1, 0, 0x100, 0x100, 0, 0, 0, 0, 0, 0⟩, -- GATE
   ⟨0x240, 1, 0, 0, 0, 0, 0xffffffc0, 0, 0, 0, 0xffffffff⟩, -- SHEET_LO
   ⟨0x244, 1, 0, 0, 0, 0, 0xffffffff, 0, 0, 0, 0xffffffff⟩, -- SHEET_HI
   ⟨0x248, 1, 0, 0, 0, 0, 0, 0, 0, 0, 0⟩, -- SHEET_STAT
   ⟨0x280, 1, 0, 0, 0, 0, 0, 0, 0, 1, 0⟩, -- STEP_MARK
   ⟨0x284, 1, 0, 0, 0, 0, 0, 0, 0, 0, 0⟩] -- STEPS

/-- The registers of the CLU page from offset 0x040 (01 R20, 01 R21, 02 R50). -/
def regsClu : List RegDef :=
  [⟨0x40, 1, 0, 0, 0, 0, 0, 0, 0, 0, 0⟩, -- TILE_MAP0
   ⟨0x44, 1, 0, 0, 0, 0, 0, 0, 0, 0, 0⟩, -- TILE_MAP1
   ⟨0x48, 1, 0, 0, 0, 0, 0, 0, 0, 0, 0⟩, -- TILE_MAP2
   ⟨0x4c, 1, 0, 0, 0, 0, 0, 0, 0, 0, 0⟩, -- TILE_COUNT
   ⟨0x50, 1, 0, 0, 0, 0, 0, 0, 0, 0, 0⟩, -- TILE_PEND0
   ⟨0x54, 1, 0, 0, 0, 0, 0, 0, 0, 0, 0⟩, -- TILE_PEND1
   ⟨0x58, 1, 0, 0, 0, 0, 0, 0, 0, 0, 0⟩] -- TILE_PEND2

/-- The registers of the HBM page from offset 0x040 (11 R293). -/
def regsHbm : List RegDef :=
  [⟨0x40, 1, 0, 0x18, 0x18, 0xffff, 0, 0, 0, 0, 0xffff⟩, -- SCRUB_HOURS
   ⟨0x44, 1, 0, 0, 0, 0, 0, 0, 0, 0, 0⟩, -- UNCORR_ADDR_LO
   ⟨0x48, 1, 0, 0, 0, 0, 0, 0, 0, 0, 0⟩, -- UNCORR_ADDR_HI
   ⟨0x4c, 1, 0, 0, 0, 0, 0, 0, 0, 1, 0⟩, -- CNT_CLEAR
   ⟨0x50, 1, 0, 0, 0, 0, 0, 0, 0, 0, 0⟩, -- CORR
   ⟨0x54, 1, 0, 0, 0, 0, 0, 0, 0, 0, 0⟩, -- UNCORR
   ⟨0x58, 1, 0, 0, 0, 0, 0, 0, 0, 0, 0⟩, -- STACK_CORR
   ⟨0x5c, 1, 0, 0, 0, 0, 0, 0, 0, 0, 0⟩, -- POISON_BURSTS
   ⟨0x60, 1, 0, 0, 0, 0, 0, 0, 0, 0, 0⟩, -- ADDS
   ⟨0x64, 1, 0, 0, 0, 0, 0, 0, 0, 0, 0⟩] -- ADDR_ERR

/-- The registers of the PORT page from offset 0x040 (12 R336, 12 R337). -/
def regsPort : List RegDef :=
  [⟨0x40, 1, 0, 0x12000000, 0x12000000, 0xfe000000, 0, 0, 0, 0, 0xfe000000⟩, -- CFG
   ⟨0x44, 1, 0, 0, 0, 0xffffffff, 0, 0, 0, 0, 0xffffffff⟩, -- MAC_LO
   ⟨0x48, 1, 0, 0, 0, 0xffff, 0, 0, 0, 0, 0xffff⟩, -- MAC_HI
   ⟨0x4c, 1, 0, 0, 0, 0xffffffff, 0, 0, 0, 0, 0xffffffff⟩, -- IPV4
   ⟨0x50, 4, 4, 0, 0, 0xffffffff, 0, 0, 0, 0, 0xffffffff⟩, -- IPV6[n]
   ⟨0x60, 1, 0, 0xb8b5, 0xb8b5, 0xffff, 0, 0, 0, 0, 0xffff⟩, -- UDP
   ⟨0x64, 1, 0, 0x11111111, 0x11111111, 0xffffffff, 0, 0, 0, 0, 0xffffffff⟩, -- STAGE_WEIGHT0
   ⟨0x68, 1, 0, 0x1111, 0x1111, 0xffff, 0, 0, 0, 0, 0xffff⟩, -- STAGE_WEIGHT1
   ⟨0x6c, 1, 0, 0, 0, 0xffffffff, 0, 0, 0, 0, 0xffffffff⟩, -- TS_ADJ
   ⟨0x70, 1, 0, 0, 0, 0, 0, 0, 0, 1, 0⟩, -- CNT_CLEAR
   ⟨0x80, 1, 0, 0, 0, 0, 0, 0, 0, 0, 0⟩, -- TX_FRAMES
   ⟨0x84, 1, 0, 0, 0, 0, 0, 0, 0, 0, 0⟩, -- RX_FRAMES
   ⟨0x88, 1, 0, 0, 0, 0, 0, 0, 0, 0, 0⟩, -- RX_FCS
   ⟨0x8c, 1, 0, 0, 0, 0, 0, 0, 0, 0, 0⟩, -- RX_CORRUPT
   ⟨0x90, 1, 0, 0, 0, 0, 0, 0, 0, 0, 0⟩, -- RX_NOCTX
   ⟨0x94, 1, 0, 0, 0, 0, 0, 0, 0, 0, 0⟩, -- RX_OTHER
   ⟨0x98, 1, 0, 0, 0, 0, 0, 0, 0, 0, 0⟩, -- RX_QFULL
   ⟨0x9c, 1, 0, 0, 0, 0, 0, 0, 0, 0, 0⟩, -- FEC_CORR
   ⟨0xa0, 1, 0, 0, 0, 0, 0, 0, 0, 0, 0⟩, -- FEC_UNCORR
   ⟨0xa4, 1, 0, 0, 0, 0, 0, 0, 0, 0, 0⟩, -- PTP_RX
   ⟨0xa8, 1, 0, 0, 0, 0, 0, 0, 0, 0, 0⟩] -- LINK_DOWN

/-- The registers of the UAM page from offset 0x040 (12 R338). -/
def regsUam : List RegDef :=
  [⟨0x40, 1, 0, 0, 0, 0, 0, 0, 0, 0, 0⟩, -- TX_TABLE
   ⟨0x44, 1, 0, 0, 0, 0, 0, 0, 0, 0, 0⟩] -- RX_TABLE

/-- The registers of the PCIE page from offset 0x040 (13 R348). -/
def regsPcie : List RegDef :=
  [⟨0x40, 1, 0, 0, 0, 0x8000000f, 0, 0, 0, 0, 0x8000000f⟩, -- BAR2_SEL
   ⟨0x44, 1, 0, 0, 0, 0x1ff, 0, 0, 0, 0, 0x1ff⟩, -- BAR2_BASE
   ⟨0x48, 1, 0, 0, 0, 0, 0, 0, 0, 1, 0⟩, -- CNT_CLEAR
   ⟨0x4c, 1, 0, 0, 0, 0, 0, 0, 0, 0, 0⟩, -- BAR2_ERR
   ⟨0x50, 1, 0, 0, 0, 0, 0, 0, 0, 0, 0⟩] -- POISON_TX

/-- The registers of the VOLT page from offset 0x040 (15 R410). -/
def regsVolt : List RegDef :=
  [⟨0x40, 1, 0, 0, 0, 0, 0, 0x3f, 0, 0, 0x3f⟩, -- AGE_MV
   ⟨0x44, 1, 0, 0, 0, 0, 0, 0, 0, 0, 0⟩, -- FMAX_MHZ
   ⟨0x48, 1, 0, 0, 0, 0x3f, 0, 0, 0, 0, 0⟩, -- PLAN_SEL
   ⟨0x4c, 1, 0, 0, 0, 0, 0, 0, 0, 0, 0⟩, -- PLAN_MV
   ⟨0x50, 1, 0, 0, 0, 0, 0, 0, 0, 0, 0⟩] -- DRIFT_PS

/-- The registers of the FREQ page from offset 0x040 (15 R410). -/
def regsFreq : List RegDef :=
  [⟨0x40, 1, 0, 0x44c, 0x44c, 0, 0x7ff, 0, 0, 0, 0x7ff⟩, -- REQ_MHZ
   ⟨0x44, 1, 0, 0, 0, 0, 0, 0, 0, 0, 0⟩, -- CUR
   ⟨0x48, 1, 0, 0, 0, 0, 0, 0, 0, 0, 0⟩, -- LAST_STOP
   ⟨0x4c, 1, 0, 0, 0, 0, 0, 0, 0, 1, 0⟩, -- CNT_CLEAR
   ⟨0x50, 1, 0, 0, 0, 0, 0, 0, 0, 0, 0⟩, -- CHANGES
   ⟨0x54, 1, 0, 0, 0, 0, 0, 0, 0, 0, 0⟩] -- ABANDONED

/-- The registers of the STIN page from offset 0x040 (15 R410). -/
def regsStin : List RegDef :=
  [⟨0x40, 8, 4, 0, 0, 0, 0, 0, 0, 0, 0⟩, -- SLACK[n]
   ⟨0x60, 1, 0, 0x1e0014, 0x1e0014, 0, 0xffffffff, 0, 0, 0, 0xffffffff⟩, -- WARN
   ⟨0x64, 1, 0, 0x40000100, 0x40000100, 0, 0xc000ffff, 0, 0, 0, 0xc000ffff⟩, -- STRETCH
   ⟨0x68, 1, 0, 0, 0, 0, 0, 0, 0, 1, 0⟩, -- CNT_CLEAR
   ⟨0x70, 1, 0, 0, 0, 0, 0, 0, 0, 0, 0⟩, -- STRETCH_EVENTS
   ⟨0x74, 1, 0, 0, 0, 0, 0, 0, 0, 0, 0⟩, -- STRETCH_CYCLES
   ⟨0x78, 1, 0, 0, 0, 0, 0, 0, 0, 0, 0⟩, -- SLACK_WARN
   ⟨0x7c, 1, 0, 0, 0, 0, 0, 0, 0, 0, 0⟩] -- CLOCK_WARN

/-- The registers of the SENS page from offset 0x040 (14 R386). -/
def regsSens : List RegDef :=
  [⟨0x40, 4, 4, 0, 0, 0, 0, 0, 0, 0, 0⟩, -- TEMP[n]
   ⟨0x50, 1, 0, 0, 0, 0, 0, 0, 0, 0, 0⟩] -- SENSOR_BAD

/-- The registers of the NRG page from offset 0x040 (14 R386). Its chapter names lockable registers, none of them here: R48's 'the chapter
names none' is read page by page, so every RW, RWS and RK field of the page is lockable (02 R48; DEDUCED, log 11). -/
def regsNrg : List RegDef :=
  [⟨0x40, 1, 0, 0xfa, 0xfa, 0, 0xff, 0, 0, 0, 0xff⟩, -- CAP_W
   ⟨0x44, 1, 0, 0, 0, 0, 0, 0, 0, 0, 0⟩, -- POWER
   ⟨0x48, 1, 0, 0x1000, 0x1000, 0, 0, 0, 0, 0, 0⟩, -- GAIN
   ⟨0x4c, 1, 0, 0, 0, 0, 0, 0, 0, 0, 0⟩, -- OFFSET
   ⟨0x50, 1, 0, 0, 0, 0, 0, 0, 0, 0, 0⟩, -- NRG_LO
   ⟨0x54, 1, 0, 0, 0, 0, 0, 0, 0, 0, 0⟩, -- NRG_HI
   ⟨0x58, 1, 0, 0, 0, 0, 0, 0, 0, 0, 0⟩, -- NRG_SNAP_LO
   ⟨0x5c, 1, 0, 0, 0, 0, 0, 0, 0, 0, 0⟩, -- NRG_SNAP_HI
   ⟨0x60, 1, 0, 0, 0, 0, 0, 0, 0, 0, 0⟩, -- NRG_WIN_LO
   ⟨0x64, 1, 0, 0, 0, 0, 0, 0, 0, 0, 0⟩, -- NRG_WIN_HI
   ⟨0x68, 1, 0, 0, 0, 0, 0, 0, 0, 0, 0⟩] -- TELEM_MISS

/-- The registers of the TILE page from offset 0x040 (02 R50, 11 R296, 15 R411, 16 R439). -/
def regsTile : List RegDef :=
  [⟨0x40, 1, 0, 0, 0, 0, 0, 0, 0, 0, 0⟩, -- PAGE_PEND
   ⟨0x60, 1, 0, 0, 0, 0x3ffff, 0, 0, 0, 0, 0x3ffff⟩, -- FETCH_SRC
   ⟨0x64, 1, 0, 0, 0, 0x1ff, 0, 0, 0, 0x80000000, 0x1ff⟩, -- FETCH_CMD
   ⟨0x70, 1, 0, 0, 0, 0, 0, 0, 0, 0, 0⟩, -- REEL_LO
   ⟨0x74, 1, 0, 0, 0, 0, 0, 0, 0, 0, 0⟩, -- REEL_HI
   ⟨0x80, 1, 0, 0, 0, 0, 0, 0, 0, 0xff000003, 0⟩] -- RESET

/-- The registers of the SEQ page from offset 0x040 (07 R188, 07 R189). -/
def regsSeq : List RegDef :=
  [⟨0x40, 1, 0, 0, 0, 0, 0, 0, 0, 0x1fff, 0⟩, -- SHOT_START
   ⟨0x44, 1, 0, 0x10000, 0x10000, 0xffffff, 0, 0, 0, 0, 0xffffff⟩, -- STALL_LIMIT
   ⟨0x48, 1, 0, 0, 0, 0, 0, 0, 0, 0, 0⟩, -- PRED
   ⟨0x4c, 1, 0, 0x10000000, 0x10000000, 0xffffffff, 0, 0, 0, 0, 0xffffffff⟩, -- CORE_ENTRY0
   ⟨0x50, 1, 0, 0x10000000, 0x10000000, 0xffffffff, 0, 0, 0, 0, 0xffffffff⟩, -- CORE_ENTRY1
   ⟨0x54, 1, 0, 0, 0, 0, 0, 0, 0, 0, 0⟩, -- HALT_INFO
   ⟨0x58, 1, 0, 0, 0, 0, 0, 0, 0, 0, 0⟩, -- TRACK
   ⟨0x5c, 1, 0, 0, 0, 0, 0, 0, 0, 1, 0⟩, -- CNT_CLEAR
   ⟨0x60, 0xf, 4, 0, 0, 0xffff, 0, 0, 0, 0, 0xffff⟩, -- CH_CFG[n]
   ⟨0xa0, 0xf, 4, 0, 0, 0, 0, 0, 0, 0, 0⟩, -- CH_STATE[n]
   ⟨0xe0, 1, 0, 0, 0, 0, 0, 0, 0, 0, 0⟩, -- STALL_TRACK
   ⟨0xe4, 1, 0, 0, 0, 0, 0, 0, 0, 0, 0⟩, -- STALL_CREDIT
   ⟨0xe8, 1, 0, 0, 0, 0, 0, 0, 0, 0, 0⟩, -- PROBES
   ⟨0xec, 1, 0, 0, 0, 0, 0, 0, 0, 0, 0⟩, -- VOID_STEPS
   ⟨0xf0, 1, 0, 0, 0, 0, 0, 0, 0, 0, 0⟩, -- XFER_ERR
   ⟨0xf4, 1, 0, 0, 0, 0, 0, 0, 0, 0, 0⟩, -- LEN_MISMATCH
   ⟨0xf8, 1, 0, 0, 0, 0, 0, 0, 0, 0, 0⟩] -- DUP_DROP

/-- The registers of the ARR page from offset 0x040 (03 R86, 08 R217). -/
def regsArr : List RegDef :=
  [⟨0x40, 1, 0, 0, 0, 0, 0, 0, 0, 0, 0⟩, -- ROWS_LO
   ⟨0x44, 1, 0, 0, 0, 0, 0, 0, 0, 0, 0⟩, -- ROWS_HI
   ⟨0x48, 1, 0, 0, 0, 0, 0, 0, 0, 0, 0⟩, -- INSTR
   ⟨0x4c, 1, 0, 0, 0, 0, 0, 0, 0, 0, 0⟩, -- STALL_WEIGHT
   ⟨0x50, 1, 0, 0, 0, 0, 0, 0, 0, 0, 0⟩, -- STALL_ACT
   ⟨0x54, 1, 0, 0, 0, 0, 0, 0, 0, 0, 0⟩, -- STALL_ACC
   ⟨0x58, 1, 0, 0, 0, 0, 0, 0, 0, 0, 0⟩, -- INT_WRAP
   ⟨0x5c, 1, 0, 0, 0, 0, 0, 0, 0, 0, 0⟩, -- POISON_ROWS
   ⟨0x60, 1, 0, 0, 0, 0, 0, 0, 0, 0, 0⟩, -- HALT_INFO
   ⟨0x64, 1, 0, 0, 0, 0, 0, 0, 0, 1, 0⟩, -- CNT_CLEAR
   ⟨0x68, 1, 0, 0, 0, 0, 0, 0, 0, 0, 0⟩, -- SPARSE_DROP
   ⟨0x6c, 1, 0, 0, 0, 1, 0, 0, 0, 2, 1⟩, -- SPARSE_CTRL
   ⟨0x70, 1, 0, 0, 0, 0, 0, 0, 0, 0, 0⟩] -- SPARSE_FIRST

/-- The registers of the VEC page from offset 0x040 (05 R138, 05 R139). -/
def regsVec : List RegDef :=
  [⟨0x40, 1, 0, 0x15, 0x15, 0x3f, 0, 0, 0, 0, 0x3f⟩, -- GUARD_CTRL
   ⟨0x44, 1, 0, 0x1000, 0x1000, 0xffff, 0, 0, 0, 0, 0xffff⟩, -- CSUM_TOL
   ⟨0x48, 1, 0, 1, 1, 0xffffffff, 0, 0, 0, 0, 0xffffffff⟩, -- LFSR_SEED_LO
   ⟨0x4c, 1, 0, 0, 0, 0xffffffff, 0, 0, 0, 0, 0xffffffff⟩, -- LFSR_SEED_HI
   ⟨0x50, 1, 0, 1, 1, 0, 0, 0, 0, 0, 0⟩, -- LFSR_STATE_LO
   ⟨0x54, 1, 0, 0, 0, 0, 0, 0, 0, 0, 0⟩, -- LFSR_STATE_HI
   ⟨0x58, 1, 0, 0, 0, 0, 0, 0, 0, 0, 0⟩, -- HALT_INFO
   ⟨0x5c, 1, 0, 0, 0, 0, 0, 0, 0, 0, 0⟩, -- GUARD_FIRST
   ⟨0x60, 1, 0, 0, 0, 0, 0, 0, 0, 1, 0⟩, -- CNT_CLEAR
   ⟨0x64, 1, 0, 0, 0, 0, 0, 0, 0, 0, 0⟩, -- ROWS
   ⟨0x68, 1, 0, 0, 0, 0, 0, 0, 0, 0, 0⟩, -- STALL_IN
   ⟨0x6c, 1, 0, 0, 0, 0, 0, 0, 0, 0, 0⟩, -- STALL_OUT
   ⟨0x70, 1, 0, 0, 0, 0, 0, 0, 0, 0, 0⟩, -- STALL_SUM
   ⟨0x74, 1, 0, 0, 0, 0, 0, 0, 0, 0, 0⟩, -- GUARD_RANGE
   ⟨0x78, 1, 0, 0, 0, 0, 0, 0, 0, 0, 0⟩, -- GUARD_NANINF
   ⟨0x7c, 1, 0, 0, 0, 0, 0, 0, 0, 0, 0⟩, -- GUARD_CSUM
   ⟨0x80, 1, 0, 0, 0, 0, 0, 0, 0, 0, 0⟩, -- CSUM_SKIP
   ⟨0x84, 1, 0, 0, 0, 0, 0, 0, 0, 0, 0⟩, -- CVT_REPLACED
   ⟨0x88, 1, 0, 0, 0, 0, 0, 0, 0, 0, 0⟩, -- SLICE_LOST
   ⟨0x8c, 1, 0, 0, 0, 0, 0, 0, 0, 0, 0⟩, -- ACC_MISMATCH
   ⟨0x90, 1, 0, 0, 0, 0, 0, 0, 0, 0, 0⟩, -- POISON_OUT
   ⟨0xa0, 8, 8, 0xff800000, 0xff800000, 0xffffffff, 0, 0, 0, 0, 0xffffffff⟩, -- WIN_LO[n]
   ⟨0xa4, 8, 8, 0x7f800000, 0x7f800000, 0xffffffff, 0, 0, 0, 0, 0xffffffff⟩, -- WIN_HI[n]
   ⟨0xe0, 8, 4, 0, 0, 0xffffffff, 0, 0, 0, 0, 0xffffffff⟩] -- CONST[n]

/-- The registers of the SPD page from offset 0x040 (06 R156, 06 R157). -/
def regsSpd : List RegDef :=
  [⟨0x40, 1, 0, 0x100, 0x100, 0xffff, 0, 0, 0, 0, 0xffff⟩, -- SCRUB_INT
   ⟨0x44, 4, 4, 0, 0, 0x800007ff, 0, 0, 0, 0, 0x800007ff⟩, -- RWIN[w]
   ⟨0x54, 1, 0, 0, 0, 0x1ffff, 0, 0, 0, 0, 0⟩, -- IND_ADDR
   ⟨0x58, 1, 0, 0, 0, 0, 0, 0, 0, 0xc0000000, 0⟩, -- IND_CMD
   ⟨0x60, 8, 4, 0, 0, 0xffffffff, 0, 0, 0, 0, 0⟩, -- IND_DATA[n]
   ⟨0x80, 1, 0, 0, 0, 0, 0, 0, 0, 1, 0⟩, -- CNT_CLEAR
   ⟨0x84, 1, 0, 0, 0, 0, 0, 0, 0, 0, 0⟩, -- COLD_READS
   ⟨0x88, 1, 0, 0, 0, 0, 0, 0, 0, 0, 0⟩, -- ECC_CORR
   ⟨0x8c, 1, 0, 0, 0, 0, 0, 0, 0, 0, 0⟩, -- ECC_UNCORR
   ⟨0x90, 1, 0, 0, 0, 0, 0, 0, 0, 0, 0⟩, -- REMOTE_ERR
   ⟨0x94, 1, 0, 0, 0, 0, 0, 0, 0, 0, 0⟩] -- PROMOTE

/-- The registers of the RTR page from offset 0x040 (10 R265, 10 R266). -/
def regsRtr : List RegDef :=
  [⟨0x40, 6, 4, 0, 0, 0, 0xffffffff, 0, 0, 0, 0xffffffff⟩, -- ROUTE_COL[n]
   ⟨0x58, 5, 4, 0, 0, 0, 0xffffffff, 0, 0, 0, 0xffffffff⟩, -- ROUTE_ROW[n]
   ⟨0x6c, 1, 0, 0x248, 0x248, 0, 0xfff, 0, 0, 0, 0xfff⟩, -- CLASS_WEIGHT
   ⟨0x70, 1, 0, 0x55, 0x55, 0, 0xff, 0, 0, 0, 0xff⟩, -- TC0_SLOTS
   ⟨0x74, 1, 0, 0, 0, 0, 0x800000ff, 0, 0, 0, 0x800000ff⟩, -- MIX_CTRL
   ⟨0x80, 8, 4, 0, 0, 0, 0xffffffff, 0, 0, 0, 0xffffffff⟩, -- MIX_EJECT[e]
   ⟨0xa0, 1, 0, 0, 0, 0, 0, 0, 0, 1, 0⟩, -- CNT_CLEAR
   ⟨0xa4, 1, 0, 0, 0, 0, 0, 0, 0, 0, 0⟩, -- WALL_DROP
   ⟨0xa8, 1, 0, 0, 0, 0, 0, 0, 0, 0, 0⟩, -- ROUTE_DROP
   ⟨0xac, 1, 0, 0, 0, 0, 0, 0, 0, 0, 0⟩, -- HDR_DROP
   ⟨0xb0, 1, 0, 0, 0, 0, 0, 0, 0, 0, 0⟩, -- MIX_DROP
   ⟨0xb4, 1, 0, 0, 0, 0, 0, 0, 0, 0, 0⟩, -- MIX_WAIT
   ⟨0xb8, 1, 0, 0, 0, 0, 0, 0, 0, 0, 0⟩, -- LINK_CORR
   ⟨0xbc, 1, 0, 0, 0, 0, 0, 0, 0, 0, 0⟩, -- TC0_HELD
   ⟨0x400, 0x100, 4, 0, 0, 0, 0xfffe0000, 0, 0, 0, 0xfffe0000⟩] -- MIX_SLOT[p]

/-- The registers of the SLATE page from offset 0x040 (07 R191). -/
def regsSlate : List RegDef :=
  [⟨0x40, 0x10, 0x10, 0, 0, 0xffffffff, 0, 0, 0, 0, 0xffffffff⟩, -- COUNT[n]
   ⟨0x44, 0x10, 0x10, 1, 1, 0xffffffff, 0, 0, 0, 0, 0xffffffff⟩, -- THRESH[n]
   ⟨0x48, 0x10, 0x10, 0, 0, 0xffff0000, 0, 0, 0, 0, 0xffff0000⟩, -- CTRL[n]
   ⟨0x4c, 0x10, 0x10, 0, 0, 0, 0, 0, 0, 0xffffffff, 0⟩] -- ADD[n]

/-- The registers of the GATH page from offset 0x040 (09 R236, 09 R237). -/
def regsGath : List RegDef :=
  [⟨0x40, 4, 0x20, 0, 0, 0xffbf3f00, 0, 0, 0, 0, 0xffbf3f00⟩, -- TABLE.CFG
   ⟨0x44, 4, 0x20, 0, 0, 0xffffffc0, 0, 0, 0, 0, 0xffffffff⟩, -- TABLE.BASE_LO
   ⟨0x48, 4, 0x20, 0, 0, 0xffffffff, 0, 0, 0, 0, 0xffffffff⟩, -- TABLE.BASE_HI
   ⟨0x4c, 4, 0x20, 0, 0, 0xffffffff, 0, 0, 0, 0, 0xffffffff⟩, -- TABLE.ROWS_LO
   ⟨0x50, 4, 0x20, 0, 0, 0xff, 0, 0, 0, 0, 0xff⟩, -- TABLE.ROWS_HI
   ⟨0x54, 4, 0x20, 0, 0, 0xffffffff, 0, 0, 0, 0, 0xffffffff⟩, -- TABLE.SHARD_ROWS
   ⟨0x58, 4, 0x20, 0, 0, 0xfff0fff, 0, 0, 0, 0, 0xfff0fff⟩, -- TABLE.SHARD
   ⟨0x5c, 4, 0x20, 0, 0, 0x3ffff, 0, 0, 0, 0, 0x3ffff⟩, -- TABLE.MAP
   ⟨0xc0, 0x20, 4, 0, 0, 0xffffffff, 0, 0, 0, 0, 0xffffffff⟩, -- SEG_OFF[k]
   ⟨0x140, 1, 0, 0x80000, 0x80000, 0xf03fffff, 0, 0, 0, 0, 0xf03fffff⟩, -- HC_CFG
   ⟨0x144, 1, 0, 0, 0, 0, 0, 0, 0, 1, 0⟩, -- HC_CTRL
   ⟨0x148, 1, 0, 0, 0, 0, 0, 0, 0, 1, 0⟩, -- CNT_CLEAR
   ⟨0x150, 1, 0, 0, 0, 0, 0, 0, 0, 0, 0⟩, -- IDS
   ⟨0x154, 1, 0, 0, 0, 0, 0, 0, 0, 0, 0⟩, -- HC_HIT
   ⟨0x158, 1, 0, 0, 0, 0, 0, 0, 0, 0, 0⟩, -- HC_MISS
   ⟨0x15c, 1, 0, 0, 0, 0, 0, 0, 0, 0, 0⟩, -- HC_MERGE
   ⟨0x160, 1, 0, 0, 0, 0, 0, 0, 0, 0, 0⟩, -- ID_DROP
   ⟨0x164, 1, 0, 0, 0, 0, 0, 0, 0, 0, 0⟩, -- BAD_BAGS
   ⟨0x168, 1, 0, 0, 0, 0, 0, 0, 0, 0, 0⟩, -- REMOTE_ROWS
   ⟨0x16c, 1, 0, 0, 0, 0, 0, 0, 0, 0, 0⟩, -- REMOTE_ERR
   ⟨0x170, 1, 0, 0, 0, 0, 0, 0, 0, 0, 0⟩, -- ADDS
   ⟨0x174, 1, 0, 0, 0, 0, 0, 0, 0, 0, 0⟩, -- ADD_POISON
   ⟨0x178, 1, 0, 0, 0, 0, 0, 0, 0, 0, 0⟩, -- STALL_FETCH
   ⟨0x17c, 1, 0, 0, 0, 0, 0, 0, 0, 0, 0⟩] -- POISON_OUT

/-- The registers of the PERF page from offset 0x040 (02 R56). -/
def regsPerf : List RegDef :=
  [⟨0x40, 1, 0, 0, 0, 0, 0, 0, 0, 1, 0⟩, -- CNT_CLEAR
   ⟨0x48, 1, 0, 0, 0, 0, 0, 0, 0, 0, 0⟩, -- CYCLES_LO
   ⟨0x4c, 1, 0, 0, 0, 0, 0, 0, 0, 0, 0⟩, -- CYCLES_HI
   ⟨0x50, 4, 4, 0, 0, 0xff, 0, 0, 0, 0, 0xff⟩, -- EVSEL[n]
   ⟨0x60, 4, 8, 0, 0, 0, 0, 0, 0, 0, 0⟩, -- EVT_LO[n]
   ⟨0x64, 4, 8, 0, 0, 0, 0, 0, 0, 0, 0⟩] -- EVT_HI[n]

/-- The block-specific registers of a page. -/
def regTable : PageKind → List RegDef
  | .dev => regsDev
  | .opt => regsOpt
  | .keep => regsKeep
  | .rst => regsRst
  | .clk => regsClk
  | .time => regsTime
  | .pwr => regsPwr
  | .cue => regsCue
  | .therm => regsTherm
  | .ras => regsRas
  | .log => regsLog
  | .cve => regsCve
  | .daily => regsDaily
  | .sec => regsSec
  | .miryn => regsMiryn
  | .stage => regsStage
  | .clu => regsClu
  | .hbm => regsHbm
  | .port => regsPort
  | .uam => regsUam
  | .pcie => regsPcie
  | .volt => regsVolt
  | .freq => regsFreq
  | .stin => regsStin
  | .sens => regsSens
  | .nrg => regsNrg
  | .tile => regsTile
  | .seq => regsSeq
  | .arr => regsArr
  | .vec => regsVec
  | .spd => regsSpd
  | .rtr => regsRtr
  | .slate => regsSlate
  | .gath => regsGath
  | .perf => regsPerf

end Sys2Proof.Machine
end

