-- ==== Sys2Proof/Machine/Space.lean ====
section
/-!
DEFINITION. The BAR0 map: which page, instance and offset an address names (02 R31 to R34), the address of each page, and
the value a register holds after a reset that reaches everything.
-/
namespace Sys2Proof.Machine

/-- Base of rim page `n` (02 R32). -/
def rimPage (n : Nat) : Nat := n * 0x1000
def devPage : Nat := 0x0000
def optPage : Nat := 0x1000
def keepPage : Nat := 0x2000
def rstPage : Nat := 0x3000
def clkPage : Nat := 0x4000
def timePage : Nat := 0x5000
def pwrPage : Nat := 0x6000
def cuePage : Nat := 0x7000
def thermPage : Nat := 0x8000
def rasPage : Nat := 0x9000
def logPage : Nat := 0xA000
/-- Check-value engine `n` of 0 to 3 (02 R32). -/
def cvePage (n : Nat) : Nat := 0xB000 + n * 0x1000
def dailyPage : Nat := 0xF000
def secPage : Nat := 0x10000
def mirynPage : Nat := 0x11000
def stagePage (s : Nat) : Nat := 0x100000 + s * 0x1000
/-- Page `k` of cluster block `c` (02 R33). -/
def cluPage (c k : Nat) : Nat := 0x200000 + c * 0x10000 + k * 0x1000
def voltPage (c : Nat) : Nat := cluPage c 1
def freqPage (c : Nat) : Nat := cluPage c 2
def stinPage (c : Nat) : Nat := cluPage c 3
def sensPage (c : Nat) : Nat := cluPage c 4
def nrgPage (c : Nat) : Nat := cluPage c 5
def hbmPage (h : Nat) : Nat := 0x400000 + h * 0x10000
def portPage (p : Nat) : Nat := 0x600000 + p * 0x10000
def uamPage : Nat := 0x700000
def pciePage : Nat := 0x780000
/-- Page `k` of tile block `t` (02 R33). -/
def tilePage (t k : Nat) : Nat := 0x8000000 + t * 0x10000 + k * 0x1000
def seqPage (t : Nat) : Nat := tilePage t 1
def arrPage (t : Nat) : Nat := tilePage t 2
def vecPage (t : Nat) : Nat := tilePage t 3
def spdPage (t : Nat) : Nat := tilePage t 4
def rtrPage (t : Nat) : Nat := tilePage t 5
def slatePage (t : Nat) : Nat := tilePage t 6
def gathPage (t : Nat) : Nat := tilePage t 7
def perfPage (t : Nat) : Nat := tilePage t 8

/-- Column of a tile (01 R10). -/
def tileX (t : Nat) : Nat := t % 48
/-- Row of a tile (01 R10). -/
def tileY (t : Nat) : Nat := t / 48
/-- Tile at column `x`, row `y` (01 R10). -/
def tileAt (x y : Nat) : Nat := y * 48 + x
/-- Cluster of a tile (01 R10). -/
def tileCluster (t : Nat) : Nat := (tileY t / 10) * 6 + tileX t / 8
/-- Local index of a tile in its cluster (01 R10). -/
def tileLocal (t : Nat) : Nat := (tileY t % 10) * 8 + tileX t % 8
/-- Tile with local index `l` of cluster `c` (01 R10). -/
def clusterTile (c l : Nat) : Nat := tileAt ((c % 6) * 8 + l % 8) ((c / 6) * 10 + l / 8)
/-- A tile is an S-tile if x mod 8 is 3 or 7 (01 R11). -/
def isSTile (t : Nat) : Bool := tileX t % 8 == 3 || tileX t % 8 == 7
/-- The cluster a stack abuts (01 R15). -/
def stackCluster (h : Nat) : Nat := if h < 6 then h else 12 + h
/-- The 80 tiles of a cluster, in order of the local index. -/
def clusterTiles (c : Nat) : List Nat := (List.range 80).map (clusterTile c)

/-- What a BAR0 address names: an implemented page with its instance, base and offset; an unused page slot inside the
block whose page 0 is at `base`; or a gap (02 R31 to R34). -/
inductive Place where
  | page (k : PageKind) (inst base off : Nat)
  | slot (base : Nat)
  | gap
  deriving DecidableEq, Repr

/-- The rim page of slot `n` (02 R32). -/
def rimKind : Nat → PageKind
  | 0 => .dev | 1 => .opt | 2 => .keep | 3 => .rst | 4 => .clk | 5 => .time | 6 => .pwr | 7 => .cue | 8 => .therm
  | 9 => .ras | 10 => .log | 15 => .daily | 16 => .sec | 17 => .miryn | _ => .cve

/-- The page of slot `k` of a tile block; ARR exists in M-tiles only and GATH in S-tiles only (02 R33, R34). -/
def tileKind (s : Bool) : Nat → Option PageKind
  | 0 => some .tile | 1 => some .seq | 2 => if s then none else some .arr | 3 => some .vec | 4 => some .spd
  | 5 => some .rtr | 6 => some .slate | 7 => if s then some .gath else none | 8 => some .perf | _ => none

/-- The page of slot `k` of a cluster block (02 R33). -/
def cluKind : Nat → Option PageKind
  | 0 => some .clu | 1 => some .volt | 2 => some .freq | 3 => some .stin | 4 => some .sens | 5 => some .nrg | _ => none

/-- What offset `off` of the page at `pg` names (02 R31 to R33). -/
def placeAt (pg off : Nat) : Place :=
  let blk (lo inst : Nat) (k : Option PageKind) : Place :=
    match k with
    | some q => .page q inst pg off
    | none => .slot lo
  if pg < 0x12000 then
    let n := pg / 0x1000
    .page (rimKind n) (if 11 ≤ n ∧ n ≤ 14 then n - 11 else 0) pg off
  else if 0x100000 ≤ pg ∧ pg < 0x10C000 then .page .stage ((pg - 0x100000) / 0x1000) pg off
  else if 0x200000 ≤ pg ∧ pg < 0x380000 then
    let c := (pg - 0x200000) / 0x10000
    blk (cluPage c 0) c (cluKind (pg % 0x10000 / 0x1000))
  else if 0x400000 ≤ pg ∧ pg < 0x4C0000 then
    let h := (pg - 0x400000) / 0x10000
    blk (hbmPage h) h (if pg % 0x10000 < 0x1000 then some .hbm else none)
  else if 0x600000 ≤ pg ∧ pg < 0x700000 then
    let p := (pg - 0x600000) / 0x10000
    blk (portPage p) p (if pg % 0x10000 < 0x1000 then some .port else none)
  else if 0x700000 ≤ pg ∧ pg < 0x701000 then .page .uam 0 pg off
  else if 0x780000 ≤ pg ∧ pg < 0x781000 then .page .pcie 0 pg off
  else if 0x8000000 ≤ pg ∧ pg < 0xF800000 then
    let t := (pg - 0x8000000) / 0x10000
    blk (tilePage t 0) t (tileKind (isSTile t) (pg % 0x10000 / 0x1000))
  else .gap

/-- Decode a BAR0 offset: its page and the offset in it. -/
def place (a : Nat) : Place := placeAt (a - a % 0x1000) (a % 0x1000)

/-- The tile whose block an address lies in. -/
def addrTile (a : Nat) : Option Nat :=
  if 0x8000000 ≤ a ∧ a < 0xF800000 then some ((a - 0x8000000) / 0x10000) else none

/-- The row of a page's table that defines offset `off`, if any. -/
def findDef (l : List RegDef) (off : Nat) : Option RegDef :=
  l.find? fun d => decide (d.off ≤ off) &&
    (if d.cnt = 1 then off == d.off else (off - d.off) % d.stride == 0 && decide ((off - d.off) / d.stride < d.cnt))

/-- The definition of a register of a page, header included (02 R39). None: an unused offset. -/
def regDef (k : PageKind) (off : Nat) : Option RegDef :=
  let i := pageInfo k
  let mk (rst rstS rw rws w1c wo lk : Nat) : Option RegDef := some ⟨off, 1, 0, rst, rstS, rw, rws, 0, w1c, wo, lk⟩
  if off = 0x00 ∨ off = 0x0C ∨ (0x30 ≤ off ∧ off < 0x40 ∧ off % 4 = 0) then mk 0 0 0 0 0 0 0
  else if off = 0x04 then mk 0x100 0x100 0 0 0 0 0
  else if off = 0x08 then mk i.cap i.capS 0 0 0 0 0
  else if off = 0x10 then mk i.ctrlRst i.ctrlRst i.ctrlRw i.ctrlRws 0 0 i.ctrlLk
  else if off = 0x14 then mk i.statusRst i.statusRst 0 0 0 0 0
  else if off = 0x18 then mk 0 0 0 0 i.irq 0 0
  else if off = 0x1C then mk 0 0 (i.irq ||| i.level) 0 0 0 0
  else if off = 0x20 then mk 0 0 0 0 0 0x80000000 0
  else if off = 0x24 then mk 0 0 0 0 0 0 0
  else if off = 0x28 then mk 0 0 3 0 0 0xFF000000 0
  else if off = 0x2C then mk 0 0 0xFFFFFFFF 0 0 0 0
  else findDef (regTable k) off

/-- Header offsets 0x00C and 0x030 to 0x03C: reserved registers (02 R39). -/
def reservedOff (off : Nat) : Bool := off == 0x0C || (decide (0x30 ≤ off) && decide (off < 0x40))

/-- The peak current of rail `n`, in amperes (18 R476), which PWR.RAIL_WIN[n].MAX_A resets to (18 R479). -/
def railPeak (n : Nat) : Nat :=
  if n < 24 then 280 else [950, 380, 270, 100, 240, 300, 30, 12].getD (n - 24) 0

/-- The reset value of the register a BAR0 offset names; PAGE_ID is the type code and the instance (02 R39). -/
def rstOf (a : Nat) : Word :=
  match place a with
  | .page k inst _ off =>
    if off = 0 then BitVec.ofNat 32 ((pageInfo k).type * 0x1000000 + inst)
    else if k = .pwr ∧ 0x180 ≤ off ∧ off < 0x200 then BitVec.ofNat 32 (railPeak ((off - 0x180) / 4) * 0x10000)
    else if k = .sec ∧ (off = 0x44 ∨ off = 0x48) then Config.nonce off
    else match regDef k off with
      | some d =>
        match addrTile a with
        | some t => BitVec.ofNat 32 (if isSTile t then d.rstS else d.rst)
        | none => BitVec.ofNat 32 d.rst
      | none => 0
  | _ => 0

/-- Every bit of the register is read-only (02 R42). -/
def regAllRO (d : RegDef) : Bool := d.rw == 0 && d.rws == 0 && d.rk == 0 && d.w1c == 0 && d.wo == 0

/-- The bits of a register that take a written value. -/
def regStored (d : RegDef) : Nat := d.rw ||| d.rws ||| d.rk

/-- Offsets of the low words of the 64-bit register pairs of a page (02 R36): those whose chapter gives one quantity in
two registers. -/
def pairLows : PageKind → List Nat
  | .time => [0x40]
  | .pwr => [0x64, 0x70, 0x78, 0x80, 0x88, 0x90, 0xA0, 0xA8, 0xB0, 0xB8, 0xC0, 0xC8, 0xD0, 0xD8, 0xE0, 0xE8]
  | .cue => [0x40, 0x58]
  | .ras => [0x64, 0x6C]
  | .cve => [0x40, 0x48, 0x50, 0x5C, 0x64, 0x7C]
  | .daily => [0x44, 0x50]
  | .sec => [0x44]
  | .stage => [0xD4, 0x114, 0x208, 0x210, 0x218, 0x240]
  | .hbm => [0x44]
  | .port => [0x44]
  | .nrg => [0x50, 0x58, 0x60]
  | .tile => [0x70]
  | .arr => [0x40]
  | .vec => [0x48, 0x50]
  | .gath => [0x44, 0x4C, 0x64, 0x6C, 0x84, 0x8C, 0xA4, 0xAC]
  | .perf => [0x48, 0x60, 0x68, 0x70, 0x78]
  | _ => []

end Sys2Proof.Machine
end

