-- ==== Sys2Proof/Machine/FabricState.lean ====
section
/-!
DEFINITION. The state of the rim's units outside their registers: the Uamuga transport (12), the deadlock detector and the
outtakes ring (07 R183 to R187), the row fetcher (11 R274 to R278).
-/
namespace Sys2Proof.Machine

/-! ### The transport (12 R305 to R329) -/

/-- A frame sent and not acknowledged (12 R313, R314): its PSN, message, type, decoded offset and length, how often it was
retransmitted, and whether the last SACK shows it missing. -/
structure TxFrame where
  psn : Nat := 0
  msg : Nat := 0
  ty : Nat := 0
  off : Nat := 0
  len : Nat := 0
  tries : Nat := 0
  missing : Bool := false
  deriving DecidableEq, Repr

/-- A context (12 R306, R307, R313 to R315): the record words software writes; state, the last failure and the counts of the RO
words; the sender's next PSN and MSN, frames unacknowledged, consecutive expiries, frames acknowledged since the window last
grew; the receiver's next PSN, PSNs received beyond it, frames received since the last ACK, congestion seen. -/
structure Ctx where
  words : List Word := []
  st : Nat := 0
  failWhy : Nat := 0
  failMsn : Nat := 0
  fails : Nat := 0
  cwnd : Nat := 64
  rxMark : Word := 0
  txPsn : Nat := 0
  txMsn : Nat := 0
  unacked : List TxFrame := []
  expiries : Nat := 0
  grown : Nat := 0
  rxPsn : Nat := 0
  rxGot : List Nat := []
  rxOwed : Nat := 0
  ece : Bool := false
  deriving DecidableEq, Repr

/-- Who asked for a message: a tile's send request, a peer's WREAD being served, a tile's gather engine reading (its request tag)
or adding (bag), the mirror engine (granule) or a mirror mark. -/
inductive TxWho where
  | request
  | serve
  | gatherRead (t tag : Nat)
  | gatherAdd (t ser bag : Nat)
  | mirror (granule : Nat)
  | mark
  deriving DecidableEq, Repr

/-- A message in flight (12 R309 to R312, R320, R321): number, context, MSN, operation (1 SEND, 2 WREAD, 3 WWRITE, 4 WADD, 5 MARK,
7 the reply to a WREAD), its length and the fields of its request, the row indices a gather engine's WREAD carries; who asked; the next byte to send; NO_BUF refusals drawn,
backing off, streamed, RTS sent, bytes granted; bytes of a WREAD's reply placed. -/
structure TxMsg where
  id : Nat := 0
  stage : Nat := 0
  ctx : Nat := 0
  msn : Nat := 0
  op : Nat := 1
  len : Nat := 0
  enc : Nat := 0
  elem : Nat := 0
  win : Nat := 0
  ring : Nat := 0
  srcKind : Nat := 0
  src : Nat := 0
  srcTile : Nat := 0
  inline : Run := {}
  rows : List Byte := []
  roff : Nat := 0
  dstKind : Nat := 0
  dst : Nat := 0
  dstTile : Nat := 0
  comp : Word := 0
  user : Word := 0
  who : TxWho := .request
  next : Nat := 0
  nobuf : Nat := 0
  backoff : Bool := false
  streamed : Bool := false
  rts : Bool := false
  granted : Nat := 0
  placed : Nat := 0
  deriving DecidableEq, Repr

/-- A buffer of a message being received: part, buffer index, bytes placed, any poisoned. -/
structure RxPart where
  part : Nat := 0
  buf : Nat := 0
  got : Nat := 0
  bad : Bool := false
  deriving DecidableEq, Repr

/-- A message partly received (12 R316, R319 to R321): context, MSN, the PSN of its last frame, ring, length, USER, streamed, its buffers, the
offsets of the frames placed, records written, and how many bytes have been granted and told to the sender. -/
structure RxMsg where
  ctx : Nat := 0
  msn : Nat := 0
  psn : Nat := 0
  ring : Nat := 0
  len : Nat := 0
  user : Word := 0
  streamed : Bool := false
  parts : List RxPart := []
  seen : List Nat := []
  ended : Nat := 0
  granted : Nat := 0
  told : Nat := 0
  deriving DecidableEq, Repr

/-- A receive ring (12 R317 to R319): record words, posts consumed, posts skipped, completion records written. -/
structure Ring where
  words : List Word := []
  consumed : Nat := 0
  badPost : Nat := 0
  recs : Nat := 0
  deriving DecidableEq, Repr

/-- A mark pending (12 R328): number, granules whose bit was set and that are not sent yet, messages that carry such granules and are not
acknowledged yet, the completion word of its request, and whether its MARK frame has been queued. -/
structure Mark where
  num : Word := 0
  dirty : List Nat := []
  wait : List Nat := []
  comp : Word := 0
  sent : Bool := false
  deriving DecidableEq, Repr

/-- A frame in the egress queue of a stage and port (12 R330): port, stage, context, whether it goes before any other (ACK, NAK, GRANT, OPEN,
OPEN_ACK), its bytes. -/
structure Egress where
  port : Nat := 0
  stage : Nat := 0
  ctx : Nat := 0
  first : Bool := false
  bytes : List Byte := []
  deriving DecidableEq, Repr

/-- The transport: contexts, rings, windows and mirror regions by index (windows 16·s + n, regions 64·s + n), messages in flight
and their next number, messages no longer in flight of which a frame is not acknowledged, messages partly received, the egress queues,
scan place and marks of each stage's mirror stream, and the stages whose mirror copy starts over. -/
structure Uam where
  ctxs : SMap Ctx := []
  rings : SMap Ring := []
  wins : SMap (List Word) := []
  regions : SMap (List Word) := []
  tx : List TxMsg := []
  nextId : Nat := 0
  past : List TxMsg := []
  rx : List RxMsg := []
  held : List Egress := []
  scan : SMap Nat := []
  marks : SMap (List Mark) := []
  resync : List Nat := []
  deriving DecidableEq, Repr

/-! ### The deadlock detector and the outtakes ring (07 R183 to R187) -/

/-- A stage's detector: the edges of the probes received by tile, the tiles whose stall was counted as in no cycle, the cycle being
confirmed and the tiles that answered stalled, and the cycles found after it. -/
structure Detector where
  probes : SMap (List Nat) := []
  counted : List Nat := []
  cycle : List Nat := []
  answers : List Nat := []
  waiting : List (List Nat) := []
  deriving DecidableEq, Repr

/-- A record of the outtakes ring: its offset in the region, its bytes, the spilling tile, for a mixdown eject the injections that
contributed, and whether it was refilled. -/
structure OutRec where
  off : Nat := 0
  len : Nat := 0
  tile : Nat := 0
  eject : Bool := false
  from_ : List (Nat × Nat × Nat) := []
  done : Bool := false
  deriving DecidableEq, Repr

/-- A stage's outtakes ring: its records, oldest first, and the offset where the next goes. -/
structure Outtakes where
  recs : List OutRec := []
  tail : Nat := 0
  deriving DecidableEq, Repr

/-! ### The row fetcher (11 R276, R277) -/

/-- A pass of a fetch program: the words of its trigger, how many bytes it had, any poisoned. -/
structure Pass where
  bytes : List Byte := []
  bad : Bool := false
  deriving DecidableEq, Repr

/-- A fetch program: its passes in delivery and waiting, and how many transfers each entry has received. -/
structure Prog where
  passes : List Pass := []
  sent : List Nat := List.replicate 28 0
  deriving DecidableEq, Repr

end Sys2Proof.Machine
end

