-- ==== Sys2Proof/Machine/RimState.lean ====
section
/-!
DEFINITION. The state of the rim's management units outside their registers: the keep array, reset and bring-up (16, 18), power,
cues and heat (14), clocks and reel time (15), known-answer shots, tests, the event log, the dailies, the check-value engines
(17), the host and management interfaces (13).
-/
namespace Sys2Proof.Machine

/-! ### The keep array (16 R418 to R420) -/

/-- The keep array: words in MRAM that differ from those shipped, accepted writes not yet persisted in order, wear counts. -/
structure Keep where
  mram : SMap Word := []
  queue : List (Nat × Word) := []
  wear : SMap Nat := []
  deriving DecidableEq, Repr

/-! ### Reset and bring-up (16 R413 to R437, 18 R480 to R483) -/

/-- The resident tile image (16 R426): scratchpad bytes from an address, for M-tiles and S-tiles, and register words at an offset of the
tile block. -/
structure Resident where
  m : List (Nat × List Byte) := []
  s : List (Nat × List Byte) := []
  regs : List (Nat × Word) := []
  deriving DecidableEq, Repr

/-- Which reset runs: none, one that reaches everything, a warm restart. -/
inductive Running where
  | none
  | full
  | warm
  deriving DecidableEq, Repr

/-- Where a full reset's bring-up begins once nothing holds it: at its first step with the rails, at its first step with the rails
left enabled, at its rail step (16 R423, R432). -/
inductive Start where
  | none
  | first
  | railsOn
  | rails
  deriving DecidableEq, Repr

/-- Reset and bring-up: supply and pins as taken; RESET_N low, by the board or by the LZ6; the reset running and where its bring-up
begins; held in reset with a code; rails enabled, rails being released, rails whose power-good was seen, groups enabled so far,
retries of each cluster rail and of the sequence, rails to be enabled again; active FAULT_N codes, the code of the frame in
progress; retries of locking; bytes of a recovery image and how many words are missing; images whose reading ended in an SPI timeout; VDDM in retention, or rising from it for tiles that wait;
the resident tile image Miryn holds. -/
structure Boot where
  aon : Bool := true
  pwrOk : Bool := false
  resetLow : Bool := true
  perstLow : Bool := true
  running : Running := .full
  start : Start := .first
  cause : Nat := 0
  held : Bool := false
  rails : List Nat := []
  releasing : Bool := false
  good : List Nat := []
  group : Nat := 0
  railTries : SMap Nat := []
  seqTries : Nat := 0
  retry : List Nat := []
  retrySeq : Bool := false
  faults : List Nat := []
  frame : Nat := 0
  lockTries : SMap Nat := []
  recov : List Byte := []
  recovLeft : Nat := 0
  spiBad : List Nat := []
  retention : Bool := false
  raising : Bool := false
  waitTiles : List Nat := []
  waitStages : List Nat := []
  image : Resident := {}
  deriving DecidableEq, Repr

/-! ### Power, cues and heat (14) -/

/-- A metered rail (14 R357 to R361): GAIN (1.0 = 0x1000) and OFFSET (1/16 W), last estimate in 1/16 W, calibrated power in `wUnit`ths of
a watt, last valid reading in microwatts, the last 64 pairs of estimate and reading, consecutive misses, calibration frozen. -/
structure Rail where
  gain : Nat := 0x1000
  off : Int := 0
  est : Nat := 0
  power : Int := 0
  reading : Option Nat := none
  samples : List (Nat × Nat) := []
  misses : Nat := 0
  frozen : Bool := false
  deriving DecidableEq, Repr

/-- Where a rail's regulator answers: an AVSBus and its rail select, or a 7-bit address on the PMBus (18 R494). -/
inductive RailBus where
  | avs (bus select : Nat)
  | pmb (addr : Nat)
  deriving DecidableEq, Repr

/-- What the LZ6 sends a regulator: a target voltage in mV (VOUT_COMMAND on the PMBus), the signed step of a rail notice in amperes, a request for
its voltage and current (14 R358, R360, R376, 15 R394, 18 R477, R481). -/
inductive RegCmd where
  | volts (mv : Nat)
  | step (amps : Int)
  | readings
  deriving DecidableEq, Repr

/-- Where a rail notice stands: its step held, RN asserted with the step still held, RN asserted after the step. -/
inductive NoticePhase where
  | held
  | noticed
  | released
  deriving DecidableEq, Repr

/-- A rail notice (14 R376): rail 0 to 25, signed step in amperes, where it stands, what it holds. -/
structure Notice where
  rail : Nat := 0
  amps : Int := 0
  phase : NoticePhase := .held
  cause : StepCause := .freq
  deriving DecidableEq, Repr

/-- The power unit (14 R357 to R380): rails; energy by counter (0 device, 1 to 5 classes, 10+s stages, 30+c clusters), in the unit of
power times 10 microseconds; energies at the last snapshot, at the start of the window, and the window's differences; whether the
armed window has begun; ticks in the present millisecond, power summed over them and the averages of the last one, by limited
quantity (as the energies), and the averages of the last eight; ticks for which TRACK's gate has stood open with power below the
setpoint, or closed with power above it; the present 100 ms window: sums of power and setpoint, ticks, TRACK 1 throughout; the last
setpoint and the ticks since it stepped; the loop's frequency by scope; THERM_ALERT_N driven low by the board; the safe cap in
force; milliseconds of calibration; notices; the START and WRAP commands they hold, by stage; the voltage last written to each rail's regulator, in
mV; the reel time in ns at which a snapshot asked for is taken. -/
structure Pwr where
  rails : List Rail := List.replicate 32 {}
  nrg : SMap Nat := []
  snap : SMap Nat := []
  winBase : SMap Nat := []
  win : SMap Nat := []
  winOpen : Bool := false
  ticks : Nat := 0
  sums : SMap Nat := []
  avgs : SMap Nat := []
  hist : List (SMap Nat) := []
  underFor : Nat := 0
  overFor : Nat := 0
  winP : Nat := 0
  winS : Nat := 0
  winN : Nat := 0
  winOk : Bool := true
  setpoint : Nat := 0
  calm : Nat := 0
  loop : SMap Nat := []
  boardLow : Bool := false
  safe : Bool := false
  calMs : Nat := 0
  notices : List Notice := []
  heldCmds : List (Nat × Nat) := []
  volts : SMap Nat := []
  snapAt : Option Nat := none
  deriving DecidableEq, Repr

/-- A cue entry (14 R366), with the reel time in microseconds at which it was pushed. -/
structure Cue where
  time : Nat := 0
  mode : Nat := 0
  watts : Nat := 4400
  ramp : Nat := 0
  dither : Nat := 0
  pushed : Nat := 0
  deriving DecidableEq, Repr

/-- The cue list (14 R366 to R370): entries in order; the active mode, target and ramp; the active value in microwatts; the
application time of the last entry and Miryn's last return, in microseconds of reel time. -/
structure Cues where
  queue : List Cue := []
  mode : Nat := 0
  watts : Nat := 4400
  ramp : Nat := 0
  value : Nat := 4400000000
  last : Nat := 0
  back : Nat := 0
  deriving DecidableEq, Repr

/-- A junction sensor (14 R381, R382): last reading in 1/16 degree, for how many readings unchanged, the least and most power of its cluster
over them, in the unit of `Rail.power`, marked bad, consecutive readings at 115 degrees. -/
structure Sensor where
  last : Int := 0
  same : Nat := 0
  lo : Nat := 0
  hi : Nat := 0
  bad : Bool := false
  trips : Nat := 0
  deriving DecidableEq, Repr

/-- The thermal unit: sensors (4·c + n of cluster c, 96 + n of the rim), THERM_ALERT_N driven by the LZ6, thermal frequency ceilings
by scope. -/
structure Therm where
  sensors : SMap Sensor := []
  driven : Bool := false
  ceil : SMap Nat := []
  deriving DecidableEq, Repr

/-! ### Clocks and time (15) -/

/-- How far a frequency change has come (15 R394). -/
inductive ChangePhase where
  | raising
  | ready
  | stopped
  | lowering
  deriving DecidableEq, Repr

/-- A frequency change in progress (15 R393, R394): its scope (a stage, or 12 + a cluster), frequency, and phase. -/
structure FreqChange where
  scope : Nat := 0
  mhz : Nat := 0
  old : Nat := 0
  phase : ChangePhase := .raising
  deriving DecidableEq, Repr

/-- The clocks: changes in progress; the frequency above which a cluster did not lock; guards not persisted; the last 24 drift samples
of each cluster (each the mean slack of its stand-ins, times 8); stretch episodes since the last re-plan; clusters stretched; reels of
the stage cycle counters. -/
structure Clk where
  changes : List FreqChange := []
  lockCap : SMap Nat := []
  guard : SMap Nat := []
  drift : SMap (List Int) := []
  episodes : SMap Nat := []
  stretched : List Nat := []
  cycle : SMap Nat := []
  deriving DecidableEq, Repr

/-- A Sync received and not yet followed up (15 R404): master, sequence, arrival in sixteenths of a ns of reel time, correction in
sixteenths of a ns, when it came. -/
structure PtpSync where
  master : Nat := 0
  seq : Nat := 0
  t2 : Int := 0
  corr : Int := 0
  mono : Nat := 0
  deriving DecidableEq, Repr

/-- The time unit (15 R400 to R409): reel time in 10^-6 ns beyond whole ns, nominal time since power-on in ns; ADJ and SLEW in ppb;
the selected PTP master, the Sync awaiting its Follow_Up, the last offset of a Sync before path delay, the next Delay_Req's sequence,
the one awaiting its answer with its departure, mean path delay, filtered offset (reference minus reel), all in sixteenths of a ns;
outliers in a row, Syncs accepted since PTP was last lost; ADJ over the last 64 s with a reference, newest first, each with the ns it stood, and since
when the present one stands; when the last slew ended, none while one runs; the last accepted PPS edge in ns of reel time, the time of day of the next
edge in ns, accepted edges in a row with a time of day, the last edge's offset. -/
structure TimeU where
  frac : Nat := 0
  mono : Nat := 0
  adj : Int := 0
  slew : Int := 0
  master : Option Nat := none
  sync : Option PtpSync := none
  fwd : Option Int := none
  reqSeq : Nat := 0
  req : Option (Nat × Int) := none
  delay : Option Int := none
  filt : Option Int := none
  outliers : Nat := 0
  syncs : Nat := 0
  adjs : List (Int × Nat) := []
  adjAt : Nat := 0
  settled : Option Nat := none
  edge : Option Int := none
  tod : Option Nat := none
  edges : Nat := 0
  ppsOff : Int := 0
  deriving DecidableEq, Repr

/-! ### Reliability (17) -/

/-- An entry of the event log (17 R457). -/
structure LogEntry where
  seq : Nat := 0
  time : Nat := 0
  typ : Nat := 0
  inst : Nat := 0
  code : Nat := 0
  sev : Nat := 0
  aon : Bool := false
  rep : Nat := 0
  args : List Word := []
  deriving DecidableEq, Repr

/-- An event of severity 0 or 1 logged in the current second, and how many like it came after (17 R458). -/
structure LogMark where
  typ : Nat := 0
  inst : Nat := 0
  code : Nat := 0
  sev : Nat := 0
  n : Nat := 0
  deriving DecidableEq, Repr

/-- The event log (17 R457 to R459): the newest SEQ, the ring and the AON FIFO oldest first, LOG_NEXT's pointer, the events of the
current second, failed. -/
structure EvLog where
  seq : Nat := 0
  ring : List LogEntry := []
  fifo : List LogEntry := []
  smb : Nat := 1
  marks : List LogMark := []
  failed : Bool := false
  deriving DecidableEq, Repr

/-- Why a known-answer shot is wanted (17 R470: SUSPECT.HOW): cadence, guard event, test. -/
inductive KasHow where
  | cadence
  | guard
  | test
  deriving DecidableEq, Repr

/-- A known-answer shot wanted or running on a tile (17 R445 to R447): its number once it has one, whether it is the second run, the
step of the stage in which it was due. -/
structure Kas where
  tile : Nat := 0
  how : KasHow := .cadence
  num : Option Nat := none
  second : Bool := false
  step : Nat := 0
  deriving DecidableEq, Repr

/-- The test running (17 R453): kind, unit, mode, corners still to run, whether a corner has failed to complete, whether a warning came in the present
corner, the issue gate of a cluster under stress test (17 R455, R456). -/
structure TestRun where
  kind : Nat := 0
  index : Nat := 0
  mode : Nat := 0
  corners : List Nat := []
  lost : Bool := false
  warned : Bool := false
  gate : Nat := 256
  deriving DecidableEq, Repr

/-- Known-answer shots and tests: shots wanted, shots running, the next number, stages whose KAS are on, the test running,
the keep word asked for by the signed change being verified. -/
structure Ras where
  wanted : List Kas := []
  runs : List Kas := []
  next : Nat := 0
  kaOn : List Nat := []
  test : Option TestRun := none
  sec : Word := 0
  deriving DecidableEq, Repr

/-- The dailies (17 R460, R461): the items, what the last snapshot of the SPI NOR holds, when it was taken, microseconds of the current
second of operation. -/
structure Daily where
  items : SMap Nat := []
  spi : Option (SMap Nat) := none
  last : Option Nat := none
  us : Nat := 0
  deriving DecidableEq, Repr

/-- A job of a check-value engine: the parameters latched at GO (17 R462 to R464). -/
structure CveJob where
  poly : Nat := 0
  init : Nat := 0
  xorout : Nat := 0
  cfg : Word := 0
  start : Nat := 0
  stride : Nat := 0
  block : Nat := 64
  blocks : Nat := 1
  seq : Nat := 0
  deriving DecidableEq, Repr

/-- A check-value engine: the job running and the one pending. -/
structure Cve where
  job : Option CveJob := none
  next : Option CveJob := none
  deriving DecidableEq, Repr

/-! ### Host and management (13) -/

/-- A memory read issued for a tile and not complete (13 R345): its number, the request's stage, tile, tag and class, its host address
and bytes, the pieces still to come (offset and length) and the bytes here. -/
structure HostRead where
  id : Nat := 0
  stage : Nat := 0
  tile : Nat := 0
  tag : Nat := 0
  cls : Nat := 1
  addr : Nat := 0
  bytes : Nat := 0
  left : List (Nat × Nat) := []
  got : Run := {}
  deriving DecidableEq, Repr

/-- Host traffic and management: reads outstanding and their next number; console bytes buffered; the instruction in the JTAG TAP and what the data
register it selects captures, where that is known; the SMBus address; MGMT requests (entry p) and address requests (entry 32 + p) of each
port answered in the second of reel time numbered in entry 16. -/
structure Mgmt where
  reads : List HostRead := []
  nextRead : Nat := 0
  uart : List Byte := []
  jtag : JtagInstr := .idcode
  dr : Option Word := some 0x1A616A4F
  smbAddr : Nat := 0x60
  rate : SMap Nat := []
  deriving DecidableEq, Repr

/-- A stage call sheet in progress (16 R429): records in all and the next one. -/
structure Sheet where
  records : Nat := 0
  next : Nat := 0
  deriving DecidableEq, Repr

end Sys2Proof.Machine
end

