-- ==== Sys2Proof/Machine/State.lean ====
section
/-!
DEFINITION. The state of the LZ6, the reasons a step stops, and the state after power-on.
-/
namespace Sys2Proof.Machine

/-- What leaves the device, in order: an MSI-X message: function, vector, and the address and data of the vector's table entry (02 R49, 13 R341), what a read of BAR0 returns (02 R35), a frame of a port (12 R301),
an answer to an address request (12 R299), a completion of a BAR2 read (13 R343, R344), a memory read or write to the host under a
stage's virtual function (13 R345), an SMBus answer or a NACK (13 R350, R351), a PTP Delay_Req (15 R404), a byte of console
text (13 R353). -/
inductive Out where
  | msix (fn vec addr data : Nat)
  | regData (fn addr : Nat) (bytes : List Byte)
  | frame (port : Nat) (bytes : List Byte)
  | addressReply (port : Nat)
  | bar2Data (fn : Nat) (ok ep : Bool) (bytes : List Byte)
  | hostRead (stage id addr len : Nat)
  | hostWrite (stage addr : Nat) (ep : Bool) (bytes : List Byte)
  | smb (bytes : List Byte)
  | smbNack
  | delayReq (port seq : Nat)
  | console (v : Byte)
  | regulator (at_ : RailBus) (cmd : RegCmd)
  deriving DecidableEq, Repr

/-- A high word latched by a read of a pair's low word, or a low word held for its pair (02 R36). -/
structure PairHold where
  fn : Nat
  addr : Nat
  val : Word
  deriving DecidableEq, Repr

/-- The host side of interrupts (13 R341, R346): functions whose MSI-X Enable is set, masked vectors, the MSI-X table by function and vector,
VF Enable, NumVFs, pages whose message waits. -/
structure HostIf where
  msixEn : List Nat := []
  masked : List (Nat × Nat) := []
  table : List (Nat × MsixEntry) := []
  vfEnable : Bool := false
  numVfs : Nat := 0
  waiting : List Nat := []
  deriving DecidableEq, Repr

/-- What reaches a rim slate: an increment, or a write of its COUNT, its THRESH or its control register (07 R178, R179, R192). -/
inductive RimIn where
  | add (v : Nat)
  | count (w : Nat)
  | thresh (w : Nat)
  | ctrl (step : Nat) (bcast : Bool) (target : Nat)
  deriving DecidableEq, Repr

/-- A rim slate (07 R179, R180): what the rim holds for it during a stop of its stage's clocks, count, threshold, rearm step, broadcast and
its target, the latch, waits not released, rearm due, broadcasts due. -/
structure RimSlate where
  late : List RimIn := []
  count : Nat := 0
  thresh : Nat := 1
  step : Nat := 0
  bcast : Bool := false
  target : Nat := 0
  reached : Bool := false
  fresh : Bool := false
  rearm : Bool := false
  due : Nat := 0
  deriving DecidableEq, Repr

/-- The control plane: registers and everything outside the tiles and the HBM contents. -/
structure Ctl where
  regs : SMap Word := []
  latch : SMap PairHold := []
  hold : SMap PairHold := []
  out : List Out := []
  free : Nat := 0
  offTiles : List Nat := []
  fenced : List Nat := []
  net : List Flight := []
  rsl : SMap RimSlate := []
  suspects : List Nat := []
  mixAcks : List (Bool × List (Nat × Nat × Nat)) := []
  host : HostIf := {}
  reel : Nat := 0
  hbmScrub : SMap Nat := []
  hbmWarm : List Nat := []
  uam : Uam := {}
  detect : SMap Detector := []
  outtakes : SMap Outtakes := []
  progs : SMap Prog := []
  keep : Keep := {}
  boot : Boot := {}
  pwr : Pwr := {}
  cues : Cues := {}
  therm : Therm := {}
  clk : Clk := {}
  time : TimeU := {}
  log : EvLog := {}
  ras : Ras := {}
  daily : Daily := {}
  cves : SMap Cve := []
  mgmt : Mgmt := {}
  sheets : SMap Sheet := []
  arbs : Arbs := {}
  nor : SMap Byte := []
  deriving DecidableEq, Repr

/-- The whole block but the queue: control plane, tiles (a tile not listed is at its reset value), HBM stacks. -/
structure Blk where
  ctl : Ctl := {}
  tiles : SMap Tile := []
  hbm : SMap Mem := []
  deriving DecidableEq, Repr

/-- The machine: the commands waiting, first in first out, and the block. -/
structure State where
  pending : List Instr
  blk : Blk
  deriving DecidableEq, Repr

/-- Why a step stops with a fault. -/
inductive Fault where
  /-- Raised by a command to a unit that its tile lacks: an array command at an S-tile, a gather command at an M-tile, a command of control core 1
  at an M-tile (the first check of `Instr.wf`). Safe: no such command comes about. -/
  | noSuchUnit
  deriving DecidableEq, Repr

/-- Why a step is refused. -/
inductive Refusal where
  /-- The command has no meaning yet. Safe. -/
  | notModelled (mnemonic : String)
  deriving DecidableEq, Repr

/-- The machine just after power-on. -/
def State.reset : State := { pending := [], blk := {} }

end Sys2Proof.Machine
end

