-- ==== Sys2Proof/Machine/Ops.lean ====
section
/-!
DEFINITION. The named operations over the register file: reading and writing a register and its fields, who owns what,
the interrupt of a page, counting an error, and the control plane's answers (02).
-/
namespace Sys2Proof.Machine

/-- The stored word of the register at BAR0 offset `a`: its listed value, or its reset value. -/
def Ctl.rd (c : Ctl) (a : Nat) : Word := (SMap.find? c.regs a).getD (rstOf a)

/-- The register at `a` set to `w`; a register at its reset value is not listed. -/
def Ctl.wr (c : Ctl) (a : Nat) (w : Word) : Ctl := { c with regs := SMap.set (rstOf a) c.regs a w }

/-- Field `f` of the page at `base`; entry `n` of a register array. -/
def Ctl.getN (c : Ctl) (base : Nat) (f : Fld) (n : Nat) : Nat := bits (c.rd (base + f.off + n * f.stride)) f.hi f.lo

/-- Field `f` of the page at `base`. -/
def Ctl.get (c : Ctl) (base : Nat) (f : Fld) : Nat := c.getN base f 0

/-- A one-bit field as a truth value. -/
def Ctl.flag (c : Ctl) (base : Nat) (f : Fld) : Bool := c.get base f != 0

/-- Field `f` of entry `n` of an array set to `v`. -/
def Ctl.putN (c : Ctl) (base : Nat) (f : Fld) (n v : Nat) : Ctl :=
  let a := base + f.off + n * f.stride
  c.wr a (putBits (c.rd a) f.hi f.lo v)

/-- Field `f` of the page at `base` set to `v`. -/
def Ctl.put (c : Ctl) (base : Nat) (f : Fld) (v : Nat) : Ctl := c.putN base f 0 v

/-- The largest value of a field. -/
def fldTop (f : Fld) : Nat := 2 ^ (f.hi + 1 - f.lo) - 1

/-- A counter field raised by `n`, saturating at the field's top. -/
def Ctl.bumpN (c : Ctl) (base : Nat) (f : Fld) (i n : Nat) : Ctl := c.putN base f i (satAdd (fldTop f) (c.getN base f i) n)

/-- A counter field raised by `n`, saturating. -/
def Ctl.bump (c : Ctl) (base : Nat) (f : Fld) (n : Nat := 1) : Ctl := c.bumpN base f 0 n

/-- A counter field raised by `n`, wrapping. -/
def Ctl.bumpWrap (c : Ctl) (base : Nat) (f : Fld) (n : Nat := 1) : Ctl := c.put base f (c.get base f + n)

/-- The 64-bit quantity whose low word is at `a` (02 R36). -/
def Ctl.rd64 (c : Ctl) (a : Nat) : Nat := (c.rd a).toNat + (c.rd (a + 4)).toNat * 2 ^ 32

/-- The 64-bit quantity whose low word is at `a`, set. -/
def Ctl.wr64 (c : Ctl) (a v : Nat) : Ctl := (c.wr a (BitVec.ofNat 32 v)).wr (a + 4) (BitVec.ofNat 32 (v / 2 ^ 32))

/-- A 64-bit quantity named by the low word's field. -/
def Ctl.get64 (c : Ctl) (base : Nat) (f : Fld) (n : Nat := 0) : Nat := c.rd64 (base + f.off + n * f.stride)

/-- A 64-bit quantity named by the low word's field, set. -/
def Ctl.put64 (c : Ctl) (base : Nat) (f : Fld) (v : Nat) (n : Nat := 0) : Ctl := c.wr64 (base + f.off + n * f.stride) v

/-- A 64-bit counter raised by `n`, modulo 2^64 (02 R54). -/
def Ctl.add64 (c : Ctl) (base : Nat) (f : Fld) (v : Nat) (n : Nat := 0) : Ctl := c.put64 base f (c.get64 base f n + v) n

/-- A register emptied to its reset value. -/
def Ctl.toReset (c : Ctl) (a : Nat) : Ctl := { c with regs := SMap.erase c.regs a }

/-- Registers of a page from offset `lo` to `hi` (inclusive) set to 0. -/
def Ctl.zeroRange (c : Ctl) (base lo hi : Nat) : Ctl :=
  (List.range ((hi - lo) / 4 + 1)).foldl (fun c i => c.wr (base + lo + 4 * i) 0) c

/-! ### Who owns what (01 R22 to R25, 02 R38, R51) -/

/-- A stage slot holds a stage (01 R22). -/
def Ctl.valid (c : Ctl) (s : Nat) : Bool := c.flag (stagePage s) F.STAGE_RECT_VALID

/-- The state of a stage (01 R28): 0 IDLE, 1 LOADING, 2 RUN, 3 WRAP, 4 FAULT, 5 RESET. -/
def Ctl.stState (c : Ctl) (s : Nat) : Nat := c.get (stagePage s) F.STAGE_RUNSTATE_STATE

/-- A cluster lies in the rectangle a RECT word spells (01 R22). -/
def rectHas (w : Word) (cl : Nat) : Bool :=
  let cx := cl % 6
  let cy := cl / 6
  decide (bits w 2 0 ≤ cx) && decide (cx ≤ bits w 6 4) && decide (bits w 9 8 ≤ cy) && decide (cy ≤ bits w 13 12)

/-- The valid stage that holds a cluster (01 R22). -/
def Ctl.clusterStage (c : Ctl) (cl : Nat) : Option Nat :=
  (List.range 12).find? fun s => c.valid s && rectHas (c.rd (stagePage s + 0x40)) cl

/-- The valid stage that holds a tile. -/
def Ctl.tileStage (c : Ctl) (t : Nat) : Option Nat := c.clusterStage (tileCluster t)

/-- The stacks the rectangle of a RECT word owns, as a mask: none while VALID is 0 (01 R23, R27). -/
def rectStacks (w : Word) : Nat :=
  if bit w 31 then (List.range 12).foldl (fun m h => if rectHas w (stackCluster h) then m + 2 ^ h else m) 0 else 0

/-- The stacks a stage owns, in rising order (01 R23). -/
def Ctl.stageStacks (c : Ctl) (s : Nat) : List Nat :=
  if c.valid s then (List.range 12).filter fun h => rectHas (c.rd (stagePage s + 0x40)) (stackCluster h) else []

/-- The valid stage that owns a stack (01 R23, R24). -/
def Ctl.stackStage (c : Ctl) (h : Nat) : Option Nat := c.clusterStage (stackCluster h)

/-- The clusters of a stage. -/
def Ctl.stageClusters (c : Ctl) (s : Nat) : List Nat :=
  (List.range 24).filter fun cl => rectHas (c.rd (stagePage s + 0x40)) cl

/-- A tile is disabled: listed as such, or in a fenced cluster (01 R18). -/
def Ctl.tileOff (c : Ctl) (t : Nat) : Bool := c.offTiles.contains t || c.fenced.contains (tileCluster t)

/-- A tile that is not disabled. -/
def Ctl.tileGood (c : Ctl) (t : Nat) : Bool := !c.tileOff t

/-- The good tiles of a stage, in rising order of the tile index. -/
def Ctl.stageTiles (c : Ctl) (s : Nat) : List Nat :=
  (List.range 1920).filter fun t => rectHas (c.rd (stagePage s + 0x40)) (tileCluster t) && c.tileGood t

/-- The device is READY (16 R424). -/
def Ctl.ready (c : Ctl) : Bool := c.flag rstPage F.RST_STATUS_READY

/-- Miryn's firmware is running (16 R435). -/
def Ctl.mirynUp (c : Ctl) : Bool := c.flag rstPage F.RST_STATUS_MIRYN_UP

/-- The stage whose virtual function reaches the page at `base` (01 R25): its STAGE page, the blocks of its clusters and
tiles. -/
def Ctl.pageStage (c : Ctl) (base : Nat) : Option Nat :=
  if 0x100000 ≤ base ∧ base < 0x10C000 then some ((base - 0x100000) / 0x1000)
  else if 0x200000 ≤ base ∧ base < 0x380000 then c.clusterStage ((base - 0x200000) / 0x10000)
  else if 0x8000000 ≤ base ∧ base < 0xF800000 then c.tileStage ((base - 0x8000000) / 0x10000)
  else none

/-- The function that owns a page (02 R51), by its number: n for VFn, 0 for the physical function. -/
def Ctl.pageOwner (c : Ctl) (base : Nat) : Nat :=
  match c.pageStage base with
  | some s => s + 1
  | none => 0

/-! ### Interrupts (02 R49 to R53) -/

/-- The page that sends the message for the page at `base`: the CLU page of the cluster for a page of a tile block,
else the page itself (02 R50). -/
def irqPage (base : Nat) : Nat :=
  match addrTile base with
  | some t => cluPage (tileCluster t) 0
  | none => base

/-- The stored causes of a page that are enabled. -/
def Ctl.ownPend (c : Ctl) (base : Nat) : Bool := (c.rd (base + 0x18) &&& c.rd (base + 0x1C)) != 0

/-- TILE.PAGE_PEND (02 R50): bit k is page k's pending state, bit 0 that of the TILE page's causes other than CAUSE[1]. -/
def Ctl.pagePend (c : Ctl) (t : Nat) : Nat :=
  (List.range 9).foldl (fun m k =>
    let base := tilePage t k
    let st := c.rd (base + 0x18) &&& c.rd (base + 0x1C)
    let st := if k = 0 then st &&& ~~~(2 : Word) else st
    if st != 0 then m + 2 ^ k else m) 0

/-- TILE.IRQ_STATUS.CAUSE[1]: the OR of PAGE_PEND bits 1 to 15 (02 R50). -/
def Ctl.tileLevel (c : Ctl) (t : Nat) : Bool := c.pagePend t / 2 != 0

/-- The pending state of a tile's TILE page (02 R50). -/
def Ctl.tilePend (c : Ctl) (t : Nat) : Bool :=
  c.pagePend t % 2 != 0 || (c.tileLevel t && bit (c.rd (tilePage t 0 + 0x1C)) 1)

/-- A tile of the cluster has a listed interrupt cause; a tile with none listed is not pending. -/
def Ctl.tilesWithCause (c : Ctl) (cl : Nat) : List Nat :=
  c.regs.foldl (fun l e =>
    match addrTile e.1 with
    | some t => if e.1 % 0x1000 = 0x18 ∧ tileCluster t = cl then insertNat t l else l
    | none => l) []

/-- The tiles of a cluster whose TILE page is pending (02 R50: TILE_PEND). -/
def Ctl.cluPendTiles (c : Ctl) (cl : Nat) : List Nat := (c.tilesWithCause cl).filter c.tilePend

/-- The level copies of a page's IRQ_STATUS: CAUSE[1] of CLU, TILE and DEV (02 R50, R53). -/
def Ctl.levelCauses (c : Ctl) (base : Nat) : Word :=
  match place base with
  | .page .clu cl _ _ => if (c.cluPendTiles cl).isEmpty then 0 else 2
  | .page .tile t _ _ => if c.tileLevel t then 2 else 0
  | .page .dev _ _ _ => if c.get devPage F.DEV_STAGE_FAULTED_STAGE = 0 then 0 else 2
  | _ => 0

/-- IRQ_STATUS as it reads: the stored causes and the level copies. -/
def Ctl.irqStatus (c : Ctl) (base : Nat) : Word := c.rd (base + 0x18) ||| c.levelCauses base

/-- A page's interrupt is pending (02 R49). -/
def Ctl.pending (c : Ctl) (base : Nat) : Bool := (c.irqStatus base &&& c.rd (base + 0x1C)) != 0

/-- A function can send a message: the physical function with its MSI-X Enable set; a virtual function that exists, with
its own set (13 R346). -/
def Ctl.canSend (c : Ctl) (fn : Nat) : Bool :=
  c.host.msixEn.contains fn && (fn == 0 || (c.host.vfEnable && decide (fn ≤ c.host.numVfs)))

/-- The message of a function's vector: what its table entry holds (13 R341). -/
def HostIf.message (h : HostIf) (fn v : Nat) : Out :=
  match h.table.find? fun e => e.1 == fn && e.2.vec == v with
  | some e => .msix fn v e.2.addr e.2.data
  | none => .msix fn v 0 0

/-- The message of the page at `base` on its vector: sent if its owner can send it and the vector is not masked, else
left pending with the page until it can be (02 R49, 13 R346). -/
def Ctl.sendMsg (c : Ctl) (base : Nat) : Ctl :=
  let fn := c.pageOwner base
  let v := bits (c.rd (base + 0x10)) 30 20
  if c.canSend fn && !(c.host.masked.contains (fn, v)) then { c with out := c.out ++ [c.host.message fn v] }
  else { c with host := { c.host with waiting := insertNat base c.host.waiting } }

/-- Run `f` and send what interrupt message follows: one when the reporting page's pending state goes from false to true;
one also where `wrote` (a write to IRQ_STATUS or IRQ_ENABLE) leaves it true (02 R49, R50). -/
def Ctl.withIrq (base : Nat) (wrote : Bool) (f : Ctl → Ctl) (c : Ctl) : Ctl :=
  let p := irqPage base
  let before := c.pending p
  let c' := f c
  if c'.pending p then (if wrote || !before then c'.sendMsg p else c')
  else { c' with host := { c'.host with waiting := c'.host.waiting.filter (· != p) } }

/-- Cause bit `n` of a page's IRQ_STATUS set by hardware (02 R49). -/
def Ctl.raise (c : Ctl) (base n : Nat) : Ctl :=
  c.withIrq base false fun c => c.wr (base + 0x18) (c.rd (base + 0x18) ||| BitVec.ofNat 32 (2 ^ n))

/-! ### The event log, the profile counters, the dailies -/

/-- A fresh free value: the spec leaves it open. -/
def Ctl.choose (c : Ctl) : Nat × Ctl := (Config.value c.free, { c with free := c.free + 1 })

/-- The type code and instance of the page at `base` (17 R457). -/
def pageTag (base : Nat) : Nat × Nat :=
  match place base with
  | .page k i _ _ => ((pageInfo k).type, i)
  | _ => (0, 0)

/-- An entry written: to the ring, whose oldest it may overwrite, or to the AON FIFO once the log memory has failed (17 R458,
R459). -/
def Ctl.logWrite (c : Ctl) (typ inst code sev rep : Nat) : Ctl :=
  let l := c.log
  let n := (l.seq + 1) % 2 ^ 32
  let e : LogEntry := { seq := n, time := c.reel, typ := typ, inst := inst, code := code % 256, sev := sev, aon := l.failed,
                        rep := min rep 4095, args := (List.range 3).map (Config.logArg n) }
  if l.failed then
    if 16 ≤ l.fifo.length then c.bump logPage F.LOG_DROPPED_COUNT
    else { c with log := { l with seq := n, fifo := l.fifo ++ [e] } }
  else if 2048 ≤ l.ring.length then
    { c.bump logPage F.LOG_OVERWRITTEN_COUNT with log := { l with seq := n, ring := l.ring.drop 1 ++ [e] } }
  else { c with log := { l with seq := n, ring := l.ring ++ [e] } }

/-- A mark is of the event with this source, code and severity class. -/
def LogMark.is (m : LogMark) (typ inst code : Nat) : Bool := m.typ == typ && m.inst == inst && m.code == code

/-- An event logged; of severity 0 or 1, one like it in the same second only counts (17 R458). -/
def Ctl.logEvent (c : Ctl) (base code sev : Nat) : Ctl :=
  let (typ, inst) := pageTag base
  if sev < 2 then
    if c.log.marks.any fun m => m.is typ inst code then
      { c with log := { c.log with marks := c.log.marks.map fun m => if m.is typ inst code then { m with n := m.n + 1 } else m } }
    else
      let c := c.logWrite typ inst code sev 0
      { c with log := { c.log with marks := c.log.marks ++ [{ typ := typ, inst := inst, code := code, sev := sev }] } }
  else c.logWrite typ inst code sev 0

/-- Events counted by a tile's PERF page: `n` of code `code`, in each counter that selects it (02 R54, R55). -/
def Ctl.perf (c : Ctl) (t code n : Nat) : Ctl :=
  let p := perfPage t
  if n = 0 ∨ c.flag p F.PERF_CTRL_FREEZE then c
  else (List.range 4).foldl (fun c k =>
    if c.getN p F.PERF_EVSEL_EVENT k = code then c.add64 p F.PERF_EVT_LO_COUNT_LO n k else c) c

/-- Item `i` of the dailies grows (17 R460). -/
def Ctl.dailyAdd (c : Ctl) (i n : Nat) : Ctl :=
  { c with daily := { c.daily with items := SMap.set 0 c.daily.items i ((SMap.get 0 c.daily.items i + n) % 2 ^ 64) } }

/-! ### Errors (02 R43, R46) -/

/-- One error counted against the page at `base` and logged with severity `sev` (17 R442): a saturated count drops it; ERR_FIRST is
loaded when not valid (and DEV.ERR_ADDR with DEV's); going from 0 to 1 raises cause ERR. -/
def Ctl.errSev (c : Ctl) (base code fn addr sev : Nat) : Ctl :=
  let n := bits (c.rd (base + 0x20)) 15 0
  if n = 0xFFFF then c
  else
    let c := c.wr (base + 0x20) (BitVec.ofNat 32 (n + 1))
    let c :=
      if bit (c.rd (base + 0x24)) 31 then c
      else
        let c := c.wr (base + 0x24) (BitVec.ofNat 32 (0x80000000 + code * 0x10000 + fn * 0x1000 + addr % 0x1000))
        if base = devPage then c.wr (devPage + 0x50) (BitVec.ofNat 32 (addr % 2 ^ 28)) else c
    let c := c.logEvent base code sev
    if n = 0 then c.raise base 0 else c

/-- One error contained to a unit counted against the page at `base` (DEDUCED: logged with severity 0, 17 R442). -/
def Ctl.err (c : Ctl) (base code fn addr : Nat) : Ctl := c.errSev base code fn addr 0

/-- An error no access raised: function 0 and offset 0 (02 R43). -/
def Ctl.errHw (c : Ctl) (base code : Nat) : Ctl := c.err base code 0 0

/-- ERR_COUNT.CLEAR (02 R43, R46). -/
def Ctl.errClear (c : Ctl) (base : Nat) : Ctl :=
  let c := (c.wr (base + 0x20) 0).wr (base + 0x24) 0
  if base = devPage then c.wr (devPage + 0x50) 0 else c

/-! ### Stage faults and consumed poison (01 R28, R29, 02 R53, 11 R286, R287) -/

/-- A plausibility event of tile `t` sent to the RAS page: 1 range, 2 NaN/Inf, 3 column sum, 4 sparse drops. All but the last
put the tile into the suspect queue of 64 entries, once (17 R443). -/
def Ctl.plausEvent (c : Ctl) (t kind : Nat) : Ctl :=
  let c := c.bump rasPage
    (if kind = 1 then F.RAS_PLAUS_RANGE_COUNT else if kind = 2 then F.RAS_PLAUS_NANINF_COUNT
     else if kind = 3 then F.RAS_PLAUS_CSUM_COUNT else F.RAS_PLAUS_SPARSE_COUNT)
  if kind = 4 ∨ c.suspects.contains t then c
  else if 64 ≤ c.suspects.length then c.bump rasPage F.RAS_PLAUS_LOST
  else { c with suspects := c.suspects ++ [t] }

/-- A stage fault: a stage in LOADING, RUN or WRAP enters FAULT with the code recorded, and its bit in
DEV.STAGE_FAULTED is set; in any other state nothing changes (01 R28, R29). -/
def Ctl.stageFault (c : Ctl) (s code : Nat) : Ctl :=
  let st := c.stState s
  if st = 1 ∨ st = 2 ∨ st = 3 then
    let c := c.put (stagePage s) F.STAGE_RUNSTATE_STATE 4
    let c := c.errSev (stagePage s) code 0 0 2
    c.withIrq devPage false fun c =>
      c.put devPage F.DEV_STAGE_FAULTED_STAGE (c.get devPage F.DEV_STAGE_FAULTED_STAGE ||| 2 ^ s)
  else c

/-- Poison consumed at output point `point` of a stage, by tile `t` for points 1 to 3 (11 R287). -/
def Ctl.consumePoison (c : Ctl) (s point t : Nat) : Ctl :=
  let base := stagePage s
  let c := if c.flag base F.STAGE_POISON_AT_VALID then c
    else ((c.put base F.STAGE_POISON_AT_VALID 1).put base F.STAGE_POISON_AT_POINT point).put base F.STAGE_POISON_AT_TILE
      (if point ≤ 3 then t else 0)
  let c := c.bump base F.STAGE_POISON_CONSUMED_COUNT
  c.stageFault s 0x12

/-- Poison consumed in a tile: counted in the stage the tile belongs to, if any. -/
def Ctl.tilePoison (c : Ctl) (t point : Nat) : Ctl :=
  match c.tileStage t with
  | some s => c.consumePoison s point t
  | none => c

end Sys2Proof.Machine
end

