-- ==== Sys2Proof/Machine/TileOps.lean ====
section
/-!
DEFINITION. The shared operations of a tile: its place in the block, reads of its scratchpad, its slates (07 R176 to R178),
its channels and descriptor queues (07 R160 to R169), shots (07 R167, R168) and halts (03 R81, 07 R169).
-/
namespace Sys2Proof.Machine

/-- The tile with index `t`; a tile not listed is at its reset value. -/
def Blk.tile (b : Blk) (t : Nat) : Tile := SMap.get {} b.tiles t

/-- Tile `t` replaced. -/
def Blk.setTile (b : Blk) (t : Nat) (x : Tile) : Blk := { b with tiles := SMap.set {} b.tiles t x }

/-- Tile `t` changed by `f`. -/
def Blk.onTile (b : Blk) (t : Nat) (f : Tile → Tile) : Blk := b.setTile t (f (b.tile t))

/-- The control plane changed by `f`. -/
def Blk.onCtl (b : Blk) (f : Ctl → Ctl) : Blk := { b with ctl := f b.ctl }

/-- A tile's reel-time copy: the true time last learnt and what has passed since, never below the value it had (15 R402); 0 before the
first tick. -/
def Blk.tileReel (b : Blk) (t : Nat) : Nat :=
  match (b.tile t).reel with
  | some (base, time, at_) => max base (time + (b.ctl.time.mono - at_))
  | none => 0

/-- Bytes of a tile's scratchpad: 2 MiB in an M-tile, 4 MiB in an S-tile (06 R140). -/
def spBytes (t : Nat) : Nat := if isSTile t then 0x400000 else 0x200000

/-- A tile runs: not disabled and not held behind its wrapper (16 R414). -/
def Blk.live (b : Blk) (t : Nat) : Bool := b.ctl.tileGood t && !(b.tile t).wrapped

/-! ### Scratchpad reads and writes of the tile's own units -/

/-- Cold words counted for a read (06 R150). -/
def Ctl.countCold (c : Ctl) (t n : Nat) : Ctl :=
  if n = 0 then c
  else
    let c := c.bump (spdPage t) F.SPD_COLD_READS n
    if c.flag (spdPage t) F.SPD_CTRL_COLD_IRQ then c.raise (spdPage t) 3 else c

/-- A single-bit error corrected, or an uncorrectable one, counted for tile `t` (06 R150). -/
def Ctl.countEcc (c : Ctl) (t : Nat) (e : Ecc) : Ctl :=
  match e with
  | .ok | .onDie => c
  | .corr => (c.bump (spdPage t) F.SPD_ECC_CORR).raise (spdPage t) 1
  | .uncorr => ((c.bump (spdPage t) F.SPD_ECC_UNCORR).errHw (spdPage t) 3).raise (spdPage t) 2

/-- What the checks of words read come to: `e` gives the outcome of each, in the order they are read, and `.ok` past its end; an unwritten
word, which reads zero, has none (06 R150; log 48). Each word with an error, corrected or not. -/
def checks (ws colds : List Nat) (e : List Ecc) : List (Nat × Ecc) :=
  (ws.zip (e ++ List.replicate ws.length .ok)).filter fun x => (x.2 == .corr || x.2 == .uncorr) && !colds.contains x.1

/-- The errors found in words counted for tile `t` (06 R150). -/
def Ctl.countEccs (c : Ctl) (t : Nat) (l : List (Nat × Ecc)) : Ctl := l.foldl (fun c x => c.countEcc t x.2) c

/-- The write-back of a word, presented at scrubber rank (06 R146, R150). -/
def writeback (w : Nat) (bad : Bool) : SpReq := { wr := true, rank := 7, who := .writeback bad, word := w }

/-- Write-backs of the words found with an error (06 R150). -/
def Tile.oweBack (x : Tile) (l : List (Nat × Ecc)) : Tile :=
  { x with sp := { x.sp with reqs := x.sp.reqs ++ l.map fun e => writeback e.1 (e.2 == .uncorr) } }

/-- The unwritten words among those that `n` bytes from `a` touch. -/
def Mem.coldList (m : Mem) (a n : Nat) : List Nat := (wordsOf a n).filter fun w => !m.isWritten w

/-- What a unit's read of `n` bytes at `a` returns: stored data and poison; unwritten words read zero, poisoned with
COLD_POISON; uncorrectable words are poisoned (06 R150). -/
def spView (m : Mem) (coldBad : Bool) (a n : Nat) (e : List Ecc) : Run :=
  let r := m.read a n
  let errs := checks (wordsOf a n) (m.coldList a n) e
  { r with bad := (List.range n).map fun i =>
      let w := (a + i) / 32
      m.isBad w || (coldBad && !m.isWritten w) || errs.contains (w, .uncorr) }

/-- A read by a unit of tile `t` of the bytes it uses: the data, and the block with cold reads and ECC events counted and
the write-backs of corrected and uncorrectable words presented (06 R150). `e` is the outcome for each word, in rising order. -/
def Blk.spRead (b : Blk) (t a n : Nat) (e : List Ecc) : Run × Blk :=
  let x := b.tile t
  let coldBad := b.ctl.flag (spdPage t) F.SPD_CTRL_COLD_POISON
  let r := spView x.sp.mem coldBad a n e
  let errs := checks (wordsOf a n) (x.sp.mem.coldList a n) e
  let c := (b.ctl.countCold t (x.sp.mem.coldWords a n)).countEccs t errs
  (r, { b with ctl := c }.setTile t (x.oweBack errs))

/-- What a staged read comes to: the bytes, the outcomes of the checks not used up, and the block. -/
structure Fetched where
  run : Run
  rest : List Ecc
  blk : Blk

/-- Bytes `lo` up to `hi` of aligned row `row`, for the descriptor `ser` of the streaming unit `u` of tile `t`: from the row the unit holds,
else from the row as it stands, which the unit then holds. A word counts as cold or in error when the unit first uses it; the words
of the row that it does not use never do (06 R143, R150). -/
def Blk.stagedPart (b : Blk) (t u ser row lo hi : Nat) (e : List Ecc) : Fetched :=
  let x := b.tile t
  let z := match SMap.find? x.sp.staged u with
    | some z => if z.ser = ser ∧ z.row = row then z else
        { ser := ser, row := row, run := x.sp.mem.read (row * 512) 512, colds := x.sp.mem.coldList (row * 512) 512 }
    | none => { ser := ser, row := row, run := x.sp.mem.read (row * 512) 512, colds := x.sp.mem.coldList (row * 512) 512 }
  let fresh := (wordsOf lo (hi - lo)).filter fun w => !z.seen.contains w
  let errs := checks fresh z.colds e
  let z := { z with seen := z.seen ++ fresh, errs := z.errs ++ (errs.filter (·.2 == .uncorr)).map (·.1) }
  let coldBad := b.ctl.flag (spdPage t) F.SPD_CTRL_COLD_POISON
  let p := z.run.slice (lo - row * 512) (hi - lo)
  let p := { p with bad := p.bad.zipIdx.map fun (q, i) =>
    let w := (lo + i) / 32
    q || (coldBad && z.colds.contains w) || z.errs.contains w }
  let c := (b.ctl.countCold t (fresh.filter z.colds.contains).length).countEccs t errs
  let x := { x with sp := { x.sp with staged := SMap.put x.sp.staged u z } }
  ⟨p, e.drop fresh.length, { b with ctl := c }.setTile t (x.oweBack errs)⟩

/-- `n` bytes from `a` read through the staging buffer of unit `u`: a wide access for each aligned row not held (06 R143). -/
def Blk.stagedRead (b : Blk) (t u ser a n : Nat) (e : List Ecc) : Fetched :=
  if n = 0 then ⟨{}, e, b⟩
  else
    (List.range ((a + n - 1) / 512 - a / 512 + 1)).foldl (fun (f : Fetched) i =>
      let row := a / 512 + i
      let g := f.blk.stagedPart t u ser row (max a (row * 512)) (min (a + n) (row * 512 + 512)) f.rest
      ⟨f.run.append g.run, g.rest, g.blk⟩) ⟨{}, e, b⟩

/-- A write by a unit of tile `t`; it cancels the write-backs presented and those a read granted before it would owe to a word it writes
(06 R150). -/
def Tile.spWrite (x : Tile) (a : Nat) (r : Run) : Tile :=
  let ws := wordsOf a r.bytes.length
  let backs (q : SpReq) : Bool := match q.who with | .writeback _ => ws.contains q.word | _ => false
  { x with sp := { x.sp with
      mem := x.sp.mem.write a r, reqs := x.sp.reqs.filter fun q => !backs q
      rets := x.sp.rets.map fun q => { q with stale := q.stale ++ ws } } }

/-- The words that a write of `n` bytes from `a` touches only in part: its merges (06 R145). -/
def partWords (a n : Nat) : List Nat := (wordsOf a n).filter fun w => decide (w * 32 < a ∨ a + n < w * 32 + 32)

/-- A write by a unit with the read half of each word it writes in part: ECC events counted, and a word found uncorrectable stored poisoned
(06 R145, R151). `e` is the outcome for each such word, in rising order. -/
def Blk.spStore (b : Blk) (t a : Nat) (r : Run) (e : List Ecc) : Blk :=
  let x := b.tile t
  let ws := partWords a r.bytes.length
  let errs := checks ws (ws.filter fun w => !x.sp.mem.isWritten w) e
  let x := x.spWrite a r
  let m := errs.foldl (fun m e => if e.2 = .uncorr then m.setBad e.1 true else m) x.sp.mem
  (b.onCtl fun c => c.countEccs t errs).setTile t { x with sp := { x.sp with mem := m } }

/-- A request presented at a scratchpad port (06 R144). -/
def Tile.present (x : Tile) (r : SpReq) : Tile := { x with sp := { x.sp with reqs := x.sp.reqs ++ [r] } }

/-! ### Slates (07 R176 to R178) -/

/-- REACHED holds for a count and a threshold: (COUNT − THRESH) mod 2^32 is below 2^31 (07 R176). -/
def slateMet (count thresh : Nat) : Bool := decide ((count + 2 ^ 32 - thresh % 2 ^ 32) % 2 ^ 32 < 2 ^ 31)

/-- REACHED of local slate `n` set: the waits it releases are due (07 R176), and so is its rearm where STEP ≠ 0 (07 R177). -/
def Blk.slateReach (b : Blk) (t n : Nat) : Blk :=
  let b := b.onCtl fun c => c.putN (slatePage t) F.SLATE_CTRL_REACHED n 1
  b.onTile t fun x => { x with
    fresh := insertNat n x.fresh
    rearm := if b.ctl.getN (slatePage t) F.SLATE_CTRL_STEP n = 0 then x.rearm else insertNat n x.rearm }

/-- Increments of one cycle added to local slate `n`: they only ever set REACHED (07 R176, R178). -/
def Blk.slateAdd (b : Blk) (t n v : Nat) : Blk :=
  let p := slatePage t
  let cnt := b.ctl.getN p F.SLATE_COUNT_COUNT n + v
  let b := b.onCtl fun c => c.putN p F.SLATE_COUNT_COUNT n cnt
  if b.ctl.getN p F.SLATE_CTRL_REACHED n = 0 ∧ slateMet (cnt % 2 ^ 32) (b.ctl.getN p F.SLATE_THRESH_THRESH n) then
    b.slateReach t n
  else b

/-- REACHED of local slate `n` re-evaluated from the comparison, as a write of COUNT or THRESH does (07 R176). -/
def Blk.slateEval (b : Blk) (t n : Nat) : Blk :=
  let p := slatePage t
  if slateMet (b.ctl.getN p F.SLATE_COUNT_COUNT n) (b.ctl.getN p F.SLATE_THRESH_THRESH n) then b.slateReach t n
  else
    let b := b.onCtl fun c => c.putN p F.SLATE_CTRL_REACHED n 0
    b.onTile t fun x => { x with fresh := x.fresh.filter (· != n), rearm := x.rearm.filter (· != n) }

/-- Local slate `n` has REACHED = 1. -/
def Ctl.reached (c : Ctl) (t n : Nat) : Bool := c.getN (slatePage t) F.SLATE_CTRL_REACHED n != 0

/-! ### Queues -/

/-- Queue `u` of a tile. -/
def Tile.queue (x : Tile) (u : Nat) : Queue := x.queues.getD u {}

/-- Queue `u` replaced. -/
def Tile.setQueue (x : Tile) (u : Nat) (q : Queue) : Tile := { x with queues := x.queues.set u q }

/-- Every descriptor of the queue's list is complete (07 R168). -/
def Queue.complete (q : Queue) : Bool :=
  decide (q.count ≤ q.next) && q.hdrs.isEmpty && q.cur.isNone && q.drain.isEmpty

/-- Unit `u` is present in the tile (07 R159): SEQ.CAP.UNITS. -/
def unitPresent (t u : Nat) : Bool :=
  if isSTile t then decide (5 ≤ u ∧ u ≤ 8) else decide (1 ≤ u ∧ u ≤ 7)

/-- Tokens per step of a 2-bit count code (07 R161). -/
def tokens (code : Nat) : Nat := 2 ^ code

def hUnit (h : Word) : Nat := bits h 31 28
def hInCh (h : Word) : Nat := bits h 27 24
def hOutCh (h : Word) : Nat := bits h 23 20
def hInN (h : Word) : Nat := tokens (bits h 19 18)
def hOutN (h : Word) : Nat := tokens (bits h 17 16)
def hPen (h : Word) : Bool := bit h 15
def hPpol (h : Word) : Bool := bit h 14
def hPidx (h : Word) : Nat := bits h 13 11
def hWen (h : Word) : Bool := bit h 10
def hWslate (h : Word) : Nat := bits h 9 6
def hSen (h : Word) : Bool := bit h 5
def hSslate (h : Word) : Nat := bits h 4 1
def hSigEach (h : Word) : Bool := bit h 0

/-- The units of a tile may issue steps: its stage's issue gate is not closed (14 R363), no frequency change has stopped its clocks
(15 R394). -/
def Ctl.mayIssue (c : Ctl) (t : Nat) : Bool :=
  let sc := (c.tileStage t).getD (12 + tileCluster t)
  (c.tileStage t).all (fun s => c.flag (stagePage s) F.STAGE_GATE_G) &&
    c.clk.changes.all fun x => !(x.phase == .stopped && x.scope == sc)

/-- The tokens and the room a step needs are there (07 R163, conditions 3 and 4), and the tile may issue. -/
def Ctl.tokensReady (c : Ctl) (t : Nat) (h : Word) : Bool :=
  c.mayIssue t && (hInCh h == 15 || decide (hInN h ≤ c.getN (seqPage t) F.SEQ_CH_STATE_AVAIL (hInCh h))) &&
  (hOutCh h == 15 || decide (hOutN h ≤ c.getN (seqPage t) F.SEQ_CH_STATE_SPACE (hOutCh h)))

/-- The tokens and the room that `n` steps need are there. -/
def Ctl.tokensFor (c : Ctl) (t : Nat) (h : Word) (n : Nat) : Bool :=
  n == 0 || (c.mayIssue t && (hInCh h == 15 || decide (n * hInN h ≤ c.getN (seqPage t) F.SEQ_CH_STATE_AVAIL (hInCh h))) &&
    (hOutCh h == 15 || decide (n * hOutN h ≤ c.getN (seqPage t) F.SEQ_CH_STATE_SPACE (hOutCh h))))

/-- A step issues: AVAIL of the input channel and SPACE of the output channel fall (07 R163). -/
def Ctl.stepIssue (c : Ctl) (t : Nat) (h : Word) : Ctl :=
  let p := seqPage t
  let c := if hInCh h = 15 then c
    else c.putN p F.SEQ_CH_STATE_AVAIL (hInCh h) (c.getN p F.SEQ_CH_STATE_AVAIL (hInCh h) - hInN h)
  if hOutCh h = 15 then c
  else c.putN p F.SEQ_CH_STATE_SPACE (hOutCh h) (c.getN p F.SEQ_CH_STATE_SPACE (hOutCh h) - hOutN h)

/-- A step completes: AVAIL of the output channel and SPACE of the input channel rise (07 R163). -/
def Ctl.stepTokens (c : Ctl) (t : Nat) (h : Word) : Ctl :=
  let p := seqPage t
  let c := if hOutCh h = 15 then c
    else c.putN p F.SEQ_CH_STATE_AVAIL (hOutCh h) (c.getN p F.SEQ_CH_STATE_AVAIL (hOutCh h) + hOutN h)
  if hInCh h = 15 then c
  else c.putN p F.SEQ_CH_STATE_SPACE (hInCh h) (c.getN p F.SEQ_CH_STATE_SPACE (hInCh h) + hInN h)

/-- The stall probe of a tile whose unit has issued a step is withdrawn (07 R183). -/
def Blk.unprobe (b : Blk) (t : Nat) : Blk := b.onTile t fun x => { x with probing := false, edges := [] }

/-- Step issue of descriptor `d` at queue `u`: tokens, the issued count, a void step counted (07 R163, R166, R189). -/
def Blk.issue (b : Blk) (t u : Nat) (d : Desc) : Blk :=
  let b := b.onCtl fun c => c.stepIssue t d.hdr
  let b := if d.void then b.onCtl fun c => c.bump (seqPage t) F.SEQ_VOID_STEPS else b
  let b := b.onTile t fun x =>
    let q := x.queue u
    x.setQueue u { q with cur := q.cur.map fun e => if e.ser = d.ser then { e with issued := e.issued + 1 } else e }
  b.unprobe t

/-- The head descriptor, issued whole, makes way for the next (07 R163). -/
def Queue.retire (q : Queue) : Queue :=
  match q.cur with
  | some d => if d.issued < d.steps then q
    else if d.done < d.steps then { q with cur := none, drain := q.drain ++ [d] } else { q with cur := none }
  | none => q

/-- The descriptor with serial number `ser` of a queue. -/
def Queue.find (q : Queue) (ser : Nat) : Option Desc :=
  match q.cur with
  | some d => if d.ser = ser then some d else q.drain.find? fun e => e.ser == ser
  | none => q.drain.find? fun e => e.ser == ser

/-- The descriptor with `d`'s serial number replaced by `d`, or dropped once its last step is complete. -/
def Queue.update (q : Queue) (d : Desc) : Queue :=
  let fin := decide (d.steps ≤ d.done)
  { q with
    cur := q.cur.bind fun e => if e.ser = d.ser then (if fin then none else some d) else some e
    drain := if fin then q.drain.filter fun e => e.ser != d.ser else q.drain.map fun e => if e.ser = d.ser then d else e }

/-- Steps completed in turn: `n` steps of descriptor `d` complete, with their tokens and slate signals (07 R163, R161: one
per step, or one at the last). -/
def Blk.complete (b : Blk) (t u : Nat) (d : Desc) : Nat → Blk
  | 0 => b.onTile t fun x => x.setQueue u ((x.queue u).update d)
  | n + 1 =>
    let d := { d with done := d.done + 1 }
    let b := b.onCtl fun c => c.stepTokens t d.hdr
    let b := if hSen d.hdr && (hSigEach d.hdr || d.done == d.steps) then b.slateAdd t (hSslate d.hdr) 1 else b
    Blk.complete b t u d n

/-- How many steps from `k` on are in the list of steps completed ahead of their turn. -/
def runAhead (l : List Nat) : Nat → Nat → Nat
  | 0, _ => 0
  | n + 1, k => if l.contains k then runAhead l n (k + 1) + 1 else 0

/-- One step of the descriptor with serial number `ser` of queue `u` completes, whatever its place (07 R164: all units but
the receiver complete their steps in order or without order between them). -/
def Blk.stepDone (b : Blk) (t u ser : Nat) : Blk :=
  match ((b.tile t).queue u).find ser with
  | some d => b.complete t u d 1
  | none => b

/-- Step `k` of the descriptor completes once every earlier step has (07 R164, the receiver). -/
def Blk.stepDoneInOrder (b : Blk) (t u ser k : Nat) : Blk :=
  match ((b.tile t).queue u).find ser with
  | some d =>
    let d := { d with ahead := insertNat k d.ahead }
    let n := runAhead d.ahead d.ahead.length d.done
    b.complete t u { d with ahead := d.ahead.filter fun i => d.done + n ≤ i } n
  | none => b

/-! ### Halts -/

/-- SEQ.HALT_INFO keeps the first halt (07 R169); IRQ cause HALT is set. -/
def Ctl.seqHaltInfo (c : Ctl) (t u code : Nat) (src : Bool) : Ctl :=
  let p := seqPage t
  let c := if c.flag p F.SEQ_HALT_INFO_VALID then c
    else c.wr (p + F.SEQ_HALT_INFO.off) (BitVec.ofNat 32 (0x80000000 + code * 0x10000 + ofBool src * 0x8000 + u))
  c.raise p 1

/-- Queue `u` halts at its head with a SEQ code (07 R169). -/
def Blk.seqHalt (b : Blk) (t u code : Nat) : Blk :=
  let b := b.onTile t fun x => x.setQueue u { x.queue u with halted := true }
  b.onCtl fun c => (c.errHw (seqPage t) code).seqHaltInfo t u code false

/-- The arrays halt: the array queue (`u` = 4) or the weight loader (`u` = 1) fails a check; all four queues of the pair
stop (03 R81, 07 R169). -/
def Blk.arrHalt (b : Blk) (t u code : Nat) : Blk :=
  let b := b.onTile t fun x => x.setQueue u { x.queue u with halted := true }
  b.onCtl fun c =>
    let p := arrPage t
    let c := if c.flag p F.ARR_HALT_INFO_VALID then c
      else c.wr (p + F.ARR_HALT_INFO.off) (BitVec.ofNat 32 (0x80000000 + code * 0x10000 + (if u = 1 then 1 else 0)))
    ((c.errHw p code).raise p 1).seqHaltInfo t u code true

/-- The arrays are halted: none of their four queues issues a step (03 R81). -/
def Blk.arrHalted (b : Blk) (t : Nat) : Bool := b.ctl.flag (arrPage t) F.ARR_HALT_INFO_VALID

/-- The vector engine halts (05 R135). -/
def Blk.vecHalt (b : Blk) (t code : Nat) : Blk :=
  let b := b.onTile t fun x => x.setQueue 5 { x.queue 5 with halted := true }
  b.onCtl fun c =>
    let p := vecPage t
    let c := c.wr (p + F.VEC_HALT_INFO.off) (BitVec.ofNat 32 (0x80000000 + code * 0x10000))
    ((c.errHw p code).raise p 1).seqHaltInfo t 5 code true

/-- The gather engine halts (09 R226). -/
def Blk.gathHalt (b : Blk) (t code : Nat) : Blk :=
  let b := b.onTile t fun x => x.setQueue 8 { x.queue 8 with halted := true }
  b.onCtl fun c => ((c.errHw (gathPage t) code).raise (gathPage t) 1).seqHaltInfo t 8 code true

/-- A sequencer read found poison: consumed at output point 3, and the queue halts with SEQ code 0x0F (11 R286). -/
def Blk.poisonHalt (b : Blk) (t u : Nat) : Blk := (b.onCtl fun c => c.tilePoison t 3).seqHalt t u 0x0F

/-! ### Descriptors -/

/-- Words of the body each unit's layout has (03 R77 to R79, 05 R133, 07 R171, R172, 09 R225). -/
def unitWords : Nat → Nat
  | 1 => 2 | 2 => 3 | 3 => 3 | 4 => 3 | 5 => 8 | 6 => 4 | 7 => 3 | 8 => 5 | _ => 0

/-- Byte address of descriptor slot `i` of a queue's list. -/
def Queue.slot (q : Queue) (i : Nat) : Nat := q.base * 64 + i * 64

/-- Word `n` (from 1) of a descriptor; a word beyond the layout reads 0. -/
def Desc.w (d : Desc) (n : Nat) : Word := d.words.getD (n - 1) 0

/-- What taking the descriptor at the head of a queue comes to: nothing yet, a changed block (a wait begun, a halt), or a
descriptor ready for the unit's own checks. -/
inductive Taken where
  | stay (b : Blk)
  | ready (d : Desc) (b : Blk)

/-- The body of the descriptor next in queue `u`: as read before, or read now and held; none where a word of it is poisoned (07 R160). -/
def Blk.readBody (b : Blk) (t u : Nat) (q : Queue) (e : List Ecc) : Option (List Word) × Blk :=
  match q.body with
  | some ws => (some ws, b)
  | none =>
    let (r, b) := b.spRead t (q.slot (q.next - q.hdrs.length) + 4) (4 * unitWords u) e
    if r.anyBad then (none, b)
    else
      let ws := (List.range (unitWords u)).map fun i => BitVec.ofNat 32 ((r.slice (4 * i) 4).nat)
      (some ws, b.onTile t fun x => x.setQueue u { q with body := some ws })

/-- The head descriptor of queue `u`, up to the unit's own checks: a poisoned header, the checks of R169, the slate wait,
the body, read once, the predicate (07 R160, R163, R166, R169). -/
def Blk.takeHead (b : Blk) (t u : Nat) (e : List Ecc) : Taken :=
  let x := b.tile t
  let q := (x.queue u).retire
  let c := b.ctl
  match q.halted, q.cur, q.hdrs with
  | false, none, (h, bad) :: _ =>
    let capBad (ch n : Nat) : Bool :=
      ch != 15 && (c.getN (seqPage t) F.SEQ_CH_CFG_CAP ch == 0 || decide (c.getN (seqPage t) F.SEQ_CH_CFG_CAP ch < n))
    if bad then .stay (b.poisonHalt t u)
    else if hUnit h ≠ u then .stay (b.seqHalt t u 0x01)
    else if hPen h && decide (u ≤ 4) then .stay (b.seqHalt t u 0x0E)
    else if capBad (hInCh h) (hInN h) || capBad (hOutCh h) (hOutN h) then .stay (b.seqHalt t u 0x03)
    else if hWen h && !c.reached t (hWslate h) && !q.released then
      .stay (b.setTile t (x.setQueue u { q with waiting := true }))
    else
      match b.readBody t u q e with
      | (none, b) => .stay (b.poisonHalt t u)
      | (some ws, b) =>
        if hPen h && !(c.get (seqPage t) F.SEQ_PRED_VALID).testBit (hPidx h) then .stay b
        else
          let void := hPen h && ((c.get (seqPage t) F.SEQ_PRED_VALUE).testBit (hPidx h) != hPpol h)
          .ready { hdr := h, words := ws, void := void, ser := q.ser } b
  | _, _, _ => .stay b

/-- The descriptor taken stands at the head of its queue, with its number of steps. -/
def Blk.install (b : Blk) (t u : Nat) (d : Desc) (steps : Nat) : Blk :=
  b.onTile t fun x =>
    let q := (x.queue u).retire
    x.setQueue u { q with cur := some { d with steps := steps }, hdrs := q.hdrs.drop 1, body := none, waiting := false, released := false,
                          ser := q.ser + 1 }

/-- The descriptor at the head of queue `u` that still has steps to issue. -/
def Blk.current (b : Blk) (t u : Nat) : Option Desc :=
  let q := (b.tile t).queue u
  if q.halted then none else q.cur.filter fun d => decide (d.issued < d.steps)

/-- Steps of queue `u`'s head issued up to step `k`, as tokens allow (07 R163); `fuel` bounds the walk. -/
def Blk.issueTo (b : Blk) (t u k : Nat) : Nat → Blk
  | 0 => b
  | n + 1 =>
    match b.current t u with
    | some d => if d.issued ≤ k ∧ b.ctl.tokensReady t d.hdr then Blk.issueTo (b.issue t u d) t u k n else b
    | none => b

/-- The oldest descriptor of queue `u` with an incomplete step. -/
def Queue.oldest (q : Queue) : Option Desc := q.drain.head?.or q.cur

/-! ### Shots (07 R167, R168) -/

/-- A shot start halted: it begins no list and the shot stays running (07 R167). -/
def Blk.shotHalt (b : Blk) (t u code : Nat) : Blk :=
  let b := b.onTile t fun x => if u = 0 then { x with shotHalt := true } else x.setQueue u { x.queue u with halted := true }
  b.onCtl fun c => (c.errHw (seqPage t) code).seqHaltInfo t u code false

/-- The first unit, from `u` on, whose list fails step 3 or 4 of R167. -/
def shotListFault (t : Nat) (hdr : Run) : Nat → Nat → Option (Nat × Nat)
  | 0, _ => none
  | k + 1, u =>
    let w := (hdr.slice (16 * u) 4).nat
    let cnt := w / 0x10000
    if cnt ≠ 0 ∧ !unitPresent t u then some (u, 0x01)
    else if cnt ≠ 0 ∧ spBytes t < w % 0x10000 * 64 + cnt * 64 then some (u, 0x04)
    else shotListFault t hdr k (u + 1)

/-- A shot starts: its header is read and checked, its predicates applied, and each queue begins its list (07 R167, R168). -/
def Blk.startShot (b : Blk) (t row : Nat) (e : List Ecc) : Blk :=
  let b := b.onTile t fun x => { x with shotRun := true }
  if spBytes t ≤ row * 512 then b.shotHalt t 0 0x04
  else
    let (r, b) := b.spRead t (row * 512) 132 e
    let used := (List.range 9).any fun u => (r.slice (16 * u) 4).anyBad
    if used then (b.onCtl fun c => c.tilePoison t 3).shotHalt t 0 0x0F
    else
      match shotListFault t r 8 1 with
      | some (u, code) => b.shotHalt t u code
      | none =>
        let w0 := (r.slice 0 4).nat
        let b := b.onCtl fun c =>
          let p := seqPage t
          let v := w0 / 0x10000 % 256
          let val := w0 / 0x100 % 256
          (c.put p F.SEQ_PRED_VALID v).put p F.SEQ_PRED_VALUE ((val &&& v) ||| (c.get p F.SEQ_PRED_VALUE &&& (255 - v)))
        b.onTile t fun x =>
          let x := { x with doneSen := w0.testBit 4, doneSlate := w0 % 16 }
          (List.range 9).foldl (fun x u =>
            if u = 0 then x
            else
              let w := (r.slice (16 * u) 4).nat
              let q := x.queue u
              x.setQueue u { q with base := w % 0x10000, count := w / 0x10000, next := 0, hdrs := [], body := none }) x

end Sys2Proof.Machine
end

