-- ==== Sys2Proof/Machine/Net.lean ====
section
/-!
DEFINITION. Putting packets and control messages on the mesh (10 R242 to R249, R262).
-/
namespace Sys2Proof.Machine

/-- An item put at a router's input port. -/
def Ctl.atRouter (c : Ctl) (t port : Nat) (i : Item) : Ctl := { c with net := c.net ++ [⟨.router t port, i⟩] }

/-! ### Deficit round robin (10 R246, R255, 12 R330) -/

/-- When, in turns from now, one of `n` with quantum `w` may send `z`: the one whose turn it is at once, if what it has left allows, each
other one when its turn has come often enough. -/
def Drr.when (d : Drr) (n : Nat) (w : Nat → Nat) (k z : Nat) : Nat :=
  let pos := (k + n - d.cur) % n
  let need := (z - d.left.getD k 0 + (w k - 1)) / max 1 (w k)
  if pos = 0 then need * n else (max 1 need - 1) * n + pos

/-- The next to send among `wants`, each with the size of its first item, under quanta `w`, and the round robin after it: each turn that
passes adds a quantum, one that has nothing to send keeps nothing. -/
def Drr.pick (d : Drr) (n : Nat) (w : Nat → Nat) (wants : List (Nat × Nat)) : Option (Nat × Drr) :=
  let best := wants.foldl (fun (m : Option (Nat × Nat × Nat)) (k, z) =>
    let at_ := d.when n w k z
    match m with
    | some (t, _, _) => if at_ < t then some (at_, k, z) else m
    | none => some (at_, k, z)) none
  best.map fun (t, k, z) =>
    let visits (i : Nat) : Nat :=
      let pos := (i + n - d.cur) % n
      if pos = 0 then t / n else if t < pos then 0 else (t - pos) / n + 1
    (k, { cur := k, left := (List.range n).map fun i =>
      if wants.any fun x => x.1 == i then d.left.getD i 0 + w i * visits i - (if i = k then z else 0) else 0 })

/-- Item `i` of those on the way taken out. -/
def Ctl.takeNet (c : Ctl) (i : Nat) : Ctl := { c with net := c.net.eraseIdx i }

/-- The tile an item stands at, delivered, if item `i` is one. -/
def Ctl.atTile (c : Ctl) (i : Nat) : Option (Nat × Item) :=
  match c.net[i]? with
  | some ⟨.tile t, it⟩ => some (t, it)
  | _ => none

/-- The endpoint an item has reached at the rim, if item `i` is one: stage, endpoint, item. -/
def Ctl.atRim (c : Ctl) (i : Nat) : Option (Nat × Nat × Item) :=
  match c.net[i]? with
  | some ⟨.rim s e, it⟩ => some (s, e, it)
  | _ => none

/-- The entry tile of rim-bound traffic from a source at (x, y) (10 R249): the edge and the column, moved to the nearest good
tile within the stage's columns where that tile is disabled. -/
def Ctl.entryOf (c : Ctl) (t endpoint : Nat) : Nat × Nat :=
  let x := tileX t
  let y := tileY t
  let (edge, col) :=
    if endpoint < 6 then (0, 8 * endpoint + x % 8)
    else if endpoint < 12 then (1, 8 * (endpoint - 6) + x % 8)
    else
      match c.tileStage t with
      | some s =>
        let w := c.rd (stagePage s + 0x40)
        if bits w 9 8 = 0 ∧ (bits w 13 12 < 3 ∨ y < 20) then (0, x) else (1, x)
      | none => (0, x)
  let row := if edge = 0 then 0 else 39
  let okCol (k : Int) : Bool :=
    decide (0 ≤ k ∧ k < 48) && c.tileGood (tileAt k.toNat row) && c.tileStage (tileAt k.toNat row) == c.tileStage t
  let cands : List Int := (col : Int) :: (List.range 48).flatMap fun d => [(col : Int) + (d + 1 : Nat), (col : Int) - (d + 1 : Nat)]
  match cands.find? okCol with
  | some k => (edge, k.toNat)
  | none => (edge, col)

/-- The entry tile of (edge, column). -/
def entryTile (e : Nat × Nat) : Nat := tileAt e.2 (if e.1 = 0 then 0 else 39)

/-- A payload with a poison bit for each 32-byte word (10 R242). -/
def Run.wordPoison (r : Run) : Run :=
  { r with bad := (List.range r.bytes.length).map fun i => ((r.bad.drop (i / 32 * 32)).take 32).any id }

/-- A packet as it travels: a poison bit a word, a tag of 24 bits (10 R242, R243). -/
def Pkt.framed (p : Pkt) : Pkt := { p with run := p.run.wordPoison, tag := p.tag % 2 ^ 24 }

/-- A packet sent by tile `t` to another tile. -/
def Ctl.sendPkt (c : Ctl) (t : Nat) (p : Pkt) : Ctl := c.atRouter t 0 (.pkt { p.framed with src := t })

/-- A packet sent by tile `t` to a rim endpoint through its entry tile (10 R249). -/
def Ctl.sendRim (c : Ctl) (t endpoint : Nat) (p : Pkt) : Ctl :=
  let e := c.entryOf t endpoint
  c.atRouter t 0 (.pkt { p.framed with src := t, rim := true, endpoint := endpoint, entryX := e.2, edge := e.1, dest := entryTile e })

/-- `n` bytes of a tile's scratchpad from `a` go to the row fetcher, as soon as its tags are clear (06 R149, 11 R296). -/
def Blk.submitFetch (b : Blk) (t a n : Nat) (e : List Ecc) : Blk :=
  if (b.tile t).init then b.onTile t fun x => { x with sp := { x.sp with submit := some (a, n) } }
  else
    let (r, b) := b.spRead t a n e
    b.onCtl fun c => c.sendRim t 0x32 { kind := 0, cls := 1, bytes := n, run := r }

/-- A packet from the rim to tile `t`: it enters the mesh at the entry tile the rule gives for `t` (10 R249). -/
def Ctl.fromRim (c : Ctl) (t endpoint : Nat) (p : Pkt) : Ctl :=
  let e := c.entryOf t endpoint
  c.atRouter (entryTile e) (if e.1 = 0 then 1 else 2) (.pkt { p.framed with dest := t })

/-- A control message sent by tile `t` to a tile, outside TC0's limit: acknowledgements and credit (10 R244). -/
def Ctl.sendMsg9 (c : Ctl) (t : Nat) (m : Msg) : Ctl := c.atRouter t 0 (.msg { m with src := t })

/-- A control message from the rim, which sends as 2047, to tile `t` (10 R244). -/
def Ctl.msgFromRim (c : Ctl) (t : Nat) (m : Msg) : Ctl :=
  let e := c.entryOf t 0x31
  c.atRouter (entryTile e) (if e.1 = 0 then 1 else 2) (.msg { m with dest := t, rim := true, src := 2047 })

/-- A TC0 message injected by tile `t` for core `k` (2: its sequencer): at most four in 128 tile cycles; a further one is
held and counted (10 R262). Answers whether it left. -/
def Blk.tc0 (b : Blk) (t k : Nat) (m : Msg) : Blk × Bool :=
  let x := b.tile t
  let m := { m with src := t }
  if x.tc0Sent < 4 ∧ x.tc0Held.isEmpty then
    ((b.onCtl fun c => (c.perf t 0x0C 1).atRouter t 0 (.msg m)).setTile t { x with tc0Sent := x.tc0Sent + 1 }, true)
  else
    ((b.onCtl fun c => c.bump (rtrPage t) F.RTR_TC0_HELD).setTile t { x with tc0Held := x.tc0Held ++ [(m, k)] }, false)

/-- A TC0 message of tile `t` to the rim: it targets its entry tile (10 R249). -/
def Blk.tc0Rim (b : Blk) (t k : Nat) (m : Msg) : Blk × Bool :=
  let e := b.ctl.entryOf t 0x30
  b.tc0 t k { m with rim := true, dest := entryTile e }

/-- An acknowledgement of a transfer or a remote write, carrying an error or not (07 R173, R174): ARG holds the stream and
the sequence number or the tag, VALUE bit 0 the error. The rim, which sends as source 2047, needs none. -/
def Ctl.sendAck (c : Ctl) (t dest arg : Nat) (err : Bool) : Ctl :=
  if 1920 ≤ dest then c else c.sendMsg9 t { type := 9, dest := dest, arg := arg, value := ofBool err }

end Sys2Proof.Machine
end

