-- ==== Sys2Proof/Machine/CoreOps.lean ====
section
/-!
DEFINITION. What the control cores' instructions share: registers, the program counter, traps, and the answers to their remote
accesses (06 R152, R153, 07 R181, R182).
-/
namespace Sys2Proof.Machine

/-- Control core `k` of a tile. -/
def Tile.core (x : Tile) (k : Nat) : Core := if k = 0 then x.core0 else x.core1

/-- Control core `k` replaced. -/
def Tile.setCore (x : Tile) (k : Nat) (c : Core) : Tile := if k = 0 then { x with core0 := c } else { x with core1 := c }

/-- Register `r` of a core; x0 reads 0 (RV32). -/
def Core.reg (c : Core) (r : Nat) : Word := if r = 0 then 0 else c.x.getD r 0

/-- Register `r` written; a write to x0 is discarded (RV32). -/
def Core.setReg (c : Core) (r : Nat) (v : Word) : Core := if r = 0 then c else { c with x := c.x.set r v }

/-- The instruction is complete: the program counter moves past its four bytes. -/
def Core.advance (c : Core) : Core := { c with pc := c.pc + 4, stall := .none }

/-- The exception a core raises is recorded; where its handler stands the manual does not say (log 8). -/
def Core.raiseTrap (c : Core) (e : CoreTrap) : Core := { c with trap := some e, stall := .none, pc := Config.trapPc c.pc }

/-- Core `k` changed. -/
def Blk.onCore (b : Blk) (t k : Nat) (f : Core → Core) : Blk := b.onTile t fun x => x.setCore k (f (x.core k))

/-- A loaded value of `size` bytes, extended to 32 bits (RV32). -/
def loadExt (size : Nat) (sext : Bool) (v : Nat) : Word :=
  if sext then BitVec.ofInt 32 (signedOf (8 * size) v) else BitVec.ofNat 32 (v % 2 ^ (8 * size))

/-- The tag of a packet that core `k` sends (10 R243: returned in the reply). -/
def coreTag (k n : Nat) : Nat := n * 4 + k

/-- The answer to a core's remote access: an error raises the access fault (DEDUCED, log 8); a poisoned load raises a load
access fault and consumes poison (06 R151, 11 R286); else a load writes its register. -/
def Blk.coreAnswer (b : Blk) (t tag : Nat) (store err : Bool) (r : Run) : Blk :=
  let k := tag % 4
  let c := (b.tile t).core k
  match c.awaits.find? fun w => w.tag == tag / 4 && w.store == store with
  | none => b
  | some w =>
    let b := b.onCore t k fun c => { c with awaits := c.awaits.erase w }
    if err then b.onCore t k fun c => c.raiseTrap (if store then .storeAccess w.addr else .loadAccess w.addr)
    else if store then b
    else if r.anyBad then (b.onCtl fun c => c.tilePoison t 1).onCore t k fun c => c.raiseTrap (.loadAccess w.addr)
    else b.onCore t k fun c => c.setReg w.rd (loadExt w.size w.sext r.nat)

end Sys2Proof.Machine
end

