-- ==== Sys2Proof/Machine/Sequencer.lean ====
section
/-!
DEFINITION. Shots, descriptor prefetch and slates (07 R160, R166 to R168, R176 to R180).
-/
namespace Sys2Proof.Machine

/-- The next state of a command whose effect on the block is `f`. -/
def State.on (s : State) (f : Blk → Blk) : Host.Outcome State Fault Refusal := .next { s with blk := f s.blk }

/-- The next state of a command whose effect is on the control plane only. -/
def State.onCtl (s : State) (f : Ctl → Ctl) : Host.Outcome State Fault Refusal := s.on fun b => b.onCtl f

/-! ### Prefetch and shots -/

/-- A queue prefetches the header of its next descriptor, at most four ahead (07 R160). -/
def Blk.prefetch (b : Blk) (t u : Nat) (e : List Ecc) : Blk :=
  let x := b.tile t
  let q := x.queue u
  if b.live t && x.shotRun && !x.shotHalt && !q.halted && decide (q.next < q.count) && decide (q.hdrs.length < 4) then
    let (r, b) := b.spRead t (q.slot q.next) 4 e
    b.onTile t fun x => x.setQueue u { x.queue u with next := q.next + 1, hdrs := q.hdrs ++ [(BitVec.ofNat 32 r.nat, r.anyBad)] }
  else b

/-- DESCRIPTOR_PREFETCH (07 R160). -/
def execDescriptorPrefetch (t : TileId) (u : Fin 8) (e : List Ecc) (s : State) : Host.Outcome State Fault Refusal :=
  s.on fun b => b.prefetch t (u.val + 1) e

/-- A known-answer shot runs on the tile (17 R445). -/
def Ctl.kasRuns (c : Ctl) (t : Nat) : Bool := c.ras.runs.any fun k => k.tile == t

/-- A known-answer shot is to run on the tile at its next shot boundary (17 R445). -/
def Ctl.kasDue (c : Ctl) (t : Nat) : Bool := c.mirynUp && c.ras.wanted.any fun k => k.tile == t

/-- A load step of some cause is held for its rail's notice (14 R376). -/
def Ctl.stepHeld (c : Ctl) (p : StepCause → Bool) : Bool := c.pwr.notices.any fun n => n.phase != .released && p n.cause

/-- The shot start of a tile is a load step that is held (14 R376). -/
def Ctl.shotHeld (c : Ctl) (t : Nat) : Bool := c.stepHeld fun w => match w with | .shot u => u.val == t | _ => false

/-- The START or WRAP of a stage is a load step that is held (14 R376). -/
def Ctl.stageHeld (c : Ctl) (s : Nat) : Bool := c.stepHeld fun w => match w with | .stage u => u.val == s | _ => false

/-- A shot start request: at once, or pending while a shot runs, a known-answer shot too, while the scratchpad is being cleared, or while
its load step is held for its notice (14 R376); `false` where one is pending already, which a start never overtakes (07 R168). -/
def Blk.requestShot (b : Blk) (t row : Nat) (e : List Ecc) : Blk × Bool :=
  let x := b.tile t
  if !x.shotRun && x.pendShot.isNone && !x.init && !b.ctl.kasRuns t && !b.ctl.shotHeld t then (b.startShot t row e, true)
  else if x.pendShot.isNone then (b.setTile t { x with pendShot := some row }, true)
  else (b, false)

/-- A core that stalls on its shot start: its shot becomes pending and it goes on (07 R168). -/
def Blk.releaseShotStall (b : Blk) (t : Nat) : Blk :=
  let x := b.tile t
  let adv (k : Core) : Core := { k with stall := .none, pc := k.pc + 4 }
  match x.core0.stall, x.core1.stall with
  | .shot r, _ => b.setTile t { x with core0 := adv x.core0, pendShot := some r }
  | _, .shot r => b.setTile t { x with core1 := adv x.core1, pendShot := some r }
  | _, _ => b

/-- PENDING_SHOT_START: the pending shot starts once no shot runs, after a known-answer shot that is due (07 R168, 17 R445). -/
def execPendingShotStart (t : TileId) (e : List Ecc) (s : State) : Host.Outcome State Fault Refusal :=
  s.on fun b =>
    let x := b.tile t
    match x.shotRun, x.pendShot with
    | false, some row => if b.live t && !x.init && !b.ctl.kasRuns t && !b.ctl.kasDue t && !b.ctl.shotHeld t then ((b.setTile t { x with pendShot := none }).startShot t row e).releaseShotStall t else b
    | _, _ => b

/-- SHOT_COMPLETE: every descriptor of every list is complete: DONE_SLATE is signalled and IRQ cause SHOT_DONE set; a shot
with a halted queue never completes (07 R168). -/
def execShotComplete (t : TileId) (s : State) : Host.Outcome State Fault Refusal :=
  s.on fun b =>
    let x := b.tile t
    if x.shotRun && !x.shotHalt && x.queues.all fun q => !q.halted && q.complete then
      let b := b.setTile t { x with shotRun := false }
      let b := if x.doneSen then b.slateAdd t x.doneSlate 1 else b
      b.onCtl fun c => c.raise (seqPage t) 2
    else b

/-! ### Slates -/

/-- Rim slate `i`. -/
def Ctl.rimSlate (c : Ctl) (i : Nat) : RimSlate := SMap.get {} c.rsl i

/-- Rim slate `i` replaced. -/
def Ctl.setRimSlate (c : Ctl) (i : Nat) (x : RimSlate) : Ctl := { c with rsl := SMap.set {} c.rsl i x }

/-- The valid stage whose RSL_RANGE covers rim slate `i` (07 R179). -/
def Ctl.rimSlateStage (c : Ctl) (i : Nat) : Option Nat :=
  (List.range 12).find? fun s => c.valid s &&
    decide (c.get (stagePage s) F.STAGE_RSL_RANGE_FIRST ≤ i) &&
    decide (i < c.get (stagePage s) F.STAGE_RSL_RANGE_FIRST + c.get (stagePage s) F.STAGE_RSL_RANGE_COUNT)

/-- A rim slate becomes REACHED: its rearm is due where STEP ≠ 0, its broadcast where BCAST = 1 (07 R177, R180). -/
def RimSlate.reach (x : RimSlate) : RimSlate :=
  { x with reached := true, fresh := true, rearm := x.step != 0, due := if x.bcast then x.due + 1 else x.due }

/-- An increment of a rim slate (07 R178, R179). -/
def RimSlate.add (x : RimSlate) (v : Nat) : RimSlate :=
  let x := { x with count := (x.count + v) % 2 ^ 32 }
  if !x.reached && slateMet x.count x.thresh then x.reach else x

/-- REACHED re-evaluated after a write of COUNT or THRESH (07 R176). -/
def RimSlate.eval (x : RimSlate) : RimSlate :=
  if slateMet x.count x.thresh then x.reach else { x with reached := false, fresh := false, rearm := false }

/-- What reaches a rim slate takes effect: an increment sets REACHED only, a write of COUNT or THRESH has it judged anew (07 R176, R178). -/
def RimSlate.take (x : RimSlate) : RimIn → RimSlate
  | .add v => x.add v
  | .count w => { x with count := w }.eval
  | .thresh w => { x with thresh := w }.eval
  | .ctrl s b t => { x with step := s, bcast := b, target := t }

/-- A write held for a rim slate, without its judgement; an increment is summed apart (07 R178). -/
def RimSlate.plain (x : RimSlate) : RimIn → RimSlate
  | .add _ => x
  | .count w => { x with count := w }
  | .thresh w => { x with thresh := w }
  | .ctrl s b t => { x with step := s, bcast := b, target := t }

/-- The amount of an increment held. -/
def RimIn.amount : RimIn → Nat
  | .add v => v
  | _ => 0

/-- What was held takes effect in one cycle: the last write of each register, the increments added to the count written, and the threshold
written compared with their sum (07 R178, R179). -/
def RimSlate.settle (x : RimSlate) : RimSlate :=
  let l := x.late
  let y := { l.foldl RimSlate.plain x with late := [] }
  let v := l.foldl (fun n i => n + i.amount) 0
  let judged := l.any fun i => match i with | .count _ | .thresh _ => true | _ => false
  if judged then { y with count := (y.count + v) % 2 ^ 32 }.eval else y.add v

/-- The clocks of stage `s` are stopped for a frequency change (15 R394). -/
def Ctl.stageStopped (c : Ctl) (s : Nat) : Bool := c.clk.changes.any fun x => x.phase == .stopped && x.scope == s

/-- An increment or a write reaches rim slate `i`; while the clocks of the stage that owns it are stopped the rim holds it (07 R179). -/
def Ctl.rimTake (c : Ctl) (i : Nat) (x : RimIn) : Ctl :=
  let r := c.rimSlate i
  c.setRimSlate i (if (c.rimSlateStage i).any c.stageStopped then { r with late := r.late ++ [x] } else r.take x)

/-- The first cycle after a stop of stage `s`: what the rim held for its slates takes effect (07 R179). -/
def Ctl.settleRim (c : Ctl) (s : Nat) : Ctl :=
  (c.rsl.filter fun e => !e.2.late.isEmpty).foldl (fun (c : Ctl) e =>
    if c.rimSlateStage e.1 = some s then c.setRimSlate e.1 e.2.settle else c) c

/-- The waits present on local slate `n` are released: waiting descriptors, cores in SL.WAIT, the slate's IRQ cause, once
per generation (07 R176, R177, R191). -/
def Blk.slateRelease (b : Blk) (t n : Nat) : Blk :=
  let x := b.tile t
  if !x.fresh.contains n then b
  else
    let rel (q : Queue) : Queue :=
      match q.waiting, q.hdrs with
      | true, (h, _) :: _ => if hWen h && hWslate h == n then { q with released := true, waiting := false } else q
      | _, _ => q
    let core (k : Core) : Core := if k.stall = .slate n then { k with stall := .none, pc := k.pc + 4 } else k
    let b := b.setTile t { x with
      fresh := x.fresh.filter (· != n), queues := x.queues.map rel, core0 := core x.core0, core1 := core x.core1 }
    b.onCtl fun c => c.raise (slatePage t) (n + 1)

/-- SLATE_WAIT_RELEASE: in the cycle after a slate is REACHED its waits are released; a rim slate holds none itself
(07 R176, R179); it has no cycle while its stage's clocks are stopped. -/
def execSlateWaitRelease (r : SlateRef) (s : State) : Host.Outcome State Fault Refusal :=
  s.on fun b =>
    match r with
    | .loc t n => b.slateRelease t n
    | .rim i =>
      if (b.ctl.rimSlateStage i).any fun s => !b.ctl.stageStopped s then
        b.onCtl fun c => c.setRimSlate i { c.rimSlate i with fresh := false }
      else b

/-- SLATE_REARM: THRESH rises by STEP and REACHED is re-evaluated, after the waits of the generation are released (07 R177). -/
def execSlateRearm (r : SlateRef) (s : State) : Host.Outcome State Fault Refusal :=
  s.on fun b =>
    match r with
    | .loc t n =>
      if (b.tile t).rearm.contains n then
        let b := b.slateRelease t n
        let b := b.onTile t fun x => { x with rearm := x.rearm.filter (· != n.val) }
        let p := slatePage t
        let th := b.ctl.getN p F.SLATE_THRESH_THRESH n + b.ctl.getN p F.SLATE_CTRL_STEP n
        (b.onCtl fun c => c.putN p F.SLATE_THRESH_THRESH n th).slateEval t n
      else b
    | .rim i =>
      let x := b.ctl.rimSlate i
      if x.rearm && (b.ctl.rimSlateStage i).any fun s => !b.ctl.stageStopped s then
        b.onCtl fun c => c.setRimSlate i
          { x with thresh := (x.thresh + x.step) % 2 ^ 32, rearm := false, fresh := false }.eval
      else b

/-- SLATE_ADD_MESSAGE: an arriving TC0 slate add adds its value to the slate it names: a local slate of the tile it reached
(absorbed by a held tile), or a rim slate of the stage, which takes it at once or after its stage's stop (07 R178, R179, 16 R414). -/
def execSlateAddMessage (i : Nat) (s : State) : Host.Outcome State Fault Refusal :=
  s.on fun b =>
    match b.ctl.atTile i, b.ctl.atRim i with
    | some (t, .msg m), _ =>
      if m.type = 1 then
        let b := b.onCtl fun c => c.takeNet i
        if b.live t then b.slateAdd t (m.arg % 16) m.value else b
      else b
    | _, some (st, 0x30, .msg m) =>
      if m.type = 1 then
        b.onCtl fun c =>
          let c := c.takeNet i
          if c.rimSlateStage (m.arg % 1024) = some st then
            c.rimTake (m.arg % 1024) (.add m.value)
          else c
      else b
    | _, _ => b

/-- Predicate `p` of a tile made VALID with a value (07 R166). -/
def Ctl.predSet (c : Ctl) (t p : Nat) (v : Bool) : Ctl :=
  let q := seqPage t
  let val := c.get q F.SEQ_PRED_VALUE
  (c.put q F.SEQ_PRED_VALID (c.get q F.SEQ_PRED_VALID ||| 2 ^ p)).put q F.SEQ_PRED_VALUE
    (if v then val ||| 2 ^ p else val &&& (255 - 2 ^ p))

/-- PREDICATE_TOKEN: an arriving token sets a predicate VALID with its value; a held tile absorbs it (07 R166, 16 R414). -/
def execPredicateToken (i : Nat) (s : State) : Host.Outcome State Fault Refusal :=
  s.on fun b =>
    match b.ctl.atTile i with
    | some (t, .msg m) =>
      if m.type = 2 then
        let b := b.onCtl fun c => c.takeNet i
        if b.live t then b.onCtl fun c => c.predSet t (m.arg % 8) (m.value % 2 == 1) else b
      else b
    | _ => b

/-- RIM_SLATE_BROADCAST: a broadcast due adds 1 to local slate TARGET of every good tile of the stage that is not held
(07 R180, 16 R414). -/
def execRimSlateBroadcast (i : Fin 1024) (s : State) : Host.Outcome State Fault Refusal :=
  s.on fun b =>
    let x := b.ctl.rimSlate i
    match b.ctl.rimSlateStage i with
    | some st =>
      if x.due = 0 then b
      else
        let b := b.onCtl fun c => c.setRimSlate i { x with due := x.due - 1 }
        (b.ctl.stageTiles st).foldl (fun b t => if b.live t then b.slateAdd t x.target 1 else b) b
    | none => b

end Sys2Proof.Machine
end

