-- ==== Sys2Proof/Machine/Transfers.lean ====
section
/-!
DEFINITION. The mover and the receiver: transfers, credit, tracking and acknowledgement (07 R171 to R175).
-/
namespace Sys2Proof.Machine

/-- Bytes per transfer of a mover or receiver descriptor: (XB16_M1 + 1) * 16. -/
def xbOf (d : Desc) : Nat := (bits (d.w 2) 8 0 + 1) * 16

/-- The tiles of a multicast run from `dest` to `last` along its row (`mode` 1) or column (2), in either direction; the one
tile for unicast (07 R171). -/
def runTiles (mode dest last : Nat) : List Nat :=
  let span (a b : Nat) : List Nat :=
    if a ≤ b then (List.range (b - a + 1)).map (a + ·) else (List.range (a - b + 1)).map (a - ·)
  if mode = 1 then (span (tileX dest) last).map fun x => tileAt x (tileY dest)
  else if mode = 2 then (span (tileY dest) last).map fun y => tileAt (tileX dest) y
  else [dest]

/-- The end of a multicast run is a column, or a row, of the die (07 R171). -/
def runOnDie (mode last : Nat) : Bool := (mode != 1 || decide (last < 48)) && (mode != 2 || decide (last < 40))

/-- A step's bytes lie in the scratchpad, or, in column order, the unit rules hold: XB a multiple of 512, the address of 32,
the units within 16 columns and the rows within the scratchpad (07 R171, 06 R142). -/
def extentOk (t : Nat) (colmaj : Bool) (a xb : Nat) : Bool :=
  if colmaj then
    xb % 512 == 0 && a % 32 == 0 && decide (a % 512 / 32 + xb / 512 ≤ 16) && decide ((a / 512 + 16) * 512 ≤ spBytes t)
  else decide (a + xb ≤ spBytes t)

/-- The pieces (address, bytes) of a step's data in transfer order: one run of bytes, or a word per row of each column
access (07 R171, 06 R142). -/
def pieces (colmaj : Bool) (a xb : Nat) : List (Nat × Nat) :=
  if colmaj then
    (List.range (xb / 512)).flatMap fun k => (List.range 16).map fun i => ((a / 512 + i) * 512 + (a % 512 / 32 + k) * 32, 32)
  else [(a, xb)]

/-- Words read one column access after another; `e` gives the outcome for each word in turn (06 R142, R150). -/
def Blk.readPieces (b : Blk) (t : Nat) (e : List Ecc) : List (Nat × Nat) → Run × Blk
  | [] => ({}, b)
  | (a, n) :: r =>
    let (x, b) := b.spRead t a n e
    let (y, b) := Blk.readPieces b t (e.drop (wordsOf a n).length) r
    (x.append y, b)

/-- A run written to the scratchpad piece by piece; `e` gives the outcome for each word written in part (06 R145). -/
def Blk.writePieces (b : Blk) (t : Nat) (r : Run) (e : List Ecc) : List (Nat × Nat) → Blk
  | [] => b
  | (a, n) :: l =>
    let p := r.slice 0 n
    Blk.writePieces (b.spStore t a p e) t (r.slice n r.bytes.length) (e.drop (partWords a p.bytes.length).length) l

/-! ### The mover -/

def mvClass (d : Desc) : Nat := bits (d.w 1) 31 30
def mvDmode (d : Desc) : Nat := bits (d.w 1) 29 28
def mvColmaj (d : Desc) : Bool := bit (d.w 1) 27
def mvSrc (d : Desc) (i : Nat) : Nat := bits (d.w 1) 17 0 * 16 + i * (bits (d.w 2) 31 16 * 16)
def mvDest (d : Desc) : Nat := bits (d.w 3) 31 21
def mvLast (d : Desc) : Nat := bits (d.w 3) 20 15
def mvStream (d : Desc) : Nat := bits (d.w 3) 14 11
def mvRsen (d : Desc) : Bool := bit (d.w 3) 10
def mvRslate (d : Desc) : Nat := bits (d.w 3) 9 6
def mvSeq (d : Desc) (i : Nat) : Nat := (bits (d.w 4) 31 16 + i) % 2 ^ 16
def mvSteps (d : Desc) : Nat := bits (d.w 4) 15 0 + 1

/-- The tiles a mover descriptor names: the run of a multicast, or DEST. -/
def mvRun (d : Desc) : List Nat := runTiles (mvDmode d) (mvDest d) (mvLast d)

/-- The good tiles of the run: those that receive and acknowledge (07 R171). -/
def mvDests (c : Ctl) (d : Desc) : List Nat := (mvRun d).filter c.tileGood

/-- The mover's checks before step 0 (07 R171); none: the first failing code. -/
def moverCheck (c : Ctl) (t : Nat) (d : Desc) : Option Nat :=
  let st := c.tileStage t
  let inStage (u : Nat) : Bool := decide (u < 1920) && st.isSome && c.tileStage u == st
  if !((mvDest d :: mvRun d).all inStage && runOnDie (mvDmode d) (mvLast d) && c.tileGood (mvDest d)) then some 0x05
  else if mvClass d = 0 ∧ mvDmode d ≠ 0 then some 0x07
  else if mvDmode d = 3 then some 0x07
  else if !((List.range (mvSteps d)).all fun i => extentOk t (mvColmaj d) (mvSrc d i) (xbOf d)) then some 0x06
  else none

/-- MOVER_DESCRIPTOR: the descriptor at the head of the mover's queue is checked and taken (07 R169, R171). -/
def execMoverDescriptor (t : TileId) (e : List Ecc) (s : State) : Host.Outcome State Fault Refusal :=
  s.on fun b =>
    if !b.live t then b
    else match b.takeHead t 6 e with
      | .stay b => b
      | .ready d b =>
        match moverCheck b.ctl t d with
        | some code => b.seqHalt t 6 code
        | none => b.install t 6 d (mvSteps d)

/-- Credit units of a transfer of `n` bytes: ceil(n / 256); one for a void transfer (07 R173). -/
def creditUnits (n : Nat) : Nat := if n = 0 then 1 else (n + 255) / 256

/-- Chunks of a mixdown transfer: ceil(XB / 64), the last padded with zeros (10 R256). -/
def chunksOf (r : Run) (xb : Nat) (from_ : Nat × Nat × Nat) : List Chunk :=
  (List.range ((xb + 63) / 64)).map fun i =>
    let p := r.slice (64 * i) 64
    { bytes := p.bytes ++ List.replicate (64 - p.bytes.length) 0
      badLo := (p.slice 0 32).anyBad, badHi := (p.slice 32 32).anyBad, from_ := [from_] }

/-- The destinations whose grant the next step still lacks (07 R173). -/
def missingGrants (x : Tile) (dests : List Nat) (units : Nat) : List Nat :=
  dests.filter fun u => !((x.grants.find? fun g => g.1 == u).any fun g => decide (units ≤ g.2))

/-- Granted units spent. -/
def spendGrants (g : List (Nat × Nat)) (dests : List Nat) (units : Nat) : List (Nat × Nat) :=
  (g.map fun e => if dests.contains e.1 then (e.1, e.2 - units) else e).filter fun e => e.2 != 0

/-- The data of the mover's step `i`: rows through its staging buffer, or column accesses (06 R143, 07 R171). -/
def Blk.mvData (b : Blk) (t : Nat) (d : Desc) (i : Nat) (e : List Ecc) : Run × Blk :=
  if mvColmaj d then b.readPieces t e (pieces true (mvSrc d i) (xbOf d))
  else
    let f := b.stagedRead t 6 d.ser (mvSrc d i) (xbOf d) e
    (f.run, f.blk)

/-- MOVER_TRANSFER_SEND: the mover's next step issues once tokens, a tracking entry and, for every destination, credit are
there, and one transfer leaves, void or not; credit not yet asked for is asked for. A CLASS 0 step needs room in the
injection buffer instead of credit; void, it has no payload, so no chunk to wait for, and completes (log 53). `track` and `credit` are cycles it waited, counted (07 R163, R170, R171, R173, R174). -/
def execMoverTransferSend (t : TileId) (track credit : Nat) (e : List Ecc) (s : State) : Host.Outcome State Fault Refusal :=
  s.on fun b =>
    match b.live t, b.current t 6 with
    | true, some d =>
      let b := b.onCtl fun c => (c.bump (seqPage t) F.SEQ_STALL_TRACK track).bump (seqPage t) F.SEQ_STALL_CREDIT credit
      let x := b.tile t
      let i := d.issued
      let dests := mvDests b.ctl d
      let xb := if d.void then 0 else xbOf d
      let units := creditUnits xb
      if !b.ctl.tokensReady t d.hdr || decide (1024 ≤ x.tracked.length) then b
      else if mvClass d = 0 then
        if d.void then ((b.issue t 6 d).onCtl fun c => c.perf t 0x08 1).stepDone t 6 d.ser
        else if 256 < x.mix.inj.length + (xbOf d + 63) / 64 then b
        else
          let (r, b) := b.mvData t d i e
          let cs := chunksOf r (xbOf d) (t, d.ser, i)
          let b := b.issue t 6 d
          let b := b.onCtl fun c => c.perf t 0x08 1
          b.onTile t fun x => { x with
            mix := { x.mix with inj := x.mix.inj ++ cs }
            tracked := x.tracked ++ [{ ser := d.ser, step := i, stream := mvStream d, seq := mvSeq d i, chunks := cs.length }] }
      else
        let miss := missingGrants x dests units
        let ask := miss.filter fun u => !x.asked.contains u
        if !miss.isEmpty then
          let b := ask.foldl (fun b u => b.onCtl fun c => c.sendMsg9 t { type := 0xA, dest := u, value := units }) b
          b.onTile t fun x => { x with asked := x.asked ++ ask }
        else
          let (r, b) := if d.void then ({}, b) else b.mvData t d i e
          let b := b.issue t 6 d
          let b := b.onTile t fun x => { x with
            asked := [], grants := spendGrants x.grants dests units
            tracked := x.tracked ++ [{ ser := d.ser, step := i, stream := mvStream d, seq := mvSeq d i, dests := dests }] }
          b.onCtl fun c => (c.perf t 0x08 1).sendPkt t
            { kind := 0, cls := mvClass d, void := d.void, dmode := mvDmode d, dest := dests.headD (mvDest d), seq := mvSeq d i
              stream := mvStream d, rsen := mvRsen d, rslate := mvRslate d, mcLast := mvLast d, bytes := xb, run := r }
    | _, _ => b

/-! ### Credit and arrival -/

/-- Requests for credit granted in arrival order while units are free (07 R173); `fuel` bounds the walk. -/
def Blk.grantLoop (b : Blk) (t : Nat) : Nat → Blk
  | 0 => b
  | n + 1 =>
    let x := b.tile t
    match x.creditReqs with
    | [] => b
    | r :: rest =>
      if x.granted + r.units ≤ 256 then
        let b := b.setTile t { x with creditReqs := rest, granted := x.granted + r.units }
        Blk.grantLoop (b.onCtl fun c => c.sendMsg9 t { type := 0xB, dest := r.src, value := r.units }) t n
      else b

/-- Requests granted as far as units allow. -/
def Blk.grant (b : Blk) (t : Nat) : Blk := b.grantLoop t ((b.tile t).creditReqs.length)

/-- CREDIT_REQUEST: a request arrives and is queued for units; a held tile's wrapper grants it at once (07 R173, 16 R414). -/
def execCreditRequest (i : Nat) (s : State) : Host.Outcome State Fault Refusal :=
  s.on fun b =>
    match b.ctl.atTile i with
    | some (t, .msg m) =>
      if m.type = 0xA then
        let b := b.onCtl fun c => c.takeNet i
        if b.live t then (b.onTile t fun x => { x with creditReqs := x.creditReqs ++ [⟨m.src, m.value⟩] }).grant t
        else b.onCtl fun c => c.sendMsg9 t { type := 0xB, dest := m.src, value := m.value }
      else b
    | _ => b

/-- CREDIT_GRANT: a grant arrives at the sender (07 R173); one for a held tile is absorbed (16 R414). -/
def execCreditGrant (i : Nat) (s : State) : Host.Outcome State Fault Refusal :=
  s.on fun b =>
    match b.ctl.atTile i with
    | some (t, .msg m) =>
      if m.type = 0xB then
        let b := b.onCtl fun c => c.takeNet i
        if b.live t then
          b.onTile t fun x => { x with
            asked := x.asked.filter (· != m.src)
            grants := if x.grants.any fun g => g.1 == m.src then
                x.grants.map fun g => if g.1 = m.src then (g.1, g.2 + m.value) else g
              else x.grants ++ [(m.src, m.value)] }
        else b
      else b
    | _ => b

/-- The key an acknowledgement carries: stream and sequence number. -/
def ackArg (stream seq : Nat) : Nat := stream * 2 ^ 16 + seq

/-- TRANSFER_ARRIVE: a transfer enters the receive queue; a held tile's wrapper answers it with an error (07 R173, 16 R414).
One from the rim takes its units as it arrives and waits while there are none. In spill mode it stands in the queue until it is written to the outtakes region (07 R185). -/
def execTransferArrive (i : Nat) (s : State) : Host.Outcome State Fault Refusal :=
  s.on fun b =>
    match b.ctl.atTile i with
    | some (t, .pkt p) =>
      if p.kind = 0 then
        let x := b.tile t
        let rim := p.src == 2047
        let units := if rim then creditUnits p.run.bytes.length else 0
        if rim && b.live t && decide (256 < x.granted + units) then b
        else
        let b := b.onCtl fun c => c.takeNet i
        if b.live t then
          b.onTile t fun x => { x with granted := x.granted + units, recvQ := x.recvQ ++
            [{ src := p.src, stream := p.stream, seq := p.seq, void := p.void, rsen := p.rsen, rslate := p.rslate
               run := p.run, arrival := b.tileReel t % 2 ^ 32 }] }
        else b.onCtl fun c => c.sendAck t p.src (ackArg p.stream p.seq) true
      else b
    | _ => b

/-! ### The receiver -/

def rvStream (d : Desc) : Nat := bits (d.w 1) 31 28
def rvColmaj (d : Desc) : Bool := bit (d.w 1) 27
def rvDst (d : Desc) (i : Nat) : Nat := bits (d.w 1) 17 0 * 16 + i * (bits (d.w 2) 31 16 * 16)
def rvSeqBase (d : Desc) : Nat := bits (d.w 3) 31 16
def rvSteps (d : Desc) : Nat := bits (d.w 3) 15 0 + 1

/-- The receiver's checks (07 R172). -/
def receiverCheck (t : Nat) (d : Desc) : Option Nat :=
  if 0x8000 < rvSteps d then some 0x06
  else if !((List.range (rvSteps d)).all fun i => extentOk t (rvColmaj d) (rvDst d i) (xbOf d)) then some 0x06
  else none

/-- RECEIVER_DESCRIPTOR: the descriptor at the head of the receiver's queue is checked and taken (07 R169, R172). -/
def execReceiverDescriptor (t : TileId) (e : List Ecc) (s : State) : Host.Outcome State Fault Refusal :=
  s.on fun b =>
    if !b.live t then b
    else match b.takeHead t 7 e with
      | .stay b => b
      | .ready d b =>
        match receiverCheck t d with
        | some code => b.seqHalt t 7 code
        | none => b.install t 7 d (rvSteps d)

/-- The head receiver descriptor: the oldest with an incomplete step (07 R172, R173). -/
def Tile.recvHead (x : Tile) : Option Desc :=
  let q := x.queue 7
  if q.halted then none else q.oldest

/-- The step of descriptor `d` a transfer matches, if it does (07 R173). -/
def rvMatch (d : Desc) (f : Xfer) : Option Nat :=
  if f.stream = rvStream d ∧ (f.seq + 2 ^ 16 - rvSeqBase d) % 2 ^ 16 < d.steps then
    some ((f.seq + 2 ^ 16 - rvSeqBase d) % 2 ^ 16)
  else none

/-- Units of a transfer freed. -/
def Blk.freeUnits (b : Blk) (t : Nat) (f : Xfer) : Blk :=
  (b.onTile t fun x => { x with granted := x.granted - creditUnits f.run.bytes.length }).grant t

/-- The acknowledgement of a written transfer: to its sender, or for an eject back along its chain (07 R174, 10 R259). -/
def Blk.ackXfer (b : Blk) (t : Nat) (f : Xfer) : Blk :=
  if f.eject then b.onCtl fun c => { c with mixAcks := c.mixAcks ++ [(false, f.from_)] }
  else b.onCtl fun c => c.sendAck t f.src (ackArg f.stream f.seq) false

/-- The data of a transfer written by step `k`: the shorter of its length and XB, every written word poisoned where they
differ (07 R172). `e` is what the checks of the words written in part find (06 R145). -/
def Blk.writeXfer (b : Blk) (t : Nat) (d : Desc) (k : Nat) (f : Xfer) (e : List Ecc) : Blk :=
  let n := f.run.bytes.length
  let xb := xbOf d
  let r := if n = xb then f.run else (f.run.slice 0 (min n xb)).poisoned
  b.writePieces t r e (pieces (rvColmaj d) (rvDst d k) xb)

/-- RECEIVER_WRITE: the oldest transfer in the queue that matches the head receiver descriptor is written, its slate
increment applied, and it is acknowledged; a duplicate is discarded; a void step or a void transfer writes nothing
(07 R166, R172, R173, R175). `e` is what the checks of the words written in part find. In spill mode only refills are written: the others go to the outtakes region (07 R185). -/
def execReceiverWrite (t : TileId) (e : List Ecc) (s : State) : Host.Outcome State Fault Refusal :=
  s.on fun b =>
    let x := b.tile t
    match b.live t, x.recvHead with
    | true, some d =>
      match x.recvQ.find? fun f => (rvMatch d f).isSome && (!x.spill || f.refill) with
      | some f =>
        let k := (rvMatch d f).getD 0
        let drop (b : Blk) : Blk := b.onTile t fun x => { x with recvQ := x.recvQ.erase f }
        if k < d.done ∨ d.ahead.contains k then
          let b := (drop b).onCtl fun c => c.bump (seqPage t) F.SEQ_DUP_DROP
          (b.ackXfer t f).freeUnits t f
        else
          let b := if d.issued ≤ k then b.issueTo t 7 k (k + 1) else b
          match ((b.tile t).queue 7).find d.ser with
          | some d =>
            if d.issued ≤ k then b
            else
              let b := drop b
              let b := if d.void || f.void then b else b.writeXfer t d k f e
              let b := if !d.void && !f.void && f.run.bytes.length != xbOf d then
                  b.onCtl fun c => (c.bump (seqPage t) F.SEQ_LEN_MISMATCH).errHw (seqPage t) 0x09 else b
              let b := if f.rsen then b.slateAdd t f.rslate 1 else b
              let b := (b.ackXfer t f).freeUnits t f
              (b.onCtl fun c => c.perf t 0x09 1).stepDoneInOrder t 7 d.ser k
          | none => b
      | none => b
    | _, _ => b

/-- TRANSFER_ACK: an acknowledgement reaches the mover; the step completes when every destination has acknowledged; an
error halts the mover with code 0x0A (07 R174). One of a core's remote store completes that store (06 R153). A held tile
absorbs it (16 R414). -/
def execTransferAck (i : Nat) (s : State) : Host.Outcome State Fault Refusal :=
  s.on fun b =>
    match b.ctl.atTile i with
    | some (t, .msg m) =>
      if m.type = 9 ∧ 2 ^ 20 ≤ m.arg then
        let b := b.onCtl fun c => c.takeNet i
        if b.live t then b.coreAnswer t (m.arg - 2 ^ 20) true (m.value % 2 == 1) {} else b
      else if m.type = 9 then
        let b := b.onCtl fun c => c.takeNet i
        let x := b.tile t
        match b.live t, x.tracked.find? fun r => ackArg r.stream r.seq == m.arg && r.dests.contains m.src with
        | true, some r =>
          if m.value % 2 = 1 then
            let b := b.setTile t { x with tracked := x.tracked.erase r }
            let b := b.onCtl fun c => (c.bump (seqPage t) F.SEQ_XFER_ERR).raise (seqPage t) 5
            b.seqHalt t 6 0x0A
          else
            let left := r.dests.filter (· != m.src)
            if left.isEmpty then (b.setTile t { x with tracked := x.tracked.erase r }).stepDone t 6 r.ser
            else b.setTile t { x with tracked := x.tracked.map fun q => if q = r then { r with dests := left } else q }
        | _, _ => b
      else b
    | _ => b

end Sys2Proof.Machine
end

