-- ==== Sys2Proof/Machine/Float.lean ====
section
/-!
DEFINITION. Exact numbers, the number formats and the roundings (03 R60 to R68, R83, 05 R110 to R120).
-/
namespace Sys2Proof.Machine

/-- A number: NaN, an infinity, or a finite value ± man * 2^exp, zero keeping its sign. -/
inductive Num where
  | nan
  | inf (neg : Bool)
  | fin (neg : Bool) (man : Nat) (exp : Int)
  deriving DecidableEq, Repr

/-- A float format: exponent bits, mantissa bits, bias, and its special encodings: 0 none, 1 NaN at all ones only (E4M3),
2 infinities and NaNs as in IEEE 754 (03 R63). -/
structure FFmt where
  eb : Nat
  mb : Nat
  bias : Nat
  special : Nat
  deriving DecidableEq, Repr

def fE4M3 : FFmt := ⟨4, 3, 7, 1⟩
def fE5M2 : FFmt := ⟨5, 2, 15, 2⟩
def fE3M2 : FFmt := ⟨3, 2, 3, 0⟩
def fE2M3 : FFmt := ⟨2, 3, 1, 0⟩
def fE2M1 : FFmt := ⟨2, 1, 1, 0⟩
def fBF16 : FFmt := ⟨8, 7, 127, 2⟩
def fFP16 : FFmt := ⟨5, 10, 15, 2⟩
def fFP32 : FFmt := ⟨8, 23, 127, 2⟩
def fFP64 : FFmt := ⟨11, 52, 1023, 2⟩

/-- Exponent of the smallest subnormal. -/
def fMinExp (f : FFmt) : Int := 1 - f.bias - f.mb

/-- Mantissa and exponent of the largest finite value: all ones, less what the special encodings take (03 R63). -/
def fMax (f : FFmt) : Nat × Int :=
  let top := 2 ^ f.eb - 1
  if f.special = 2 then (2 ^ (f.mb + 1) - 1, (top : Int) - 1 - f.bias - f.mb)
  else if f.special = 1 then (2 ^ (f.mb + 1) - 2, (top : Int) - f.bias - f.mb)
  else (2 ^ (f.mb + 1) - 1, (top : Int) - f.bias - f.mb)

/-- The value of a code of a float format (03 R63). -/
def fDecode (f : FFmt) (c : Nat) : Num :=
  let m := c % 2 ^ f.mb
  let e := c / 2 ^ f.mb % 2 ^ f.eb
  let s := c / 2 ^ (f.mb + f.eb) % 2 == 1
  let top := 2 ^ f.eb - 1
  if f.special = 2 ∧ e = top then (if m = 0 then .inf s else .nan)
  else if f.special = 1 ∧ e = top ∧ m = 2 ^ f.mb - 1 then .nan
  else if e = 0 then .fin s m (fMinExp f)
  else .fin s (2 ^ f.mb + m) ((e : Int) - f.bias - f.mb)

/-- The code of a representable finite value `man * 2^exp`, `man` below 2^(mb+1) and `exp` at least the least exponent. -/
def fPack (f : FFmt) (neg : Bool) (man : Nat) (exp : Int) : Nat :=
  let s := ofBool neg * 2 ^ (f.mb + f.eb)
  if man = 0 then s
  else
    -- bring to the canonical exponent: man in [2^mb, 2^(mb+1)) or the least exponent
    let up := f.mb - Nat.log2 man
    let k := min up (exp - fMinExp f).toNat
    let man := man <<< k
    let exp := exp - k
    if man < 2 ^ f.mb then s + man
    else s + ((exp + f.bias + f.mb).toNat) * 2 ^ f.mb + (man - 2 ^ f.mb)

/-- How a value is narrowed: to nearest even, or stochastically with the 16-bit random value (05 R120). -/
inductive Rnd where
  | rne
  | sr (r : Nat)
  deriving DecidableEq, Repr

/-- A magnitude `man * 2^exp` rounded to `p` bits with exponent at least `emin`, the exponent range unbounded above: the
result and whether it is exact (03 R83, 05 R120). -/
def roundMag (p : Nat) (emin : Int) (rnd : Rnd) (man : Nat) (exp : Int) : Nat × Int × Bool :=
  if man = 0 then (0, emin, true)
  else
    let top : Int := Nat.log2 man + exp
    let q : Int := max emin (top - ((p : Int) - 1))
    if q ≤ exp then (man <<< (exp - q).toNat, q, true)
    else
      let k := (q - exp).toNat
      let lo := man >>> k
      let rem := man % 2 ^ k
      if rem = 0 then (lo, q, true)
      else
        let up :=
          match rnd with
          | .rne => decide (2 ^ k < 2 * rem) || (decide (2 * rem = 2 ^ k) && lo % 2 == 1)
          | .sr r => decide (r < (rem * 2 ^ 16) >>> k)
        (if up then lo + 1 else lo, q, false)

/-- The magnitude of `a` exceeds that of `b`, both as mantissa and exponent. -/
def magGt (a b : Nat × Int) : Bool :=
  let e := min a.2 b.2
  decide (b.1 <<< (b.2 - e).toNat < a.1 <<< (a.2 - e).toNat)

/-- Drop trailing zero bits so that a mantissa fits `p` bits; `fuel` bounds the work. -/
def trimMan (p : Nat) : Nat → Nat → Int → Nat × Int
  | 0, m, e => (m, e)
  | n + 1, m, e => if 2 ^ p ≤ m then trimMan p n (m / 2) (e + 1) else (m, e)

/-- A number narrowed to an IEEE format: its code, and whether it was inexact; overflow gives an infinity, NaN the quiet
code (05 R110). -/
def narrow (f : FFmt) (rnd : Rnd) : Num → Nat × Bool
  | .nan => ((2 ^ (f.eb + 1) - 1) * 2 ^ (f.mb - 1), false)
  | .inf s => (ofBool s * 2 ^ (f.mb + f.eb) + (2 ^ f.eb - 1) * 2 ^ f.mb, false)
  | .fin s m e =>
    let (m', e', exact) := roundMag (f.mb + 1) (fMinExp f) rnd m e
    if magGt (m', e') (fMax f) then (ofBool s * 2 ^ (f.mb + f.eb) + (2 ^ f.eb - 1) * 2 ^ f.mb, !exact)
    else
      let (m'', e'') := trimMan (f.mb + 1) 2 m' e'
      (fPack f s m'' e'', !exact)

/-- The FP32 code of a number, rounded to nearest even. -/
def f32 (n : Num) : Nat := (narrow fFP32 .rne n).1

/-- The number an FP32 code means. -/
def of32 (c : Nat) : Num := fDecode fFP32 c

def numNeg : Num → Num
  | .nan => .nan
  | .inf s => .inf !s
  | .fin s m e => .fin (!s) m e

def numAbs : Num → Num
  | .nan => .nan
  | .inf _ => .inf false
  | .fin _ m e => .fin false m e

/-- Exact product; an infinity times zero is NaN (03 R67). -/
def numMul : Num → Num → Num
  | .nan, _ => .nan
  | _, .nan => .nan
  | .inf s, .inf t => .inf (s != t)
  | .inf s, .fin t m _ => if m = 0 then .nan else .inf (s != t)
  | .fin t m _, .inf s => if m = 0 then .nan else .inf (s != t)
  | .fin s m e, .fin t n g => .fin (s != t) (m * n) (e + g)

/-- A signed mantissa. -/
def sMan (neg : Bool) (m : Nat) : Int := if neg then -(m : Int) else m

/-- Exact sum; infinities of both signs give NaN; an exact zero is +0 unless both terms are −0 (03 R67). -/
def numAdd : Num → Num → Num
  | .nan, _ => .nan
  | _, .nan => .nan
  | .inf s, .inf t => if s = t then .inf s else .nan
  | .inf s, .fin _ _ _ => .inf s
  | .fin _ _ _, .inf s => .inf s
  | .fin s m e, .fin t n g =>
    let q := min e g
    let v := sMan s (m <<< (e - q).toNat) + sMan t (n <<< (g - q).toNat)
    if v = 0 then .fin (s && t && m == 0 && n == 0) 0 q else .fin (decide (v < 0)) v.natAbs q

/-- `n` times 2^k. -/
def numScale (n : Num) (k : Int) : Num :=
  match n with
  | .fin s m e => .fin s m (e + k)
  | x => x

/-- A number is −0. -/
def isNegZero : Num → Bool
  | .fin s m _ => s && m == 0
  | _ => false

/-- Exact sum of a group of products: +0 when zero, unless every product is −0 (03 R67). -/
def sumGroup (l : List Num) : Num :=
  if !l.isEmpty && l.all isNegZero then .fin true 0 0
  else l.foldl numAdd (.fin false 0 0)

/-- Quotient with enough bits and a sticky bit that rounding it once is rounding the exact quotient. -/
def numDiv : Num → Num → Num
  | .nan, _ => .nan
  | _, .nan => .nan
  | .inf _, .inf _ => .nan
  | .inf s, .fin t _ _ => .inf (s != t)
  | .fin s _ _, .inf t => .fin (s != t) 0 0
  | .fin s m e, .fin t n g =>
    if n = 0 then (if m = 0 then .nan else .inf (s != t))
    else
      let k := 64 + Nat.log2 n
      let q := (m <<< k) / n
      let st := if (m <<< k) % n = 0 then 0 else 1
      .fin (s != t) (2 * q + st) (e - g - k - 1)

/-- An order key of an FP32 code that is no NaN: −0 is below +0 (05 R111, R124). -/
def key32 (c : Nat) : Int := if c / 2 ^ 31 % 2 = 1 then -(c % 2 ^ 31 : Nat) - 1 else (c % 2 ^ 31 : Nat)

/-- An FP32 code is a NaN. -/
def isNan32 (c : Nat) : Bool := decide (0x7F800000 < c % 2 ^ 31)

/-- An FP32 code is a NaN or an infinity. -/
def isSpecial32 (c : Nat) : Bool := decide (0x7F800000 ≤ c % 2 ^ 31)

/-- The quiet NaN of FP32 (03 R67). -/
def nan32 : Nat := 0x7FC00000

/-- A finite FP32 code moved by `k` ulp, its sign kept; a NaN or an infinity stays. -/
def ulpShift (c : Nat) (k : Int) : Nat :=
  let m : Int := (c % 2 ^ 31 : Nat)
  if 0x7F800000 ≤ m then c else c / 2 ^ 31 * 2 ^ 31 + (max 0 (min 0x7F800000 (m + k))).toNat

/-- Numeric comparison of two numbers that are no NaN; zeros are equal. -/
def numLt (a b : Num) : Bool :=
  match a, b with
  | .inf s, .inf t => s && !t
  | .inf s, _ => s
  | _, .inf t => !t
  | .fin s m e, .fin t n g =>
    let q := min e g
    decide (sMan s (m <<< (e - q).toNat) < sMan t (n <<< (g - q).toNat))
  | _, _ => false

/-- Numeric equality of two numbers that are no NaN. -/
def numEq (a b : Num) : Bool :=
  match a, b with
  | .inf s, .inf t => s == t
  | .fin _ _ _, .fin _ _ _ => !numLt a b && !numLt b a
  | _, _ => false

/-! ### Storage formats (03 R60) -/

/-- Bits of one element of a format code. -/
def elemBits : Nat → Nat
  | 0x5 | 0x6 => 6
  | 0x8 | 0x9 => 4
  | 0xA | 0xB => 16
  | 0xC | 0xD => 32
  | 0xE => 64
  | _ => 8

/-- The float format of a code, where it is one. -/
def floatOf : Nat → Option FFmt
  | 0x0 | 0x3 => some fE4M3
  | 0x1 | 0x4 => some fE5M2
  | 0x5 => some fE3M2
  | 0x6 => some fE2M3
  | 0x8 => some fE2M1
  | 0xA => some fBF16
  | 0xB => some fFP16
  | 0xC => some fFP32
  | 0xE => some fFP64
  | _ => none

/-- The value of an element (03 R63, R64): `uns` reads formats 0x2 and 0x9 as unsigned; MXINT8 is i * 2^-6. -/
def elemNum (fmt : Nat) (uns : Bool) (c : Nat) : Num :=
  match floatOf fmt with
  | some f => fDecode f c
  | none =>
    let w := elemBits fmt
    let v : Int := if uns && (fmt == 2 || fmt == 9) then (c : Int) else signedOf w c
    .fin (decide (v < 0)) v.natAbs (if fmt = 7 then -6 else 0)

/-- The integer value of an element of format 0x2 or 0x9 (03 R64). -/
def elemInt (fmt : Nat) (uns : Bool) (c : Nat) : Int :=
  if uns then (c : Int) else signedOf (elemBits fmt) c

/-- Element class: 0 K64-8, 1 K128, 2 K64-16 (03 R60). -/
def fmtClass (f : Nat) : Nat := if f = 8 ∨ f = 9 then 1 else if f = 0xA ∨ f = 0xB then 2 else 0

/-- A format is MX: one scale per 32 elements (03 R62). -/
def isMx (f : Nat) : Bool := decide (3 ≤ f) && decide (f ≤ 8)

/-- A pair of formats is legal (03 R61). -/
def pairLegal (a w : Nat) : Bool :=
  if fmtClass a != fmtClass w then false
  else if fmtClass a = 1 then a == w
  else if fmtClass a = 2 then true
  else if a = 2 ∨ w = 2 then a == w
  else true

/-- Elements of K one dense instruction takes (03 R60). -/
def fmtK (f : Nat) : Nat := if fmtClass f = 1 then 128 else 64

/-- Bytes of one activation row, and of one weight column (03 R60). -/
def fmtRowBytes (f : Nat) : Nat := if f = 5 ∨ f = 6 then 48 else if fmtClass f = 2 then 128 else 64

/-- Scale bytes of an activation row (03 R60). -/
def fmtScaleBytes (f : Nat) : Nat := if f = 8 then 4 else if isMx f then 2 else 0

/-- Little-endian number of a list of bytes. -/
def leNat : List Byte → Nat
  | [] => 0
  | b :: r => b.toNat + 256 * leNat r

/-- The `n` little-endian bytes of a number. -/
def leBytes : Nat → Nat → List Byte
  | 0, _ => []
  | n + 1, v => BitVec.ofNat 8 v :: leBytes n (v / 256)

/-- Element `k` of a little-endian bit string of elements of format `fmt` (03 R74). -/
def elemAt (fmt : Nat) (l : List Byte) (k : Nat) : Nat :=
  let w := elemBits fmt
  let b := k * w / 8
  leNat ((l.drop b).take (w / 8 + 2)) >>> (k * w % 8) % 2 ^ w

/-- The elements of a little-endian bit string packed from their codes. -/
def packElems (fmt : Nat) (cs : List Nat) : List Byte :=
  let w := elemBits fmt
  let v := (cs.zipIdx.foldl (fun a (c, i) => a + (c % 2 ^ w) <<< (i * w)) 0)
  leBytes ((cs.length * w + 7) / 8) v

end Sys2Proof.Machine
end

