-- ==== Sys2Proof/Machine/Matrix.lean ====
section
/-!
DEFINITION. The matrix arrays of an M-tile: weight loader, feeders, matrix instructions, accumulators (03, 08).
-/
namespace Sys2Proof.Machine

/-! ### The matrix instruction's fields (03 R79, 08 R199) -/

def miFmtA (d : Desc) : Nat := bits (d.w 1) 31 28
def miFmtW (d : Desc) : Nat := bits (d.w 1) 27 24
def miUnsA (d : Desc) : Bool := bit (d.w 1) 23
def miUnsW (d : Desc) : Bool := bit (d.w 1) 22
def miLong (d : Desc) : Bool := bit (d.w 1) 21
def miNeg (d : Desc) : Bool := bit (d.w 1) 20
def miArrays (d : Desc) : Nat := bits (d.w 1) 19 18
def miReuse (d : Desc) : Bool := bit (d.w 1) 17
def miRing (d : Desc) : Bool := bit (d.w 1) 16
def miAccMode (d : Desc) : Nat := bits (d.w 1) 15 14
def miSparse (d : Desc) : Nat := bits (d.w 1) 13 12
def miRows (d : Desc) : Nat := bits (d.w 1) 9 0 + 1
def miShift (d : Desc) : Nat := bits (d.w 2) 21 16
def miAccBase (d : Desc) : Nat := bits (d.w 2) 8 0
def miUmask (d : Desc) : Nat := bits (d.w 3) 15 0

/-- Depth of the accumulator bank: 512 rows, or 256 long rows (03 R71). -/
def miDepth (d : Desc) : Nat := if miLong d then 256 else 512

/-- Accumulation type: 1 FP32, 2 INT32, 3 INT64 (03 R62). -/
def miAccType (d : Desc) : Nat :=
  if miLong d then 3 else if miFmtA d = 2 ∨ miFmtA d = 9 then 2 else 1

/-! ### Weight blocks (03 R74, R76, 08 R195 to R198) -/

/-- Scale groups per weight column, 0 for non-MX formats (03 R66, R74, 08 R196). -/
def wGroups (fmt sparse : Nat) : Nat :=
  if !isMx fmt then 0
  else if fmt = 8 then (if 2 ≤ sparse then 8 else 4)
  else (if 2 ≤ sparse then 4 else 2)

/-- Stored elements of a slot: 32 in class K128, else 16 (08 R195). -/
def spnOf (fmt : Nat) : Nat := if fmtClass fmt = 1 then 32 else 16

/-- Bytes of position codes per column (08 R197). -/
def ccOf (fmt : Nat) : Nat := if fmtClass fmt = 1 then 32 else 16

/-- Byte of a block where the metadata starts (08 R197). -/
def metaAt (fmt sparse : Nat) : Nat := 64 * fmtRowBytes fmt + 64 * wGroups fmt sparse

/-- Bytes of a block that are used (03 R74, 08 R197). -/
def blockUsed (fmt sparse : Nat) : Nat :=
  metaAt fmt sparse + (if sparse = 0 then 0 else 16) + (if 2 ≤ sparse then 64 * ccOf fmt else 0)

/-- Scratchpad rows L of a block (03 R76, 08 R198). -/
def blockRows (fmt sparse : Nat) : Nat := (blockUsed fmt sparse + 511) / 512

/-- IDX[strip][slot] of a block (08 R197). -/
def idxOf (w : WBlock) (strip slot : Nat) : Nat :=
  (w.run.slice (metaAt w.fmt w.sparse) 8).nat >>> (16 * strip + 4 * slot) % 16

/-- Position code of stored element `e` of column `n` (08 R197). -/
def codeAt (w : WBlock) (n e : Nat) : Nat :=
  ((w.run.slice (metaAt w.fmt w.sparse + 16 + n * ccOf w.fmt + e / 4) 1).nat >>> (2 * (e % 4))) % 4

/-! ### Malformed metadata (08 R202, R203) -/

/-- The position slot `j` of strip `s` holds (08 R195). -/
def posOf (w : WBlock) (s j : Nat) : Nat := if w.sparse = 2 then j else idxOf w s j

/-- The lowest of causes 1 to 3 that drops slot `j` of strip `s`; 0 none. Cause 3 is that of an instruction one of whose formats is MX
(08 R196, R199, R202). -/
def slotCause (w : WBlock) (fmtA umask s j : Nat) : Nat :=
  if w.sparse = 2 ∨ w.sparse = 0 then 0
  else if !umask.testBit (idxOf w s j) then 1
  else if (List.range 4).any fun i => i != j && idxOf w s i == idxOf w s j then 2
  else if w.sparse = 1 ∧ (isMx w.fmt ∨ isMx fmtA) ∧ fmtClass w.fmt = 0 ∧
      !(idxOf w s (j / 2 * 2) % 2 == 0 && idxOf w s (j / 2 * 2 + 1) == idxOf w s (j / 2 * 2) + 1) then 3
  else 0

/-- The two codes of the group of four that holds stored element `e` of column `n` name the same K (08 R202, cause 4). -/
def codeCause (w : WBlock) (n e : Nat) : Bool :=
  decide (2 ≤ w.sparse) && codeAt w n (e / 2 * 2) == codeAt w n (e / 2 * 2 + 1)

/-- Stored element `e` of column `n` is dropped. -/
def isDropped (w : WBlock) (fmtA umask n e : Nat) : Bool :=
  slotCause w fmtA umask (n / 16) (e / spnOf w.fmt) != 0 || codeCause w n e

/-- Values dropped for an instruction (08 R203). -/
def dropCount (w : WBlock) (fmtA umask : Nat) : Nat :=
  if w.sparse = 0 then 0
  else ((List.range 64).map fun n => ((List.range (fmtK w.fmt)).filter fun e => isDropped w fmtA umask n e).length).sum

/-- The first drop: cause, slot, column, element, in the order of the search (08 R203). -/
def firstDrop (w : WBlock) (fmtA umask : Nat) : Option (Nat × Nat × Nat × Nat) :=
  let slots := (List.range 4).flatMap fun s => (List.range 4).map fun j => (s, j)
  match slots.find? fun (s, j) => slotCause w fmtA umask s j != 0 with
  | some (s, j) => some (slotCause w fmtA umask s j, j, 16 * s, 0)
  | none =>
    if w.sparse < 2 then none
    else
      let grp := (List.range 64).flatMap fun n => (List.range (fmtK w.fmt / 2)).map fun g => (n, 2 * g)
      (grp.find? fun (n, e) => codeCause w n e).map fun (n, e) => (4, 0, n, e)

/-! ### What a column sums (03 R66 to R69, 08 R196, R199) -/

/-- Positions a sub-row holds (08 R199). -/
def ppsOf (sparse : Nat) : Nat := if sparse = 1 then 4 else 2

/-- Positions present in the activation rows: UMASK, or 0 to 3 in form 2 (08 R199). -/
def presentMask (sparse umask : Nat) : Nat := if sparse = 2 then 0xF else umask

/-- Set bits of a mask below bit `n`. -/
def rankOf (m n : Nat) : Nat := ((List.range n).filter fun i => m.testBit i).length

/-- Feeder rows per instruction row (08 R199). -/
def nsubOf (sparse umask : Nat) : Nat :=
  if sparse = 0 then 1 else (rankOf (presentMask sparse umask) 16 + ppsOf sparse - 1) / ppsOf sparse

/-- Groups per instruction (03 R66, 08 R196). -/
def groupsOf (fmt sparse : Nat) : Nat :=
  match fmtClass fmt with
  | 0 => if 2 ≤ sparse then 4 else 2
  | 1 => if 2 ≤ sparse then 8 else 4
  | _ => 4

/-- The group stored element `e` belongs to (03 R66, 08 R196). -/
def groupOf (fmt sparse e : Nat) : Nat := e / (fmtK fmt / groupsOf fmt sparse)

/-- Sub-row and element of the activation that stored element `e` of column `n` multiplies (08 R195, R199). -/
def actOf (w : WBlock) (umask n e : Nat) : Nat × Nat :=
  if w.sparse = 0 then (0, e)
  else
    let spn := spnOf w.fmt
    let p := posOf w (n / 16) (e / spn)
    let r := e % spn
    let q := rankOf (presentMask w.sparse umask) p
    let span := if w.sparse = 1 then spn else 2 * spn
    (q / ppsOf w.sparse,
      q % ppsOf w.sparse * span + (if w.sparse = 1 then r else 4 * (r / 2) + codeAt w n e))

/-- One term of a column's sum: its group, the activation value and the activation scale byte, the weight code. -/
structure Term where
  group : Nat
  act : Nat
  scale : Nat
  code : Nat

/-- The terms of column `n`: every stored element not dropped. -/
def termsOf (w : WBlock) (fmtA umask : Nat) (subs : List ARow) (n : Nat) : List Term :=
  (List.range (fmtK w.fmt)).filterMap fun e =>
    if isDropped w fmtA umask n e then none
    else
      let (s, i) := actOf w umask n e
      let a := subs.getD s {}
      some { group := groupOf w.fmt w.sparse e
             act := elemAt fmtA a.data i
             scale := if isMx fmtA then ((a.scale.getD (i / 32) 0).toNat) else 0x7F
             code := elemAt w.fmt ((w.run.slice (n * fmtRowBytes w.fmt) (fmtRowBytes w.fmt)).bytes) e }

/-- The weight scale byte of group `g` of column `n` (03 R74, 08 R197). -/
def wScale (w : WBlock) (n g : Nat) : Nat :=
  if isMx w.fmt then (w.run.slice (64 * fmtRowBytes w.fmt + n * wGroups w.fmt w.sparse + g) 1).nat else 0x7F

/-- A group's sum scaled by its two scale bytes; 0xFF is NaN (03 R65, R66). -/
def scaled (sa sw : Nat) (n : Num) : Num :=
  if sa = 0xFF ∨ sw = 0xFF then .nan else numScale n ((sa : Int) - 127 + ((sw : Int) - 127))

/-- The scaled group sums of column `n`, and those of the magnitudes, for the check elements (05 R132). -/
def groupSums (d : Desc) (w : WBlock) (subs : List ARow) (n : Nat) : List (Num × Num) :=
  let ts := termsOf w (miFmtA d) (miUmask d) subs n
  (List.range (groupsOf w.fmt w.sparse)).map fun g =>
    let l := ts.filter fun x => x.group == g
    let ps := l.map fun x => numMul (elemNum (miFmtA d) (miUnsA d) x.act) (elemNum w.fmt (miUnsW d) x.code)
    let sa := (l.head?.map (·.scale)).getD 0x7F
    (scaled sa (wScale w n g) (sumGroup ps), scaled sa (wScale w n g) (sumGroup (ps.map numAbs)))

/-- The exact integer sum of column `n`'s products, and that of their magnitudes (03 R68, R69). -/
def intSums (d : Desc) (w : WBlock) (subs : List ARow) (n : Nat) : Int × Int :=
  let ts := termsOf w (miFmtA d) (miUmask d) subs n
  ts.foldl (fun (s, m) x =>
    let p := elemInt (miFmtA d) (miUnsA d) x.act * elemInt w.fmt (miUnsW d) x.code * (if miLong d then 2 ^ miShift d else 1)
    (s + p, m + p.natAbs)) (0, 0)

/-- A finite sum beyond the FP32 range is an infinity (03 R67). -/
def inRange32 (n : Num) : Num :=
  match of32 (f32 n) with
  | .inf s => .inf s
  | _ => n

/-- An FP32 accumulator after the groups of an instruction, one rounding per group; a group sum beyond the FP32 range is added as an
infinity (03 R66, R67). An infinite operand of an FP32 product by passes is what this arithmetic makes of it: where no pass of 04 R92 forms
infinity × 0 the result is an infinity, though 04 R94 says NaN of every such output (DESIGN CHOICE, log 50). -/
def accGroups (neg : Bool) (acc : Nat) (gs : List Num) : Nat :=
  gs.foldl (fun a g => f32 (numAdd (of32 a) (inRange32 (if neg then numNeg g else g)))) acc

/-- A sum narrowed to FP32 to one of its two neighbours, which of them is free; an exact sum is itself (05 R132, log 23). -/
def roundFree (acc : Nat) (n : Num) : Nat :=
  let (lo, inexact) := narrow fFP32 (.sr 65536) n
  if inexact && Config.checkUp (BitVec.ofNat 32 acc) (BitVec.ofNat 32 lo) then ulpShift lo 1 else lo

/-- An FP32 check element after the groups of an instruction, whose rounding is free (05 R132, log 23). -/
def chkSum (neg : Bool) (acc : Nat) (gs : List Num) : Nat :=
  gs.foldl (fun a g => roundFree a (numAdd (of32 a) (inRange32 (if neg then numNeg g else g)))) acc

/-! ### Poison of a row (03 R82, 08 R204) -/

/-- Column `n` of every row using the block is poisoned: a word of its data or of its codes. -/
def colBad (w : WBlock) (n : Nat) : Bool :=
  (w.run.slice (n * fmtRowBytes w.fmt) (fmtRowBytes w.fmt)).anyBad ||
  (decide (2 ≤ w.sparse) && (w.run.slice (metaAt w.fmt w.sparse + 16 + n * ccOf w.fmt) (ccOf w.fmt)).anyBad)

/-- Every element using the block is poisoned: a word of its scales or of IDX. -/
def blockBad (w : WBlock) : Bool :=
  (w.run.slice (64 * fmtRowBytes w.fmt) (64 * wGroups w.fmt w.sparse)).anyBad ||
  (w.sparse != 0 && (w.run.slice (metaAt w.fmt w.sparse) 8).anyBad)

/-! ### Accumulator rows (03 R70) -/

/-- Accumulator row `r` of array `a`. -/
def Tile.accRow (x : Tile) (a r : Nat) : AccRow := SMap.get {} x.acc (a * 512 + r)

/-- Accumulator row replaced. -/
def Tile.setAccRow (x : Tile) (a r : Nat) (v : AccRow) : Tile := { x with acc := SMap.set {} x.acc (a * 512 + r) v }

/-- The row an instruction's row `i` goes to (03 R71). -/
def miAccRow (d : Desc) (i : Nat) : Nat := if miRing d then (miAccBase d + i) % miDepth d else miAccBase d + i

/-- The tag of the target: of the row, or of the long row's pair; 4 marks a mixed pair (03 R70). -/
def accTag (x : Tile) (a r : Nat) (long : Bool) : Nat :=
  if long then
    let lo := (x.accRow a (2 * r)).tag
    let hi := (x.accRow a (2 * r + 1)).tag
    if lo = 3 ∧ hi = 3 then 3 else if lo = 0 ∧ hi = 0 then 0 else 4
  else (x.accRow a r).tag

/-- What writing one row of one array comes to: the tile, elements wrapped, whether an element is poisoned, whether the row
held another type. -/
structure RowResult where
  tile : Tile
  wraps : Nat
  bad : Bool
  mism : Bool

/-- One row of one array written: value by the accumulation type, tag, poison, check elements (03 R66 to R70, R82, 05 R132). -/
def writeRow (x : Tile) (d : Desc) (w : WBlock) (a i : Nat) (subs : List ARow) : RowResult :=
  let r := miAccRow d i
  let ty := miAccType d
  let tag := accTag x a r (miLong d)
  let mism := miAccMode d = 0 ∧ tag ≠ 0 ∧ tag ≠ ty
  let fresh := miAccMode d = 1 ∨ tag = 0 ∨ mism
  let inBad := subs.any (·.bad) || blockBad w
  let cols := List.range 64
  if ty = 1 then
    let old := x.accRow a r
    let sums := cols.map fun n => groupSums d w subs n
    let vals := (cols.zip sums).map fun (n, gs) =>
      accGroups (miNeg d) (if fresh then 0 else (old.vals.getD n 0).toNat) (gs.map (·.1))
    let gsAll (pick : Num × Num → Num) : List Num :=
      (List.range (groupsOf w.fmt w.sparse)).map fun g => (sums.map fun gs => pick (gs.getD g (.fin false 0 0, .fin false 0 0))).foldl
        numAdd (.fin false 0 0)
    let bads := cols.map fun n => decide mism || inBad || colBad w n || (!decide fresh && old.bad.getD n false)
    let row : AccRow := { tag := 1, vals := vals.map (BitVec.ofNat 32), bad := bads
                          chkC := chkSum (miNeg d) (if fresh then 0 else old.chkC) (gsAll (·.1))
                          chkM := chkSum false (if fresh then 0 else old.chkM) (gsAll (·.2)) }
    ⟨x.setAccRow a r row, 0, bads.any id, decide mism⟩
  else
    let width := if ty = 3 then 64 else 32
    let lo := if ty = 3 then x.accRow a (2 * r) else x.accRow a r
    let hi := x.accRow a (2 * r + 1)
    let sums := cols.map fun n => intSums d w subs n
    let sgn (v : Int) : Int := if miNeg d then -v else v
    let exact := (cols.zip sums).map fun (n, s) =>
      let o : Int := if fresh then 0
        else signedOf width ((lo.vals.getD n 0).toNat + (if ty = 3 then (hi.vals.getD n 0).toNat * 2 ^ 32 else 0))
      o + sgn s.1
    let wraps := (exact.filter fun v => decide (v < -(2 ^ (width - 1) : Int) ∨ (2 ^ (width - 1) : Int) ≤ v)).length
    let codes := exact.map (codeOf width)
    let oldBad (n : Nat) : Bool := lo.bad.getD n false || (ty == 3 && hi.bad.getD n false)
    let bads := cols.map fun n => decide mism || inBad || colBad w n || (!decide fresh && oldBad n)
    let chk (o : Nat) (v : Int) : Nat := codeOf width ((if fresh then 0 else (o : Int)) + v)
    let c := chk lo.chkC (sgn ((sums.map (·.1)).sum))
    let m := chk lo.chkM ((sums.map (·.2)).sum)
    let mk (f : Nat → Nat) : AccRow :=
      { tag := ty, vals := codes.map fun v => BitVec.ofNat 32 (f v), bad := bads, chkC := c, chkM := m }
    let x := if ty = 3 then (x.setAccRow a (2 * r) (mk id)).setAccRow a (2 * r + 1) (mk (· / 2 ^ 32)) else x.setAccRow a r (mk id)
    ⟨x, wraps, bads.any id, decide mism⟩

/-! ### The weight loader (03 R76, R77, R80) -/

/-- The loader starts its next block if a buffer is free, none is loading, and the step's tokens are there; a block that
fails its check halts the arrays (03 R76, R80). -/
def Blk.startBlock (b : Blk) (t : Nat) : Blk :=
  let x := b.tile t
  match b.arrHalted t, b.current t 1, x.wbufs.findIdx? (·.st == 0) with
  | false, some d, some k =>
    if x.wbufs.any (·.st == 1) || !b.ctl.tokensReady t d.hdr then b
    else
      let fmt := bits (d.w 1) 31 28
      let sp := bits (d.w 1) 27 26
      let row := bits (d.w 1) 12 0 + d.issued * bits (d.w 2) 28 16
      if 0xB < fmt then b.arrHalt t 1 0x01
      else if spBytes t < (row + blockRows fmt sp) * 512 then b.arrHalt t 1 0x09
      else
        let b := b.issue t 1 d
        b.onTile t fun x => { x with
          blkSer := x.blkSer + 1
          wbufs := x.wbufs.set k { st := 1, ser := x.blkSer, dser := d.ser, row := row, block := { fmt := fmt, sparse := sp } } }
  | _, _, _ => b

/-- WEIGHT_LOADER_DESCRIPTOR: the descriptor at the head of the loader's queue is checked and its first block scheduled
(07 R169, 03 R77, R80). -/
def execWeightLoaderDescriptor (t : TileId) (e : List Ecc) (s : State) : Host.Outcome State Fault Refusal :=
  if isSTile t then .fault .noSuchUnit
  else s.on fun b =>
    if !b.live t || b.arrHalted t then b
    else match b.takeHead t 1 e with
      | .stay b => b
      | .ready d b => (b.install t 1 d (bits (d.w 2) 9 0 + 1)).startBlock t

/-- WEIGHT_BLOCK_USABLE: after its last wide access the block being loaded becomes usable and its step completes; the loader
goes on to the next (03 R76, 07 R164). A block whose loading has begun becomes usable even when the arrays halt (03 R81). -/
def execWeightBlockUsable (t : TileId) (e : List Ecc) (s : State) : Host.Outcome State Fault Refusal :=
  if isSTile t then .fault .noSuchUnit
  else s.on fun b =>
    match b.live t, (b.tile t).wbufs.findIdx? (·.st == 1) with
    | true, some k =>
      let w := (b.tile t).wbufs.getD k {}
      let g := b.stagedRead t 1 w.dser (w.row * 512) (blockUsed w.block.fmt w.block.sparse) e
      let b := g.blk.onTile t fun x => { x with wbufs := x.wbufs.set k { w with st := 2, block := { w.block with run := g.run } } }
      ((b.onCtl fun c => c.perf t 0x02 1).stepDone t 1 w.dser).startBlock t
    | _, _ => b

/-- WEIGHT_BUFFER_FREE: the buffer of a block whose last instruction's last row entered 65 tile cycles ago frees, and the
loader starts the next block (03 R76). -/
def execWeightBufferFree (t : TileId) (s : State) : Host.Outcome State Fault Refusal :=
  if isSTile t then .fault .noSuchUnit
  else s.on fun b =>
    if !b.live t then b
    else
      let x := b.tile t
      let b := match x.wbufs.findIdx? (·.st == 4) with
        | some k => b.setTile t { x with wbufs := x.wbufs.set k {} }
        | none => b
      b.startBlock t

/-! ### Feeders (03 R75, R78, R80) -/

def fdScaleG (d : Desc) : Nat := bits (d.w 1) 31 30
def fdRowB16 (d : Desc) : Nat := bits (d.w 1) 23 20
def fdBase (d : Desc) : Nat := bits (d.w 1) 17 0 * 16
def fdStride (d : Desc) : Nat := bits (d.w 2) 31 16 * 16
def fdRows (d : Desc) : Nat := bits (d.w 2) 15 0 + 1
def fdSBase (d : Desc) : Nat := bits (d.w 3) 19 0 * 4
/-- Scale bytes per row: 0, 2 or 4 (03 R78). -/
def fdScaleBytes (d : Desc) : Nat := if fdScaleG d = 0 then 0 else if fdScaleG d = 1 then 2 else 4
def fdAddr (d : Desc) (r : Nat) : Nat := fdBase d + r * fdStride d
/-- First and last aligned row of activation row `r`. -/
def fdFirst (d : Desc) (r : Nat) : Nat := fdAddr d r / 512
def fdLast (d : Desc) (r : Nat) : Nat := (fdAddr d r + fdRowB16 d * 16 - 1) / 512

/-- Check 11: every activation row and scale slot of a feeder descriptor lies within the scratchpad (03 R80). -/
def feederExtent (t : Nat) (d : Desc) : Bool :=
  decide (fdAddr d (fdRows d - 1) + fdRowB16 d * 16 ≤ spBytes t) &&
  (fdScaleG d == 0 || decide (fdSBase d + 4 * (fdRows d - 1) + fdScaleBytes d ≤ spBytes t))

/-- Check 8: the feeder's row shape matches FMT_A (03 R80, R60). -/
def feederShape (d : Desc) (fmtA : Nat) : Bool :=
  fdRowB16 d * 16 == fmtRowBytes fmtA && fdScaleG d != 3 && fdScaleBytes d == fmtScaleBytes fmtA

/-- The code of the first of checks 8 and 11 that a feeder descriptor fails for an instruction (03 R80). -/
def feederCheck (t : Nat) (d : Desc) (fmtA : Nat) : Option Nat :=
  if !feederShape d fmtA then some 0x05 else if !feederExtent t d then some 0x0D else none

/-- Feeder 0 is A (queue 2), feeder 1 is B (queue 3). -/
def Tile.feeder (x : Tile) (f : Nat) : Feeder := if f = 0 then x.feedA else x.feedB

def Tile.setFeeder (x : Tile) (f : Nat) (v : Feeder) : Tile := if f = 0 then { x with feedA := v } else { x with feedB := v }

/-- The feeders an instruction draws from (03 R79). -/
def miFeeders (d : Desc) : List Nat := (if miArrays d % 2 = 1 then [0] else []) ++ (if miArrays d / 2 = 1 then [1] else [])

/-- The next aligned row a feeder's descriptor needs, at or after activation row `r`, with that activation row; `fuel` bounds
the search over the rows an aligned row already requested covers. -/
def nextAligned (d : Desc) (last : Option Nat) : Nat → Nat → Option (Nat × Nat)
  | 0, _ => none
  | n + 1, r =>
    if fdRows d ≤ r then none
    else
      let f := fdFirst d r
      let l := fdLast d r
      match last with
      | none => some (r, f)
      | some a => if a < f then some (r, f) else if a < l then some (r, a + 1) else nextAligned d last n (r + 1)

/-- FEEDER_ROW_REQUEST: a feeder requests the next aligned row of its data stream into a free slot, or, with `scale`, the
aligned row of its next scale slot; nothing of a descriptor whose extent fails (03 R75). The steps of the activation rows
whose bytes are all requested issue. -/
def execFeederRowRequest (t : TileId) (f : Fin 2) (scale : Bool) (s : State) : Host.Outcome State Fault Refusal :=
  if isSTile t then .fault .noSuchUnit
  else s.on fun b =>
    let u := f.val + 2
    let x := b.tile t
    let fd := x.feeder f
    let q := x.queue u
    if !b.live t || b.arrHalted t || q.halted then b
    else if scale then
      match q.oldest with
      | some d =>
        let row := (fdSBase d + 4 * d.done) / 512
        let held := fd.scale.any fun z => z.ser == d.ser && z.row == row
        if fdScaleG d = 0 ∨ !feederExtent t d ∨ held ∨ d.steps ≤ d.done then b
        else b.setTile t ((x.present
            { wide := true, rank := f.val + 1, who := .feedScale f d.ser row, word := row * 16 }).setFeeder f
            { fd with scale := some { ser := d.ser, row := row } })
      | none => b
    else
      match q.cur with
      | some d =>
        if 4 ≤ fd.data.length ∨ !feederExtent t d then b
        else match nextAligned d fd.lastAl 64 fd.reqRow with
          | some (r, al) =>
            if d.issued ≤ r ∧ !b.ctl.tokensReady t d.hdr then b
            else
              let b := b.setTile t ((x.present
                { wide := true, rank := f.val + 1, who := .feedData f d.ser al, word := al * 16 }).setFeeder f
                { fd with data := fd.data ++ [{ ser := d.ser, row := al }], reqRow := r, lastAl := some al })
              let covered := (List.range (fdRows d)).filter fun i => decide (r ≤ i) && decide (i < r + 16) && decide (fdLast d i ≤ al)
              let k := max r (covered.getLast?.getD r)
              b.issueTo t u k (k + 1 - d.issued)
          | none => b
      | none => b

/-- Activation row `r` of feeder descriptor `d`, if its data and scale slots have arrived. -/
def Feeder.rowOf (fd : Feeder) (d : Desc) (r : Nat) : Option ARow :=
  let need := (List.range (fdLast d r - fdFirst d r + 1)).map (fdFirst d r + ·)
  let got := need.mapM fun al => (fd.data.find? fun z => z.ser == d.ser && z.row == al).bind (·.got)
  let sa := fdSBase d + 4 * r
  let sc : Option Run := if fdScaleG d = 0 then some {} else
    (fd.scale.filter fun z => z.ser == d.ser && z.row == sa / 512).bind fun z => z.got.map fun g => g.slice (sa % 512) (fdScaleBytes d)
  match got, sc with
  | some rs, some z =>
    let all := rs.foldl Run.append ({} : Run)
    let p := all.slice (fdAddr d r % 512) (fdRowB16 d * 16)
    some { data := p.bytes, scale := z.bytes, bad := p.anyBad || z.anyBad }
  | _, _ => none

/-- The feeder's descriptors with rows to enter, oldest first. -/
def Tile.feederDescs (x : Tile) (f : Nat) : List Desc := (x.queue (f + 2)).drain ++ (x.queue (f + 2)).cur.toList

/-- The descriptor a feeder's next activation row is of. -/
def Tile.feederHead (x : Tile) (f : Nat) : Option Desc := (x.feederDescs f).find? fun q => decide (q.done < q.steps)

/-- The next activation row of a feeder, once it holds it, with the descriptor it is of (03 R75). -/
def Tile.feederNext (x : Tile) (f : Nat) : Option (Desc × ARow) :=
  (x.feederHead f).bind fun d => ((x.feeder f).rowOf d d.done).map fun r => (d, r)

/-- Data slots no later activation row of their descriptor needs are freed (03 R75). -/
def Tile.freeSlots (x : Tile) (f : Nat) : Tile :=
  let fd := x.feeder f
  let keep (z : FSlot) : Bool :=
    match (x.queue (f + 2)).find z.ser with
    | some d => decide (d.done < d.steps) && decide (fdFirst d d.done ≤ z.row)
    | none => false
  x.setFeeder f { fd with data := fd.data.filter keep, scale := fd.scale.filter fun z => ((x.queue (f + 2)).find z.ser).isSome }

/-- The instruction whose rows enter the arrays: that of the row part of whose sub-rows have entered, else that at the head of the array
queue. -/
def Blk.entering (b : Blk) (t : Nat) : Option Desc :=
  match (b.tile t).part with
  | some j => some { ser := j.ser, words := j.words }
  | none => b.current t 4

/-- FEEDER_DESCRIPTOR_CROSS: a feeder takes its next descriptor; where an instruction waits to cross into it, checks 8 and 11
run at once and a failure halts the arrays (03 R75, R80). -/
def execFeederDescriptorCross (t : TileId) (f : Fin 2) (e : List Ecc) (s : State) : Host.Outcome State Fault Refusal :=
  if isSTile t then .fault .noSuchUnit
  else s.on fun b =>
    let u := f.val + 2
    if !b.live t || b.arrHalted t then b
    else match b.takeHead t u e with
      | .stay b => b
      | .ready d b =>
        let crossing := ((b.tile t).feederHead f).isNone
        let bad := match b.entering t with
          | some i => if crossing && (miFeeders i).contains f.val then feederCheck t d (miFmtA i) else none
          | none => none
        match bad with
        | some code => b.arrHalt t 4 code
        | none =>
          (b.install t u d (fdRows d)).onTile t fun x => x.setFeeder f { x.feeder f with reqRow := 0, lastAl := none }

/-! ### Matrix instructions (03 R80, 08 R201) -/

/-- Checks 1 to 5 of R80: the first failing code. -/
def instrCheck (d : Desc) : Option Nat :=
  if 0xB < miFmtA d ∨ 0xB < miFmtW d then some 0x01
  else if !pairLegal (miFmtA d) (miFmtW d) then some 0x02
  else if miArrays d = 0 ∨ 1 < miAccMode d then some 0x08
  else if miLong d ∧ !(miFmtA d == 2 && miFmtW d == 2) then some 0x07
  else if !miRing d ∧ miDepth d < miAccBase d + miRows d then some 0x03
  else none

/-- Bits 2m and 2m + 1 equal for every m (08 R199). -/
def pairAligned (m : Nat) : Bool := (List.range 8).all fun i => m.testBit (2 * i) == m.testBit (2 * i + 1)

/-- Checks 9 and 10 of a sparse instruction: UMASK is pair-aligned where either format is MX (DEDUCED, 08 R196, R199, R201, log 49). -/
def sparseCheck (d : Desc) : Option Nat :=
  if miSparse d = 0 then none
  else if miSparse d ≠ 2 ∧ miUmask d = 0 then some 0x0B
  else if miSparse d = 1 ∧ (isMx (miFmtA d) ∨ isMx (miFmtW d)) ∧ fmtClass (miFmtA d) = 0 ∧ !pairAligned (miUmask d) then some 0x0B
  else if miLong d then some 0x0C
  else none

/-- The block an instruction uses: the previous instruction's, or the oldest resident one not yet taken, with its buffer
(03 R76). -/
def Tile.blockFor (x : Tile) (reuse : Bool) : Option (Option Nat × WBlock) :=
  if reuse then x.curBlk.map fun w => (none, w)
  else
    let cands := x.wbufs.zipIdx.filter fun e => e.1.st == 2
    (cands.foldl (fun (m : Option (WBuf × Nat)) e =>
      match m with | none => some e | some a => if e.1.ser < a.1.ser then some e else some a) none).map fun e => (some e.2, e.1.block)

/-- The drops of an instruction recorded in the ARR page (08 R203, R217). -/
def Blk.recordDrops (b : Blk) (t : Nat) (w : WBlock) (fmtA umask : Nat) : Blk :=
  let n := dropCount w fmtA umask
  if n = 0 then b
  else b.onCtl fun c =>
    let p := arrPage t
    let c := c.bump p F.ARR_SPARSE_DROP n
    let c := match c.flag p F.ARR_SPARSE_FIRST_VALID, firstDrop w fmtA umask with
      | false, some (cause, slot, col, el) =>
        c.wr (p + F.ARR_SPARSE_FIRST.off) (BitVec.ofNat 32 (0x80000000 + cause * 0x1000000 + slot * 0x10000 + col * 0x100 + el))
      | _, _ => c
    if c.flag p F.ARR_SPARSE_CTRL_EVT_EN then c.plausEvent t 4 else c

/-- MATRIX_INSTRUCTION: the instruction at the head of the array queue is checked, its block taken, and the values malformed
metadata drops are marked; it waits while it needs a block or a feeder descriptor that is not there, and while sub-rows of the last row of the
instruction before it are to enter (03 R76, R80, 08 R201 to R203). Of two feeders, checks 8 and 11 run on feeder A's descriptor and then on
feeder B's: the manual does not order them (DESIGN CHOICE, log 49). -/
def execMatrixInstruction (t : TileId) (e : List Ecc) (s : State) : Host.Outcome State Fault Refusal :=
  if isSTile t then .fault .noSuchUnit
  else s.on fun b =>
    if !b.live t || b.arrHalted t || (b.tile t).part.isSome then b
    else match b.takeHead t 4 e with
      | .stay b => b
      | .ready d b =>
        match instrCheck d with
        | some code => b.arrHalt t 4 code
        | none =>
          if miReuse d ∧ (b.tile t).curBlk.isNone then b.arrHalt t 4 0x06
          else match (b.tile t).blockFor (miReuse d) with
            | none => b
            | some (buf, w) =>
              if w.fmt ≠ miFmtW d then b.arrHalt t 4 0x06
              else if w.sparse ≠ miSparse d then b.arrHalt t 4 0x0A
              else
                let fds := (miFeeders d).map (b.tile t).feederHead
                if fds.any Option.isNone then b
                else match fds.findSome? (fun q => q.bind fun q => feederCheck t q (miFmtA d)), sparseCheck d with
                  | some code, _ => b.arrHalt t 4 code
                  | none, some code => b.arrHalt t 4 code
                  | none, none =>
                    let b := b.install t 4 d (miRows d)
                    let b := b.onTile t fun x => { x with
                      curBlk := some w
                      wbufs := match buf with
                        | some k => (x.wbufs.map fun z => if z.st = 3 then { z with st := 4 } else z).modify k fun z => { z with st := 3 }
                        | none => x.wbufs }
                    b.recordDrops t w (miFmtA d) (miUmask d)

/-- The next activation row of feeder `f` enters its array: a feeder step issues, unless it has, and completes, and slots free (03 R75,
07 R164). -/
def Blk.feedRow (b : Blk) (t : Nat) (e : Nat × Desc × ARow) : Blk :=
  let b := if e.2.1.issued ≤ e.2.1.done then b.issueTo t (e.1 + 2) e.2.1.done 1 else b
  (b.stepDone t (e.1 + 2) e.2.1.ser).onTile t fun x => x.freeSlots e.1

/-- A row, or one sub-row of a sparse row, enters: what entered before is in `j`. With the last of its sub-rows the row is in flight
(03 R59, 08 R199). -/
def Blk.enterRow (b : Blk) (t : Nat) (d : Desc) (j : RowJob) (rows : List (Nat × Desc × ARow)) : Blk :=
  let sub (f : Nat) : List ARow := (rows.filter fun e => e.1 == f).map (·.2.2)
  let j := { j with a := j.a ++ sub 0, b := j.b ++ sub 1 }
  let b := rows.foldl (fun b e => b.feedRow t e) b
  if max j.a.length j.b.length < nsubOf (miSparse d) (miUmask d) then b.onTile t fun x => { x with part := some j }
  else
    (b.onTile t fun x => { x with part := none, fly := x.fly ++ [j] }).onCtl fun c =>
      (c.add64 (arrPage t) F.ARR_ROWS_LO (miFeeders d).length).perf t 0x01 (miFeeders d).length

/-- Row `i` of an instruction may enter: under RING, the row it overwrites is released (03 R71). -/
def Tile.ringOk (x : Tile) (d : Desc) (i : Nat) : Bool :=
  !miRing d || decide (i < miDepth d) ||
    ((x.fly.all fun j => !(j.ser == d.ser && j.row + miDepth d == i)) &&
      (miFeeders d).all fun a => accTag x a (miAccRow d i) (miLong d) == 0)

/-- ARRAY_ROW_ENTER: the next row of the instruction, or the next sub-row of a sparse row, enters the arrays it names over its row period,
once its activation rows, its tokens and, under RING, the release of the row it overwrites are there, with the tokens of the feeders' steps
not yet issued. The cycles it waited for a block, a feeder row and a ring release are counted (03 R59, R71, R75, R76, 08 R199). Where it
crosses into a feeder descriptor, checks 8 and 11 come first and a failure halts the arrays: a descriptor whose extent fails has no row
requested (03 R75, R80). -/
def execArrayRowEnter (t : TileId) (stallW stallA stallC : Nat) (s : State) : Host.Outcome State Fault Refusal :=
  if isSTile t then .fault .noSuchUnit
  else s.on fun b =>
    let p := arrPage t
    match b.live t && !b.arrHalted t, b.entering t with
    | true, some d =>
      let b := b.onCtl fun c =>
        ((c.bump p F.ARR_STALL_WEIGHT stallW).bump p F.ARR_STALL_ACT stallA).bump p F.ARR_STALL_ACC stallC
      let x := b.tile t
      match ((miFeeders d).filterMap x.feederHead).findSome? fun q => if q.done = 0 then feederCheck t q (miFmtA d) else none with
      | some code => b.arrHalt t 4 code
      | none =>
        let rows := (miFeeders d).filterMap fun f => (x.feederNext f).map fun e => (f, e)
        if rows.length < (miFeeders d).length || !(rows.all fun e => decide (e.2.1.done < e.2.1.issued) || b.ctl.tokensReady t e.2.1.hdr) ||
            !b.ctl.mayIssue t then b
        else match x.part, x.curBlk with
          | some j, _ => b.enterRow t d j rows
          | none, some w =>
            if !b.ctl.tokensReady t d.hdr || !x.ringOk d d.issued then b
            else (b.issue t 4 d).enterRow t d { ser := d.ser, words := d.words, row := d.issued, block := w } rows
          | none, none => b
    | _, _ => b

/-- ACC_ROW_WRITE: the result of the row that entered first is written to the accumulators it names (03 R59, R66 to R70,
R82); the step completes, and with the last the instruction. Rows already entered are written even when the arrays halt. -/
def execAccRowWrite (t : TileId) (s : State) : Host.Outcome State Fault Refusal :=
  if isSTile t then .fault .noSuchUnit
  else s.on fun b =>
    let p := arrPage t
    match b.live t, (b.tile t).fly with
    | true, j :: rest =>
      let d : Desc := { words := j.words }
      let b := b.onTile t fun x => { x with fly := rest }
      let b := (miFeeders d).foldl (fun b a =>
        let r := writeRow (b.tile t) d j.block a j.row (if a = 0 then j.a else j.b)
        let b := b.setTile t r.tile
        b.onCtl fun c =>
          let c := if r.mism then (c.errHw p 0x04).raise p 4 else c
          let c := if r.wraps = 0 then c else (c.bump p F.ARR_INT_WRAP r.wraps).raise p 2
          if r.bad then (c.bump p F.ARR_POISON_ROWS).raise p 3 else c) b
      let b := b.stepDone t 4 j.ser
      if (((b.tile t).queue 4).find j.ser).isNone then b.onCtl fun c => c.bumpWrap p F.ARR_INSTR else b
    | _, _ => b

end Sys2Proof.Machine
end

