-- ==== Sys2Proof/Machine/VectorOps.lean ====
section
/-!
DEFINITION. What one vector row computes: operands, operations, rounding, conversion, guards (05 R108 to R132).
-/
namespace Sys2Proof.Machine

/-! ### The vector descriptor (05 R133) -/

def vdOp (d : Desc) : Nat := bits (d.w 1) 31 24
def vdType (d : Desc) : Nat := bits (d.w 1) 23 20
def vdRnd (d : Desc) : Nat := bits (d.w 1) 19 18
def vdReseed (d : Desc) : Bool := bit (d.w 1) 17
def vdSat (d : Desc) : Bool := bit (d.w 1) 16
def vdOutFmt (d : Desc) : Nat := bits (d.w 1) 15 12
def vdUns (d : Desc) : Bool := bit (d.w 1) 11
def vdRelease (d : Desc) : Bool := bit (d.w 1) 10
def vdAccArr (d : Desc) : Nat := bits (d.w 1) 9 8
def vdParam (d : Desc) : Nat := bits (d.w 1) 7 4
/-- Kind, stride and base of an operand: 0 SRC_A, 1 SRC_B, 2 SRC_C, 3 DST. -/
def vdKind (d : Desc) (i : Nat) : Nat := bits (d.w (2 + i)) 31 30
def vdStride (d : Desc) (i : Nat) : Nat := bits (d.w (2 + i)) 29 18 * 16
def vdBase (d : Desc) (i : Nat) : Nat := bits (d.w (2 + i)) 17 0 * 16
def vdAccRow (d : Desc) : Nat := bits (d.w 2) 8 0
def vdConst (d : Desc) (i : Nat) : Nat := bits (d.w (2 + i)) 2 0
def vdRows (d : Desc) : Nat := bits (d.w 6) 31 16 + 1
def vdRangeEn (d : Desc) : Bool := bit (d.w 6) 15
def vdWindow (d : Desc) : Nat := bits (d.w 6) 14 12
def vdNanEn (d : Desc) : Bool := bit (d.w 6) 11
def vdCsumEn (d : Desc) : Bool := bit (d.w 6) 10
def vdSumDst (d : Desc) : Nat := bits (d.w 6) 9 8
def vdRedOp (d : Desc) : Nat := bits (d.w 6) 7 4
def vdRedRow (d : Desc) : Bool := bit (d.w 6) 3
def vdIgnoreNan (d : Desc) : Bool := bit (d.w 6) 2
def vdAux (d : Desc) : Nat := bits (d.w 7) 19 0 * 4
def vdSum (d : Desc) : Nat := bits (d.w 8) 19 0 * 4

/-- FP32 lanes: 128 in an M-tile, 256 in an S-tile (05 R108). -/
def lanes (t : Nat) : Nat := if isSTile t then 256 else 128

/-- Bytes of one element of a TYPE: FP32, BF16, FP64, INT32, INT64 (05 R133). -/
def typeBytes (ty : Nat) : Nat := if ty = 1 then 2 else if ty = 2 ∨ ty = 4 then 8 else 4

/-- Elements of one vector row (05 R108, R113 to R115). -/
def rowElems (t : Nat) (d : Desc) : Nat :=
  if vdOp d = 0x23 then 64 else 4 * lanes t / typeBytes (vdType d)

/-- TYPE is a float type. -/
def isFloatType (ty : Nat) : Bool := decide (ty ≤ 2)

/-- The types an operation accepts, and how many sources it uses; none for an operation not listed (05 R111). -/
def opShape : Nat → Option (List Nat × Nat)
  | 0x01 => some ([0, 1, 2], 3)
  | 0x02 => some ([0, 1, 2, 3, 4], 2)
  | 0x03 => some ([0, 1, 2, 3], 2)
  | 0x04 | 0x05 | 0x06 => some ([0, 1, 3], 2)
  | 0x07 => some ([0, 1, 3], 3)
  | 0x08 | 0x09 => some ([3], 2)
  | 0x10 | 0x11 | 0x12 | 0x13 => some ([0], 1)
  | 0x20 => some ([0, 3], 1)
  | 0x21 => some ([0], 1)
  | 0x22 => some ([2], 1)
  | 0x23 => some ([4], 3)
  | 0x30 => some ([0, 1, 2, 3, 4], 1)
  | _ => none

/-- PARAM and OUT_FMT are legal for the operation (04 R100, 05 R111, R113, R118). -/
def opParamOk (t : Nat) (d : Desc) : Bool :=
  match vdOp d with
  | 0x06 => decide (vdParam d < 6)
  | 0x08 => decide (vdParam d < 4)
  | 0x09 => decide (vdParam d < 3)
  | 0x20 => vdOutFmt d != 0xF && (!isMx (vdOutFmt d) || rowElems t d % 32 == 0)
  | 0x22 => decide (5 ≤ vdParam d ∧ vdParam d ≤ 9 ∧ vdOutFmt d ≤ 1)
  | 0x23 => decide (5 ≤ vdParam d ∧ vdParam d ≤ 9)
  | _ => true

/-- Every source the operation uses has a kind it accepts, and DST is of kind 0 or 1 (05 R114, R115, R134, R135). RECOMB_F64 takes its exponents
from the scratchpad or from constants, and an accumulator source of TYPE BF16 or FP64, which no accumulator row has, is not accepted
(DESIGN CHOICE, log 51). -/
def kindsOk (t : Nat) (d : Desc) (n : Nat) : Bool :=
  let acc := !isSTile t && (vdType d == 0 || vdType d == 3 || vdType d == 4) && vdAccArr d != 0
  let srcOk (i : Nat) : Bool :=
    if vdOp d = 0x23 then (if i = 0 then vdKind d 0 == 2 && acc && vdAccArr d != 3 else vdKind d i == 1 || vdKind d i == 3)
    else if vdOp d = 0x22 then vdKind d i == 1
    else vdKind d i == 1 || vdKind d i == 3 || (i == 0 && vdKind d i == 2 && acc)
  (List.range n).all srcOk && decide (vdKind d 3 ≤ 1)

/-- Bytes one vector row writes at DST (04 R91, R103, 05 R113, R119). -/
def outBytes (t : Nat) (d : Desc) : Nat :=
  if vdOp d = 0x20 then (rowElems t d * elemBits (vdOutFmt d) + 7) / 8
  else if vdOp d = 0x21 then 2 * lanes t
  else rowElems t d * typeBytes (if vdOp d = 0x23 then 2 else vdType d)

/-- Bytes one row of source `i` reads. -/
def srcBytes (t : Nat) (d : Desc) (i : Nat) : Nat :=
  if vdOp d = 0x23 then (if i = 1 then 2 else 128) else rowElems t d * typeBytes (vdType d)

/-- K of a SLICE_I8 descriptor (05 R113). -/
def sliceK (t : Nat) (d : Desc) : Nat := rowElems t d * vdRows d

/-- Bytes one slice plane covers: K bytes, or in the weight layout 64 bytes of each block of 4,096 (05 R113, 03 R74; that the blocks of a
plane's K steps lie 4,096 bytes apart is a DESIGN CHOICE, log 51). -/
def planeSpan (t : Nat) (d : Desc) : Nat :=
  if vdOutFmt d = 1 then (sliceK t d / 64 - 1) * 4096 + 64 else sliceK t d

/-- Every scratchpad stream of the descriptor ends within the scratchpad (05 R135 step 5). -/
def streamsOk (t : Nat) (d : Desc) (n : Nat) : Bool :=
  let sz := spBytes t
  let last (base stride len : Nat) : Bool := decide (base + (vdRows d - 1) * stride + len ≤ sz)
  let src := (List.range n).all fun i => vdKind d i != 1 ||
    (if vdOp d = 0x22 then decide (vdBase d 0 + 8 * sliceK t d ≤ sz) else last (vdBase d i) (vdStride d i) (srcBytes t d i))
  let dst := vdKind d 3 != 1 ||
    (if vdOp d = 0x22 then decide (vdBase d 3 + (vdParam d - 1) * vdStride d 3 + planeSpan t d ≤ sz)
     else last (vdBase d 3) (vdStride d 3) (outBytes t d))
  let aux :=
    if vdOp d = 0x20 ∧ isMx (vdOutFmt d) then decide (vdAux d + vdRows d * (rowElems t d / 32) ≤ sz)
    else if vdOp d = 0x21 then vdKind d 3 != 1 || last (vdAux d) (vdStride d 3) (outBytes t d)
    else if vdOp d = 0x22 then decide (vdAux d + 2 ≤ sz)
    else true
  let sums := vdRedOp d == 0 || vdSumDst d / 2 == 0 || decide (vdSum d + 8 * (if vdRedRow d then vdRows d else 1) ≤ sz)
  src && dst && aux && sums

/-- Reduction and guard fields are consistent (05 R123, R125, R132). -/
def redOk (d : Desc) : Bool :=
  decide (vdRedOp d ≤ 7) && !(vdRedOp d != 0 && (vdType d == 2 || vdType d == 4)) &&
  !(vdSumDst d != 0 && vdRedOp d == 0) && !(vdCsumEn d && vdKind d 0 != 2)

/-- The checks of R135 in order: the first failing code. -/
def vectorCheck (t : Nat) (d : Desc) : Option Nat :=
  match opShape (vdOp d) with
  | none => some 0x01
  | some (tys, n) =>
    if !tys.contains (vdType d) || !opParamOk t d then some 0x02
    else if 1 < vdRnd d then some 0x03
    else if !kindsOk t d n then some 0x04
    else if !streamsOk t d n then some 0x06
    else if !redOk d then some 0x07
    else none

/-! ### The LFSR (05 R121) -/

/-- One step: the bit shifted out, and the new state. -/
def lfsrStep (s : Nat) : Nat × Nat :=
  let o := s % 2
  let s := s / 2
  (o, if o = 1 then s ^^^ 0xD800000000000000 else s)

/-- `n` steps, the bits gathered first bit most significant. -/
def lfsrBits : Nat → Nat → Nat → Nat × Nat
  | 0, r, s => (r, s)
  | n + 1, r, s => lfsrBits n (r * 2 + (lfsrStep s).1) (lfsrStep s).2

/-- The 16-bit random value of an element, and the state after it. -/
def lfsrDraw (s : Nat) : Nat × Nat := lfsrBits 16 0 s

/-- A number narrowed to a float format under RND: an exact result draws nothing (05 R120, R121). -/
def narrowEl (f : FFmt) (rnd : Nat) (n : Num) (l : Nat) : Nat × Nat :=
  let (c, inexact) := narrow f .rne n
  if rnd = 1 ∧ inexact then
    let (r, l) := lfsrDraw l
    ((narrow f (.sr r) n).1, l)
  else (c, l)

/-! ### Elements in the lanes: FP32 and BF16 as FP32 codes, the others as codes of their type (05 R138) -/

/-- An element of the scratchpad in its lane form. -/
def laneOf (ty v : Nat) : Nat := if ty = 1 then v * 2 ^ 16 else v

/-- A constant register as an operand of a TYPE (05 R138). -/
def constOf (ty v : Nat) : Nat :=
  if ty = 2 then (narrow fFP64 .rne (of32 v)).1 else if ty = 4 then codeOf 64 (signedOf 32 v) else v

/-- The number a lane element means. -/
def laneNum (ty v : Nat) : Num :=
  if ty = 2 then fDecode fFP64 v
  else if ty = 3 then (let i := signedOf 32 v; .fin (decide (i < 0)) i.natAbs 0)
  else if ty = 4 then (let i := signedOf 64 v; .fin (decide (i < 0)) i.natAbs 0)
  else of32 v

/-- A float result narrowed to its TYPE, in lane form (05 R111: a BF16 result is rounded once to BF16). -/
def toType (ty rnd : Nat) (n : Num) (l : Nat) : Nat × Nat :=
  if ty = 1 then (let (c, l) := narrowEl fBF16 rnd n l; (c * 2 ^ 16, l))
  else narrowEl (if ty = 2 then fFP64 else fFP32) rnd n l

/-- A BF16 result of an operation that passes an operand on is still narrowed once (05 R138); other types pass the bits. -/
def passOn (ty rnd v l : Nat) : Nat × Nat := if ty = 1 then toType 1 rnd (of32 v) l else (v, l)

/-- The larger or smaller of two elements; a NaN operand gives NaN, −0 is below +0 (05 R111). -/
def maxMin (ty : Nat) (big : Bool) (a b : Nat) : Nat :=
  if ty = 3 then (if (signedOf 32 a < signedOf 32 b) = big then b else a)
  else if isNan32 a || isNan32 b then nan32
  else if (key32 a < key32 b) = big then b else a

/-- Whether the comparison PARAM selects holds (05 R111). -/
def cmpHolds (ty p a b : Nat) : Bool :=
  let (nan, lt, eq) :=
    if ty = 3 then (false, decide (signedOf 32 a < signedOf 32 b), a == b)
    else (isNan32 a || isNan32 b, numLt (of32 a) (of32 b), numEq (of32 a) (of32 b))
  if nan then p == 1
  else match p with
    | 0 => eq
    | 1 => !eq
    | 2 => lt
    | 3 => lt || eq
    | 4 => !lt && !eq
    | _ => !lt

/-- Integer square root by Newton's steps from above; `fuel` bounds them. -/
def isqrtFrom : Nat → Nat → Nat → Nat
  | 0, _, x => x
  | k + 1, n, x => let y := (x + n / x) / 2; if y < x then isqrtFrom k n y else x

/-- Integer square root. -/
def isqrt (n : Nat) : Nat := if n = 0 then 0 else isqrtFrom 300 n (2 ^ (Nat.log2 n / 2 + 1))

/-- 1/√a with enough bits and a sticky bit: for `man * 2^exp` with an even exponent, √(2^(2k) / man) * 2^(−exp/2 − k). -/
def rsqrtNum (man : Nat) (exp : Int) : Num :=
  let (m, e) := if exp % 2 = 0 then (man, exp) else (man * 2, exp - 1)
  let k := 64 + Nat.log2 m
  let q := isqrt (2 ^ (2 * k) / m)
  .fin false (2 * q + (if q * q * m = 2 ^ (2 * k) then 0 else 1)) (-(e / 2) - k - 1)

/-- The number of an integer times 2^exp. -/
def numOf (v : Int) (exp : Int) : Num := .fin (decide (v < 0)) v.natAbs exp

/-- Bounds of 2^F for the binary fraction F = f / 2^k, times 2^128: the product of the roots 2^(1/2^j) of the bits set, each root taken from
the one before; the steps are the bits, highest first. -/
def pow2Steps (f : Nat) : Nat → Nat × Nat → Nat × Nat → Nat × Nat
  | 0, _, acc => acc
  | j + 1, (rl, rh), (al, ah) =>
    let r := (isqrt (rl <<< 128), isqrt (rh <<< 128) + 1)
    pow2Steps f j r (if f.testBit j then (al * r.1 >>> 128, (ah * r.2 >>> 128) + 1) else (al, ah))

/-- Bounds of 2^a for a finite a (05 R112). -/
def pow2Bounds (s : Bool) (m : Nat) (e : Int) : Num × Num :=
  let k := (-e).toNat
  let v : Int := sMan s (m <<< e.toNat)
  let (lo, hi) := pow2Steps (v % 2 ^ k).toNat k (2 <<< 128, 2 <<< 128) (1 <<< 128, 1 <<< 128)
  (.fin false lo (v / 2 ^ k - 128), .fin false hi (v / 2 ^ k - 128))

/-- The bits of log₂ y after the point, by squaring: y lies from 2^128 up to 2^129 and stands for y / 2^128. -/
def log2Bits : Nat → Nat → Nat → Nat
  | 0, _, r => r
  | n + 1, y, r =>
    let y := y * y >>> 128
    if 2 ^ 129 ≤ y then log2Bits n (y / 2) (2 * r + 1) else log2Bits n y (2 * r)

/-- Bounds of log₂ of `man * 2^exp`, the mantissa not zero (05 R112). -/
def log2Bounds (m : Nat) (e : Int) : Num × Num :=
  let top := Nat.log2 m
  let v : Int := ((top : Int) + e) * 2 ^ 64 + (log2Bits 64 ((m <<< 128) >>> top) 0 : Nat)
  (numOf v (-64), numOf (if m = 2 ^ top then v else v + 4) (-64))

/-- The spacing of FP32 at a number. -/
def ulpAt : Num → Num
  | .fin _ m e => .fin false 1 (max (-149) ((if m = 0 then -1000 else (Nat.log2 m : Int) + e) - 23))
  | n => n

/-- An FP32 code lies within `d` of a number known to lie between two bounds. -/
def nearBy (d : Num) (lo hi : Num) (c : Nat) : Bool :=
  !isSpecial32 c && !numLt (of32 c) (numAdd lo (numNeg d)) && !numLt (numAdd hi d) (of32 c)

/-- The result of a lane whose distance from the exact value is bounded: the free bits where they keep to the bound, else the exact value
rounded (05 R112, log 3). -/
def boundedBits (op c : Nat) (d : Num) (lo hi : Num) : Nat :=
  let v := (Config.laneBits op (BitVec.ofNat 32 c)).toNat
  if nearBy d lo hi v then v else f32 lo

/-- A bound of `n` ulp of an exact value. -/
def ulps (n : Nat) (x : Num) : Num := numMul (.fin false n 0) (ulpAt x)

/-- The transcendental lanes: the special values the spec states, else a free result within the bound the spec states; a subnormal result of
EXP2, for which it states none, has free bits (05 R112). -/
def transcend (op c : Nat) : Nat :=
  let inf := 0x7F800000
  match op, of32 c with
  | _, .nan => nan32
  | 0x10, .inf s => if s then 0 else inf
  | 0x10, .fin s m e =>
    if !numLt (.fin s m e) (.fin false 128 0) then inf
    else if numLt (.fin s m e) (.fin true 150 0) then 0
    else
      let (lo, hi) := pow2Bounds s m e
      if numLt hi (.fin false 1 (-126)) then (Config.laneBits op (BitVec.ofNat 32 c)).toNat else boundedBits op c (ulps 2 lo) lo hi
  | 0x11, .inf s => if s then nan32 else inf
  | 0x11, .fin s m e =>
    if m = 0 then 0xFF800000 else if s then nan32
    else
      let (lo, hi) := log2Bounds m e
      let mid := !numLt (.fin s m e) (.fin false 1 (-1)) && !numLt (.fin false 2 0) (.fin s m e)
      boundedBits op c (if mid then .fin false 1 (-22) else ulps 2 lo) lo hi
  | 0x12, .inf s => ofBool s * 2 ^ 31
  | 0x12, .fin s m e =>
    if m = 0 then ofBool s * 2 ^ 31 + inf
    else
      let x := numDiv (.fin false 1 0) (.fin s m e)
      if f32 x % 2 ^ 31 = inf then f32 x else boundedBits op c (ulps 1 x) x x
  | _, .inf s => if s then nan32 else 0
  | _, .fin s m e =>
    if m = 0 then ofBool s * 2 ^ 31 + inf
    else if s then nan32
    else boundedBits op c (ulps 2 (rsqrtNum m e)) (rsqrtNum m e) (rsqrtNum m e)

/-- One element of an operation whose result has its TYPE, in lane form, with the LFSR after it (05 R111). -/
def applyOp (op ty p rnd a b c l : Nat) : Nat × Nat :=
  let one := if ty = 3 then 1 else 0x3F800000
  let int32 (v : Int) : Nat := codeOf 32 v
  match op with
  | 0x01 => toType ty rnd (numAdd (numMul (laneNum ty a) (laneNum ty b)) (laneNum ty c)) l
  | 0x02 =>
    if ty = 3 then ((a + b) % 2 ^ 32, l) else if ty = 4 then ((a + b) % 2 ^ 64, l)
    else toType ty rnd (numAdd (laneNum ty a) (laneNum ty b)) l
  | 0x03 => if ty = 3 then ((a * b) % 2 ^ 32, l) else toType ty rnd (numMul (laneNum ty a) (laneNum ty b)) l
  | 0x04 => passOn ty rnd (maxMin ty true a b) l
  | 0x05 => passOn ty rnd (maxMin ty false a b) l
  | 0x06 => (if cmpHolds ty p a b then one else 0, l)
  | 0x07 => passOn ty rnd (if (if ty = 3 then c != 0 else c % 2 ^ 31 != 0) then a else b) l
  | 0x08 => (match p with
      | 0 => a &&& b
      | 1 => a ||| b
      | 2 => a ^^^ b
      | _ => a &&& (b ^^^ 0xFFFFFFFF), l)
  | 0x09 =>
    let k := b % 32
    (match p with
      | 0 => (a <<< k) % 2 ^ 32
      | 1 => a >>> k
      | _ => int32 (signedOf 32 a / 2 ^ k), l)
  | 0x30 => passOn ty rnd a l
  | _ => (transcend op a, l)

/-! ### Conversion (03 R83, 05 R118, R119) -/

/-- A value rounded to a multiple of 1 under RND: the integer, and the LFSR after it. -/
def roundInt (rnd : Nat) (n : Num) (l : Nat) : Int × Nat :=
  match n with
  | .fin s m e =>
    let (m1, q1, exact) := roundMag 5000 0 .rne m e
    if rnd = 1 ∧ !exact then
      let (r, l) := lfsrDraw l
      let (m2, q2, _) := roundMag 5000 0 (.sr r) m e
      (sMan s (m2 <<< q2.toNat), l)
    else (sMan s (m1 <<< q1.toNat), l)
  | _ => (0, l)

/-- Limits of an integer target: INT8, UINT8, INT4, UINT4, INT32 (03 R64). -/
def intLimits (fmt : Nat) (uns : Bool) : Int × Int :=
  let w := elemBits fmt
  if uns && (fmt == 2 || fmt == 9) then (0, 2 ^ w - 1) else (-(2 ^ (w - 1)), 2 ^ (w - 1) - 1)

/-- An element converted to an integer target: code, LFSR, counted as replaced (03 R83). -/
def cvtInt (fmt : Nat) (uns : Bool) (rnd : Nat) (n : Num) (l : Nat) : Nat × Nat × Bool :=
  let (lo, hi) := intLimits fmt uns
  match n with
  | .nan => (0, l, true)
  | .inf s => (codeOf (elemBits fmt) (if s then lo else hi), l, true)
  | n =>
    let (v, l) := roundInt rnd n l
    if v < lo then (codeOf (elemBits fmt) lo, l, true)
    else if hi < v then (codeOf (elemBits fmt) hi, l, true)
    else (codeOf (elemBits fmt) v, l, false)

/-- Round a finite value to a float target with no upper bound on the exponent: sign, mantissa, exponent, LFSR. -/
def roundEl (f : FFmt) (rnd : Nat) (s : Bool) (m : Nat) (e : Int) (l : Nat) : Num × Nat :=
  let (m1, q1, exact) := roundMag (f.mb + 1) (fMinExp f) .rne m e
  if rnd = 1 ∧ !exact then
    let (r, l) := lfsrDraw l
    let (m2, q2, _) := roundMag (f.mb + 1) (fMinExp f) (.sr r) m e
    (.fin s m2 q2, l)
  else (.fin s m1 q1, l)

/-- The code of a rounded finite value, which is at most max finite. -/
def packNum (f : FFmt) (n : Num) : Nat :=
  match n with
  | .fin s m e => let (m', e') := trimMan (f.mb + 1) 2 m e; fPack f s m' e'
  | _ => 0

/-- An element converted to a float target that is not MX: code, LFSR, counted as replaced (03 R83). -/
def cvtFloat (fmt : Nat) (f : FFmt) (sat : Bool) (rnd : Nat) (n : Num) (l : Nat) : Nat × Nat × Bool :=
  let sgn (s : Bool) : Nat := ofBool s * 2 ^ (f.mb + f.eb)
  let infCode (s : Bool) : Nat := sgn s + (2 ^ f.eb - 1) * 2 ^ f.mb
  let (mm, me) := fMax f
  match n with
  | .nan => (if fmt = 0 then 0x7F else (narrow f .rne .nan).1, l, false)
  | .inf s => if fmt = 0 then (sgn s + 0x7F, l, true) else (infCode s, l, false)
  | .fin s m e =>
    let (r, l) := roundEl f rnd s m e l
    match r with
    | .fin _ m' e' =>
      if magGt (m', e') (mm, me) then
        (if fmt = 0 ∨ (sat ∧ fmt ≠ 0xC ∧ fmt ≠ 0xE) then fPack f s mm me else infCode s, l, true)
      else (packNum f r, l, false)
    | _ => (0, l, false)

/-- emax of an MX element format (05 R119). -/
def mxEmax : Nat → Int
  | 0x3 => 8
  | 0x4 => 15
  | 0x5 => 4
  | 0x6 => 2
  | 0x8 => 2
  | _ => 0

/-- The scale byte of an MX block (05 R119). -/
def mxScale (fmt : Nat) (ns : List Num) : Nat :=
  if ns.any fun n => match n with | .fin .. => false | _ => true then 0xFF
  else
    let tops : List Int := ns.filterMap fun n => match n with
      | .fin _ m e => if m = 0 then none else some (Nat.log2 m + e)
      | _ => none
    match tops with
    | [] => 0x7F
    | x :: r => (max 0 (min 0xFE (r.foldl max x - mxEmax fmt + 127))).toNat

/-- An element of an MX block with scale byte `sc`, below 0xFF: divided by the scale, rounded, clamped (05 R119). -/
def cvtMx (fmt sc rnd : Nat) (n : Num) (l : Nat) : Nat × Nat × Bool :=
  let n := numScale n (127 - (sc : Int))
  match floatOf fmt with
  | some f =>
    let (mm, me) := fMax f
    match n with
    | .fin s m e =>
      let (r, l) := roundEl f rnd s m e l
      match r with
      | .fin _ m' e' => if magGt (m', e') (mm, me) then (fPack f s mm me, l, true) else (packNum f r, l, false)
      | _ => (0, l, false)
    | _ => (0, l, false)
  | none =>
    let (v, l) := roundInt rnd (numScale n 6) l
    if 127 < v then (127, l, true) else if v < -127 then (codeOf 8 (-127), l, true) else (codeOf 8 v, l, false)

/-- The elements of one block or row converted in element order: codes, LFSR, how many replaced. -/
def cvtList (cv : Num → Nat → Nat × Nat × Bool) : List Num → Nat → List Nat × Nat × Nat
  | [], l => ([], l, 0)
  | n :: r, l =>
    let (c, l, rep) := cv n l
    let (cs, l, k) := cvtList cv r l
    (c :: cs, l, k + ofBool rep)

/-- Conversion of a row in blocks of 32 to an MX target: codes, scale bytes, LFSR, how many replaced (05 R119). -/
def cvtBlocks (fmt rnd : Nat) : Nat → List Num → Nat → List Nat × List Nat × Nat × Nat
  | 0, _, l => ([], [], l, 0)
  | k + 1, ns, l =>
    let blk := ns.take 32
    let sc := mxScale fmt blk
    let (cs, l, n) :=
      if sc = 0xFF then
        (blk.map fun _ => 0, l, (blk.filter fun n => match n with | .fin .. => false | _ => true).length)
      else cvtList (cvtMx fmt sc rnd) blk l
    let (cr, sr, l, m) := cvtBlocks fmt rnd k (ns.drop 32) l
    (cs ++ cr, sc :: sr, l, n + m)

/-! ### SLICE_I8 and RECOMB_F64 (04 R100, R103, 05 R113, R114) -/

/-- The scale exponent of a row: the smallest e with 128 * |x| ≤ 127 * 2^e for every element; −32,768 for zeros, 32,767 with a
NaN or an infinity (04 R100). -/
def sliceExp (ns : List Num) : Int :=
  if ns.any fun n => match n with | .fin .. => false | _ => true then 32767
  else
    let es : List Int := ns.filterMap fun n => match n with
      | .fin _ m e =>
        if m = 0 then none
        else
          let e0 : Int := Nat.log2 m + e
          let k := e0 + 1 - e
          some (if 128 * m ≤ 127 * 2 ^ k.toNat then e0 + 1 else e0 + 2)
      | _ => none
    match es with
    | [] => -32768
    | x :: r => r.foldl max x

/-- The balanced digits of X, d[s−1] first (04 R100). -/
def sliceDigits : Nat → Int → List Int
  | 0, _ => []
  | 1, x => [x]
  | n + 2, x =>
    let d := (x + 128) % 256 - 128
    d :: sliceDigits (n + 1) ((x - d) / 256)

/-- The slices of one element, slice 0 first, and whether it is lost: nonzero and below 2^(e − 8s) in magnitude (04 R100, R101). In a row that
holds a NaN or an infinity, whose slices are all zero, no element counts as lost (DESIGN CHOICE, log 51). -/
def sliceEl (s : Nat) (e : Int) (n : Num) : List Int × Bool :=
  if e = 32767 ∨ e = -32768 then (List.replicate s 0, false)
  else match n with
    | .fin sg m x =>
      let (m', q, _) := roundMag 5000 0 .rne m (x + (8 * (s : Int) - 1 - e))
      let v := sMan sg (m' <<< q.toNat)
      ((sliceDigits s v).reverse, decide (m ≠ 0) && numLt (.fin false m x) (.fin false 1 (e - 8 * (s : Int))))
    | _ => (List.replicate s 0, false)

/-- RECOMB_F64 of one element: the exact value rounded once to FP64 (04 R103). -/
def recomb (s hi lo ea ew : Nat) : Nat :=
  let a := signedOf 16 ea
  let w := signedOf 16 ew
  if a = 32767 ∨ w = 32767 then 0x7FF8000000000000
  else if a = -32768 ∨ w = -32768 then 0
  else
    let v := signedOf 64 hi * 2 ^ (8 * (s - s / 2)) + signedOf 64 lo
    if v = 0 then 0
    else (narrow fFP64 .rne (.fin (decide (v < 0)) v.natAbs (a + w - 8 * (s : Int) - 6))).1

/-- SPLIT_BF16 of one element: hi and lo, and whether the conversion to hi counts as replaced (03 R83, 04 R91). -/
def splitBf16 (c : Nat) : Nat × Nat × Bool :=
  match of32 c with
  | .nan => (0x7FC0, 0, false)
  | .inf s => (ofBool s * 2 ^ 15 + 0x7F80, 0, false)
  | n =>
    let hi := cvtFloat 0xA fBF16 true 0 n 0
    (hi.1, (narrow fBF16 .rne (numAdd n (numNeg (fDecode fBF16 hi.1)))).1, hi.2.2)

/-! ### Reduction (05 R123, R124) -/

/-- Sum by the balanced tree, pairs of neighbours first; `fuel` bounds the levels. -/
def treeSum (add : Nat → Nat → Nat) : Nat → List Nat → Nat
  | _, [] => 0
  | _, [x] => x
  | 0, x :: _ => x
  | n + 1, l => treeSum add n (pairUp add l)
where
  pairUp (add : Nat → Nat → Nat) : List Nat → List Nat
    | a :: b :: r => add a b :: pairUp add r
    | l => l

/-- FP32 addition rounded to nearest even. -/
def add32 (a b : Nat) : Nat := f32 (numAdd (of32 a) (of32 b))

/-- The sum of a row's elements: FP32 by the tree, INT32 wrapping. -/
def rowSum (int : Bool) (l : List Nat) : Nat :=
  if int then l.foldl (fun a b => (a + b) % 2 ^ 32) 0 else treeSum add32 16 l

/-- A candidate `b` takes the place of `a` for MAX (`big`) or MIN: strictly, so that ties stay with the lowest index; a NaN
wins and the first stays (05 R124). -/
def takesOver (int big : Bool) (a b : Nat) : Bool :=
  if int then (if big then decide (signedOf 32 a < signedOf 32 b) else decide (signedOf 32 b < signedOf 32 a))
  else if isNan32 a then false
  else if isNan32 b then true
  else if big then decide (key32 a < key32 b) else decide (key32 b < key32 a)

/-- One element entering the running reduction with its index (05 R123, R124). -/
def redStep (op : Nat) (int ignoreNan : Bool) (r : RedAcc) (e : Nat × Bool) (idx : Nat) : RedAcc :=
  let nan := !int && isNan32 e.1
  let r := { r with nan := r.nan || nan, bad := r.bad || e.2, n := r.n + 1 }
  match op with
  | 2 | 3 | 4 =>
    if ignoreNan && nan then r
    else if !r.any || takesOver int (op != 3) r.val e.1 then { r with val := e.1, idx := idx, any := true } else r
  | 5 | 6 | 7 => if (if int then e.1 != 0 else e.1 % 2 ^ 31 != 0) then { r with val := r.val + 1, any := true } else { r with any := true }
  | _ => { r with any := true }

/-- A row's elements entering the reduction, from index `i`: SUM gives the row's tree sum, added to the running sum where there is one
(`run`, RED_ROW = 0; 05 R124). -/
def redRow (op : Nat) (int ignoreNan run : Bool) (r : RedAcc) (l : List (Nat × Bool)) (i : Nat) : RedAcc :=
  let r' := (l.zipIdx).foldl (fun r (e, k) => redStep op int ignoreNan r e (i + k)) r
  if op = 1 then
    let sum := rowSum int (l.map (·.1))
    { r' with val := if !run then sum else if int then (r.val + sum) % 2 ^ 32 else add32 r.val sum }
  else r'

/-- The summary a reduction gives (05 R123, R125): `row` is the row index, none for the whole descriptor. -/
def redSummary (op : Nat) (int : Bool) (r : RedAcc) (row : Option Nat) : Summary :=
  let empty := !r.any
  let val :=
    match op with
    | 2 | 3 | 4 => if empty then (if int then 0 else nan32) else if !int && isNan32 r.val then nan32 else r.val
    | 6 => ofBool (r.val != 0)
    | 7 => ofBool (r.val == r.n)
    | _ => r.val
  let idx := if op = 4 then r.idx else row.getD 0
  { value := BitVec.ofNat 32 val
    info := BitVec.ofNat 32 (ofBool r.bad * 2 ^ 31 + ofBool r.nan * 2 ^ 30 + ofBool empty * 2 ^ 29 + idx % 2 ^ 28) }

end Sys2Proof.Machine
end

