-- ==== Sys2Proof/Machine/Network.lean ====
section
/-!
DEFINITION. The routers: routing, walls, the rim's gate, mixdown, the limit on TC0 (10 R239 to R263).
-/
namespace Sys2Proof.Machine

/-! ### Walls (10 R251, R252) -/

/-- The neighbour of a tile through mesh port `p` (1 N, 2 S, 3 E, 4 W), on the die. -/
def neighbour (t p : Nat) : Option Nat :=
  let x := tileX t
  let y := tileY t
  match p with
  | 1 => if y = 0 then none else some (t - 48)
  | 2 => if y = 39 then none else some (t + 48)
  | 3 => if x = 47 then none else some (t + 1)
  | 4 => if x = 0 then none else some (t - 1)
  | _ => none

/-- Port `p` of tile `t` leads to the rim: N of row 0, S of row 39. -/
def toRim (t p : Nat) : Bool := (p == 1 && tileY t == 0) || (p == 2 && tileY t == 39)

/-- A mesh port is closed (10 R251). -/
def Ctl.wallClosed (c : Ctl) (t p : Nat) : Bool :=
  match c.tileStage t with
  | none => true
  | some s =>
    match neighbour t p with
    | some u => c.tileOff u || c.tileStage u != some s
    | none => !toRim t p

/-- RTR.STATUS.WALL: bit 0 N, 1 S, 2 E, 3 W (10 R264). -/
def Ctl.wallMask (c : Ctl) (t : Nat) : Nat :=
  (List.range 4).foldl (fun m i => if c.wallClosed t (i + 1) then m + 2 ^ i else m) 0

/-- RTR.STATUS.RIM_OPEN. -/
def Ctl.rimOpen (c : Ctl) (t : Nat) : Bool := (toRim t 1 || toRim t 2) && (c.tileStage t).isSome

/-- The port a thing sent out of port `p` comes in by. -/
def opposite (p : Nat) : Nat := if p = 1 then 2 else if p = 2 then 1 else if p = 3 then 4 else 3

/-- Item `it` leaves router `t` by port `p`: through the wall it is dropped and counted (10 R252). -/
def Ctl.leave (c : Ctl) (t p : Nat) (it : Item) : Ctl :=
  let c := match it with
    | .pkt q => c.perf t 0x0A ((q.run.bytes.length + 287) / 256)
    | _ => c
  if c.wallClosed t p then ((c.bump (rtrPage t) F.RTR_WALL_DROP_COUNT).errHw (rtrPage t) 0x05).raise (rtrPage t) 1
  else match neighbour t p with
    | some u => c.atRouter u (opposite p) it
    | none => { c with net := c.net ++ [⟨.gate t, it⟩] }

/-! ### Routing (10 R247 to R250) -/

/-- The route entry of router `t` towards tile `u`: 0 none, 1 N, 2 S, 3 E, 4 W (10 R247). -/
def Ctl.routeEntry (c : Ctl) (t u : Nat) : Nat :=
  let e (f : Fld) (k : Nat) : Nat := c.getN (rtrPage t) f (k / 8) / 16 ^ (k % 8) % 16
  if tileX u != tileX t then e F.RTR_ROUTE_COL_ENTRIES (tileX u) else e F.RTR_ROUTE_ROW_ENTRIES (tileY u)

/-- A dropped item is counted in HDR_DROP (10 R241). -/
def Ctl.hdrDrop (c : Ctl) (t : Nat) : Ctl :=
  ((c.bump (rtrPage t) F.RTR_HDR_DROP_COUNT).errHw (rtrPage t) 0x06).raise (rtrPage t) 3

/-- An item is routed towards tile `u`, `hops` taken so far; `put` gives it with one hop more (10 R247). -/
def Ctl.forward (c : Ctl) (t u hops : Nat) (it : Item) : Ctl :=
  let p := c.routeEntry t u
  if p = 0 ∨ hops = 127 then
    ((c.bump (rtrPage t) F.RTR_ROUTE_DROP_COUNT).errHw (rtrPage t) 0x07).raise (rtrPage t) 2
  else c.leave t p it

/-- The edge port of an entry tile: N in row 0, S in row 39. -/
def edgePort (t : Nat) : Nat := if tileY t = 0 then 1 else 2

/-- The next good tile of a multicast run after tile `t` (10 R250). -/
def nextOfRun (c : Ctl) (p : Pkt) (t : Nat) : Option Nat :=
  ((runTiles p.dmode t p.mcLast).drop 1).find? c.tileGood

/-- A packet at router `t`: delivered, with a copy to the next tile of a multicast run, sent on, or to the rim. -/
def Ctl.routePkt (c : Ctl) (t : Nat) (p : Pkt) : Ctl :=
  if p.dest ≠ t then c.forward t p.dest p.hops (.pkt { p with hops := p.hops + 1 })
  else if p.rim then c.leave t (edgePort t) (.pkt p)
  else
    let c := { c with net := c.net ++ [⟨.tile t, .pkt p⟩] }
    if p.dmode = 0 then c
    else match nextOfRun c p t with
      | some u => c.atRouter t 0 (.pkt { p with dest := u })
      | none => c

/-- A control message bound for the rim: a tile sent it, and the rim is its target (10 R244, R249). -/
def Msg.toRim (m : Msg) : Bool := m.rim && decide (m.src < 1920)

/-- A control message at router `t`. -/
def Ctl.routeMsg (c : Ctl) (t : Nat) (m : Msg) : Ctl :=
  if m.dest ≠ t then c.forward t m.dest m.hops (.msg { m with hops := m.hops + 1 })
  else if m.toRim then c.leave t (edgePort t) (.msg m)
  else { c with net := c.net ++ [⟨.tile t, .msg m⟩] }

/-- Payload words found uncorrectable are forwarded poisoned (10 R241). -/
def Run.poisonWords (r : Run) (ws : List Nat) : Run :=
  { r with bad := r.bad.zipIdx.map fun (p, i) => p || ws.contains (i / 32) }

/-! ### Whose turn it is (10 R240, R245, R246, R255, R261) -/

/-- The links of a tile hold: its clock is stopped for a frequency change (10 R240). -/
def Ctl.linkStopped (c : Ctl) (t : Nat) : Bool :=
  let sc := (c.tileStage t).getD (12 + tileCluster t)
  c.clk.changes.any fun x => x.phase == .stopped && x.scope == sc

/-- The output that an item for tile `u` takes at router `t`, 0 the local one; none where it is dropped (10 R247, R249, R251). -/
def Ctl.outPort (c : Ctl) (t u hops : Nat) (rim : Bool) : Option Nat :=
  let p := if u ≠ t then c.routeEntry t u else if rim then edgePort t else 0
  if (u ≠ t ∧ (p = 0 ∨ hops = 127)) ∨ (p ≠ 0 ∧ c.wallClosed t p) then none else some p

/-- The output of a packet, of a message. -/
def Ctl.pktOut (c : Ctl) (t : Nat) (p : Pkt) : Option Nat := c.outPort t p.dest p.hops p.rim
def Ctl.msgOut (c : Ctl) (t : Nat) (m : Msg) : Option Nat := c.outPort t m.dest m.hops m.toRim

/-- Flits of a packet (10 R242). -/
def Pkt.flits (p : Pkt) : Nat := (p.run.bytes.length + 287) / 256

/-- Flits that a packet takes of a virtual channel's buffer of four: a longer one fills it and trails behind (10 R245). -/
def Pkt.slots (p : Pkt) : Nat := min 4 p.flits

/-- Two packets use one virtual channel. -/
def Pkt.sameVc (p q : Pkt) : Bool := p.cls == q.cls && p.rsp == q.rsp

/-- The virtual channel of a packet has link credit for it at the input that output `o` of router `t` leads to (10 R245). -/
def Ctl.vcRoom (c : Ctl) (t o : Nat) (p : Pkt) : Bool :=
  match o, neighbour t o with
  | 0, _ | _, none => true
  | _, some u => decide (p.slots + (c.net.foldl (fun n f =>
      match f with
      | ⟨.router v port, .pkt q⟩ => if v = u ∧ port = opposite o ∧ q.sameVc p then n + q.slots else n
      | _ => n) 0) ≤ 4)

/-- A packet of those on the way: its place in the list, the router and the input it stands at. -/
structure Waiting where
  idx : Nat
  tile : Nat
  port : Nat
  pkt : Pkt

/-- The packets at routers, each the first of its virtual channel at its input. -/
def Ctl.heads (c : Ctl) : List Waiting :=
  let l := c.net.zipIdx.filterMap fun (f, i) =>
    match f with
    | ⟨.router t port, .pkt p⟩ => some (⟨i, t, port, p⟩ : Waiting)
    | _ => none
  l.filter fun x => !l.any fun y => decide (y.idx < x.idx) && y.tile == x.tile && y.port == x.port && y.pkt.sameVc x.pkt

/-- The arbiter of output `o` of router `t` lets packet `x` go: a response before a request of its class, the classes by deficit round robin
in flits under CLASS_WEIGHT (10 R246). -/
def Ctl.classPick (c : Ctl) (x : Waiting) (o : Nat) : Option Drr :=
  let l := c.heads.filter fun y => y.tile == x.tile && c.pktOut y.tile y.pkt == some o && c.vcRoom y.tile o y.pkt
  if !(l.any fun y => y.idx == x.idx) || (!x.pkt.rsp && l.any fun y => y.pkt.rsp && y.pkt.cls == x.pkt.cls) then none
  else
    let w (k : Nat) : Nat := c.get (rtrPage x.tile)
      (if k = 0 then F.RTR_CLASS_WEIGHT_TC1 else if k = 1 then F.RTR_CLASS_WEIGHT_TC2 else F.RTR_CLASS_WEIGHT_TC3)
    let wants := (List.range 3).filterMap fun k =>
      let y := if x.pkt.cls = k + 1 then some x else
        ((l.filter fun y => y.pkt.cls == k + 1 && y.pkt.rsp) ++ (l.filter fun y => y.pkt.cls == k + 1)).head?
      y.map fun y => (k, y.pkt.flits)
    match (SMap.get {} c.arbs.data (x.tile * 8 + o)).pick 3 w wants with
    | some (k, d) => if k + 1 = x.pkt.cls then some d else none
    | none => none

/-- The stages with a packet that waits for a rim path, each with the flits of its first one: `side` 0 for what leaves by row 0, 1 by row 39,
2 and 3 for what enters there (10 R255). -/
def Ctl.rimWants (c : Ctl) (side : Nat) : List (Nat × Nat) :=
  let row := if side % 2 = 0 then 0 else 39
  let at_ (f : Flight) : Option (Nat × Pkt) :=
    match f with
    | ⟨.gate t, .pkt p⟩ => if side < 2 ∧ tileY t = row then some (t, p) else none
    | ⟨.router t port, .pkt p⟩ => if 2 ≤ side ∧ tileY t = row ∧ toRim t port then some (t, p) else none
    | _ => none
  let l := c.net.filterMap at_
  (List.range 12).filterMap fun s => (l.find? fun e => c.tileStage e.1 == some s).map fun e => (s, e.2.flits)

/-- The arbiter of a rim path lets a packet of stage `s` go: the stages by deficit round robin in flits under RIM_WEIGHT (10 R255). -/
def Ctl.rimPick (c : Ctl) (side s : Nat) : Option Drr :=
  let w (k : Nat) : Nat := c.get (stagePage k) (if side % 2 = 0 then F.STAGE_RIM_WEIGHT_TOP else F.STAGE_RIM_WEIGHT_BOTTOM)
  match (SMap.get {} c.arbs.rim side).pick 12 w (c.rimWants side) with
  | some (k, d) => if k = s then some d else none
  | none => none

/-- Packet `i`, at input `port` of router `t`, may go by output `o`: its turn has come at that output, and on the rim path it enters by. The
arbiters after it. -/
def Ctl.pktTurn (c : Ctl) (i t port o : Nat) (p : Pkt) : Option Arbs :=
  match c.classPick ⟨i, t, port, p⟩ o with
  | none => none
  | some d =>
    let a := { c.arbs with data := SMap.set {} c.arbs.data (t * 8 + o) d }
    if toRim t port then
      match c.tileStage t with
      | some s =>
        let side := if tileY t = 0 then 2 else 3
        (c.rimPick side s).map fun d => { a with rim := SMap.set {} a.rim side d }
      | none => some a
    else some a

/-- A message of TC0. -/
def Msg.isTc0 (m : Msg) : Bool := decide (m.type ≤ 8)

/-- From slot `s` of an eight-slot frame, the slot used next and whether TC0 takes it: a reserved slot is TC0's, another one goes to
acknowledgements and credit messages first (10 R261). -/
def frameSlot (mask : Nat) (tc0 other : Bool) : Nat → Nat → Option (Nat × Bool)
  | 0, _ => none
  | k + 1, s =>
    let s := s % 8
    if mask.testBit s then (if tc0 then some (s, true) else frameSlot mask tc0 other k (s + 1))
    else if other then some (s, false) else if tc0 then some (s, true) else frameSlot mask tc0 other k (s + 1)

/-- A message at router `t` may go by output `o`: its kind takes the next slot of the frame that is used (10 R261). -/
def Ctl.msgTurn (c : Ctl) (t o : Nat) (m : Msg) : Option Arbs :=
  if o = 0 then some c.arbs
  else
    let waits (k : Bool) : Bool := c.net.any fun f =>
      match f with
      | ⟨.router u _, .msg q⟩ => u == t && q.isTc0 == k && c.msgOut u q == some o
      | _ => false
    match frameSlot (c.get (rtrPage t) F.RTR_TC0_SLOTS_MASK) (waits true) (waits false) 8 (SMap.get 0 c.arbs.frame (t * 8 + o)) with
    | some (s, k) => if k = m.isTc0 then some { c.arbs with frame := SMap.set 0 c.arbs.frame (t * 8 + o) ((s + 1) % 8) } else none
    | none => none

/-- PACKET_ROUTE: a router receives a packet or a control message: `hdr` is what its ECC check finds in the header or the
message, `corr` counts corrected payload words and `bad` names uncorrectable ones. What is not dropped goes when its output lets it; until
then, and while the tile's clock is stopped, it waits (10 R240, R241, R245 to R252, R255, R261). -/
def execPacketRoute (i : Nat) (hdr : Ecc) (corr : Nat) (bad : List Nat) (s : State) : Host.Outcome State Fault Refusal :=
  s.onCtl fun c =>
    let take (t n : Nat) : Ctl := (c.takeNet i).bump (rtrPage t) F.RTR_LINK_CORR_COUNT n
    match c.net[i]? with
    | some ⟨.router t port, .pkt p⟩ =>
      let c' := take t (corr + ofBool (hdr == .corr))
      let p' := { p with run := p.run.poisonWords bad }
      if c.linkStopped t then c
      else if hdr = .uncorr ∨ p.kind = 7 then c'.hdrDrop t
      else match c.pktOut t p with
        | none => c'.routePkt t p'
        | some o =>
          match c.pktTurn i t port o p with
          | some a => { c'.routePkt t p' with arbs := a }
          | none => c
    | some ⟨.router t _, .msg m⟩ =>
      let c' := take t (ofBool (hdr == .corr))
      if c.linkStopped t then c
      else if hdr = .uncorr ∨ m.type = 0 ∨ 0xB < m.type then c'.hdrDrop t
      else match c.msgOut t m with
        | none => c'.routeMsg t m
        | some o =>
          match c.msgTurn t o m with
          | some a => { c'.routeMsg t m with arbs := a }
          | none => c
    | _ => c

/-! ### The rim's gate (10 R253) -/

/-- The rim endpoint a control message names by its type. -/
def msgEndpoint (m : Msg) : Nat := if m.type = 1 then 0x30 else if m.type = 8 then 0x33 else 0x31

/-- Stage `s` owns the endpoint an item names (10 R253). -/
def Ctl.ownsEndpoint (c : Ctl) (s : Nat) (it : Item) : Bool :=
  let p := stagePage s
  match it with
  | .pkt q =>
    let e := q.endpoint
    if e < 12 then (rectStacks (c.rd (p + 0x40))).testBit e
    else if 0x10 ≤ e ∧ e < 0x20 then (c.get p F.STAGE_PORT_MASK_PORTS).testBit (e - 0x10)
    else if e = 0x20 ∨ e = 0x31 then true
    else if e = 0x32 then
      let prog := (q.run.slice 2 1).nat
      decide (c.get p F.STAGE_FETCH_RANGE_FIRST ≤ prog) &&
        decide (prog < c.get p F.STAGE_FETCH_RANGE_FIRST + c.get p F.STAGE_FETCH_RANGE_COUNT)
    else false
  | .msg m =>
    let e := msgEndpoint m
    if e = 0x30 then
      decide (c.get p F.STAGE_RSL_RANGE_FIRST ≤ m.arg % 1024) &&
        decide (m.arg % 1024 < c.get p F.STAGE_RSL_RANGE_FIRST + c.get p F.STAGE_RSL_RANGE_COUNT)
    else true
  | .flit _ _ => false

/-- The rim's queue of stage `s` towards an endpoint takes a packet: 256 KiB for a port; for the others the depth is not stated, and an empty
queue takes any packet (10 R254, 12 R330; log 53). -/
def Ctl.rimRoom (c : Ctl) (s e : Nat) (p : Pkt) : Bool :=
  let used := c.net.foldl (fun n f =>
    match f with
    | ⟨.rim st k, .pkt q⟩ => if st = s ∧ k = e then n + q.run.bytes.length else n
    | _ => n) 0
  used == 0 || decide (used + p.run.bytes.length ≤ if 0x10 ≤ e ∧ e < 0x20 then 2 ^ 18 else Config.rimDepth e)

/-- RIM_PACKET_ACCEPT: the rim accepts what an entry tile hands it only where the tile's stage owns its endpoint; anything else
is dropped and counted in RIM_DROP with code 0x10. A packet waits for its stage's turn on the rim path and for room in the stage's queue (10
R253 to R255). -/
def execRimPacketAccept (i : Nat) (s : State) : Host.Outcome State Fault Refusal :=
  s.onCtl fun c =>
    match c.net[i]? with
    | some ⟨.gate t, it⟩ =>
      let c0 := c
      let c := c.takeNet i
      match c.tileStage t with
      | none => c
      | some st =>
        if c.ownsEndpoint st it then
          match it with
          | .pkt p =>
            let side := if tileY t = 0 then 0 else 1
            match c.rimRoom st p.endpoint p, c0.rimPick side st with
            | true, some d =>
              { c with net := c.net ++ [⟨.rim st p.endpoint, it⟩], arbs := { c.arbs with rim := SMap.set {} c.arbs.rim side d } }
            | _, _ => c0
          | .msg m => { c with net := c.net ++ [⟨.rim st (msgEndpoint m), it⟩] }
          | .flit _ _ => c
        else (c.bump (stagePage st) F.STAGE_RIM_DROP_COUNT).errHw (stagePage st) 0x10
    | _ => c

/-! ### Mixdown (10 R256 to R260) -/

/-- Every cluster of a stage runs at one tile frequency (10 R260). -/
def Ctl.oneFreq (c : Ctl) (s : Nat) : Bool :=
  match c.stageClusters s with
  | [] => true
  | k :: r => r.all fun j => c.get (freqPage j) F.FREQ_CUR_MHZ == c.get (freqPage k) F.FREQ_CUR_MHZ

/-- A router's schedule runs (10 R260). -/
def Blk.mixRuns (b : Blk) (t : Nat) : Bool :=
  match b.ctl.tileStage t with
  | some s => b.ctl.flag (rtrPage t) F.RTR_MIX_CTRL_EN && b.ctl.stState s == 2 && b.ctl.oneFreq s && !(b.tile t).mix.stopped
  | none => false

/-- Larger of two elements for MAX: a NaN wins, −0 is below +0 (10 R258). -/
def mixMax (ty a b : Nat) : Nat :=
  if ty = 2 then (if signedOf 32 a < signedOf 32 b then b else a)
  else
    let k := if ty = 1 then 2 ^ 16 else 1
    if isNan32 (a * k) ∨ isNan32 (b * k) then nan32 / k else if key32 (a * k) < key32 (b * k) then b else a

/-- Sum of two elements, rounded once (10 R258). -/
def mixAdd (ty a b : Nat) : Nat :=
  if ty = 2 then (a + b) % 2 ^ 32
  else if ty = 1 then (narrow fBF16 .rne (numAdd (fDecode fBF16 a) (fDecode fBF16 b))).1
  else f32 (numAdd (of32 a) (of32 b))

/-- Two chunks combined element by element; a poisoned half poisons the half of the result (10 R258). -/
def mixTwo (ty : Nat) (max : Bool) (a b : Chunk) : Chunk :=
  let w := if ty = 1 then 2 else 4
  let el (x : Chunk) (i : Nat) : Nat := leNat ((x.bytes.drop (w * i)).take w)
  { bytes := (List.range (64 / w)).flatMap fun i =>
      leBytes w (if max then mixMax ty (el a i) (el b i) else mixAdd ty (el a i) (el b i))
    badLo := a.badLo || b.badLo, badHi := a.badHi || b.badHi, from_ := a.from_ ++ b.from_ }

/-- MIX_FLIT_ARRIVE: a mixdown flit sent by slot q is held for slot (q + 3) mod PERIOD; one that no enabled slot names is
dropped. `lo` and `hi` are what the checks of its halves find: corrected and counted, or the half poisoned (10 R241, R257). -/
def execMixFlitArrive (i : Nat) (lo hi : Ecc) (s : State) : Host.Outcome State Fault Refusal :=
  s.on fun b =>
    match b.ctl.net[i]? with
    | some ⟨.router t port, .flit q ch⟩ =>
      let p := rtrPage t
      let b := b.onCtl fun c => (c.takeNet i).bump p F.RTR_LINK_CORR_COUNT (ofBool (lo == .corr) + ofBool (hi == .corr))
      let ch := { ch with badLo := ch.badLo || lo == .uncorr, badHi := ch.badHi || hi == .uncorr }
      let slot := (q + 3) % (b.ctl.get p F.RTR_MIX_CTRL_PERIOD_M1 + 1)
      if b.ctl.getN p F.RTR_MIX_SLOT_EN slot = 1 ∧ (b.ctl.getN p F.RTR_MIX_SLOT_IN slot).testBit (4 - port) then
        b.onTile t fun x => { x with mix := { x.mix with held := x.mix.held ++ [(port, slot, ch)] } }
      else b.onCtl fun c => ((c.bump p F.RTR_MIX_DROP_COUNT).errHw p 0x08).raise p 4
    | _ => b

/-- Units a transfer of an eject entry needs (07 R173). -/
def ejectUnits (chunks : Nat) : Nat := creditUnits (64 * chunks)

/-- Take the flits a slot's inputs name: the combined inputs in order, the state without them, and the ports emptied. -/
def takeInputs (m : Mix) (inMask slot : Nat) : List Nat → Option (List Chunk × Mix × List Nat)
  | [] => some ([], m, [])
  | p :: r =>
    if !inMask.testBit (4 - p) then takeInputs m inMask slot r
    else if p = 0 then
      match m.inj with
      | [] => none
      | ch :: rest => (takeInputs { m with inj := rest } inMask slot r).map fun (l, m, ps) => (ch :: l, m, ps)
    else
      match m.held.find? fun h => h.1 == p && h.2.1 == slot with
      | none => none
      | some h => (takeInputs { m with held := m.held.erase h } inMask slot r).map fun (l, m, ps) => (h.2.2 :: l, m, p :: ps)

/-- A flit consumed from input `p`: its credit is on its way back to the router that sent it (10 R257). -/
def Blk.oweCredit (b : Blk) (t p : Nat) : Blk :=
  match neighbour t p with
  | some u => b.onTile u fun x => { x with mix := { x.mix with owed := x.mix.owed.modify (opposite p) (· + 1) } }
  | none => b

/-- An ejected chunk gathered into its entry's transfer, which enters the receive queue when it is whole (10 R259); a held tile
answers it with an error (16 R414). -/
def Blk.eject (b : Blk) (t e : Nat) (ch : Chunk) : Blk :=
  let p := rtrPage t
  let c := b.ctl
  let n := c.getN p F.RTR_MIX_EJECT_CHUNKS_M1 e + 1
  let x := b.tile t
  let got := x.mix.gather.getD e [] ++ [ch]
  if got.length < n then b.setTile t { x with mix := { x.mix with gather := x.mix.gather.set e got } }
  else
    let f : Xfer :=
      { src := t, stream := c.getN p F.RTR_MIX_EJECT_STREAM e
        seq := (c.getN p F.RTR_MIX_EJECT_SEQ_BASE e + x.mix.ejected.getD e 0) % 2 ^ 16
        rsen := c.getN p F.RTR_MIX_EJECT_RSEN e == 1, rslate := c.getN p F.RTR_MIX_EJECT_RSLATE e
        run := { bytes := got.flatMap (·.bytes)
                 bad := got.flatMap fun g => List.replicate 32 g.badLo ++ List.replicate 32 g.badHi }
        eject := true, from_ := got.flatMap (·.from_), arrival := b.tileReel t % 2 ^ 32 }
    let x := { x with mix := { x.mix with gather := x.mix.gather.set e [], ejected := x.mix.ejected.modify e (· + 1) } }
    if x.wrapped then (b.setTile t x).onCtl fun c => { c with mixAcks := c.mixAcks ++ [(true, f.from_)] }
    else b.setTile t { x with recvQ := x.recvQ ++ [f], granted := x.granted + ejectUnits n }

/-- The eject can accept a chunk: its transfer is not whole with it, or the receive queue has the units (10 R259). -/
def Blk.ejectRoom (b : Blk) (t e : Nat) : Bool :=
  let n := b.ctl.getN (rtrPage t) F.RTR_MIX_EJECT_CHUNKS_M1 e + 1
  let x := b.tile t
  decide ((x.mix.gather.getD e []).length + 1 < n) || x.wrapped || decide (x.granted + ejectUnits n ≤ 256)

/-- The stage of a tile has asked for a frequency change that has not yet stopped its clocks (10 R260). -/
def Ctl.changing (c : Ctl) (t : Nat) : Bool :=
  c.clk.changes.any fun x => some x.scope == c.tileStage t && (x.phase == .raising || x.phase == .ready)

/-- The enabled slots of the period a router is in that are still to come. -/
def Blk.slotsLeft (b : Blk) (t : Nat) : List Nat :=
  (List.range (b.ctl.get (rtrPage t) F.RTR_MIX_CTRL_PERIOD_M1 + 1)).filter fun p =>
    decide ((b.tile t).mix.next ≤ p) && b.ctl.getN (rtrPage t) F.RTR_MIX_SLOT_EN p == 1

/-- The slot that comes next in a router's schedule: the slots of a period in turn, and then those of the next, which does not begin
once a frequency change is asked for (10 R257, R260). -/
def Blk.slotDue (b : Blk) (t : Nat) : Option Nat :=
  let left := b.slotsLeft t
  if b.ctl.changing t then (if (b.tile t).mix.next = 0 then none else left.head?)
  else (left ++ (List.range (b.tile t).mix.next).filter fun p => b.ctl.getN (rtrPage t) F.RTR_MIX_SLOT_EN p == 1).head?

/-- A router has come past slot `p`. -/
def Blk.pastSlot (b : Blk) (t p : Nat) : Blk :=
  b.onTile t fun x => { x with mix := { x.mix with next := (p + 1) % (b.ctl.get (rtrPage t) F.RTR_MIX_CTRL_PERIOD_M1 + 1) } }

/-- MIX_SLOT_FIRE: slot `p` of a router's schedule comes round: it fires if its inputs and its output are ready, combining and
sending or ejecting; else it is deferred and counted (10 R257 to R259). A slot whose turn it is not does nothing. -/
def execMixSlotFire (t : TileId) (p : Fin 256) (s : State) : Host.Outcome State Fault Refusal :=
  s.on fun b =>
    let pg := rtrPage t
    let g (f : Fld) : Nat := b.ctl.getN pg f p
    if !b.mixRuns t || b.slotDue t != some p.val then b
    else
      let b := b.pastSlot t p
      let x := b.tile t
      let out := g F.RTR_MIX_SLOT_OUT
      let room := if out = 5 then b.ejectRoom t (g F.RTR_MIX_SLOT_EJ) else decide (x.mix.spent.getD out 0 < 8)
      let mask := g F.RTR_MIX_SLOT_IN
      let held := x.wrapped && mask.testBit 4
      match room && !held, takeInputs x.mix mask p [0, 1, 2, 3, 4] with
      | true, some (ch :: rest, m, ports) =>
        let r := rest.foldl (mixTwo (g F.RTR_MIX_SLOT_TYPE) (g F.RTR_MIX_SLOT_OP == 1)) ch
        let b := (ports.foldl (fun b q => b.oweCredit t q) (b.setTile t { x with mix := m })).onCtl fun c => c.perf t 0x0B 1
        if out = 5 then b.eject t (g F.RTR_MIX_SLOT_EJ) r
        else
          let b := b.onTile t fun x => { x with mix := { x.mix with spent := x.mix.spent.modify out (· + 1) } }
          b.onCtl fun c => c.leave t out (.flit p r)
      | _, _ => b.onCtl fun c => c.bump pg F.RTR_MIX_WAIT_COUNT

/-- MIX_CREDIT_RETURN: a slot credit comes back to output `out` (1 N, 2 S, 3 E, 4 W) of a router (10 R257). -/
def execMixCreditReturn (t : TileId) (out : Fin 5) (s : State) : Host.Outcome State Fault Refusal :=
  s.on fun b =>
    b.onTile t fun x =>
      if x.mix.owed.getD out 0 = 0 then x
      else { x with mix := { x.mix with owed := x.mix.owed.modify out (· - 1), spent := x.mix.spent.modify out (· - 1) } }

/-- One chunk of a mixdown step acknowledged; with its last the mover's step completes; an error halts the mover (07 R174, 10
R259). -/
def Blk.mixAckOne (b : Blk) (err : Bool) (f : Nat × Nat × Nat) : Blk :=
  let x := b.tile f.1
  match b.live f.1, x.tracked.find? fun r => r.ser == f.2.1 && r.step == f.2.2 && r.chunks != 0 with
  | true, some r =>
    if err then
      let b := b.setTile f.1 { x with tracked := x.tracked.erase r }
      let b := b.onCtl fun c => (c.bump (seqPage f.1) F.SEQ_XFER_ERR).raise (seqPage f.1) 5
      b.seqHalt f.1 6 0x0A
    else if r.chunks = 1 then (b.setTile f.1 { x with tracked := x.tracked.erase r }).stepDone f.1 6 r.ser
    else b.setTile f.1 { x with tracked := x.tracked.map fun q => if q = r then { r with chunks := r.chunks - 1 } else q }
  | _, _ => b

/-- MIX_ACK: the oldest eject acknowledgement returns along its chain (10 R259). -/
def execMixAck (s : State) : Host.Outcome State Fault Refusal :=
  s.on fun b =>
    match b.ctl.mixAcks with
    | [] => b
    | (err, l) :: rest => l.foldl (fun b f => b.mixAckOne err f) (b.onCtl fun c => { c with mixAcks := rest })

/-- MIX_SCHEDULE_STOP: a router of a stage that changes frequency finishes its period and stops at slot 0 (10 R260). -/
def execMixScheduleStop (t : TileId) (s : State) : Host.Outcome State Fault Refusal :=
  s.on fun b =>
    if b.ctl.changing t && ((b.tile t).mix.next == 0 || (b.slotsLeft t).isEmpty) then
      b.onTile t fun x => { x with mix := { x.mix with stopped := true, next := 0 } }
    else b

/-! ### The TC0 limit (10 R262) -/

/-- TC0_LIMIT_RELEASE: `expired` of a tile's messages were sent 128 tile cycles ago; a held message leaves when the limit
allows it, and the core that sent it goes on (10 R262). -/
def execTc0LimitRelease (t : TileId) (expired : Nat) (s : State) : Host.Outcome State Fault Refusal :=
  s.on fun b =>
    let x := b.tile t
    let x := { x with tc0Sent := x.tc0Sent - expired }
    match x.tc0Held with
    | (m, k) :: rest =>
      if x.tc0Sent < 4 then
        let x := { x with tc0Held := rest, tc0Sent := x.tc0Sent + 1 }
        let x := if k < 2 ∧ (x.core k).stall = .tc0 then x.setCore k (x.core k).advance else x
        (b.setTile t x).onCtl fun c => (c.perf t 0x0C 1).atRouter t 0 (.msg m)
      else b.setTile t x
    | [] => b.setTile t x

end Sys2Proof.Machine
end

