-- ==== Sys2Proof/Machine/Crc.lean ====
section
/-!
DEFINITION. Cyclic redundancy checks as the check-value engines compute them (17 R462), and the two the block uses itself: CRC-32C
(16 R417, R429, 14 R367) and the digest's CRC-64 (17 R466).
-/
namespace Sys2Proof.Machine

/-- The low `n` bits of a number, reversed. -/
def reflect : Nat → Nat → Nat
  | 0, _ => 0
  | n + 1, v => v % 2 * 2 ^ n + reflect n (v / 2)

/-- The parameters of a CRC (17 R462). -/
structure Crc where
  width : Nat
  poly : Nat
  init : Nat
  xorout : Nat
  refin : Bool
  refout : Bool
  deriving DecidableEq, Repr

/-- One shift of the register. -/
def Crc.shift (k : Crc) (reg : Nat) : Nat :=
  if reg.testBit (k.width - 1) then (reg * 2 ^^^ k.poly) % 2 ^ k.width else reg * 2 % 2 ^ k.width

/-- One byte of the stream. -/
def Crc.byte (k : Crc) (reg : Nat) (b : Byte) : Nat :=
  let v := if k.refin then reflect 8 b.toNat else b.toNat
  (List.range 8).foldl (fun r _ => k.shift r) (reg ^^^ v * 2 ^ (k.width - 8))

/-- The register after a run of bytes. -/
def Crc.bytes (k : Crc) (reg : Nat) (l : List Byte) : Nat := l.foldl k.byte reg

/-- The result for a register. -/
def Crc.result (k : Crc) (reg : Nat) : Nat := (if k.refout then reflect k.width reg else reg) ^^^ k.xorout

/-- The CRC of a run of bytes. -/
def Crc.of (k : Crc) (l : List Byte) : Nat := k.result (k.bytes k.init l)

/-- CRC-32C (PRESUMED: the manual names it and gives no parameters; these are the ones that name stands for). -/
def crc32c : Crc := ⟨32, 0x1EDC6F41, 0xFFFFFFFF, 0xFFFFFFFF, true, true⟩

/-- The digest's CRC-64 (17 R466). -/
def crc64 : Crc := ⟨64, 0x42F0E1EBA9EA3693, 2 ^ 64 - 1, 2 ^ 64 - 1, true, true⟩

/-- Words as bytes, each little-endian. -/
def wordBytes (l : List Word) : List Byte := l.flatMap fun w => leBytes 4 w.toNat

end Sys2Proof.Machine
end

