-- ==== Sys2Proof/Machine/Keep.lean ====
section
/-!
DEFINITION. The keep array and the option block (16 R417 to R420, 18 R501).
-/
namespace Sys2Proof.Machine

/-- Words 0 to 14 of an option block of defaults (16 R417). -/
def optDefaults : List Word := [0x6F700100, 0x4, 0x306, 0xFFFF] ++ List.replicate 11 0

/-- CHECK of an option block (16 R417). -/
def optCheck (l : List Word) : Word := BitVec.ofNat 32 (crc32c.of (wordBytes (l.take 15)))

/-- Keep word `i` as shipped: an option block of defaults, SAFE_CAP at 2,200 W, the rest 0 (18 R501; the continuity list's factory
value is not stated). -/
def keepShipped (i : Nat) : Word :=
  if i < 15 then optDefaults.getD i 0
  else if i = 15 then optCheck optDefaults
  else if i = 76 then 2200
  else 0

/-- The value MRAM holds of keep word `i`. -/
def Keep.stored (k : Keep) (i : Nat) : Word := (SMap.find? k.mram i).getD (keepShipped i)

/-- The value last accepted for keep word `i`, which a read returns (16 R419). -/
def Keep.read (k : Keep) (i : Nat) : Word :=
  match k.queue.reverse.find? fun e => e.1 == i with
  | some e => e.2
  | none => k.stored i

/-- The wear count of keep word `i`. -/
def Keep.worn (k : Keep) (i : Nat) : Nat := SMap.get 0 k.wear i

/-- Keep word `i`, of the block. -/
def Ctl.keepWord (c : Ctl) (i : Nat) : Word := c.keep.read i

/-- Words that Miryn alone writes (16 R418). -/
def mirynWord (i : Nat) : Bool := i == 5 || (decide (77 ≤ i) && decide (i ≤ 127))

/-- A write of keep word `i` accepted, dropped or refused (16 R418, R419): the block and whether it was accepted. Miryn's own writes
wait for room in the queue. -/
def Ctl.keepWrite (c : Ctl) (miryn : Bool) (fn addr i : Nat) (w : Word) : Ctl × Bool :=
  if !miryn && mirynWord i then (c.err keepPage 0x01 fn addr, false)
  else if c.keepWord i = w then (c, true)
  else if !miryn && decide (8 ≤ c.keep.queue.length) then (c.err keepPage 0x03 fn addr, false)
  else if 110000 ≤ c.keep.worn i + (c.keep.queue.filter fun e => e.1 == i).length then
    (((c.bump keepPage F.KEEP_REFUSED_COUNT).err keepPage 0x02 fn addr).raise keepPage 1, false)
  else ({ c with keep := { c.keep with queue := c.keep.queue ++ [(i, w)] } }, true)

/-- Miryn's write of keep word `i`. -/
def Ctl.keepMiryn (c : Ctl) (i : Nat) (w : Word) : Ctl := (c.keepWrite true 0 0 i w).1

/-- KEEP_PERSIST: the oldest queued write reaches MRAM and adds to the word's wear; the first past 100,000 sets WORN (16 R419). -/
def execKeepPersist (s : State) : Host.Outcome State Fault Refusal :=
  s.onCtl fun c =>
    match c.keep.queue with
    | [] => c
    | (i, w) :: rest =>
      let n := c.keep.worn i + 1
      let mram := if w = keepShipped i then SMap.erase c.keep.mram i else SMap.put c.keep.mram i w
      let c := { c with keep := { mram := mram, queue := rest, wear := SMap.set 0 c.keep.wear i n } }
      let c := c.dailyAdd 82 1
      if n = 100001 then c.raise keepPage 2 else c

/-- Bit `t` of the continuity list (16 R418). -/
def Ctl.continuity (c : Ctl) (t : Nat) : Bool := bit (c.keepWord (16 + t / 32)) (t % 32)

/-- The bits of some tiles set in the continuity list by Miryn (16 R425). -/
def Ctl.setContinuity (c : Ctl) (ts : List Nat) : Ctl :=
  ts.foldl (fun c t => c.keepMiryn (16 + t / 32) (c.keepWord (16 + t / 32) ||| BitVec.ofNat 32 (2 ^ (t % 32)))) c

/-- Word `n` of the option block in use (16 R417). -/
def Ctl.option (c : Ctl) (n : Nat) : Word := c.rd (optPage + 0x40 + 4 * n)

/-- The option loader (16 R417, R420): words that failed both checks read 0 and are reported; the block in use is the keep words
where they are valid, else the defaults. -/
def Ctl.loadOptions (c : Ctl) (failed : List Nat) : Ctl :=
  let c := failed.foldl (fun c i =>
    let mram := if keepShipped i = 0 then SMap.erase c.keep.mram i else SMap.put c.keep.mram i 0
    ({ c with keep := { c.keep with mram := mram } }.put keepPage F.KEEP_STATUS_CHECK_FAIL 1).errHw keepPage 0x04) c
  let ws := (List.range 16).map c.keepWord
  let ok := bits (ws.getD 0 0) 31 16 == 0x6F70 && ws.getD 15 0 == optCheck ws
  let use := if ok then ws else optDefaults ++ [optCheck optDefaults]
  let c := use.zipIdx.foldl (fun c (w, i) => c.wr (optPage + 0x40 + 4 * i) w) c
  if ok then c else (c.put rstPage F.RST_STATUS_OPT_DEFAULT 1).logEvent optPage (Config.eventCode 1) 0

end Sys2Proof.Machine
end

