-- ==== Sys2Proof/Machine/Cues.lean ====
section
/-!
DEFINITION. The cue list (14 R366 to R371).
-/
namespace Sys2Proof.Machine

/-- Reel time in whole microseconds. -/
def Ctl.reelUs (c : Ctl) : Nat := c.reel / 1000

/-- The effective time of an entry: TIME and its dither offset (14 R367). -/
def Ctl.cueEff (c : Ctl) (e : Cue) : Nat :=
  e.time + c.get pwrPage F.PWR_DITHER_HASH_HASH * e.dither * 1000 / 2 ^ 32

/-- CUE.PUSH: the staged entry is checked in order, then queued, or replaces the last, or is rejected (14 R366). -/
def Ctl.cuePush (c : Ctl) (fn addr : Nat) : Ctl :=
  let p := cuePage
  let e : Cue := { time := c.get64 p F.CUE_TIME_LO_US, mode := c.get p F.CUE_TARGET_MODE, watts := c.get p F.CUE_TARGET_WATTS
                   ramp := c.get p F.CUE_TARGET_RAMP, dither := c.get p F.CUE_DITHER_MS, pushed := c.reelUs }
  let reject (code : Nat) : Ctl := ((c.bump p F.CUE_REJECTED_COUNT).err p code fn addr).raise p 2
  let q := c.cues.queue
  let accept (q : List Cue) : Ctl := { c with cues := { c.cues with queue := q } }.bump p F.CUE_PUSHED_COUNT
  if 1 < e.mode then reject 0x01
  else if e.watts < 900 ∨ 4400 < e.watts then reject 0x02
  else if 2000 < e.ramp then reject 0x03
  else if 60000 < e.dither then reject 0x04
  else match q.getLast? with
    | some l =>
      if e.time < l.time then reject 0x06
      else if e.time = l.time then (accept (q.dropLast ++ [e])).bump p F.CUE_COALESCED_COUNT
      else if 256 ≤ q.length then reject 0x05
      else accept (q ++ [e])
    | none => accept [e]

/-- CUE.FLUSH (14 R366). -/
def Ctl.cueFlush (c : Ctl) : Ctl := { c with cues := { c.cues with queue := [] } }

/-- The unit of power: a watt is this many (14 R357: fine enough for GAIN, OFFSET and readings to be exact). -/
def wUnit : Nat := 1024000000

/-- The 1 ms average of device power in microwatts, held to 900 to 4,400 W (14 R368). -/
def Ctl.devClamped (c : Ctl) : Nat := max 900000000 (min 4400000000 (SMap.get 0 c.pwr.avgs 0 / 1024))

/-- The head entry becomes the active cue (14 R367, R368). It is late where its effective time had passed when it could first have
applied: at its push, at the application before it, or at Miryn's return. -/
def Ctl.cueTake (c : Ctl) : Ctl :=
  match c.cues.queue with
  | [] => c
  | e :: rest =>
    let p := cuePage
    let now := c.reelUs
    let late := decide (c.cueEff e < max e.pushed (max c.cues.last c.cues.back))
    let v := if c.cues.mode = 0 ∧ e.mode = 1 then c.devClamped else c.cues.value
    let v := if e.ramp = 0 then e.watts * 1000000 else v
    let c := { c with cues := { c.cues with queue := rest, mode := e.mode, watts := e.watts, ramp := e.ramp, value := v, last := now } }
    let c := (c.bump p F.CUE_APPLIED_COUNT).raise p 1
    if late then (c.bump p F.CUE_LATE_COUNT).raise p 3 else c

/-- Entries whose effective time has passed applied in order; `fuel` bounds them. -/
def Ctl.cueDrain (c : Ctl) : Nat → Ctl
  | 0 => c
  | n + 1 =>
    match c.cues.queue with
    | e :: _ => if c.cueEff e < c.reelUs then Ctl.cueDrain c.cueTake n else c
    | [] => c

/-- The active value moves toward its target for 10 microseconds (14 R368). -/
def Cues.advance (u : Cues) : Cues :=
  let goal := u.watts * 1000000
  { u with value := if u.value < goal then min goal (u.value + u.ramp * 10) else max goal (u.value - u.ramp * 10) }

/-- CUE_APPLY: at its effective time the head entry becomes the active cue, while Miryn runs (14 R367, R368, R370). -/
def execCueApply (s : State) : Host.Outcome State Fault Refusal :=
  s.onCtl fun c =>
    match c.cues.queue with
    | e :: _ => if c.mirynUp && decide (c.cueEff e ≤ c.reelUs) then c.cueTake else c
    | [] => c

end Sys2Proof.Machine
end

