-- ==== Sys2Proof/Machine/Codec.lean ====
section
/-!
DEFINITION. The payload encodings of the fabric (08 R212 to R216).
-/
namespace Sys2Proof.Machine

/-- A payload as little-endian numbers of `w` bytes. -/
def toWords (w : Nat) (l : List Byte) : List Nat := (List.range (l.length / w)).map fun i => leNat ((l.drop (w * i)).take w)

/-! ### Zero-run (08 R214) -/

/-- The longest run, of at most 128, at the head of the words that are zero (or not). -/
def runLen (zero : Bool) : Nat → List Nat → Nat
  | 0, _ => 0
  | _, [] => 0
  | n + 1, x :: r => if (x == 0) == zero then runLen zero n r + 1 else 0

/-- Zero-run encoding of 32-bit words; `fuel` bounds the tokens. -/
def zeroEnc : Nat → List Nat → List Byte
  | 0, _ => []
  | _, [] => []
  | k + 1, x :: r =>
    let z := x == 0
    let n := runLen z 128 (x :: r)
    BitVec.ofNat 8 (ofBool z * 128 + (n - 1)) ::
      ((if z then [] else ((x :: r).take n).flatMap (leBytes 4)) ++ zeroEnc k ((x :: r).drop n))

/-- Zero-run decoding; none where the payload ends inside a token (08 R216). -/
def zeroDec : Nat → List Byte → Option (List Byte)
  | _, [] => some []
  | 0, _ => none
  | k + 1, c :: r =>
    let n := c.toNat % 128 + 1
    if c.toNat < 128 then
      if r.length < 4 * n then none else (zeroDec k (r.drop (4 * n))).map fun l => r.take (4 * n) ++ l
    else (zeroDec k r).map fun l => List.replicate (4 * n) 0 ++ l

/-! ### Delta-varint (08 R215) -/

/-- A number in groups of 7 bits, lowest first. -/
def varint : Nat → Nat → List Byte
  | 0, _ => []
  | k + 1, z => if z < 128 then [BitVec.ofNat 8 z] else BitVec.ofNat 8 (z % 128 + 128) :: varint k (z / 128)

/-- The zigzag value of a difference of `w` bits. -/
def zigzag (w d : Nat) : Nat :=
  let i := signedOf w d
  if i < 0 then (-2 * i - 1).toNat else (2 * i).toNat

/-- The difference a zigzag value stands for. -/
def unzig (w z : Nat) : Nat := if z % 2 = 0 then z / 2 else codeOf w (-(z / 2 : Nat) - 1)

/-- Delta-varint encoding of `w`-bit IDs after `prev`. -/
def deltaEnc (w : Nat) : Nat → List Nat → List Byte
  | _, [] => []
  | prev, x :: r => varint 10 (zigzag w ((x + 2 ^ w - prev) % 2 ^ w)) ++ deltaEnc w x r

/-- One varint of at most `lim` bytes: its value and the rest. -/
def takeVarint : Nat → List Byte → Option (Nat × List Byte)
  | 0, _ => none
  | _, [] => none
  | k + 1, c :: r =>
    if c.toNat < 128 then some (c.toNat, r)
    else (takeVarint k r).map fun (v, q) => (c.toNat - 128 + 128 * v, q)

/-- Delta-varint decoding after `prev` to little-endian IDs; none where a varint is too long or cut off (08 R216). -/
def deltaDec (w : Nat) : Nat → Nat → List Byte → Option (List Byte)
  | _, _, [] => some []
  | 0, _, _ => none
  | k + 1, prev, l =>
    match takeVarint (if w = 32 then 5 else 10) l with
    | none => none
    | some (z, r) =>
      let x := (prev + unzig w (z % 2 ^ w)) % 2 ^ w
      (deltaDec w k x r).map fun q => leBytes (w / 8) x ++ q

/-- A payload encoded under a code (08 R213): the code used and the bytes; raw where the encoding does not apply or does not
shorten it. -/
def encodePayload (enc : Nat) (bad : Bool) (l : List Byte) : Nat × List Byte :=
  let unit := if enc = 3 then 8 else 4
  if enc = 0 ∨ 3 < enc ∨ bad ∨ l.length % unit ≠ 0 then (0, l)
  else
    let e := if enc = 1 then zeroEnc (l.length + 1) (toWords 4 l) else deltaEnc (8 * unit) 0 (toWords unit l)
    if e.length < l.length then (enc, e) else (0, l)

/-- A payload decoded; none where the receiver discards the frame as corrupted (08 R216). -/
def decodePayload (enc : Nat) (l : List Byte) : Option (List Byte) :=
  match enc with
  | 0 => some l
  | 1 => zeroDec (l.length + 1) l
  | 2 => deltaDec 32 (l.length + 1) 0 l
  | 3 => deltaDec 64 (l.length + 1) 0 l
  | _ => none

end Sys2Proof.Machine
end

