-- ==== Sys2Proof/Machine/Hbm.lean ====
section
/-!
DEFINITION. The HBM stacks: the stage address space, reads, writes and adds, ECC and poison, scrub and zero-fill (11).
-/
namespace Sys2Proof.Machine

/-! ### The stage address space (11 R270 to R273) -/

/-- Bytes of a stack (11 R269). -/
def stackBytes : Nat := 48000000000

/-- Bytes of a stage's address space (11 R270). -/
def Ctl.stageBytes (c : Ctl) (s : Nat) : Nat := (c.stageStacks s).length * stackBytes

/-- The stack and stack-local address of stage address `a` (11 R270). -/
def Ctl.stageAddr (c : Ctl) (s a : Nat) : Option (Nat × Nat) :=
  let o := c.stageStacks s
  let n := o.length
  if n * stackBytes ≤ a then none else some (o.getD (a / 4096 % n) 0, a / 4096 / n * 4096 + a % 4096)

/-- The stage and stage address of stack-local address `l` of stack `h`, if a valid stage owns it. -/
def Ctl.stageOfStack (c : Ctl) (h l : Nat) : Option (Nat × Nat) :=
  (c.stackStage h).bind fun s =>
    let o := c.stageStacks s
    (o.findIdx? (· == h)).map fun k => (s, (l / 4096 * o.length + k) * 4096 + l % 4096)

/-- The contents of stack `h`. -/
def Blk.stack (b : Blk) (h : Nat) : Mem := SMap.get {} b.hbm h

/-- The contents of stack `h` replaced. -/
def Blk.setStack (b : Blk) (h : Nat) (m : Mem) : Blk := { b with hbm := SMap.set {} b.hbm h m }

/-- A stack serves requests: HBM.STATUS.READY (11 R273, R288). -/
def Ctl.stackReady (c : Ctl) (h : Nat) : Bool := c.flag (hbmPage h) F.HBM_STATUS_READY

/-! ### Mirror dirty bits (12 R325, R326) -/

/-- The 64-bit value of two words of a record. -/
def rec64 (ws : List Word) (i : Nat) : Nat := (ws.getD i 0).toNat + (ws.getD (i + 1) 0).toNat * 2 ^ 32

/-- Mirror region `n` of a stage: its record words. -/
def Ctl.region (c : Ctl) (s n : Nat) : List Word := SMap.get [] c.uam.regions (64 * s + n)

/-- A granule of the stage lies in an enabled mirror region. -/
def Ctl.mirrored (c : Ctl) (s g : Nat) : Bool :=
  (List.range 64).any fun n =>
    let r := c.region s n
    bit (r.getD 0 0) 31 && decide (rec64 r 1 ≤ g * 4096) && decide (g * 4096 < rec64 r 1 + rec64 r 3)

/-- Stage address of the dirty map. -/
def Ctl.mirrorMap (c : Ctl) (s : Nat) : Nat := c.get64 (stagePage s) F.STAGE_MIRROR_MAP_LO_ADDR_LO

/-- The byte of the dirty map that holds granule `g`'s bit, as stack and local address. -/
def Ctl.dirtyAt (c : Ctl) (s g : Nat) : Option (Nat × Nat) := c.stageAddr s (c.mirrorMap s + g / 8)

/-- Granule `g` of a stage is marked dirty or clean in the map. -/
def Blk.setDirty (b : Blk) (s g : Nat) (d : Bool) : Blk :=
  match b.ctl.dirtyAt s g with
  | some (h, l) =>
    let m := b.stack h
    let v := (m.byte l).toNat
    let v := if d then v ||| 2 ^ (g % 8) else v &&& (255 - 2 ^ (g % 8))
    b.setStack h (m.setByte l (BitVec.ofNat 8 v))
  | none => b

/-- Granule `g` of a stage is dirty. -/
def Blk.isDirty (b : Blk) (s g : Nat) : Bool :=
  match b.ctl.dirtyAt s g with
  | some (h, l) => ((b.stack h).byte l).toNat.testBit (g % 8)
  | none => false

/-- A write to stack-local address `l` of stack `h` sets the dirty bit of its granule where it lies in an enabled mirror region (12 R326). -/
def Blk.markDirty (b : Blk) (h l : Nat) : Blk :=
  match b.ctl.stageOfStack h l with
  | some (s, a) =>
    if b.ctl.mirrored s (a / 4096) then b.setDirty s (a / 4096) true else b
  | none => b

/-! ### The controller's own work (11 R279 to R281) -/

/-- What the check of burst `k` finds: corrections and uncorrectable errors counted, with the write-back of an uncorrectable burst
(11 R279, R280). -/
def Blk.hbmEcc (b : Blk) (h k : Nat) (e : Ecc) : Blk :=
  let p := hbmPage h
  let burst := k * 64
  match e with
  | .ok => b
  | .onDie => b.onCtl fun c => c.bump p F.HBM_STACK_CORR_COUNT
  | .corr => b.onCtl fun c => (c.bump p F.HBM_CORR_COUNT).raise p 1
  | .uncorr =>
    let b := b.onCtl fun c =>
      let c := ((c.bump p F.HBM_UNCORR_COUNT).errHw p 0x02).bump p F.HBM_POISON_BURSTS_COUNT
      let c := if c.flag p F.HBM_UNCORR_ADDR_HI_VALID then c
        else ((c.put p F.HBM_UNCORR_ADDR_LO_ADDR_LO burst).put p F.HBM_UNCORR_ADDR_HI_ADDR_HI (burst / 2 ^ 32)).put p
          F.HBM_UNCORR_ADDR_HI_VALID 1
      c.raise p 2
    b.setStack h (((b.stack h).setBad (burst / 32) true).setBad (burst / 32 + 1) true)

/-- The 64-byte bursts that `n` bytes from `l` touch. -/
def burstsOf (l n : Nat) : List Nat := if n = 0 then [] else (List.range ((l + n - 1) / 64 - l / 64 + 1)).map (l / 64 + ·)

/-- The bursts that a write of `n` bytes from `l` covers only in part: its read-modify-writes (11 R281). -/
def partBursts (l n : Nat) : List Nat := (burstsOf l n).filter fun k => decide (k * 64 < l ∨ l + n < k * 64 + 64)

/-- The checks of bursts read, in order; `e` gives their outcomes. -/
def Blk.hbmChecks (b : Blk) (h : Nat) (ks : List Nat) (e : List Ecc) : Blk :=
  (ks.zip e).foldl (fun b x => b.hbmEcc h x.1 x.2) b

/-- `n` bytes read from stack-local address `l`; `e` is what the checks find, burst by burst (11 R280). -/
def Blk.stackRead (b : Blk) (h l n : Nat) (e : List Ecc) : Run × Blk :=
  let b := b.hbmChecks h (burstsOf l n) e
  ((b.stack h).read l n, b)

/-- A run written to stack-local address `l`: poison marks, bursts written with a mark counted, dirty bits (11 R281, 12 R326). `e` is what
the checks of the bursts it covers in part find: one found uncorrectable leaves every half the write does not wholly cover poisoned, and its
write-back and the merged write are two writes (DEDUCED, log 52). -/
def Blk.stackWrite (b : Blk) (h l : Nat) (r : Run) (e : List Ecc) : Blk :=
  let b := b.hbmChecks h (partBursts l r.bytes.length) e
  let m := (b.stack h).store l r
  let bad := (burstsOf l r.bytes.length).filter fun k => m.isBad (2 * k) || m.isBad (2 * k + 1)
  let b := (b.setStack h m).onCtl fun c => c.bump (hbmPage h) F.HBM_POISON_BURSTS_COUNT bad.length
  if r.bytes.isEmpty then b else b.markDirty h l

/-- The granule-sized pieces (offset, bytes) of `n` bytes from stage address `a`; `fuel` bounds them. -/
def granules (a : Nat) : Nat → Nat → Nat → List (Nat × Nat)
  | 0, _, _ => []
  | k + 1, off, n =>
    if n ≤ off then []
    else
      let len := min (n - off) (4096 - (a + off) % 4096)
      (off, len) :: granules a k (off + len) n

/-- A request of a unit of the rim refused by a controller that is not ready: counted, answered with an error response (11 R273). -/
def Ctl.notReady (c : Ctl) (h : Nat) : Ctl := (c.bump (hbmPage h) F.HBM_ADDR_ERR_COUNT).errHw (hbmPage h) 0x06

/-- What a unit of the rim takes from an error response for `n` bytes at stage address `a`: poisoned bytes of no stated value (11 R273,
log 52). -/
def noData (a n : Nat) : Run := runOf ((List.range n).map fun i => Config.noData (a + i)) true

/-- `n` bytes read from stage address `a` by a unit of the rim, granule by granule; `e` is what the checks find, burst by burst (11 R270,
R273, R280). -/
def Blk.stgRead (b : Blk) (s a n : Nat) (e : List Ecc) : Run × Blk :=
  let (r, _, b) := (granules a (n / 4096 + 2) 0 n).foldl (fun ((r, e, b) : Run × List Ecc × Blk) (off, len) =>
    match b.ctl.stageAddr s (a + off) with
    | some (h, l) =>
      if b.ctl.stackReady h then
        let (q, b) := b.stackRead h l len e
        (r.append q, e.drop (burstsOf l len).length, b)
      else (r.append (noData (a + off) len), e.drop (burstsOf l len).length, b.onCtl fun c => c.notReady h)
    | none => (r.append (noData (a + off) len), e, b)) (({} : Run), e, b)
  (r, b)

/-- A run written to stage address `a` by a unit of the rim, granule by granule; `e` is what the checks of the bursts it covers in part find
(11 R270, R273, R281). -/
def Blk.stgWrite (b : Blk) (s a : Nat) (r : Run) (e : List Ecc := []) : Blk :=
  ((granules a (r.bytes.length / 4096 + 2) 0 r.bytes.length).foldl (fun ((e, b) : List Ecc × Blk) (off, len) =>
    match b.ctl.stageAddr s (a + off) with
    | some (h, l) =>
      (e.drop (partBursts l len).length,
        if b.ctl.stackReady h then b.stackWrite h l (r.slice off len) e else b.onCtl fun c => c.notReady h)
    | none => (e, b)) (e, b)).2

/-! ### Near-memory add (11 R283, 09 R233, R235) -/

/-- The bytes of a stored 32-byte word after the gradient word is added; a BF16 sum is rounded once (DEDUCED from 'rounded once',
09 R233). -/
def addWord (bf16 : Bool) (old grad : List Byte) : List Byte :=
  let w := if bf16 then 2 else 4
  (List.range (32 / w)).flatMap fun i =>
    let a := leNat ((old.drop (w * i)).take w)
    let g := leNat ((grad.drop (w * i)).take w)
    leBytes w (if bf16 then (narrow fBF16 .rne (numAdd (fDecode fBF16 a) (fDecode fBF16 g))).1
      else f32 (numAdd (of32 a) (of32 g)))

/-- Gradient words added into the stack from local address `l`, one 32-byte word at a time; a poisoned gradient word poisons its
target, and a poisoned target stays poisoned (11 R283). Every burst touched is read; `e` is what the checks find. -/
def Blk.stackAdd (b : Blk) (h l : Nat) (bf16 : Bool) (r : Run) (e : List Ecc) : Blk :=
  let b := b.hbmChecks h (burstsOf l r.bytes.length) e
  let m := (List.range (r.bytes.length / 32)).foldl (fun m i =>
    let g := r.slice (32 * i) 32
    if g.anyBad then m.setBad (l / 32 + i) true
    else
      let was := m.isBad (l / 32 + i)
      let new := addWord bf16 (m.read (l + 32 * i) 32).bytes g.bytes
      (m.store (l + 32 * i) (runOf new false)).setBad (l / 32 + i) was) (b.stack h)
  let bad := (burstsOf l r.bytes.length).filter fun k => m.isBad (2 * k) || m.isBad (2 * k + 1)
  let b := (b.setStack h m).onCtl fun c => c.bump (hbmPage h) F.HBM_POISON_BURSTS_COUNT bad.length
  b.markDirty h l

/-! ### Requests (11 R273) -/

/-- A request at a controller, if item `i` is one of the given kind: stage, stack, packet. -/
def Ctl.hbmItem (c : Ctl) (i kind : Nat) : Option (Nat × Nat × Pkt) :=
  match c.atRim i with
  | some (s, h, .pkt p) => if h < 12 ∧ p.kind = kind then some (s, h, p) else none
  | _ => none

/-- A reply to a request: its tag, its data, or an error response (11 R273). -/
def Ctl.hbmReply (c : Ctl) (h : Nat) (p : Pkt) (err : Bool) (r : Run) : Ctl :=
  c.fromRim p.src h { kind := 3, cls := p.cls, rsp := true, void := err, err := err, src := 2047, tag := p.tag, addr := p.addr
                      bytes := r.bytes.length, run := r }

/-- A request refused: counted in ADDR_ERR with its code, answered with an error response. -/
def Ctl.hbmRefuse (c : Ctl) (h code : Nat) (p : Pkt) : Ctl :=
  ((c.bump (hbmPage h) F.HBM_ADDR_ERR_COUNT).errHw (hbmPage h) code).hbmReply h p true {}

/-- Why a controller refuses a request of `n` bytes at stage address `a`, else the stack-local address (11 R273). -/
def Ctl.hbmCheck (c : Ctl) (s h a n : Nat) : Nat ⊕ Nat :=
  if !c.stackReady h then .inl 0x06
  else match c.stageAddr s a with
    | some (k, l) => if k = h ∧ a % 4096 + n ≤ 4096 then .inr l else .inl 0x03
    | none => .inl 0x03

/-- HBM_READ_REQUEST: a controller serves a read: `e` is what its checks find, burst by burst; `stack` counts corrections the
stack reports besides (11 R273, R279, R280). -/
def execHbmReadRequest (i : Nat) (e : List Ecc) (stack : Nat) (s : State) : Host.Outcome State Fault Refusal :=
  s.on fun b =>
    match b.ctl.hbmItem i 4 with
    | some (st, h, p) =>
      let b := b.onCtl fun c => (c.takeNet i).bump (hbmPage h) F.HBM_STACK_CORR_COUNT stack
      match b.ctl.hbmCheck st h p.addr p.bytes with
      | .inl code => b.onCtl fun c => c.hbmRefuse h code p
      | .inr l =>
        let (r, b) := b.stackRead h l p.bytes e
        b.onCtl fun c => c.hbmReply h p false r
    | none => b

/-- HBM_WRITE_REQUEST: a controller accepts and acknowledges a write (11 R273, R281). -/
def execHbmWriteRequest (i : Nat) (e : List Ecc) (s : State) : Host.Outcome State Fault Refusal :=
  s.on fun b =>
    match b.ctl.hbmItem i 5 with
    | some (st, h, p) =>
      let b := b.onCtl fun c => c.takeNet i
      match b.ctl.hbmCheck st h p.addr p.run.bytes.length with
      | .inl code => b.onCtl fun c => c.hbmRefuse h code p
      | .inr l => (b.stackWrite h l p.run e).onCtl fun c => c.hbmReply h p false {}
    | none => b

/-- HBM_ADD_REQUEST: a controller applies a near-memory add word by word and acknowledges it; a malformed one is refused with
code 0x04 (11 R273, R283). -/
def execHbmAddRequest (i : Nat) (e : List Ecc) (s : State) : Host.Outcome State Fault Refusal :=
  s.on fun b =>
    match b.ctl.hbmItem i 6 with
    | some (st, h, p) =>
      let b := b.onCtl fun c => c.takeNet i
      let n := p.run.bytes.length
      let ty := p.addr % 32
      match b.ctl.hbmCheck st h (p.addr - ty) n with
      | .inl code => b.onCtl fun c => c.hbmRefuse h code p
      | .inr l =>
        if 1 < ty ∨ n = 0 ∨ n % 32 ≠ 0 ∨ 1024 < n then b.onCtl fun c => c.hbmRefuse h 0x04 p
        else (b.stackAdd h l (ty == 1) p.run e).onCtl fun c => (c.bump (hbmPage h) F.HBM_ADDS_COUNT).hbmReply h p false {}
    | none => b

/-- HBM_PATROL_SCRUB: with SCRUB_EN, the scrubber reads the next burst of a stack; `e` and `stack` as for a read (11 R280, R282). -/
def execHbmPatrolScrub (h : StackId) (e : List Ecc) (stack : Nat) (s : State) : Host.Outcome State Fault Refusal :=
  s.on fun b =>
    if b.ctl.stackReady h && b.ctl.flag (hbmPage h) F.HBM_CTRL_SCRUB_EN then
      let l := SMap.get 0 b.ctl.hbmScrub h
      let b := (b.hbmChecks h [l / 64] e).onCtl fun c => c.bump (hbmPage h) F.HBM_STACK_CORR_COUNT stack
      b.onCtl fun c => { c with hbmScrub := SMap.set 0 c.hbmScrub h ((l + 64) % stackBytes) }
    else b

/-- A stack marked failed: FAILED, its bit in DEV.HBM_FAIL, code 0x05, cause FAILED (11 R289). -/
def Ctl.stackFail (c : Ctl) (h : Nat) : Ctl :=
  let p := hbmPage h
  let c := ((c.put p F.HBM_STATUS_FAILED 1).put p F.HBM_STATUS_INIT_BUSY 0).put p F.HBM_STATUS_READY 0
  let c := c.put devPage F.DEV_HBM_FAIL_FAILED (c.get devPage F.DEV_HBM_FAIL_FAILED ||| 2 ^ h)
  (c.errHw p 0x05).raise p 3

/-- HBM_ZERO_FILL_COMPLETE: the zero-fill of a stack ends: every burst zero and unpoisoned, INIT_BUSY 0, READY 1; or it failed and
the stack is marked so (11 R288, R289). -/
def execHbmZeroFillComplete (h : StackId) (ok : Bool) (s : State) : Host.Outcome State Fault Refusal :=
  s.on fun b =>
    if b.ctl.flag (hbmPage h) F.HBM_STATUS_INIT_BUSY then
      if ok then (b.setStack h {}).onCtl fun c => (c.put (hbmPage h) F.HBM_STATUS_INIT_BUSY 0).put (hbmPage h) F.HBM_STATUS_READY 1
      else b.onCtl fun c => c.stackFail h
    else b

/-- HBM_WARM_READY: after a warm reset a controller accepts requests again (11 R290). -/
def execHbmWarmReady (h : StackId) (s : State) : Host.Outcome State Fault Refusal :=
  s.onCtl fun c =>
    if c.hbmWarm.contains h.val then
      { c.put (hbmPage h) F.HBM_STATUS_READY 1 with hbmWarm := c.hbmWarm.filter (· != h.val) }
    else c

end Sys2Proof.Machine
end

