-- ==== Sys2Proof/Machine/Wire.lean ====
section
/-!
DEFINITION. A frame as bytes on the wire: the Uamuga header, the encapsulations, what a port makes of the bytes that arrive (12 R299, R301
to R304). What the spec leaves to the standards it names (802.3, 802.1Q, IPv4, IPv6, UDP, ARP, ICMPv6, CRC-32C) is PRESUMED of them (log 54).
-/
namespace Sys2Proof.Machine

/-! ### Numbers, most significant byte first -/

/-- A number as `n` bytes, most significant first (12 R302). -/
def beBytes (n v : Nat) : List Byte := (leBytes n v).reverse

/-- The number of bytes given most significant first. -/
def beNat (l : List Byte) : Nat := leNat l.reverse

/-- `n` bytes of `l` from byte `i`, as a number. -/
def beAt (l : List Byte) (i n : Nat) : Nat := beNat ((l.drop i).take n)

/-! ### The Uamuga header (12 R302, R303) -/

/-- The 32 bytes of a frame's header. -/
def frameHeader (f : Frame) : List Byte :=
  beBytes 4 (2 ^ 28 + f.ty % 16 * 2 ^ 24 + ofBool f.poison * 2 ^ 23 + ofBool f.streamed * 2 ^ 22 + ofBool f.ece * 2 ^ 21 +
    ofBool f.retx * 2 ^ 20 + f.enc % 16 * 2 ^ 16 + f.payload.length % 2 ^ 14) ++
  beBytes 4 (f.dstCtx % 2 ^ 12 * 2 ^ 20 + f.srcCtx % 2 ^ 12 * 2 ^ 8 + f.ring % 2 ^ 8) ++ beBytes 4 f.psn ++
  beBytes 4 (f.msn % 2 ^ 20 * 2 ^ 12 + f.elem % 2) ++ beBytes 4 (f.lenM1 % 2 ^ 24) ++ beBytes 4 (f.off % 2 ^ 25) ++
  beBytes 4 f.aux ++ beBytes 4 (f.aux / 2 ^ 32)

/-- Header, payload and the CRC-32C over both (12 R301). -/
def frameBytes (f : Frame) : List Byte :=
  let l := frameHeader f ++ f.payload
  l ++ beBytes 4 (crc32c.of l)

/-- The header fields and payload that bytes give, VER and CRC left aside. -/
def frameOf (l : List Byte) : Frame :=
  let w (i : Nat) : Nat := beAt l (4 * i) 4
  { ty := w 0 / 2 ^ 24 % 16, poison := (w 0).testBit 23, streamed := (w 0).testBit 22, ece := (w 0).testBit 21, retx := (w 0).testBit 20
    enc := w 0 / 2 ^ 16 % 16, dstCtx := w 1 / 2 ^ 20, srcCtx := w 1 / 2 ^ 8 % 2 ^ 12, ring := w 1 % 2 ^ 8, psn := w 2, msn := w 3 / 2 ^ 12
    elem := w 3 % 2, lenM1 := w 4 % 2 ^ 24, off := w 5 % 2 ^ 25, aux := w 6 + w 7 * 2 ^ 32, payload := (l.drop 32).take (w 0 % 2 ^ 14) }

/-- Step 3: CRC-32C, VER, TYPE, and WIRE_LEN against the length; `pad`: the frame may be padded to the least an Ethernet frame has (12 R304). -/
def frameCheck (pad : Bool) (l : List Byte) : Option Frame :=
  let n := beAt l 0 4 % 2 ^ 14
  let ty := beAt l 0 4 / 2 ^ 24 % 16
  if 36 ≤ l.length ∧ beAt l 0 4 / 2 ^ 28 = 1 ∧ 1 ≤ ty ∧ ty ≤ 0xD ∧ n ≤ 8192 ∧ (36 + n = l.length ∨ (pad ∧ 36 + n ≤ l.length)) ∧
      beAt l (32 + n) 4 = crc32c.of (l.take (32 + n)) then
    some (frameOf l)
  else none

/-! ### Encapsulation (12 R301) -/

/-- The headers around a frame: 0 Ethernet, 1 IPv4, 2 IPv6; the MAC addresses, the 802.1Q tag if there is one, the IP addresses, DSCP, ECN, TTL
or hop limit, and the UDP ports. -/
structure Encap where
  kind : Nat := 0
  dmac : Nat := 0
  smac : Nat := 0
  tag : Option Nat := none
  src : Nat := 0
  dst : Nat := 0
  dscp : Nat := 0
  ecn : Nat := 2
  ttl : Nat := 0
  sport : Nat := 0
  dport : Nat := 0
  deriving DecidableEq, Repr

/-- The ones-complement sum of bytes taken in pairs. -/
def onesSum : List Byte → Nat
  | [] => 0
  | [a] => a.toNat * 256
  | a :: b :: r =>
    let s := a.toNat * 256 + b.toNat + onesSum r
    s % 2 ^ 16 + s / 2 ^ 16

/-- The addresses, protocol and length a UDP checksum covers beside the datagram. -/
def Encap.pseudo (x : Encap) (n : Nat) : List Byte :=
  if x.kind = 1 then beBytes 4 x.src ++ beBytes 4 x.dst ++ beBytes 2 17 ++ beBytes 2 n
  else beBytes 16 x.src ++ beBytes 16 x.dst ++ beBytes 4 n ++ beBytes 4 17

/-- A UDP datagram, its checksum computed. -/
def Encap.udp (x : Encap) (l : List Byte) : List Byte :=
  let n := 8 + l.length
  let ports := beBytes 2 x.sport ++ beBytes 2 x.dport ++ beBytes 2 n
  let s := 65535 - onesSum (x.pseudo n ++ ports ++ [0, 0] ++ l)
  ports ++ beBytes 2 (if s = 0 then 65535 else s) ++ l

/-- What follows the MAC header: the EtherType and the frame, or the IP header and the datagram. -/
def Encap.body (x : Encap) (l : List Byte) : List Byte :=
  let tos := x.dscp % 64 * 4 + x.ecn % 4
  match x.kind with
  | 0 => beBytes 2 0x88B5 ++ l
  | 1 =>
    let h (s : Nat) : List Byte := beBytes 2 (0x4500 + tos) ++ beBytes 2 (28 + l.length) ++ beBytes 4 0x4000 ++
      beBytes 2 (x.ttl % 256 * 256 + 17) ++ beBytes 2 s ++ beBytes 4 x.src ++ beBytes 4 x.dst
    beBytes 2 0x0800 ++ h (65535 - onesSum (h 0)) ++ x.udp l
  | _ => beBytes 2 0x86DD ++ beBytes 4 (6 * 2 ^ 28 + tos * 2 ^ 20) ++ beBytes 2 (8 + l.length) ++ beBytes 2 (17 * 256 + x.ttl % 256) ++
      beBytes 16 x.src ++ beBytes 16 x.dst ++ x.udp l

/-- The CRC of an Ethernet frame (PRESUMED: IEEE 802.3). -/
def crc32 : Crc := ⟨32, 0x04C11DB7, 0xFFFFFFFF, 0xFFFFFFFF, true, true⟩

/-- A frame from destination address to FCS, at least 64 bytes. -/
def Encap.wire (x : Encap) (l : List Byte) : List Byte :=
  let tag := match x.tag with
    | some t => beBytes 2 0x8100 ++ beBytes 2 t
    | none => []
  let m := beBytes 6 x.dmac ++ beBytes 6 x.smac ++ tag ++ x.body l
  let m := m ++ List.replicate (60 - m.length) 0
  m ++ leBytes 4 (crc32.of m)

/-! ### What a port makes of a frame that arrives (12 R299, R304 steps 1 to 3) -/

/-- A port's own MAC address. -/
def Ctl.portMac (c : Ctl) (p : Nat) : Nat := bits (c.rd (portPage p + 0x48)) 15 0 * 2 ^ 32 + (c.rd (portPage p + 0x44)).toNat

/-- A port's own IPv4 (1) or IPv6 (2) address. -/
def Ctl.portIp (c : Ctl) (p kind : Nat) : Nat :=
  if kind = 1 then (c.rd (portPage p + 0x4C)).toNat
  else (List.range 4).foldl (fun v n => v * 2 ^ 32 + (c.rd (portPage p + 0x50 + 4 * n)).toNat) 0

/-- A port's UDP port. -/
def Ctl.portUdp (c : Ctl) (p : Nat) : Nat := bits (c.rd (portPage p + 0x60)) 15 0

/-- What arrives: FCS wrong; not accepted; corrupt; a PTP message; a request for the port's address; a Uamuga frame in its encapsulation. -/
inductive Arrival where
  | badFcs
  | other
  | corrupt
  | ptp
  | address
  | frame (x : Encap) (f : Frame)
  deriving DecidableEq, Repr

/-- A Uamuga frame that passes step 3, else a corrupt one. -/
def arrivalOf (x : Encap) (pad : Bool) (l : List Byte) : Arrival :=
  match frameCheck pad l with
  | some f => .frame x f
  | none => .corrupt

/-- A UDP datagram of `n` bytes that starts `l`: PTP, to the port's address and UDP port, or neither; a nonzero checksum is verified (12 R299,
R301). -/
def Ctl.udpArrival (c : Ctl) (p : Nat) (x : Encap) (n : Nat) (l : List Byte) : Arrival :=
  let l := l.take n
  let x := { x with sport := beAt l 0 2, dport := beAt l 2 2 }
  if n < 8 ∨ l.length < n ∨ beAt l 4 2 ≠ n then .other
  else if beAt l 6 2 ≠ 0 ∧ onesSum (x.pseudo n ++ l) ≠ 65535 then .other
  else if x.dport = 319 ∨ x.dport = 320 then .ptp
  else if x.dst = c.portIp p x.kind ∧ x.dport = c.portUdp p then arrivalOf x false (l.drop 8)
  else .other

/-- What the bytes of a frame, from destination address to FCS, come to at a port. -/
def Ctl.arrival (c : Ctl) (p : Nat) (w : List Byte) : Arrival :=
  let m := w.take (w.length - 4)
  if leNat (w.drop m.length) ≠ crc32.of m then .badFcs
  else if w.length < 64 ∨ 9216 < w.length then .other
  else
    let tagged := beAt m 12 2 == 0x8100
    let o := if tagged then 18 else 14
    let l := m.drop o
    let x : Encap := { dmac := beAt m 0 6, smac := beAt m 6 6, tag := if tagged then some (beAt m 14 2) else none }
    match beAt m (o - 2) 2 with
    | 0x88B5 => if x.dmac = c.portMac p then arrivalOf x (w.length == 64) l else .other
    | 0x88F7 => .ptp
    | 0x0806 => if beAt l 6 2 = 1 ∧ beAt l 24 4 = c.portIp p 1 then .address else .other
    | 0x0800 =>
      let n := beAt l 2 2
      if beAt l 0 1 ≠ 0x45 ∨ beAt l 6 2 % 2 ^ 14 ≠ 0 ∨ beAt l 9 1 ≠ 17 ∨ n < 28 ∨ onesSum (l.take 20) ≠ 65535 then .other
      else c.udpArrival p { x with kind := 1, src := beAt l 12 4, dst := beAt l 16 4, dscp := beAt l 1 1 / 4, ecn := beAt l 1 1 % 4
                                   ttl := beAt l 8 1 } (n - 20) (l.drop 20)
    | 0x86DD =>
      let tos := beAt l 0 4 / 2 ^ 20 % 256
      if beAt l 0 4 / 2 ^ 28 ≠ 6 then .other
      else if beAt l 6 1 = 17 then
        c.udpArrival p { x with kind := 2, src := beAt l 8 16, dst := beAt l 24 16, dscp := tos / 4, ecn := tos % 4, ttl := beAt l 7 1 }
          (beAt l 4 2) (l.drop 40)
      else if beAt l 6 1 = 58 ∧ beAt l 40 1 = 135 ∧ beAt l 48 16 = c.portIp p 2 then .address
      else .other
    | _ => .other

end Sys2Proof.Machine
end

