-- ==== Sys2Proof/Machine/Uam.lean ====
section
/-!
DEFINITION. The transport's shared operations: records, contexts, messages, frames, rings and marks (12 R305 to R329).
-/
namespace Sys2Proof.Machine

/-! ### Records (12 R305, R306, R317, R322, R325) -/

/-- Context `n`. -/
def Ctl.ctx (c : Ctl) (n : Nat) : Ctx := SMap.get {} c.uam.ctxs n

/-- Context `n` replaced. -/
def Ctl.setCtx (c : Ctl) (n : Nat) (x : Ctx) : Ctl := { c with uam := { c.uam with ctxs := SMap.set {} c.uam.ctxs n x } }

/-- Ring `n`. -/
def Ctl.ring (c : Ctl) (n : Nat) : Ring := SMap.get {} c.uam.rings n

/-- Ring `n` replaced. -/
def Ctl.setRing (c : Ctl) (n : Nat) (x : Ring) : Ctl := { c with uam := { c.uam with rings := SMap.set {} c.uam.rings n x } }

/-- Window `n` of stage `s`: its record words. -/
def Ctl.window (c : Ctl) (s n : Nat) : List Word := SMap.get [] c.uam.wins (16 * s + n)

/-- Index `n` lies in a range register of stage `s` given by its FIRST and COUNT fields. -/
def Ctl.inRange (c : Ctl) (s : Nat) (first count : Fld) (n : Nat) : Bool :=
  let p := stagePage s
  decide (c.get p first ≤ n) && decide (n < c.get p first + c.get p count)

/-- Context `n` is stage `s`'s (12 R305). -/
def Ctl.ownsCtx (c : Ctl) (s n : Nat) : Bool := c.inRange s F.STAGE_CTX_RANGE_FIRST F.STAGE_CTX_RANGE_COUNT n

/-- Ring `n` is stage `s`'s (12 R305). -/
def Ctl.ownsRing (c : Ctl) (s n : Nat) : Bool := c.inRange s F.STAGE_RING_RANGE_FIRST F.STAGE_RING_RANGE_COUNT n

/-- Rim slate `n` is stage `s`'s (07 R179). -/
def Ctl.ownsSlate (c : Ctl) (s n : Nat) : Bool := c.inRange s F.STAGE_RSL_RANGE_FIRST F.STAGE_RSL_RANGE_COUNT n

/-- The valid stage whose CTX_RANGE holds context `n`. -/
def Ctl.ctxStage (c : Ctl) (n : Nat) : Option Nat := (List.range 12).find? fun s => c.valid s && c.ownsCtx s n

/-- The valid stage whose RING_RANGE holds ring `n`. -/
def Ctl.ringStage (c : Ctl) (n : Nat) : Option Nat := (List.range 12).find? fun s => c.valid s && c.ownsRing s n

def Ctx.w (x : Ctx) (i : Nat) : Word := x.words.getD i 0
def Ctx.port (x : Ctx) : Nat := bits (x.w 0) 31 28
def Ctx.peer (x : Ctx) : Nat := bits (x.w 0) 11 0
def Ctx.encap (x : Ctx) : Nat := bits (x.w 0) 27 26
def Ctx.dmac (x : Ctx) : Nat := bits (x.w 2) 15 0 * 2 ^ 32 + (x.w 1).toNat
/-- The peer's IPv4 (1) or IPv6 (2) address (12 R306). -/
def Ctx.peerIp (x : Ctx) (kind : Nat) : Nat :=
  if kind = 1 then (x.w 3).toNat else (List.range 4).foldl (fun v n => v * 2 ^ 32 + (x.w (3 + n)).toNat) 0
/-- Bytes of payload of a context's frames (12 R306). -/
def Ctx.payload (x : Ctx) : Nat := 1024 * 2 ^ bits (x.w 0) 25 24
def Ctx.retryMax (x : Ctx) : Nat := bits (x.w 8) 31 24

def Ring.w (x : Ring) (i : Nat) : Word := x.words.getD i 0
def Ring.on (x : Ring) : Bool := bit (x.w 0) 31
def Ring.local (x : Ring) : Bool := bit (x.w 0) 30
def Ring.bsize (x : Ring) : Nat := 4096 * 2 ^ bits (x.w 0) 29 27
def Ring.tile (x : Ring) : Nat := bits (x.w 0) 26 16
def Ring.count (x : Ring) : Nat := bits (x.w 0) 15 0 + 1
def Ring.reserve (x : Ring) : Nat := bits (x.w 7) 31 16
def Ring.slate (x : Ring) : Nat := bits (x.w 7) 9 0
/-- Base address of the buffers (1), post array (3) or completion array (5); the low word alone in a scratchpad (12 R317). -/
def Ring.base (x : Ring) (i : Nat) : Nat := if x.local then (x.w i).toNat else rec64 x.words i

/-- Free buffers of a ring (12 R318). -/
def Ctl.ringFree (c : Ctl) (x : Ring) : Nat := ((c.rimSlate x.slate).count + 2 ^ 32 - x.consumed) % 2 ^ 32

/-! ### Memory and slates of a stage -/

/-- `n` bytes read where a ring or a request keeps them: a tile's scratchpad, or the stage's HBM. -/
def Blk.memRead (b : Blk) (s : Nat) (tile : Option Nat) (a n : Nat) (e : List Ecc) : Run × Blk :=
  match tile with
  | some t => b.spRead t a n e
  | none => b.stgRead s a n e

/-- A run written to a tile's scratchpad, once its tags are clear, or the stage's HBM; `e` is what the checks of what it covers in part find
(06 R145, R149, 11 R281). -/
def Blk.memWrite (b : Blk) (s : Nat) (tile : Option Nat) (a : Nat) (r : Run) (e : List Ecc) : Blk :=
  match tile with
  | some t =>
    if (b.tile t).init then b.onTile t fun x => { x with sp := { x.sp with late := x.sp.late ++ [(a, r)] } } else b.spStore t a r e
  | none => b.stgWrite s a r e

/-- How many outcomes of checks a read of `n` bytes takes up: one for each word or burst it touches (06 R150, 11 R280). -/
def readUses (tile : Option Nat) (a n : Nat) : Nat := match tile with | some _ => (wordsOf a n).length | none => (burstsOf a n).length

/-- How many outcomes of checks a write of `n` bytes takes up: one for each word or burst it covers in part (06 R145, 11 R281). -/
def writeUses (tile : Option Nat) (a n : Nat) : Nat := match tile with | some _ => (partWords a n).length | none => (partBursts a n).length

/-- The tile a ring's areas lie in, if it is one. -/
def Ring.where_ (x : Ring) : Option Nat := if x.local then some x.tile else none

/-- 1 added to the slate a completion or signal word names: bit 31 enables, bit 30 a rim slate, [29:19] tile, [9:0] slate (12
R309, R317). A slate of a held tile stays. -/
def Blk.signal (b : Blk) (s : Nat) (w : Word) : Blk :=
  if !bit w 31 then b
  else if bit w 30 then
    let n := bits w 9 0
    if b.ctl.ownsSlate s n then b.onCtl fun c => c.rimTake n (.add 1) else b
  else
    let t := bits w 29 19
    if t < 1920 ∧ b.live t then b.slateAdd t (bits w 3 0) 1 else b

/-! ### Frames out (12 R300 to R302, R313, R330) -/

/-- A port's link is up. -/
def Ctl.linkUp (c : Ctl) (p : Nat) : Bool := c.flag (portPage p) F.PORT_STATUS_LINK_UP

/-- A frame leaves a port. -/
def Ctl.frameOut (c : Ctl) (p : Nat) (w : List Byte) : Ctl :=
  { c.bump (portPage p) F.PORT_TX_FRAMES_COUNT with out := c.out ++ [.frame p w] }

/-- A frame sent on its port; held in its egress queue while the link is down (12 R300). -/
def Ctl.sendFrame (c : Ctl) (g : Egress) : Ctl :=
  if c.linkUp g.port then c.frameOut g.port g.bytes else { c with uam := { c.uam with held := c.uam.held ++ [g] } }

/-- The headers of context `n`'s frames (12 R301, R306). -/
def Ctl.ctxEncap (c : Ctl) (n : Nat) : Encap :=
  let x := c.ctx n
  let k := x.encap
  { kind := k, dmac := x.dmac, smac := c.portMac x.port, tag := if bit (x.w 2) 31 then some (bits (x.w 2) 30 28 * 2 ^ 13 + bits (x.w 2) 27 16) else none
    src := if k = 0 then 0 else c.portIp x.port k, dst := if k = 0 then 0 else x.peerIp k, dscp := bits (x.w 7) 31 26, ecn := 2
    ttl := bits (x.w 7) 23 16, sport := 0xC000 + n, dport := c.portUdp x.port }

/-- Frames of this type go before any other at a port (12 R330). -/
def goesFirst (ty : Nat) : Bool := [2, 3, 5, 0xB, 0xC].contains ty

/-- A frame of context `n` to its peer, as the bytes on the wire. -/
def Ctl.ctxWire (c : Ctl) (n : Nat) (f : Frame) : List Byte :=
  (c.ctxEncap n).wire (frameBytes { f with dstCtx := (c.ctx n).peer, srcCtx := n })

/-- A frame of context `n` sent to its peer. -/
def Ctl.ctxFrame (c : Ctl) (n : Nat) (f : Frame) : Ctl :=
  c.sendFrame { port := (c.ctx n).port, stage := (c.ctxStage n).getD 12, ctx := n, first := goesFirst f.ty, bytes := c.ctxWire n f }

/-- The next of `l` after `last`, in round robin. -/
def rrNext (last : Nat) (l : List Nat) : Option Nat :=
  let least (l : List Nat) : Option Nat := l.foldl (fun m k => some (min k (m.getD k))) none
  (least (l.filter (last < ·))).or (least l)

/-- The weight of stage `s` at port `p`; what has no stage counts as one of weight 1 (12 R330, R336). -/
def Ctl.stageWeight (c : Ctl) (p s : Nat) : Nat :=
  if 12 ≤ s then 1 else max 1 (bits (c.rd (portPage p + 0x64 + 4 * (s / 8))) (4 * (s % 8) + 3) (4 * (s % 8)))

/-- Whose turn it is at port `p` among stages and contexts that have a frame to send, given with its bytes: the stage by deficit round robin on
frame bytes, its context in round robin (12 R330). -/
def Ctl.egressPick (c : Ctl) (p : Nat) (l : List (Nat × Nat × Nat)) : Option (Nat × Nat × Arbs) :=
  let turn (s : Nat) : Option Nat := rrNext (SMap.get 4096 c.arbs.ctx (s * 16 + p)) ((l.filter fun x => x.1 == s).map (·.2.1))
  let wants := (List.range 13).filterMap fun s =>
    (turn s).bind fun n => (l.find? fun x => x.1 == s && x.2.1 == n).map fun x => (s, x.2.2)
  match (SMap.get {} c.arbs.egress p).pick 13 (c.stageWeight p) wants with
  | some (s, d) => (turn s).map fun n =>
      (s, n, { c.arbs with egress := SMap.set {} c.arbs.egress p d, ctx := SMap.set 4096 c.arbs.ctx (s * 16 + p) n })
  | none => none

/-- The frames held for a port leave, in the order the port takes them; `fuel` bounds them (12 R300, R330). -/
def Ctl.flushPort (c : Ctl) (p : Nat) : Nat → Ctl
  | 0 => c
  | k + 1 =>
    let go (g : Egress) (a : Arbs) : Ctl :=
      ({ c with arbs := a, uam := { c.uam with held := c.uam.held.erase g } }).frameOut p g.bytes
    match c.uam.held.find? fun g => g.port == p && g.first with
    | some g => Ctl.flushPort (go g c.arbs) p k
    | none =>
      match c.egressPick p ((c.uam.held.filter fun g => g.port == p).map fun g => (g.stage, g.ctx, g.bytes.length)) with
      | some (s, n, a) =>
        match c.uam.held.find? fun g => g.port == p && g.stage == s && g.ctx == n with
        | some g => Ctl.flushPort (go g a) p k
        | none => c
      | none => c

/-- The SACK of a context: bit i is set where PSN + 1 + i was received (12 R303). -/
def Ctx.sack (x : Ctx) : Nat :=
  (List.range 64).foldl (fun m i => if x.rxGot.contains ((x.rxPsn + 1 + i) % 2 ^ 32) then m + 2 ^ i else m) 0

/-- An ACK of context `n` sent (12 R313, R315). -/
def Ctl.sendAckFrame (c : Ctl) (n : Nat) : Ctl :=
  let x := c.ctx n
  let c := c.ctxFrame n { ty := 2, psn := x.rxPsn, aux := x.sack, ece := x.ece }
  c.setCtx n { x with rxOwed := 0, ece := false }

/-- A NAK of context `n` for a PSN, with its reason (12 R316). -/
def Ctl.sendNak (c : Ctl) (n psn msn reason : Nat) : Ctl := c.ctxFrame n { ty := 3, psn := psn, msn := msn, aux := reason }

/-- Consecutive PSNs received from `next` on are passed; `fuel` bounds them. -/
def Ctx.advance (x : Ctx) : Nat → Ctx
  | 0 => x
  | k + 1 =>
    if x.rxGot.contains x.rxPsn then
      Ctx.advance { x with rxGot := x.rxGot.filter (· != x.rxPsn), rxPsn := (x.rxPsn + 1) % 2 ^ 32 } k
    else x

/-- A PSN accepted by context `n`: an ACK is due after every eighth frame (12 R313). -/
def Ctl.takePsn (c : Ctl) (n psn : Nat) : Ctl :=
  let x := c.ctx n
  let x := { x with rxGot := psn :: x.rxGot, rxOwed := x.rxOwed + 1 }
  let c := c.setCtx n (x.advance 1025)
  if 8 ≤ x.rxOwed then c.sendAckFrame n else c

/-! ### Messages (12 R309 to R312) -/

/-- A message queued on its context, with the next number and MSN (12 R306, R309). -/
def Ctl.queueMsg (c : Ctl) (m : TxMsg) : Ctl :=
  let x := c.ctx m.ctx
  let c := c.setCtx m.ctx { x with txMsn := (x.txMsn + 1) % 2 ^ 20 }
  { c with uam := { c.uam with tx := c.uam.tx ++ [{ m with id := c.uam.nextId, msn := x.txMsn }], nextId := c.uam.nextId + 1 } }

/-- Messages in flight, what serves a peer's WREAD left aside: UAM.TX_TABLE.USED (12 R312, R338). -/
def Ctl.txUsed (c : Ctl) : Nat := (c.uam.tx.filter fun m => m.who != .serve).length

/-- One more message may be in flight (12 R312). -/
def Ctl.txRoom (c : Ctl) : Bool := decide (c.txUsed < 65536)

/-- A message no longer in flight; it is kept while a frame of it is not acknowledged, which is sent again like any other (12 R314). -/
def Ctl.dropMsg (c : Ctl) (id : Nat) : Ctl :=
  let gone := c.uam.tx.filter fun m => m.id == id && (c.ctx m.ctx).unacked.any fun u => u.msg == id
  { c with uam := { c.uam with tx := c.uam.tx.filter fun m => m.id != id, past := c.uam.past ++ gone } }

/-- The message a frame belongs to, in flight or past. -/
def Ctl.msgOf (c : Ctl) (id : Nat) : Option TxMsg := (c.uam.tx.find? fun m => m.id == id).or (c.uam.past.find? fun m => m.id == id)

/-- Past messages of which every frame is acknowledged are forgotten. -/
def Ctl.forget (c : Ctl) : Ctl :=
  { c with uam := { c.uam with past := c.uam.past.filter fun m => (c.ctx m.ctx).unacked.any fun u => u.msg == m.id } }

/-- A message replaced. -/
def Ctl.setMsg (c : Ctl) (m : TxMsg) : Ctl :=
  { c with uam := { c.uam with tx := c.uam.tx.map fun q => if q.id = m.id then m else q } }

/-- The reply of a gather engine's read, delivered to its tile: the rows, or zeros poisoned after an error (09 R232). -/
def Ctl.gatherReply (c : Ctl) (m : TxMsg) (t tag : Nat) (err : Bool) : Ctl :=
  let r := if err then (zeroRun m.len).poisoned else m.inline
  c.fromRim t (0x10 + (c.ctx m.ctx).port) { kind := 3, cls := 2, rsp := true, src := 2047, tag := tag, err := err
                                            bytes := r.bytes.length, run := r }

/-- The acknowledgement of a gather engine's add, delivered to its tile: its tag names the bag (09 R234, R235). -/
def Ctl.gatherAck (c : Ctl) (m : TxMsg) (t ser bag : Nat) (err : Bool) : Ctl :=
  c.fromRim t (0x10 + (c.ctx m.ctx).port) { kind := 3, cls := 2, rsp := true, src := 2047, err := err
                                            tag := (ser * 2 ^ 16 + bag) * 4 + 3 }

/-- The pending marks of a stage. -/
def Ctl.marks (c : Ctl) (s : Nat) : List Mark := SMap.get [] c.uam.marks s

/-- The pending marks of a stage replaced. -/
def Ctl.setMarks (c : Ctl) (s : Nat) (l : List Mark) : Ctl := { c with uam := { c.uam with marks := SMap.set [] c.uam.marks s l } }

/-- A mirror message acknowledged: the stage's marks no longer await it (12 R328). -/
def Ctl.markAcked (c : Ctl) (s id : Nat) : Ctl := c.setMarks s ((c.marks s).map fun k => { k with wait := k.wait.filter (· != id) })

/-- A granule's copy leaves as message `id`: the marks that await the granule await that copy (12 R328). -/
def Ctl.markSent (c : Ctl) (s g id : Nat) : Ctl :=
  c.setMarks s ((c.marks s).map fun k =>
    if k.dirty.contains g then { k with dirty := k.dirty.filter (· != g), wait := k.wait ++ [id] } else k)

/-- The mirror context of a stage (12 R325). -/
def Ctl.mirrorCtx (c : Ctl) (s : Nat) : Nat := c.get (stagePage s) F.STAGE_MIRROR_CTRL_CTX

/-- The oldest pending mark of a stage sends its MARK frame once its granules are acknowledged and one more message may be in flight (12 R312,
R328). -/
def Ctl.nextMark (c : Ctl) (s : Nat) : Ctl :=
  match c.marks s with
  | k :: rest =>
    if k.dirty.isEmpty && k.wait.isEmpty && !k.sent && c.txRoom then
      (c.setMarks s ({ k with sent := true } :: rest)).queueMsg
        { stage := s, ctx := c.mirrorCtx s, op := 5, user := k.num, comp := k.comp, who := .mark }
    else c
  | [] => c

/-- A message completed (12 R312): its slate, its counter, and what its owner waits for. -/
def Blk.msgDone (b : Blk) (m : TxMsg) : Blk :=
  let b := b.onCtl fun c => c.dropMsg m.id
  let count (b : Blk) : Blk := (b.signal m.stage m.comp).onCtl fun c => c.bump (stagePage m.stage) F.STAGE_TX_MSGS_COUNT
  match m.who with
  | .serve => b
  | .request => count b
  | .gatherRead t tag => (count b).onCtl fun c => c.gatherReply m t tag false
  | .gatherAdd t ser bag => (count b).onCtl fun c => c.gatherAck m t ser bag false
  | .mirror _ => (count b).onCtl fun c => (c.markAcked m.stage m.id).nextMark m.stage
  | .mark => (count b).onCtl fun c =>
      ((c.put (stagePage m.stage) F.STAGE_MARK_DONE_MARK m.user.toNat).setMarks m.stage ((c.marks m.stage).drop 1)).nextMark m.stage

/-- What the failure of a message brings about (12 R312): its slate, MSG_FAILS, the context's FAILS, FAIL_MSN and FAIL_WHY, cause UAM_FAIL,
and what its owner is told. -/
def Blk.failed (b : Blk) (m : TxMsg) (why : Nat) : Blk :=
  let p := stagePage m.stage
  let count (b : Blk) : Blk :=
    (b.signal m.stage m.comp).onCtl fun c =>
      let x := c.ctx m.ctx
      let c := c.setCtx m.ctx { x with fails := satAdd 0xFFFF x.fails 1, failMsn := m.msn, failWhy := why }
      (c.bump p F.STAGE_MSG_FAILS_COUNT).raise p 2
  match m.who with
  | .serve => b
  | .request => count b
  | .gatherRead t tag => (count b).onCtl fun c => c.gatherReply m t tag true
  | .gatherAdd t ser bag => (count b).onCtl fun c => c.gatherAck m t ser bag true
  | .mirror _ => count b
  | .mark => (count b).onCtl fun c => c.setMarks m.stage ((c.marks m.stage).drop 1)

/-- A message in flight fails (12 R312). -/
def Blk.msgFail (b : Blk) (m : TxMsg) (why : Nat) : Blk := (b.onCtl fun c => c.dropMsg m.id).failed m why

/-- A message that has sent everything and has nothing unacknowledged completes (12 R312). -/
def Blk.checkDone (b : Blk) (m : TxMsg) : Blk :=
  let open_ := (b.ctl.ctx m.ctx).unacked.any fun f => f.msg == m.id
  let sent := if m.op = 5 then m.rts else decide (m.len ≤ m.next)
  if m.op ≠ 2 ∧ sent ∧ !open_ ∧ !m.backoff then b.msgDone m else b

/-! ### Rings (12 R317 to R321) -/

/-- What taking a post entry comes to: the buffer, if one was found, the ring with the entries consumed, the outcomes of checks not used up,
the block. -/
structure Post where
  buf : Option Nat
  ring : Ring
  rest : List Ecc
  blk : Blk

/-- The next usable post entry of a ring; entries out of range or poisoned are consumed and counted; `fuel` bounds the entries consumed (12
R318). -/
def Blk.takePost (b : Blk) (s : Nat) (x : Ring) (e : List Ecc) : Nat → Post
  | 0 => ⟨none, x, e, b⟩
  | k + 1 =>
    if b.ctl.ringFree x = 0 then ⟨none, x, e, b⟩
    else
      let a := x.base 3 + x.consumed % x.count * 4
      let (r, b) := b.memRead s x.where_ a 4 e
      let e := e.drop (readUses x.where_ a 4)
      let y := { x with consumed := (x.consumed + 1) % 2 ^ 32 }
      if r.anyBad || decide (x.count ≤ r.nat) then Blk.takePost b s { y with badPost := satAdd 0x7FFF y.badPost 1 } e k
      else ⟨some r.nat, y, e, b⟩

/-- The four words of a completion record (12 R319). -/
def cqRecord (buf status : Nat) (last bad streamed : Bool) (ctx bytes msn part : Nat) (user : Word) : List Byte :=
  leBytes 4 (buf * 2 ^ 16 + status * 2 ^ 12 + ofBool last * 2 ^ 11 + ofBool bad * 2 ^ 10 + ofBool streamed * 2 ^ 9) ++
  leBytes 4 (ctx * 2 ^ 20 + bytes % 2 ^ 17) ++ leBytes 4 (msn * 2 ^ 12 + part) ++ leBytes 4 user.toNat

/-- A completion record written and signalled; `e` is what the check of what it covers in part finds (12 R319, 06 R145, 11 R281). -/
def Blk.writeCq (b : Blk) (s rn : Nat) (m : RxMsg) (p : RxPart) (status bytes : Nat) (last : Bool) (e : List Ecc) : List Ecc × Blk :=
  let x := b.ctl.ring rn
  let rc := cqRecord p.buf status last p.bad m.streamed m.ctx bytes m.msn p.part m.user
  let a := x.base 5 + 16 * (x.recs % x.count)
  let b := b.memWrite s x.where_ a (runOf rc false) e
  let b := b.onCtl fun c => c.setRing rn { c.ring rn with recs := x.recs + 1 }
  let b := b.signal s (x.w 8)
  (e.drop (writeUses x.where_ a 16),
    if last && status == 0 then
      (b.signal s (x.w 9)).onCtl fun c => c.bump (stagePage s) F.STAGE_RX_MSGS_COUNT
    else b)

/-- A message partly received is given up: each of its buffers gets a TRUNCATED record (12 R320, R321). -/
def Blk.truncate (b : Blk) (s : Nat) (m : RxMsg) (e : List Ecc) : List Ecc × Blk :=
  let b := b.onCtl fun c => { c with uam := { c.uam with rx := c.uam.rx.filter fun q => !(q.ctx == m.ctx && q.msn == m.msn) } }
  m.parts.foldl (fun ((e, b) : List Ecc × Blk) p => b.writeCq s m.ring m p 1 0 false e) (e, b)

/-- The message of a context with an MSN that is partly received. -/
def Ctl.rxMsg (c : Ctl) (ctx msn : Nat) : Option RxMsg := c.uam.rx.find? fun m => m.ctx == ctx && m.msn == msn

/-- A message partly received replaced. -/
def Ctl.setRx (c : Ctl) (m : RxMsg) : Ctl :=
  { c with uam := { c.uam with rx := c.uam.rx.map fun q => if q.ctx = m.ctx ∧ q.msn = m.msn then m else q } }

/-! ### Contexts leaving OPEN (12 R307, R308, R329) -/

/-- A context's messages fail and its partly received messages end (12 R307, R312, R321). -/
def Blk.ctxDrain (b : Blk) (n why : Nat) : Blk :=
  let b := (b.ctl.uam.tx.filter fun m => m.ctx == n).foldl (fun b m => b.msgFail m why) b
  (b.ctl.uam.rx.filter fun m => m.ctx == n).foldl (fun b m =>
    match b.ctl.ringStage m.ring with
    | some s => (b.truncate s m []).2
    | none => b.onCtl fun c => { c with uam := { c.uam with rx := c.uam.rx.erase m } }) b

/-- Context `n` back to its state at OPEN: sequences at 0, nothing outstanding (12 R307). -/
def Ctx.restart (x : Ctx) (st : Nat) : Ctx :=
  { x with st := st, txPsn := 0, txMsn := 0, unacked := [], expiries := 0, grown := 0, cwnd := 64, rxPsn := 0, rxGot := [], rxOwed := 0
           ece := false }

/-- The stage's mirror stream stops where context `n` carries it: pending marks fail, RESYNC reads 1 (12 R329). -/
def Blk.mirrorLost (b : Blk) (n : Nat) : Blk :=
  (List.range 12).foldl (fun b s =>
    if b.ctl.flag (stagePage s) F.STAGE_MIRROR_CTRL_EN && b.ctl.mirrorCtx s == n then
      let b := ((b.ctl.marks s).filter fun k => !k.sent).foldl (fun b k =>
        b.failed { stage := s, ctx := n, msn := (b.ctl.ctx n).txMsn, comp := k.comp } 5) b
      b.onCtl fun c => { c.setMarks s [] with uam := { (c.setMarks s []).uam with resync := insertNat s c.uam.resync } }
    else b) b

/-- Context `n` leaves OPEN or OPENING for CLOSED (0) or ERROR (3): its outstanding messages fail with reason 5 (12 R307). -/
def Blk.ctxStop (b : Blk) (n st : Nat) : Blk :=
  let was := (b.ctl.ctx n).st
  let b := b.ctxDrain n 5
  let b := b.onCtl fun c => (c.setCtx n { c.ctx n with st := st, unacked := [], rxOwed := 0 }).forget
  if was = 2 then b.mirrorLost n else b

/-- Every granule of the stage's enabled mirror regions, in ascending order. -/
def Ctl.mirrorGranules (c : Ctl) (s : Nat) : List Nat :=
  (((List.range 64).flatMap fun n =>
    let r := c.region s n
    if bit (r.getD 0 0) 31 then (List.range (rec64 r 3 / 4096)).map (rec64 r 1 / 4096 + ·) else []).foldl (fun l g => insertNat g l) [])

/-- Every region granule's bit set: a full copy starts (12 R326, R329). -/
def Blk.mirrorAll (b : Blk) (s : Nat) : Blk := (b.ctl.mirrorGranules s).foldl (fun b g => b.setDirty s g true) b

/-- The dirty granules of a stage's regions: MIRROR_STAT.BACKLOG counts them (12 R327). -/
def Blk.dirtyList (b : Blk) (s : Nat) : List Nat := (b.ctl.mirrorGranules s).filter (b.isDirty s)

/-- RESYNC of a stage clears where its backlog is 0 (12 R329). -/
def Blk.resynced (b : Blk) (s : Nat) : Blk :=
  if b.ctl.uam.resync.contains s && (b.dirtyList s).isEmpty then
    b.onCtl fun c => { c with uam := { c.uam with resync := c.uam.resync.filter (· != s) } }
  else b

/-- Context `n` becomes OPEN; a mirror stream it carries that lost it starts a full copy (12 R307, R329). -/
def Blk.ctxOpened (b : Blk) (n : Nat) : Blk :=
  let b := b.onCtl fun c => c.setCtx n { c.ctx n with st := 2 }
  (List.range 12).foldl (fun b s =>
    if b.ctl.flag (stagePage s) F.STAGE_MIRROR_CTRL_EN && b.ctl.mirrorCtx s == n && b.ctl.uam.resync.contains s then
      (b.mirrorAll s).resynced s
    else b) b

/-! ### Frames sent and retransmitted (12 R311, R313, R314) -/

/-- Decoded data of bytes `off` to `off + n` of a message's source, read now (12 R311). -/
def Blk.msgData (b : Blk) (m : TxMsg) (off n : Nat) (e : List Ecc) : Run × Blk :=
  if m.srcKind = 1 then b.stgRead m.stage (m.src + off) n e
  else if m.srcKind = 2 then b.spRead m.srcTile (m.src + off) n e
  else (m.inline.slice off n, b)

/-- The frame of type `ty` of a message that covers `n` bytes from `off`, under a PSN. -/
def Blk.buildFrame (b : Blk) (m : TxMsg) (ty psn off n : Nat) (retx : Bool) (e : List Ecc) : Frame × Blk :=
  let carries := ty == 1 || ty == 7 || ty == 8 || ty == 9
  let (r, b) := if carries then b.msgData m off n e else if ty = 6 then (runOf m.rows false, b) else (({} : Run), b)
  let (enc, bytes) := encodePayload (if ty = 6 ∧ !m.rows.isEmpty then 3 else m.enc) r.anyBad r.bytes
  ({ ty := ty, poison := r.anyBad, streamed := m.streamed && ty == 1, retx := retx, enc := enc
     ring := if ty = 6 ∨ ty = 8 ∨ ty = 9 then m.win else m.ring, psn := psn, msn := m.msn, elem := m.elem, lenM1 := m.len - 1
     off := off, aux := if ty = 6 ∨ ty = 8 ∨ ty = 9 then m.roff else if ty = 7 then 0 else m.user.toNat, payload := bytes }, b)

/-- The frame type an operation's data travels in (12 R303). -/
def dataType (op : Nat) : Nat := if op = 3 then 8 else if op = 4 then 9 else if op = 7 then 7 else if op = 2 then 6 else if op = 5 then 0xA else 1

/-- The next frame a message may send: type, offset, bytes (12 R320, R321). -/
def TxMsg.nextFrame (m : TxMsg) (payload : Nat) : Option (Nat × Nat × Nat) :=
  if m.backoff then none
  else if m.op = 2 ∨ m.op = 5 then (if m.rts then none else some (dataType m.op, 0, 0))
  else if m.streamed ∧ !m.rts then some (4, 0, 0)
  else if m.len ≤ m.next then none
  else
    let n := min payload (m.len - m.next)
    if m.streamed ∧ m.granted < m.next + n then none else some (dataType m.op, m.next, n)

/-- A frame of a message sent under the next PSN of its context (12 R311, R313). -/
def Blk.sendNext (b : Blk) (m : TxMsg) (ty off n : Nat) (e : List Ecc) : Blk :=
  let x := b.ctl.ctx m.ctx
  let (f, b) := b.buildFrame m ty x.txPsn off n false e
  b.onCtl fun c =>
    let c := c.ctxFrame m.ctx f
    let c := c.setCtx m.ctx { c.ctx m.ctx with
      txPsn := (x.txPsn + 1) % 2 ^ 32
      unacked := x.unacked ++ [{ psn := x.txPsn, msg := m.id, ty := ty, off := off, len := n }] }
    c.setMsg (if ty = 4 ∨ ty = 6 ∨ ty = 0xA then { m with rts := true } else { m with next := off + n })

/-- An unacknowledged frame sent again; after its RETRY_MAX-th retransmission the context enters ERROR (12 R314). -/
def Blk.resend (b : Blk) (n : Nat) (u : TxFrame) (e : List Ecc) : Blk :=
  let x := b.ctl.ctx n
  match x.st, b.ctl.msgOf u.msg with
  | 2, some m =>
    let (f, b) := b.buildFrame m u.ty u.psn u.off u.len true e
    let b := b.onCtl fun c =>
      let c := (c.ctxFrame n f).bump (stagePage m.stage) F.STAGE_RETX_COUNT
      let x := c.ctx n
      c.setCtx n { x with unacked := x.unacked.map fun q => if q.psn = u.psn then { q with tries := q.tries + 1 } else q }
    if x.retryMax ≤ u.tries + 1 then b.ctxStop n 3 else b
  | _, _ => b

end Sys2Proof.Machine
end

