-- ==== Sys2Proof/Machine/Fabric.lean ====
section
/-!
DEFINITION. The fabric ports and the Uamuga transport: links, frames received and sent, requests, rings, contexts and the mirror
stream (12).
-/
namespace Sys2Proof.Machine

/-! ### Links (12 R297, R298, R300) -/

/-- LINK_DOWN: a port's link falls: counted, cause LINK_CHANGE; frames for it are held from now on (12 R300). -/
def execLinkDown (p : PortId) (s : State) : Host.Outcome State Fault Refusal :=
  s.onCtl fun c =>
    let pg := portPage p
    if c.linkUp p then
      let c := c.wr (pg + 0x14) (putBits (putBits (putBits (c.rd (pg + 0x14)) 31 30 0) 28 28 0) 7 0 0)
      (c.bump pg F.PORT_LINK_DOWN_COUNT).raise pg 2
    else c

/-- LINK_UP: the link of an enabled port comes up and the frames held for it leave in the port's order (12 R297, R300, R330). -/
def execLinkUp (p : PortId) (s : State) : Host.Outcome State Fault Refusal :=
  s.onCtl fun c =>
    let pg := portPage p
    if c.linkUp p || c.flag pg F.PORT_STATUS_OPT_DIS || !c.flag pg F.PORT_CFG_LINK_EN then c
    else
      let an := c.flag pg F.PORT_CFG_AN && c.get pg F.PORT_CFG_MEDIA != 0
      let c := c.wr (pg + 0x14) (putBits (putBits (putBits (c.rd (pg + 0x14)) 31 30 3) 28 28 (ofBool an)) 7 0 0xFF)
      c.flushPort p c.uam.held.length

/-! ### Receiving: the common checks (12 R304) -/

/-- A frame counted in RX_CORRUPT, with cause CORRUPT (12 R304, R336). -/
def Ctl.rxCorrupt (c : Ctl) (p : Nat) : Ctl := (c.bump (portPage p) F.PORT_RX_CORRUPT_COUNT).raise (portPage p) 1

/-- Frames of this type use a PSN (12 R303). -/
def usesPsn (ty : Nat) : Bool := [1, 4, 6, 7, 8, 9, 0xA].contains ty

/-- A frame received, with the FEC codewords counted (12 R337). -/
def Ctl.rxCount (c : Ctl) (p : Nat) (k : RxInfo) : Ctl :=
  let pg := portPage p
  ((c.bump pg F.PORT_RX_FRAMES_COUNT).bump pg F.PORT_FEC_CORR_COUNT k.fecCorr).bump pg F.PORT_FEC_UNCORR_COUNT k.fecUncorr

/-- Steps 1 to 3: an arrival that fails one is counted and dropped; any other is left as it is (12 R304). -/
def Ctl.rxDrop (c : Ctl) (p : Nat) (k : RxInfo) : Arrival → Ctl
  | .badFcs => (c.rxCount p k).bump (portPage p) F.PORT_RX_FCS_COUNT
  | .other => (c.rxCount p k).bump (portPage p) F.PORT_RX_OTHER_COUNT
  | .corrupt => (c.rxCount p k).rxCorrupt p
  | .ptp => c
  | .address => c
  | .frame _ _ => c

/-- The source address of a frame is that of the context's peer, in the context's encapsulation (12 R304, R306). -/
def Ctx.sentBy (x : Ctx) (k : Encap) : Bool :=
  k.kind == x.encap && (if k.kind = 0 then k.smac == x.dmac else k.src == x.peerIp k.kind)

/-- Step 4: the stage and context a frame belongs to, if it has one (12 R304). -/
def Ctl.rxContext (c : Ctl) (p : Nat) (k : Encap) (f : Frame) : Option Nat :=
  match c.ctxStage f.dstCtx with
  | none => none
  | some s =>
    let x := c.ctx f.dstCtx
    let st := x.st == 2 || (x.st == 1 && (f.ty == 0xB || f.ty == 0xC))
    if (c.get (stagePage s) F.STAGE_PORT_MASK_PORTS).testBit p && st && f.srcCtx == x.peer && x.sentBy k then some s else none

/-- What a frame that arrives comes to: nothing more to do, or after steps 1 to 7 its stage, the frame, its decoded payload. -/
inductive Rx where
  | stop (b : Blk)
  | go (b : Blk) (s : Nat) (f : Frame) (data : List Byte)

/-- The decoded length is the one a frame of data declares: what is left of its message, or a whole PAYLOAD of it (08 R216, 12 R311; DEDUCED,
log 54). -/
def lengthOk (f : Frame) (n : Nat) : Bool :=
  let left := f.lenM1 + 1 - f.off
  decide (0 < left) && decide (n ≤ 8192) && (n == left || (decide (n < left) && [1024, 2048, 4096, 8192].contains n))

/-- Steps 1 to 7 for a frame of type `ty` that arrives at port `p`, from destination address to FCS; what is no such frame and is not dropped
by steps 1 to 3 is another command's (12 R304, R313, R315, R330). -/
def Blk.receive (b : Blk) (p ty : Nat) (w : List Byte) (k : RxInfo) : Rx :=
  let pg := portPage p
  match b.ctl.arrival p w with
  | .frame h f =>
    if f.ty ≠ ty then .stop b
    else
      let c := b.ctl.rxCount p k
      match c.rxContext p h f with
      | none => .stop { b with ctl := c.bump pg F.PORT_RX_NOCTX_COUNT }
      | some s =>
        let x := c.ctx f.dstCtx
        let c := if h.kind ≠ 0 ∧ h.ecn = 3 then c.setCtx f.dstCtx { x with ece := true } else c
        let b := { b with ctl := c }
        let d := (f.psn + 2 ^ 32 - x.rxPsn) % 2 ^ 32
        let old := decide (2 ^ 31 ≤ d) || x.rxGot.contains f.psn
        if usesPsn f.ty ∧ old then
          .stop (b.onCtl fun c => (c.bump (stagePage s) F.STAGE_RX_DROP_COUNT).sendAckFrame f.dstCtx)
        else if usesPsn f.ty ∧ 1024 ≤ d then .stop (b.onCtl fun c => c.bump (stagePage s) F.STAGE_RX_DROP_COUNT)
        else if 2 ^ 18 < k.held + w.length then .stop (b.onCtl fun c => c.bump pg F.PORT_RX_QFULL_COUNT)
        else match decodePayload f.enc f.payload with
          | none => .stop (b.onCtl fun c => c.rxCorrupt p)
          | some data =>
            if (f.ty = 1 ∨ f.ty = 7 ∨ f.ty = 8 ∨ f.ty = 9) ∧ !lengthOk f data.length then .stop (b.onCtl fun c => c.rxCorrupt p)
            else .go b s f data
  | a => .stop (b.onCtl fun c => c.rxDrop p k a)

/-- A frame refused: its PSN is taken and a NAK says why; a message it belongs to is given up (12 R316). -/
def Blk.refuse (b : Blk) (s : Nat) (f : Frame) (why : Nat) (e : List Ecc) : Blk :=
  let b := match b.ctl.rxMsg f.dstCtx f.msn with
    | some m => (b.truncate s m e).2
    | none => b
  b.onCtl fun c => (c.takePsn f.dstCtx f.psn).sendNak f.dstCtx f.psn f.msn why

/-- The stage is in FAULT (12 R316, R323). -/
def Blk.inFault (b : Blk) (s : Nat) : Bool := b.ctl.stState s == 4

/-! ### Messages into rings (12 R317 to R321) -/

/-- The parts bytes `off` to `off + n` of a message touch. -/
def partsOf (bs off n : Nat) : List Nat := (List.range ((off + (n - 1)) / bs - off / bs + 1)).map (off / bs + ·)

/-- What taking buffers comes to: the parts that got one, whether all did, the ring, the outcomes of checks not used up, the block. -/
structure Buffers where
  parts : List RxPart
  all : Bool
  ring : Ring
  rest : List Ecc
  blk : Blk

/-- Buffers taken for parts in turn, as far as the posts reach (12 R320). -/
def Blk.takeParts (b : Blk) (s : Nat) (x : Ring) (e : List Ecc) : List Nat → Buffers
  | [] => ⟨[], true, x, e, b⟩
  | k :: r =>
    let g := b.takePost s x e 65537
    match g.buf with
    | none => ⟨[], false, g.ring, g.rest, g.blk⟩
    | some buf =>
      let t := Blk.takeParts g.blk s g.ring g.rest r
      { t with parts := { part := k, buf := buf } :: t.parts }

/-- Bytes of a message that fall in part `k`. -/
def partBytes (len bs k : Nat) : Nat := min bs (len - k * bs)

/-- A part of a message being placed: the part, the outcomes of checks not used up, the block. -/
structure Placed where
  part : RxPart
  rest : List Ecc
  blk : Blk

/-- The bytes of a frame that fall in a part, placed in its buffer, and the part's count. -/
def Blk.placePart (b : Blk) (s : Nat) (x : Ring) (off : Nat) (r : Run) (fresh : Bool) (p : RxPart) (e : List Ecc) : Placed :=
  let bs := x.bsize
  let lo := max off (p.part * bs)
  let hi := min (off + r.bytes.length) ((p.part + 1) * bs)
  if hi ≤ lo then ⟨p, e, b⟩
  else
    let q := r.slice (lo - off) (hi - lo)
    let a := x.base 1 + p.buf * bs + lo % bs
    ⟨{ p with got := if fresh then p.got + (hi - lo) else p.got, bad := p.bad || q.anyBad }, e.drop (writeUses x.where_ a (hi - lo)),
      b.memWrite s x.where_ a q e⟩

/-- A frame's data placed in the buffers of its message; full buffers get their records, and the last ends the message; `e` is what the checks
of what is written in part find (12 R319). -/
def Blk.placeFrame (b : Blk) (s : Nat) (m : RxMsg) (off : Nat) (r : Run) (e : List Ecc) : Blk :=
  let x := b.ctl.ring m.ring
  let fresh := !m.seen.contains off
  let (parts, e, b) := m.parts.foldl (fun ((l, e, b) : List RxPart × List Ecc × Blk) p =>
    let q := b.placePart s x off r fresh p e
    (l ++ [q.part], q.rest, q.blk)) (([] : List RxPart), e, b)
  let full (p : RxPart) : Bool := decide (partBytes m.len x.bsize p.part ≤ p.got)
  let done := parts.filter full
  let keep := parts.filter fun p => !full p
  let seen := if fresh then off :: m.seen else m.seen
  let m := { m with parts := keep, seen := seen }
  let total := (m.len + x.bsize - 1) / x.bsize
  let recs := m.ended + done.length
  let m := { m with ended := recs }
  let b := b.onCtl fun c => c.setRx m
  let b := (done.zipIdx.foldl (fun ((e, b) : List Ecc × Blk) (p, i) =>
    b.writeCq s m.ring m p 0 (partBytes m.len x.bsize p.part) (decide (recs = total) && i + 1 == done.length) e) (e, b)).2
  if recs = total then
    b.onCtl fun c => { c with uam := { c.uam with rx := c.uam.rx.filter fun q => !(q.ctx == m.ctx && q.msn == m.msn) } }
  else b

/-- A frame whose message would open one more than 16,384 partly received is dropped unacknowledged (12 R316). -/
def Ctl.rxRoom (c : Ctl) (ctx msn : Nat) : Bool := (c.rxMsg ctx msn).isSome || decide (c.uam.rx.length < 16384)

/-- A ring accepts messages for stage `s`: enabled and in its range (12 R316). -/
def Ctl.ringOk (c : Ctl) (s n : Nat) : Bool := c.ownsRing s n && (c.ring n).on

/-- DATA_FRAME: a frame of a message into a ring: streamed data goes to granted buffers; eager data takes the buffers it needs, or
draws NO_BUF and ends the message. `e` is what the checks of the words and bursts read, and written in part, find (12 R303, R304, R316, R318 to
R321, 06 R150, 11 R280). -/
def execDataFrame (p : PortId) (w : List Byte) (k : RxInfo) (e : List Ecc) (s : State) : Host.Outcome State Fault Refusal :=
  s.on fun b =>
    match b.receive p 1 w k with
    | .stop b => b
    | .go b st f data =>
      let r := runOf data f.poison
      let take (b : Blk) : Blk := b.onCtl fun c => c.takePsn f.dstCtx f.psn
      let dropped (b : Blk) : Blk := b.onCtl fun c => c.bump (stagePage st) F.STAGE_RX_DROP_COUNT
      let noBuf (b : Blk) (e : List Ecc) : Blk := (b.refuse st f 1 e).onCtl fun c => c.bump (stagePage st) F.STAGE_RX_TRUNC_COUNT
      if b.inFault st then b.refuse st f 4 e
      else if !b.ctl.ringOk st f.ring then b.refuse st f 2 e
      else if !b.ctl.rxRoom f.dstCtx f.msn then dropped b
      else
        let x := b.ctl.ring f.ring
        let need := partsOf x.bsize f.off data.length
        match f.streamed, b.ctl.rxMsg f.dstCtx f.msn with
        | true, some m =>
          if f.off + data.length ≤ m.granted then take (b.placeFrame st { m with psn := f.psn } f.off r e) else dropped b
        | true, none => dropped b
        | false, old =>
          let m := old.getD { ctx := f.dstCtx, msn := f.msn, ring := f.ring, len := f.lenM1 + 1, user := BitVec.ofNat 32 f.aux }
          let m := { m with psn := f.psn }
          if m.streamed then take b
          else
            let b := b.onCtl fun c => if old.isNone then { c with uam := { c.uam with rx := c.uam.rx ++ [m] } } else c.setRx m
            let miss := need.filter fun i => !(m.parts.any fun q => q.part == i) && !m.seen.contains f.off
            if b.ctl.ringFree x < miss.length then noBuf b e
            else
              let g := b.takeParts st x e miss
              let m := { m with parts := m.parts ++ g.parts }
              let b := g.blk.onCtl fun c => c.setRing f.ring g.ring
              if g.all then take (b.placeFrame st m f.off r g.rest) else noBuf (b.onCtl fun c => c.setRx m) g.rest

/-- RTS_FRAME: a streamed message announced is queued on its ring; buffers that frames of it sent eager still hold are given up first. `e` is
what the checks of the records written find (12 R320, R321). -/
def execRtsFrame (p : PortId) (w : List Byte) (k : RxInfo) (e : List Ecc) (s : State) : Host.Outcome State Fault Refusal :=
  s.on fun b =>
    match b.receive p 4 w k with
    | .stop b => b
    | .go b st f _ =>
      if b.inFault st then b.refuse st f 4 e
      else if !b.ctl.ringOk st f.ring then b.refuse st f 2 e
      else if !b.ctl.rxRoom f.dstCtx f.msn then b.onCtl fun c => c.bump (stagePage st) F.STAGE_RX_DROP_COUNT
      else
        let m : RxMsg := { ctx := f.dstCtx, msn := f.msn, psn := f.psn, ring := f.ring, len := f.lenM1 + 1, user := BitVec.ofNat 32 f.aux
                           streamed := true }
        let queue (b : Blk) : Blk := b.onCtl fun c => { c with uam := { c.uam with rx := c.uam.rx ++ [m] } }
        let b := match b.ctl.rxMsg f.dstCtx f.msn with
          | none => queue b
          | some o => if o.streamed then b else queue (b.truncate st o e).2
        b.onCtl fun c => c.takePsn f.dstCtx f.psn

/-- A GRANT frame for a message partly received (12 R321). -/
def Ctl.sendGrant (c : Ctl) (m : RxMsg) : Ctl :=
  (c.setRx { m with told := m.granted }).ctxFrame m.ctx { ty := 5, msn := m.msn, off := m.granted, ring := m.ring }

/-- RING_GRANT: while FREE exceeds RESERVE, the ring's oldest streamed message not fully granted is granted one buffer; a GRANT
frame leaves on each 16 buffers. `e` is what the check of the entry read finds (12 R318, R321). -/
def execRingGrant (r : Fin 256) (e : List Ecc) (s : State) : Host.Outcome State Fault Refusal :=
  s.on fun b =>
    let x := b.ctl.ring r
    match b.ctl.ringStage r, b.ctl.uam.rx.find? fun m => m.ring == r.val && m.streamed && decide (m.granted < m.len) with
    | some st, some m =>
      if !x.on || decide (b.ctl.ringFree x ≤ x.reserve) then b
      else
        -- one post entry is consumed; a bad one yields no buffer
        let g := b.takePost st x e 1
        let b := g.blk.onCtl fun c => c.setRing r g.ring
        match g.buf with
        | none => b
        | some buf =>
          let m := { m with parts := m.parts ++ [{ part := m.granted / x.bsize, buf := buf }], granted := min m.len (m.granted + x.bsize) }
          let b := b.onCtl fun c => c.setRx m
          if 16 * x.bsize ≤ m.granted - m.told then b.onCtl fun c => c.sendGrant m else b
    | _, _ => b

/-- GRANT_TIMER: within 2 µs of a grant its GRANT frame leaves (12 R321). -/
def execGrantTimer (n : Fin 4096) (s : State) : Host.Outcome State Fault Refusal :=
  s.onCtl fun c => (c.uam.rx.filter fun m => m.ctx == n.val && decide (m.told < m.granted)).foldl (fun c m => c.sendGrant m) c

/-! ### Acknowledgement (12 R313 to R316) -/

/-- An acknowledged PSN: before `next`, or set in the SACK. -/
def isAcked (next sack psn : Nat) : Bool :=
  let d := (psn + 2 ^ 32 - next) % 2 ^ 32
  decide (2 ^ 31 ≤ d) || (decide (1 ≤ d ∧ d ≤ 64) && sack.testBit (d - 1))

/-- CWND after `n` frames acknowledged (12 R315); `fuel` bounds the growth. -/
def growCwnd : Nat → Nat → Nat → Nat × Nat
  | 0, w, g => (w, g)
  | k + 1, w, g => if w ≤ g ∧ w < 1024 then growCwnd k (w + 1) (g - w) else (w, g)

/-- ACK_FRAME: the window advances, CWND moves, frames a SACK shows missing are sent again, and messages complete. `halve`: no
halving within the last RTO_US; `gap`: no gap retransmission within it (12 R313 to R315). -/
def execAckFrame (p : PortId) (w : List Byte) (k : RxInfo) (halve gap : Bool) (e : List Ecc) (s : State) :
    Host.Outcome State Fault Refusal :=
  s.on fun b =>
    match b.receive p 2 w k with
    | .stop b => b
    | .go b _ f _ =>
      let n := f.dstCtx
      let x := b.ctl.ctx n
      let acked := x.unacked.filter fun u => isAcked f.psn f.aux u.psn
      let left := x.unacked.filter fun u => !isAcked f.psn f.aux u.psn
      let top := (List.range 64).foldl (fun m i => if f.aux.testBit i then i + 1 else m) 0
      let miss (u : TxFrame) : Bool := decide ((u.psn + 2 ^ 32 - f.psn) % 2 ^ 32 < top)
      let left := left.map fun u => { u with missing := miss u }
      let (w, g) := if f.ece then (if halve then max 1 (x.cwnd / 2) else x.cwnd, x.grown)
        else growCwnd 1024 x.cwnd (x.grown + acked.length)
      let x := { x with unacked := left, cwnd := w, grown := g, expiries := if acked.isEmpty then x.expiries else 0 }
      let b := b.onCtl fun c => (c.setCtx n x).forget
      let ids := (acked.map (·.msg)).eraseDups
      let b := ids.foldl (fun b id => match b.ctl.uam.tx.find? fun m => m.id == id with
        | some m => b.checkDone m
        | none => b) b
      if gap then
        (left.filter fun u => u.missing && decide ((u.psn + 2 ^ 32 - f.psn) % 2 ^ 32 + 3 ≤ top)).foldl (fun b u => b.resend n u e) b
      else b

/-- NAK_FRAME: a refused frame counts as acknowledged; NO_BUF backs its message off, any other reason fails it. Where the PSN is not
outstanding the MSN names the message: a ring that is disabled refuses messages whose frames it has acknowledged (12 R316, R317, R320). -/
def execNakFrame (p : PortId) (w : List Byte) (k : RxInfo) (s : State) : Host.Outcome State Fault Refusal :=
  s.on fun b =>
    match b.receive p 3 w k with
    | .stop b => b
    | .go b _ f _ =>
      let n := f.dstCtx
      let x := b.ctl.ctx n
      let msg (m : TxMsg) : Bool := match x.unacked.find? fun u => u.psn == f.psn with
        | some u => m.id == u.msg
        | none => m.ctx == n && m.msn == f.msn && m.op != 7
      let m := b.ctl.uam.tx.find? msg
      let b := b.onCtl fun c => (c.setCtx n { x with unacked := x.unacked.filter fun q => q.psn != f.psn }).forget
      match m with
      | none => b
      | some m =>
        if f.aux % 256 = 1 then
          if m.backoff then b else b.onCtl fun c => c.setMsg { m with backoff := true, nobuf := m.nobuf + 1 }
        else b.msgFail m (if f.aux % 256 = 2 then 2 else if f.aux % 256 = 3 then 3 else 4)

/-- GRANT_FRAME: the bytes a streamed message may send rise to those granted (12 R321). -/
def execGrantFrame (p : PortId) (w : List Byte) (k : RxInfo) (s : State) : Host.Outcome State Fault Refusal :=
  s.on fun b =>
    match b.receive p 5 w k with
    | .stop b => b
    | .go b _ f _ =>
      match b.ctl.uam.tx.find? fun m => m.ctx == f.dstCtx && m.msn == f.msn && m.streamed with
      | some m => b.onCtl fun c => c.setMsg { m with granted := max m.granted f.off }
      | none => b

/-- ACK_TIMER: 2 µs after the oldest frame not acknowledged, an ACK leaves (12 R313). -/
def execAckTimer (n : Fin 4096) (s : State) : Host.Outcome State Fault Refusal :=
  s.onCtl fun c => if (c.ctx n).rxOwed = 0 then c else c.sendAckFrame n

/-- RETX_TIMEOUT: nothing was acknowledged for the timeout, which doubles: the oldest frame and those the last SACK shows missing
are sent again and CWND halves (12 R314, R315). -/
def execRetxTimeout (n : Fin 4096) (e : List Ecc) (s : State) : Host.Outcome State Fault Refusal :=
  s.on fun b =>
    let x := b.ctl.ctx n
    match x.st, x.unacked with
    | 2, u :: rest =>
      let b := b.onCtl fun c => c.setCtx n { x with cwnd := max 1 (x.cwnd / 2), expiries := min 6 (x.expiries + 1) }
      (u :: rest.filter (·.missing)).foldl (fun b u => b.resend n u e) b
    | _, _ => b

/-- RNR_BACKOFF_EXPIRE: the message backing off on a context starts again from offset 0, streamed after three NO_BUF (12 R320). -/
def execRnrBackoffExpire (n : Fin 4096) (s : State) : Host.Outcome State Fault Refusal :=
  s.onCtl fun c =>
    match c.uam.tx.find? fun m => m.ctx == n.val && m.backoff with
    | some m => c.setMsg { m with backoff := false, next := 0, streamed := m.streamed || decide (3 ≤ m.nobuf) }
    | none => c

/-- The frame context `n` may send now, if there is one: its message, type, offset and bytes. CWND and 1,024 bound the frames unacknowledged
(12 R311, R313, R321). -/
def Ctl.sendable (c : Ctl) (n : Nat) : Option (TxMsg × Nat × Nat × Nat) :=
  let x := c.ctx n
  if x.st ≠ 2 ∨ min 1024 x.cwnd ≤ x.unacked.length then none
  else (c.uam.tx.filter fun m => m.ctx == n).findSome? fun m => (m.nextFrame x.payload).map fun q => (m, q)

/-- Bytes on the wire of the frame context `n` may send now; `e` is what the checks of its source find. -/
def Blk.sendBytes (b : Blk) (n : Nat) (e : List Ecc) : Nat :=
  match b.ctl.sendable n with
  | some (m, ty, off, len) => (b.ctl.ctxWire n (b.buildFrame m ty (b.ctl.ctx n).txPsn off len false e).1).length
  | none => 0

/-- The contexts of port `p` that have a frame to send: stage, context, bytes; `e` is what the checks find for context `n`'s. -/
def Blk.sendersAt (b : Blk) (p n : Nat) (e : List Ecc) : List (Nat × Nat × Nat) :=
  b.ctl.uam.ctxs.filterMap fun (k, x) =>
    if x.port = p ∧ (b.ctl.sendable k).isSome then (b.ctl.ctxStage k).map fun s => (s, k, b.sendBytes k (if k = n then e else [])) else none

/-- The arbiters after context `n` sends, if its frame may go now: on a link that is up when it is its stage's and its own turn at the port, on
one that is down while the egress queue has room (12 R300, R330). -/
def Blk.sendTurn (b : Blk) (n : Nat) (e : List Ecc) : Option Arbs :=
  let p := (b.ctl.ctx n).port
  if b.ctl.linkUp p then
    match b.ctl.egressPick p (b.sendersAt p n e) with
    | some (_, k, a) => if k = n then some a else none
    | none => none
  else
    let s := (b.ctl.ctxStage n).getD 12
    let used := b.ctl.uam.held.foldl (fun z g => if g.port = p ∧ g.stage = s then z + g.bytes.length else z) 0
    if used + b.sendBytes n e ≤ 2 ^ 18 then some b.ctl.arbs else none

/-- FRAME_SEND: the rim sends the next frame a message of the context may send, when it is its turn at the port (12 R311, R313, R321, R330). -/
def execFrameSend (n : Fin 4096) (e : List Ecc) (s : State) : Host.Outcome State Fault Refusal :=
  s.on fun b =>
    match b.ctl.sendable n, b.sendTurn n e with
    | some (m, ty, off, len), some a => (b.onCtl fun c => { c with arbs := a }).sendNext m ty off len e
    | _, _ => b

/-! ### Windows (12 R322 to R324) -/

/-- A window of stage `s` admits `len` bytes at `off` with the right bit `right` (30 read, 29 write, 28 add) (12 R323). -/
def Ctl.windowOk (c : Ctl) (s n right off len : Nat) : Bool :=
  let w := c.window s n
  bit (w.getD 0 0) 31 && bit (w.getD 0 0) right && decide (off + len ≤ rec64 w 3)

/-- Base stage address of a window. -/
def Ctl.windowBase (c : Ctl) (s n : Nat) : Nat := rec64 (c.window s n) 1

/-- A window operation refused: counted once per operation (12 R323). -/
def Blk.refuseWindow (b : Blk) (s : Nat) (f : Frame) : Blk :=
  let b := b.refuse s f 3 []
  if f.off = 0 then b.onCtl fun c => c.bump (stagePage s) F.STAGE_WIN_REFUSED_COUNT else b

/-- A window operation served: counted once per operation. -/
def Blk.serveWindow (b : Blk) (s : Nat) (f : Frame) : Blk :=
  let b := b.onCtl fun c => c.takePsn f.dstCtx f.psn
  if f.off = 0 then b.onCtl fun c => c.bump (stagePage s) F.STAGE_WIN_SERVED_COUNT else b

/-- The rows a gather engine's WREAD asks for, in request order: local row i at window offset i times the row length (09 R232). -/
def Blk.readRows (b : Blk) (s base row : Nat) (e : List Ecc) : List Nat → Run × Blk
  | [] => ({}, b)
  | i :: r =>
    let (x, b) := b.stgRead s (base + i * row) row e
    let (y, b) := Blk.readRows b s base row (e.drop (readUses none (base + i * row) row)) r
    (x.append y, b)

/-- WREAD_FRAME: a peer's read of a window is served: its reply is queued as RRESP frames; a request with row indices reads those
rows (12 R323, 09 R232). -/
def execWreadFrame (p : PortId) (w : List Byte) (k : RxInfo) (e : List Ecc) (s : State) : Host.Outcome State Fault Refusal :=
  s.on fun b =>
    match b.receive p 6 w k with
    | .stop b => b
    | .go b st f data =>
      let w := f.ring % 16
      let len := f.lenM1 + 1
      let ids := toWords 8 data
      let row := if ids.isEmpty then 0 else len / ids.length
      let ok := if ids.isEmpty then b.ctl.windowOk st w 30 f.aux len else ids.all fun i => b.ctl.windowOk st w 30 (i * row) row
      if b.inFault st then b.refuse st f 4 []
      else if !ok then b.refuseWindow st f
      else
        let base := b.ctl.windowBase st w
        let (rows, b) := b.readRows st base row e ids
        let m : TxMsg := { stage := st, ctx := f.dstCtx, op := 7, len := len, who := .serve
                           srcKind := if ids.isEmpty then 1 else 0, src := base + f.aux, inline := rows, id := b.ctl.uam.nextId, msn := f.msn }
        let b := b.onCtl fun c => { c with uam := { c.uam with tx := c.uam.tx ++ [m], nextId := c.uam.nextId + 1 } }
        b.serveWindow st f

/-- RRESP_FRAME: a reply's frame is placed at DST + OFFSET; with the last byte the read completes (12 R312, R323). -/
def execRrespFrame (p : PortId) (w : List Byte) (k : RxInfo) (e : List Ecc) (s : State) : Host.Outcome State Fault Refusal :=
  s.on fun b =>
    match b.receive p 7 w k with
    | .stop b => b
    | .go b st f data =>
      let b' := b.onCtl fun c => c.takePsn f.dstCtx f.psn
      match b.inFault st, b'.ctl.uam.tx.find? fun m => m.op == 2 && m.ctx == f.dstCtx && m.msn == f.msn with
      | true, _ => b.refuse st f 4 e
      | false, none => b'
      | false, some m =>
        let b := b'
        let r := runOf data f.poison
        let (b, m) : Blk × TxMsg := match m.who with
          | .gatherRead _ _ =>
            (b, { m with inline := ((m.inline.slice 0 f.off).append r).append (m.inline.slice (f.off + data.length) m.len) })
          | _ => (b.memWrite m.stage (if m.dstKind = 2 then some m.dstTile else none) (m.dst + f.off) r e, m)
        let m := { m with placed := m.placed + data.length }
        let b := b.onCtl fun c => c.setMsg m
        if m.len ≤ m.placed then b.msgDone m else b

/-- WWRITE_FRAME: a frame of a peer's write is written into the window (12 R323, R324). -/
def execWwriteFrame (p : PortId) (w : List Byte) (k : RxInfo) (e : List Ecc) (s : State) : Host.Outcome State Fault Refusal :=
  s.on fun b =>
    match b.receive p 8 w k with
    | .stop b => b
    | .go b st f data =>
      let w := f.ring % 16
      if b.inFault st then b.refuse st f 4 []
      else if !b.ctl.windowOk st w 29 f.aux (f.lenM1 + 1) then b.refuseWindow st f
      else (b.stgWrite st (b.ctl.windowBase st w + f.aux + f.off) (runOf data f.poison) e).serveWindow st f

/-- Adds of at most 1,024 bytes, each within one granule, at stage address `a`; a controller that is not ready answers with an error (12 R323, 11
R273); `fuel` bounds them. -/
def Blk.addPieces (b : Blk) (s a : Nat) (bf16 : Bool) (r : Run) (e : List Ecc) : Nat → Nat → Blk
  | 0, _ => b
  | k + 1, off =>
    let n := min (min 1024 (r.bytes.length - off)) (4096 - (a + off) % 4096)
    if n = 0 then b
    else
      let b := match b.ctl.stageAddr s (a + off) with
        | some (h, l) =>
          if b.ctl.stackReady h then (b.stackAdd h l bf16 (r.slice off n) e).onCtl fun c => c.bump (hbmPage h) F.HBM_ADDS_COUNT
          else b.onCtl fun c => c.notReady h
        | none => b
      Blk.addPieces b s a bf16 r (e.drop (readUses none (a + off) n)) k (off + n)

/-- WADD_FRAME: a frame of a peer's adds is applied in the window (12 R323, 11 R283). -/
def execWaddFrame (p : PortId) (w : List Byte) (k : RxInfo) (e : List Ecc) (s : State) : Host.Outcome State Fault Refusal :=
  s.on fun b =>
    match b.receive p 9 w k with
    | .stop b => b
    | .go b st f data =>
      let w := f.ring % 16
      if b.inFault st then b.refuse st f 4 []
      else if !b.ctl.windowOk st w 28 f.aux (f.lenM1 + 1) then b.refuseWindow st f
      else (b.addPieces st (b.ctl.windowBase st w + f.aux + f.off) (f.elem == 1) (runOf data f.poison) e 300 0).serveWindow st f

/-- MARK_FRAME: a mark of the peer's stream is stored in RX_MARK (12 R328). -/
def execMarkFrame (p : PortId) (w : List Byte) (k : RxInfo) (e : List Ecc) (s : State) : Host.Outcome State Fault Refusal :=
  s.on fun b =>
    match b.receive p 0xA w k with
    | .stop b => b
    | .go b st f _ =>
      if b.inFault st then b.refuse st f 4 e
      else b.onCtl fun c => (c.setCtx f.dstCtx { c.ctx f.dstCtx with rxMark := BitVec.ofNat 32 f.aux }).takePsn f.dstCtx f.psn

/-! ### Opening and closing (12 R307) -/

/-- OPEN_FRAME: an OPENING context becomes OPEN; an OPEN one restarts, its outstanding messages failing with reason 6; OPEN_ACK is
answered (12 R307). -/
def execOpenFrame (p : PortId) (w : List Byte) (k : RxInfo) (s : State) : Host.Outcome State Fault Refusal :=
  s.on fun b =>
    match b.receive p 0xB w k with
    | .stop b => b
    | .go b _ f _ =>
      let n := f.dstCtx
      let b := if (b.ctl.ctx n).st = 2 then (b.ctxDrain n 6).onCtl fun c => (c.setCtx n ((c.ctx n).restart 2)).forget else b.ctxOpened n
      b.onCtl fun c => c.ctxFrame n { ty := 0xC }

/-- OPEN_ACK_FRAME: an OPENING context becomes OPEN (12 R307). -/
def execOpenAckFrame (p : PortId) (w : List Byte) (k : RxInfo) (s : State) : Host.Outcome State Fault Refusal :=
  s.on fun b =>
    match b.receive p 0xC w k with
    | .stop b => b
    | .go b _ f _ => if (b.ctl.ctx f.dstCtx).st = 1 then b.ctxOpened f.dstCtx else b

/-- OPEN_RESEND: an OPENING context sends its OPEN frame again every millisecond (12 R307). -/
def execOpenResend (n : Fin 4096) (s : State) : Host.Outcome State Fault Refusal :=
  s.onCtl fun c => if (c.ctx n).st = 1 then c.ctxFrame n { ty := 0xB } else c

/-- One more of Miryn's answers that `key` numbers within this second of reel time, of `limit`; none where they are used up (12 R299, 17 R467). -/
def Ctl.answer (c : Ctl) (key limit : Nat) : Option Ctl :=
  let sec := c.reel / 1000000000
  let rate := if SMap.get 0 c.mgmt.rate 16 = sec then c.mgmt.rate else SMap.set 0 [] 16 sec
  let n := SMap.get 0 rate key
  if limit ≤ n then none else some { c with mgmt := { c.mgmt with rate := SMap.set 0 rate key (n + 1) } }

/-- ADDRESS_REQUEST: an ARP request or Neighbor Solicitation for the port's address is answered by Miryn, up to 1,000 in a second of reel time;
an excess one is counted in RX_OTHER (12 R299). -/
def execAddressRequest (p : PortId) (w : List Byte) (k : RxInfo) (s : State) : Host.Outcome State Fault Refusal :=
  s.onCtl fun c =>
    match c.arrival p w with
    | .address =>
      let c := c.rxCount p k
      match c.mirynUp, c.answer (32 + p) 1000 with
      | true, some c => { c.bump (portPage p) F.PORT_TX_FRAMES_COUNT with out := c.out ++ [.addressReply p] }
      | _, _ => c.bump (portPage p) F.PORT_RX_OTHER_COUNT
    | _ => c

/-- OTHER_FRAME: a frame that fails one of the steps 1 to 3 is dropped and counted (12 R299, R304). -/
def execOtherFrame (p : PortId) (w : List Byte) (k : RxInfo) (s : State) : Host.Outcome State Fault Refusal :=
  s.onCtl fun c => c.rxDrop p k (c.arrival p w)

/-! ### Send requests (12 R309, R310) -/

/-- A source or destination of a request lies in the stage: HBM within its capacity, or a good tile of it within the scratchpad. -/
def Ctl.areaOk (c : Ctl) (s kind a tile len : Nat) : Bool :=
  if kind = 1 then decide (a + len ≤ c.stageBytes s)
  else decide (tile < 1920) && c.tileStage tile == some s && c.tileGood tile && decide (a % 2 ^ 32 + len ≤ spBytes tile)

/-- A request as a transfer carries it: its words (12 R309). -/
def reqWords (r : Run) : List Word := (toWords 4 (r.slice 0 64).bytes).map (BitVec.ofNat 32)

/-- The data that follows a request. -/
def reqInline (r : Run) : Run := r.slice 64 (r.bytes.length - 64)

/-- OP of a request. -/
def reqOp (r : Run) : Nat := bits ((reqWords r).getD 0 0) 31 28

/-- The checks of R310 on a request that reaches port `p` from stage `s`. DST_KIND belongs to a WREAD, a source to SEND, WWRITE and WADD (log
54). -/
def Ctl.requestOk (c : Ctl) (s p : Nat) (r : Run) : Bool :=
  let w (i : Nat) : Word := (reqWords r).getD i 0
  let op := reqOp r
  let srcKind := bits (w 0) 27 26
  let dstKind := bits (w 0) 25 24
  let ctx := bits (w 0) 11 0
  let len := bits (w 1) 23 0 + 1
  let sends := op == 1 || op == 3 || op == 4
  decide (64 ≤ r.bytes.length) && !(r.slice 0 64).anyBad && decide (1 ≤ op ∧ op ≤ 5) &&
  (if sends then srcKind != 3 else srcKind == 0) && (if op = 2 then dstKind == 1 || dstKind == 2 else dstKind == 0) &&
  c.ownsCtx s ctx && (c.ctx ctx).port == p &&
  (!sends || (if srcKind = 0 then (reqInline r).bytes.length == len
    else c.areaOk s srcKind (rec64 (reqWords r) 2 % (if srcKind = 2 then 2 ^ 32 else 2 ^ 64)) (bits (w 3) 10 0) len)) &&
  (op != 2 || c.areaOk s dstKind (rec64 (reqWords r) 6 % (if dstKind = 2 then 2 ^ 32 else 2 ^ 64)) (bits (w 7) 10 0) len) &&
  (!(bit (w 8) 31 && !bit (w 8) 30) || (decide (bits (w 8) 29 19 < 1920) && c.tileStage (bits (w 8) 29 19) == some s)) &&
  (op != 4 || len % 32 == 0)

/-- The message a request asks for. -/
def requestMsg (c : Ctl) (s : Nat) (r : Run) : TxMsg :=
  let ws := reqWords r
  let w (i : Nat) : Word := ws.getD i 0
  let op := reqOp r
  let srcKind := bits (w 0) 27 26
  let dstKind := bits (w 0) 25 24
  let ctx := bits (w 0) 11 0
  let len := bits (w 1) 23 0 + 1
  { stage := s, ctx := ctx, op := op, len := len, enc := bits (w 1) 30 28, elem := ofBool (bit (w 1) 31), win := bits (w 0) 23 20
    ring := bits (w 0) 19 12, srcKind := srcKind, src := if srcKind = 2 then (w 2).toNat else rec64 ws 2, srcTile := bits (w 3) 10 0
    inline := reqInline r, roff := rec64 ws 4, dstKind := dstKind, dst := if dstKind = 2 then (w 6).toNat else rec64 ws 6
    dstTile := bits (w 7) 10 0, comp := w 8, user := w 9
    streamed := op == 1 && decide (bits ((c.ctx ctx).w 0) 23 16 * 4096 < len) }

/-- The transfer a mover handed to the endpoint of a port, if item `i` is one: stage, port, packet (12 R309, 10 R253). -/
def Ctl.portItem (c : Ctl) (i : Nat) : Option (Nat × Nat × Pkt) :=
  match c.atRim i with
  | some (s, e, .pkt k) => if 0x10 ≤ e ∧ e < 0x20 ∧ k.kind = 0 then some (s, e - 0x10, k) else none
  | _ => none

/-- The rim acknowledges a transfer it took, with or without error (12 R309, R310). -/
def Ctl.ackRequest (c : Ctl) (k : Pkt) (err : Bool) : Ctl :=
  c.msgFromRim k.src { type := 9, src := 2047, arg := ackArg k.stream k.seq, value := ofBool err }

/-- A request at a port's endpoint is taken: refused with an error acknowledgement, or acknowledged and handed to `queue` with its message, whose
context is OPEN; on a context that is not OPEN it fails at once. While `room` is false it waits under credit (12 R309, R310, R312). -/
def Blk.takeRequest (b : Blk) (i : Nat) (mine : Nat → Bool) (room : Ctl → Nat → Bool) (queue : Blk → TxMsg → Blk) : Blk :=
  match b.ctl.portItem i with
  | some (s, p, k) =>
    if !mine (reqOp k.run) || !room b.ctl s then b
    else
      let ack (err : Bool) (b : Blk) : Blk := b.onCtl fun c => c.ackRequest k err
      let b := b.onCtl fun c => c.takeNet i
      if k.void then ack false b
      else if !b.ctl.requestOk s p k.run then
        ack true (b.onCtl fun c => (c.bump (stagePage s) F.STAGE_UAM_REFUSED_COUNT).errHw (stagePage s) 0x1A)
      else
        let m := requestMsg b.ctl s k.run
        let x := b.ctl.ctx m.ctx
        ack false (if x.st ≠ 2 then b.failed { m with msn := x.txMsn, who := .request } 1 else queue b m)
  | none => b

/-- A request queued as a message. -/
def Blk.queueRequest (b : Blk) (m : TxMsg) : Blk := b.onCtl fun c => c.queueMsg m

/-- SEND_REQUEST: also takes a request of no known OP, which is refused, and a void transfer, which asks for nothing (12 R309, R310, 07 R166). -/
def execSendRequest (i : Nat) (s : State) : Host.Outcome State Fault Refusal :=
  s.on fun b => b.takeRequest i (fun op => op == 1 || op == 0 || decide (5 < op)) (fun c _ => c.txRoom) Blk.queueRequest

/-- WREAD_REQUEST (12 R309). -/
def execWreadRequest (i : Nat) (s : State) : Host.Outcome State Fault Refusal :=
  s.on fun b => b.takeRequest i (· == 2) (fun c _ => c.txRoom) Blk.queueRequest

/-- WWRITE_REQUEST (12 R309). -/
def execWwriteRequest (i : Nat) (s : State) : Host.Outcome State Fault Refusal :=
  s.on fun b => b.takeRequest i (· == 3) (fun c _ => c.txRoom) Blk.queueRequest

/-- WADD_REQUEST (12 R309). -/
def execWaddRequest (i : Nat) (s : State) : Host.Outcome State Fault Refusal :=
  s.on fun b => b.takeRequest i (· == 4) (fun c _ => c.txRoom) Blk.queueRequest

/-- A mark requested: it waits for every granule dirty now to be sent and acknowledged, and for the copies on their way now (12 R328). -/
def Blk.addMark (b : Blk) (s : Nat) (num comp : Word) : Blk :=
  let flying := b.ctl.uam.tx.filterMap fun m => match m.who with | .mirror _ => if m.stage = s then some m.id else none | _ => none
  let k : Mark := { num := num, dirty := b.dirtyList s, wait := flying, comp := comp }
  b.onCtl fun c => (c.setMarks s (c.marks s ++ [k])).nextMark s

/-- MARK_REQUEST: a MARK send request queues a mirror mark; a fifth waits (12 R309, R328). -/
def execMarkRequest (i : Nat) (s : State) : Host.Outcome State Fault Refusal :=
  s.on fun b => b.takeRequest i (· == 5) (fun c st => c.txRoom && decide ((c.marks st).length < 4)) fun b m => b.addMark m.stage m.user m.comp

/-! ### UCFG (12 R306, R307, R317, R322, R325) -/

/-- The record words UCFG_DATA holds. -/
def Ctl.ucfgData (c : Ctl) (s : Nat) : List Word := (List.range 16).map fun n => c.rd (stagePage s + 0x140 + 4 * n)

/-- A ring record is valid for stage `s` (12 R317). -/
def Ctl.ringRecOk (c : Ctl) (s : Nat) (ws : List Word) : Bool :=
  let x : Ring := { words := ws }
  let size := if x.local then spBytes x.tile else c.stageBytes s
  let tileOk := !x.local || (decide (x.tile < 1920) && c.tileStage x.tile == some s && c.tileGood x.tile)
  decide (bits (x.w 0) 29 27 ≤ 4) && tileOk && decide (64 ≤ x.count) && x.base 1 % 64 == 0 &&
  decide (x.base 1 + x.count * x.bsize ≤ size) && decide (x.base 3 + 4 * x.count ≤ size) && decide (x.base 5 + 16 * x.count ≤ size) &&
  decide (x.reserve ≤ x.count / 2) && c.ownsSlate s x.slate

/-- Why a UCFG command is dropped, if it is: 0x17, 0x18 or 0x19 (12 R306, R307, R317, R322, R325). -/
def Ctl.ucfgCheck (c : Ctl) (s cmd : Nat) : Option Nat :=
  let p := stagePage s
  let kind := c.get p F.STAGE_UCFG_SEL_KIND
  let n := c.get p F.STAGE_UCFG_SEL_INDEX
  let ws := c.ucfgData s
  let w (i : Nat) : Word := ws.getD i 0
  let inside := match kind with
    | 0 => c.ownsCtx s n
    | 1 => c.ownsRing s n
    | 2 => decide (n < 16)
    | _ => decide (n < 64)
  if c.flag p F.STAGE_UCFG_CMD_BUSY then some 0x19
  else if !inside then some 0x17
  else if cmd = 2 then
    match kind with
    | 0 =>
      let st := (c.ctx n).st
      if st = 1 ∨ st = 2 then some 0x19
      else if bits (w 0) 27 26 = 3 ∨ !(c.get p F.STAGE_PORT_MASK_PORTS).testBit (bits (w 0) 31 28) ∨ bits (w 7) 15 0 = 0 ∨
          bits (w 8) 31 24 = 0 ∨ bits (w 8) 15 0 = 0 then some 0x18
      else none
    | 1 =>
      if !bit (w 0) 31 then none
      else if (c.ring n).on then some 0x19
      else if !c.ringRecOk s ws then some 0x18
      else none
    | 2 =>
      if rec64 ws 1 % 64 ≠ 0 ∨ rec64 ws 3 % 64 ≠ 0 ∨ rec64 ws 3 = 0 ∨ c.stageBytes s < rec64 ws 1 + rec64 ws 3 then some 0x18 else none
    | _ =>
      if c.flag p F.STAGE_MIRROR_CTRL_EN then some 0x19
      else if rec64 ws 1 % 4096 ≠ 0 ∨ rec64 ws 3 % 4096 ≠ 0 ∨ rec64 ws 3 = 0 ∨ rec64 ws 5 % 64 ≠ 0 then some 0x18
      else none
  else if cmd = 3 then (if kind ≠ 0 ∨ (c.ctx n).st = 1 ∨ (c.ctx n).st = 2 then some 0x19 else none)
  else if cmd = 4 then (if kind ≠ 0 then some 0x19 else none)
  else none

/-- Words of a record with their reserved bits 0 (12 R306, R317, R322, R325). -/
def maskWords (ms : List Word) (ws : List Word) : List Word := ms.zipIdx.map fun (m, i) => m &&& ws.getD i 0

/-- The record a UCFG READ copies (12 R306, R317, R318). -/
def Ctl.ucfgRecord (c : Ctl) (s kind n : Nat) : List Word :=
  match kind with
  | 0 =>
    let x := c.ctx n
    (List.range 9).map x.w ++ [0, BitVec.ofNat 32 (x.st * 2 ^ 30 + x.failWhy * 2 ^ 20 + x.failMsn),
      BitVec.ofNat 32 (x.fails * 2 ^ 16 + x.cwnd), x.rxMark]
  | 1 =>
    let x := c.ring n
    (List.range 10).map x.w ++ [BitVec.ofNat 32 x.consumed, BitVec.ofNat 32 (x.badPost * 2 ^ 17 + (if x.on then min 65536 (c.ringFree x) else 0))]
  | 2 => c.window s n
  | _ => c.region s n

/-- A UCFG command that passed its checks: READ, WRITE, OPEN or CLOSE takes effect; BUSY is set (12 R306, R307). -/
def Blk.ucfgDo (b : Blk) (s cmd : Nat) : Blk :=
  let p := stagePage s
  let c := b.ctl
  let kind := c.get p F.STAGE_UCFG_SEL_KIND
  let n := c.get p F.STAGE_UCFG_SEL_INDEX
  let ws := c.ucfgData s
  let busy (b : Blk) : Blk := b.onCtl fun c => c.put p F.STAGE_UCFG_CMD_BUSY 1
  match cmd with
  | 1 =>
    let r := c.ucfgRecord s kind n
    busy (b.onCtl fun c => (List.range 16).foldl (fun c i => c.wr (p + 0x140 + 4 * i) (r.getD i 0)) c)
  | 2 =>
    match kind with
    | 0 =>
      let ms : List Word := [0xFFFF0FFF, 0xFFFFFFFF, 0xFFFFFFFF, 0xFFFFFFFF, 0xFFFFFFFF, 0xFFFFFFFF, 0xFFFFFFFF, 0xFCFFFFFF, 0xFF00FFFF]
      busy (b.onCtl fun c => c.setCtx n { c.ctx n with words := maskWords ms ws })
    | 1 =>
      let ms : List Word := [0xFFFFFFFF, 0xFFFFFFFF, 0xFFFFFFFF, 0xFFFFFFFF, 0xFFFFFFFF, 0xFFFFFFFF, 0xFFFFFFFF, 0xFFFF03FF, 0xFFF803FF, 0xFFF803FF]
      let x : Ring := { words := maskWords ms ws }
      let b := b.onCtl fun c =>
        let c := (c.uam.rx.filter fun m => m.ring == n).foldl (fun c m => c.sendNak m.ctx m.psn m.msn 2) c
        { c with uam := { c.uam with rx := c.uam.rx.filter fun m => m.ring != n } }
      busy (b.onCtl fun c => c.setRing n (if x.on then { x with consumed := (c.rimSlate x.slate).count } else { c.ring n with words := x.words }))
    | 2 =>
      let ms : List Word := [0xF0000000, 0xFFFFFFFF, 0xFFFFFFFF, 0xFFFFFFFF, 0xFFFFFFFF]
      busy (b.onCtl fun c => { c with uam := { c.uam with wins := SMap.set [] c.uam.wins (16 * s + n) (maskWords ms ws) } })
    | _ =>
      let ms : List Word := [0x8000000F, 0xFFFFFFFF, 0xFFFFFFFF, 0xFFFFFFFF, 0xFFFFFFFF, 0xFFFFFFFF, 0xFFFFFFFF]
      busy (b.onCtl fun c => { c with uam := { c.uam with regions := SMap.set [] c.uam.regions (64 * s + n) (maskWords ms ws) } })
  | 3 => busy (b.onCtl fun c => (c.setCtx n ((c.ctx n).restart 1)).forget.ctxFrame n { ty := 0xB })
  | 4 => busy (b.ctxStop n 0)
  | _ => b

/-- UCFG_CMD_COMPLETE: within 2 µs a UCFG command completes and BUSY clears (12 R306). -/
def execUcfgCmdComplete (st : StageId) (s : State) : Host.Outcome State Fault Refusal :=
  s.onCtl fun c => c.put (stagePage st) F.STAGE_UCFG_CMD_BUSY 0

/-! ### The mirror stream (12 R325 to R329) -/

/-- Why setting MIRROR_CTRL.EN is rejected with code 0x1C, if it is (12 R326). -/
def Ctl.mirrorBad (c : Ctl) (s ctx : Nat) : Bool :=
  let cap := c.stageBytes s
  let map := c.mirrorMap s
  let size := (cap / 4096 + 7) / 8
  !c.ownsCtx s ctx ||
  (List.range 64).any fun n =>
    let r := c.region s n
    bit (r.getD 0 0) 31 && (decide (cap < rec64 r 1 + rec64 r 3) || (decide (map < rec64 r 1 + rec64 r 3) && decide (rec64 r 1 < map + size)))

/-- The mirror stream of a stage switched on: every region granule dirty (12 R326). -/
def Blk.mirrorStart (b : Blk) (s : Nat) : Blk := b.mirrorAll s

/-- MIRROR_GRANULE_SEND: the engine clears the next set bit, in ascending order and round again, and sends its granule as a WWRITE
to the peer's window, while one more message may be in flight; with the last bit RESYNC clears. With none set a mark that waits for room leaves
(12 R312, R327 to R329). -/
def execMirrorGranuleSend (st : StageId) (s : State) : Host.Outcome State Fault Refusal :=
  s.on fun b =>
    let p := stagePage st
    let n := b.ctl.mirrorCtx st
    if !b.ctl.flag p F.STAGE_MIRROR_CTRL_EN || (b.ctl.ctx n).st != 2 || !b.ctl.txRoom then b
    else
      let l := b.dirtyList st
      let at_ := SMap.get 0 b.ctl.uam.scan st
      match (l.find? fun g => decide (at_ ≤ g)).or l.head? with
      | none => (b.onCtl fun c => c.nextMark st).resynced st
      | some g =>
        let reg := (List.range 64).find? fun i =>
          let r := b.ctl.region st i
          bit (r.getD 0 0) 31 && decide (rec64 r 1 ≤ g * 4096) && decide (g * 4096 < rec64 r 1 + rec64 r 3)
        match reg with
        | none => b
        | some i =>
          let r := b.ctl.region st i
          let b := b.setDirty st g false
          let b := b.onCtl fun c =>
            let c := { c with uam := { c.uam with scan := SMap.set 0 c.uam.scan st (g + 1) } }
            let c := c.markSent st g c.uam.nextId
            c.queueMsg { stage := st, ctx := n, op := 3, len := 4096, win := bits (r.getD 0 0) 3 0, srcKind := 1, src := g * 4096
                         roff := rec64 r 5 + (g * 4096 - rec64 r 1), who := .mirror g }
          b.resynced st

end Sys2Proof.Machine
end

