-- ==== Sys2Proof/Machine/Scratchpad.lean ====
section
/-!
DEFINITION. The scratchpad's ports, returns, merges, write-backs and scrubber, remote accesses and indirect commands (06).
-/
namespace Sys2Proof.Machine

/-! ### Arbitration (06 R140 to R148) -/

/-- The bank of a word: (row + column) mod 16 (06 R140). -/
def bankOf (w : Nat) : Nat := (w / 16 + w % 16) % 16

/-- A request is the write-back of a word (06 R150). -/
def SpReq.isBack (r : SpReq) : Bool := match r.who with | .writeback _ => true | _ => false

/-- A write that needs the stored bytes of its word (06 R145). -/
def SpReq.partialWr (r : SpReq) : Bool := r.wr && !r.wide && !r.isBack && r.run.bytes.length != 32

/-- A request competes for the read port: a read, or the read half of a merge (06 R145). -/
def SpReq.onRead (r : SpReq) : Bool := !r.wr || r.partialWr

/-- The words a request touches: one, an aligned row's sixteen, or sixteen of a column (06 R142). -/
def SpReq.words (r : SpReq) : List Nat :=
  if !r.wide then [r.word] else (List.range 16).map fun i => r.word + (if r.col then 16 * i else i)

/-- What a unit presents, as a request at a port: its data moves at the unit's own command (06 R146). -/
def PortReq.req (o : PortReq) : SpReq :=
  { wr := o.unit.wr, wide := o.unit.wide, col := o.col, rank := o.unit.rank, who := .unit o.unit, word := o.word
    run := zeroRun (if o.part then 1 else 32) }

/-- A candidate for a port: the request's place in the list, wide, rank, bank, place among the promoted, source of a remote access. -/
structure Cand where
  idx : Nat
  wide : Bool
  rank : Nat
  bank : Nat
  promo : Option Nat
  src : Option Nat

/-- Insert by a key, after those with the same key. -/
def insertBy {α : Type} (key : α → Nat) (x : α) : List α → List α
  | [] => [x]
  | y :: r => if key x < key y then x :: y :: r else y :: insertBy key x r

/-- Sort by a key, equal keys in their order. -/
def sortBy {α : Type} (key : α → Nat) (l : List α) : List α := l.foldl (fun r x => insertBy key x r) []

/-- The remote source of a request, if it is a remote access. -/
def SpReq.src (r : SpReq) : Option Nat := match r.who with | .remote s _ => some s | _ => none

/-- Candidates of one port: the tile's requests, less writes to a word between the two grants of a merge (06 R145). -/
def candsOf (x : Tile) (read : Bool) : List Cand :=
  let mine := x.sp.reqs.zipIdx.filter fun (r, _) =>
    r.onRead == read && !(r.wr && x.sp.merges.any fun m => r.words.contains m.word)
  mine.map fun (r, i) => ⟨i, r.wide, r.rank, bankOf r.word, r.promo, r.src⟩

/-- Narrow grants in order: each whose bank is still free of `held` and of those granted; at most two remote accesses of one source (06 R141,
R153). -/
def narrowGrants (held : List Nat) : List Cand → List Cand → List Cand
  | [], got => got
  | c :: r, got =>
    let busy := held.contains c.bank || got.any fun g => g.bank == c.bank
    let many := c.src.isSome && decide (2 ≤ (got.filter fun g => g.src == c.src).length)
    narrowGrants held r (if busy || many then got else got ++ [c])

/-- What one port grants in a tile cycle whose banks `held` are taken in a narrow cycle (06 R146, R148). -/
def portGrant (held : List Nat) (cs : List Cand) : List Cand :=
  let prom := sortBy (fun c => c.promo.getD 0) (cs.filter fun c => c.promo.isSome)
  let rest := cs.filter fun c => c.promo.isNone
  let narrow := sortBy (·.rank) (rest.filter fun c => !c.wide)
  match prom with
  | p :: _ => if p.wide then [p] else narrowGrants held ((prom.filter fun c => !c.wide) ++ narrow) []
  | [] =>
    match sortBy (·.rank) (rest.filter (·.wide)) with
    | w :: _ => [w]
    | [] => narrowGrants held narrow []

/-- The banks that the write halves of merges take in a cycle free of a wide write (06 R145). -/
def Tile.mergeBanks (x : Tile) : List Nat := x.sp.merges.map fun m => bankOf m.word

/-- What the read port grants. -/
def Tile.readGrants (x : Tile) : List Cand := portGrant [] (candsOf x true)

/-- What the write port grants. -/
def Tile.writeGrants (x : Tile) : List Cand := portGrant x.mergeBanks (candsOf x false)

/-- A granted read captures the words as they stand (06 R144). -/
def Tile.capture (x : Tile) (r : SpReq) : SpRet :=
  let n := if r.wide then 512 else 32
  { who := r.who, word := r.word, off := r.off, size := r.size, run := x.sp.mem.read (r.word * 32) n
    colds := (wordsOf (r.word * 32) n).filter fun w => !x.sp.mem.isWritten w }

/-- A request is a unit's, whose data moves at its own command. -/
def SpReq.isUnit (r : SpReq) : Bool := match r.who with | .unit _ => true | _ => false

/-- The acknowledgement of a remote write of tag `tag` to its source (06 R153). -/
def Ctl.ackRemote (c : Ctl) (t src tag : Nat) (err : Bool) : Ctl := c.sendAck t src (2 ^ 20 + tag) err

/-- A granted whole write takes effect; a remote one is acknowledged; a write-back leaves a corrected word its data and makes an
uncorrectable one poisoned (06 R144, R150, R153). -/
def Blk.grantWrite (b : Blk) (t : Nat) (r : SpReq) : Blk :=
  match r.who with
  | .remote src tag => (b.onTile t fun x => x.spWrite (r.word * 32) r.run).onCtl fun c => c.ackRemote t src tag false
  | .writeback bad => if bad then b.onTile t fun x => { x with sp := { x.sp with mem := x.sp.mem.setBad r.word true } } else b
  | .unit _ => b
  | _ => b.onTile t fun x => x.spWrite (r.word * 32) r.run

/-- SCRATCHPAD_GRANT: one tile cycle of both ports. `others` are the requests that units whose data moves at their own command present in
it. Reads granted see the contents before this cycle's writes; losers wait; nothing is granted while the tags are cleared
(06 R141, R144 to R149). -/
def execScratchpadGrant (t : TileId) (others : List PortReq) (s : State) : Host.Outcome State Fault Refusal :=
  s.on fun b =>
    let x := b.tile t
    if !b.ctl.tileGood t || x.init then b
    else
      let x := { x with sp := { x.sp with reqs := x.sp.reqs ++ others.map PortReq.req } }
      let rg := x.readGrants
      let wg := x.writeGrants
      let rd := rg.map (·.idx)
      let wr := wg.map (·.idx)
      let reqs := x.sp.reqs
      let pick (l : List Nat) : List SpReq := l.filterMap fun i => reqs[i]?
      let left := (reqs.zipIdx.filter fun (_, i) => !rd.contains i && !wr.contains i).map fun (r, _) => { r with waited := r.waited + 1 }
      let reads := (pick rd).filter fun r => !r.wr && !r.isUnit
      let merges := (pick rd).filter (·.wr)
      let wide (l : List Cand) : Nat := (l.filter (·.wide)).length
      let x := { x with sp := { x.sp with
        reqs := left, rets := x.sp.rets ++ reads.map x.capture, merges := x.sp.merges ++ merges
        wbusy := if wide wg = 0 then wg.map (·.bank) else List.range 16 } }
      let b := (b.setTile t x).onCtl fun c =>
        ((c.perf t 0x05 (wide rg)).perf t 0x06 (wide wg)).perf t 0x07 (rg.length + wg.length - wide rg - wide wg)
      (pick wr).foldl (fun b r => b.grantWrite t r) b

/-- REQUEST_PROMOTE: requests that have waited 64 tile cycles are promoted, wide before narrow and in rank order, and counted
(06 R148). -/
def execRequestPromote (t : TileId) (s : State) : Host.Outcome State Fault Refusal :=
  s.on fun b =>
    let x := b.tile t
    let due := x.sp.reqs.zipIdx.filter fun (r, _) => r.promo.isNone && decide (64 ≤ r.waited)
    let order := sortBy (fun (e : SpReq × Nat) => (if e.1.wide then 0 else 16) + e.1.rank) due
    let place (i : Nat) : Option Nat := (order.findIdx? fun e => e.2 == i).map (x.sp.promos + ·)
    let reqs := x.sp.reqs.zipIdx.map fun (r, i) => match place i with | some n => { r with promo := some n } | none => r
    let b := b.setTile t { x with sp := { x.sp with reqs := reqs, promos := x.sp.promos + order.length } }
    if order.isEmpty then b else b.onCtl fun c => c.bump (spdPage t) F.SPD_PROMOTE_COUNT order.length

/-! ### Returns (06 R144, R150, R151) -/

/-- Words of aligned row `al` that hold bytes a feeder descriptor uses: of its data rows, or of its scale slots (06 R150). -/
def usedWords (base stride len rows al : Nat) : List Nat :=
  let cand := if stride = 0 then [0] else
    let lo := (al * 512 + 1 - base - len) / stride
    let hi := ((al + 1) * 512 - 1 - base) / stride
    (List.range (hi + 1 - lo)).map (lo + ·)
  (wordsOf (al * 512) 512).filter fun w =>
    cand.any fun r => decide (r < rows) && decide (base + r * stride < w * 32 + 32) && decide (w * 32 < base + r * stride + len)

/-- The words of a returned read that its requester uses. -/
def Blk.retUsed (b : Blk) (t : Nat) (r : SpRet) : List Nat :=
  let desc (f ser : Nat) : Option Desc := ((b.tile t).queue (f + 2)).find ser
  match r.who with
  | .feedData f ser al => match desc f ser with
    | some d => usedWords (fdBase d) (fdStride d) (fdRowB16 d * 16) (fdRows d) al
    | none => []
  | .feedScale f ser al => match desc f ser with
    | some d => usedWords (fdSBase d) 4 (fdScaleBytes d) (fdRows d) al
    | none => []
  | _ => [r.word]

/-- What the requester receives: stored poison; cold words poisoned under COLD_POISON, uncorrectable words poisoned, of those it uses. -/
def SpRet.view (r : SpRet) (used : List Nat) (coldBad : Bool) (e : List Ecc) : Run :=
  let errs := checks used r.colds e
  { r.run with bad := r.run.bad.zipIdx.map fun (p, i) =>
      let w := r.word + i / 32
      p || (coldBad && r.colds.contains w && used.contains w) || errs.contains (w, .uncorr) }

/-- A feeder's slot for descriptor `ser` and aligned row `al` filled. -/
def Feeder.fill (fd : Feeder) (scale : Bool) (ser al : Nat) (r : Run) : Feeder :=
  let hit (z : FSlot) : Bool := z.ser == ser && z.row == al && z.got.isNone
  if scale then { fd with scale := fd.scale.map fun z => if hit z then { z with got := some r } else z }
  else { fd with data := fd.data.map fun z => if hit z then { z with got := some r } else z }

/-- READ_DATA_RETURN: the oldest granted read returns: cold reads, ECC events and poison, the write-backs of words in error that no write
has reached since, and the data to its requester (06 R144, R150, R151, R153, R154). `e` is the outcome for each word used, in rising order. -/
def execReadDataReturn (t : TileId) (e : List Ecc) (s : State) : Host.Outcome State Fault Refusal :=
  s.on fun b =>
    let x := b.tile t
    let p := spdPage t
    match b.ctl.tileGood t, x.sp.rets with
    | true, r :: rest =>
      let used := b.retUsed t r
      let v := r.view used (b.ctl.flag p F.SPD_CTRL_COLD_POISON) e
      let cold := if r.who = .scrub then 0 else (r.colds.filter used.contains).length
      let errs := checks used r.colds e
      let x := ({ x with sp := { x.sp with rets := rest } } : Tile).oweBack (errs.filter fun z => !r.stale.contains z.1)
      let b := (b.setTile t x).onCtl fun c => (c.countCold t cold).countEccs t errs
      match r.who with
      | .feedData f ser al => b.onTile t fun x => x.setFeeder f ((x.feeder f).fill false ser al v)
      | .feedScale f ser al => b.onTile t fun x => x.setFeeder f ((x.feeder f).fill true ser al v)
      | .indirect => b.onCtl fun c =>
          let c := (List.range 8).foldl (fun c n => c.putN p F.SPD_IND_DATA_DATA n (v.slice (4 * n) 4).nat) c
          (c.put p F.SPD_IND_CMD_COLD (ofBool (r.colds.contains r.word))).put p F.SPD_IND_CMD_POISON (ofBool v.anyBad)
      | .remote src tag => b.onCtl fun c =>
          c.sendPkt t { kind := 3, cls := 1, rsp := true, dest := src, tag := tag, bytes := r.size, run := v.slice r.off r.size }
      | _ => b
    | _, _ => b

/-- MERGE_WRITE_GRANT: the write half of the oldest merge, once its bank's write port is free: ECC events of its read, the bytes into the
stored word; after an uncorrectable error the word is stored poisoned (06 R145, R151). -/
def execMergeWriteGrant (t : TileId) (e : List Ecc) (s : State) : Host.Outcome State Fault Refusal :=
  s.on fun b =>
    let x := b.tile t
    match b.ctl.tileGood t, x.sp.merges with
    | true, r :: rest =>
      if x.sp.wbusy.contains (bankOf r.word) then b
      else
        let x := { x with sp := { x.sp with merges := rest, wbusy := bankOf r.word :: x.sp.wbusy } }
        let b := (b.setTile t x).onCtl fun c => c.perf t 0x07 1
        match r.who with
        | .unit _ => b
        | .remote src tag => (b.spStore t (r.word * 32 + r.off) r.run e).onCtl fun c => c.ackRemote t src tag false
        | _ => b.spStore t (r.word * 32 + r.off) r.run e
    | _, _ => b

/-- ECC_WRITEBACK: the oldest write-back presented is granted, where the write port gives it its turn: a corrected word keeps its data, an
uncorrectable one becomes poisoned. One that another write preceded is no longer there (06 R146, R150). -/
def execEccWriteback (t : TileId) (s : State) : Host.Outcome State Fault Refusal :=
  s.on fun b =>
    let x := b.tile t
    match b.ctl.tileGood t, x.sp.reqs.zipIdx.find? fun r => r.1.isBack with
    | true, some (r, i) =>
      if x.writeGrants.any (fun c => c.idx == i) && !x.sp.wbusy.contains (bankOf r.word) then
        let x := { x with sp := { x.sp with reqs := x.sp.reqs.eraseIdx i, wbusy := bankOf r.word :: x.sp.wbusy } }
        ((b.setTile t x).onCtl fun c => c.perf t 0x07 1).grantWrite t r
      else b
    | _, _ => b

/-- SCRUB_READ: with SCRUB_EN, the scrubber requests the next written word, in ascending order and wrapping (06 R150). -/
def execScrubRead (t : TileId) (s : State) : Host.Outcome State Fault Refusal :=
  s.on fun b =>
    let x := b.tile t
    if !b.ctl.tileGood t || x.init || !b.ctl.flag (spdPage t) F.SPD_CTRL_SCRUB_EN then b
    else match (x.sp.mem.written.find? fun w => decide (x.sp.scrubAt ≤ w)).or x.sp.mem.written.head? with
      | some w => b.setTile t ({ x with sp := { x.sp with scrubAt := w + 1 } }.present { rank := 7, who := .scrub, word := w })
      | none => b

/-- SPD_INIT_COMPLETE: the clearing of the tags after a reset completes; what waited for it is done (06 R149). -/
def execSpdInitComplete (t : TileId) (s : State) : Host.Outcome State Fault Refusal :=
  s.on fun b =>
    let x := b.tile t
    if b.ctl.tileGood t && x.init then
      let b := b.setTile t { x with init := false, sp := { x.sp with late := [], submit := none } }
      let b := x.sp.late.foldl (fun b w => b.spStore t w.1 w.2 []) b
      match x.sp.submit with
      | some (a, n) => b.submitFetch t a n []
      | none => b
    else b

/-! ### Remote accesses (06 R152, R153) and indirect commands (06 R154) -/

/-- REMOTE_ACCESS_SERVE: an arriving remote access is presented at the target's ports at remote rank; a held tile's wrapper
answers it with an error (06 R153, 16 R414). -/
def execRemoteAccessServe (i : Nat) (s : State) : Host.Outcome State Fault Refusal :=
  s.on fun b =>
    match b.ctl.atTile i with
    | some (t, .pkt p) =>
      if p.kind = 1 then
        let b := b.onCtl fun c => c.takeNet i
        if b.live t then
          b.onTile t fun x => x.present
            { rank := 5, who := .remote p.src p.tag, word := p.addr / 32, off := p.addr % 32, size := p.bytes }
        else b.onCtl fun c => c.sendPkt t { kind := 3, cls := 1, rsp := true, dest := p.src, tag := p.tag, err := true }
      else if p.kind = 2 then
        let b := b.onCtl fun c => c.takeNet i
        if b.live t then
          b.onTile t fun x => x.present
            { wr := true, rank := 5, who := .remote p.src p.tag, word := p.addr / 32, off := p.addr % 32, size := p.bytes
              run := p.run }
        else b.onCtl fun c => c.ackRemote t p.src p.tag true
      else b
    | _ => b

/-- READ_REPLY: a reply to a core's remote load arrives and completes it; a held tile absorbs it (10 R243, 06 R151, 16 R414). -/
def execReadReply (i : Nat) (s : State) : Host.Outcome State Fault Refusal :=
  s.on fun b =>
    match b.ctl.atTile i with
    | some (t, .pkt p) =>
      if p.kind = 3 ∧ p.tag % 4 < 2 then
        let b := b.onCtl fun c => c.takeNet i
        if b.live t then b.coreAnswer t p.tag false p.err p.run else b
      else b
    | _ => b

/-- An indirect command accepted: its access is presented at indirect rank (06 R146, R154). -/
def Blk.indCommand (b : Blk) (t cmd : Nat) : Blk :=
  let p := spdPage t
  let w := b.ctl.get p F.SPD_IND_ADDR_WORD
  if cmd = 0 then b
  else
    let data : List Byte := (List.range 8).flatMap fun n =>
      let v := b.ctl.getN p F.SPD_IND_DATA_DATA n
      (List.range 4).map fun k => BitVec.ofNat 8 (v / 256 ^ k)
    let b := b.onCtl fun c => c.put p F.SPD_STATUS_IND_BUSY 1
    b.onTile t fun x => x.present
      (if cmd = 2 then { wr := true, rank := 6, who := .indirect, word := w, run := runOf data false }
       else { rank := 6, who := .indirect, word := w })

/-- SPD_IND_DONE: the indirect command in progress has had its access; IND_BUSY clears (06 R154). -/
def execSpdIndDone (t : TileId) (s : State) : Host.Outcome State Fault Refusal :=
  s.on fun b =>
    let x := b.tile t
    let open_ := (x.sp.reqs.any fun r => r.who == .indirect) || (x.sp.rets.any fun r => r.who == .indirect)
    if open_ then b else b.onCtl fun c => c.put (spdPage t) F.SPD_STATUS_IND_BUSY 0

end Sys2Proof.Machine
end

