-- ==== Sys2Proof/Machine/Reset.lean ====
section
/-!
DEFINITION. What each reset reaches (16 R413 to R416): the tile behind its wrapper, the stage reset, the warm reset, the resets that
reach everything; their release.
-/
namespace Sys2Proof.Machine

/-! ### Registers under a reset (00 R6, 16 R413) -/

/-- The read-only bits of a register (00 R6). -/
def regReadOnly (d : RegDef) : Nat := 0xFFFFFFFF - (regStored d ||| d.w1c ||| d.wo)

/-- The bits of the register at BAR0 offset `a` that a reset of its tile keeps: RWS fields, and the error registers (02 R43). -/
def tileKept (a : Nat) : Nat :=
  match place a with
  | .page k _ _ off =>
    if off = 0x20 ∨ off = 0x24 then 0xFFFFFFFF
    else match regDef k off with
      | some d => d.rws
      | none => 0
  | _ => 0

/-- The bits of a rim register that a warm reset keeps: RWS and RK fields, counters and records; not what a unit's present activity
shows (16 R413, R427). -/
def rimKept (k : PageKind) (off : Nat) (d : RegDef) : Nat :=
  let ro := if 0x40 ≤ off then regReadOnly d else 0
  match k with
  | .hbm => 0xFFFFFFFF
  | .opt => if 0x40 ≤ off then 0xFFFFFFFF else 0
  | .dev => if off = 0x50 ∨ off = 0x58 ∨ off = 0x5C then 0xFFFFFFFF else 0
  | .rst => if off = 0x14 then 0x30000000 else if off < 0x40 then 0 else ro
  | .keep => if off = 0x14 then 0x100 else ro
  | .time => if off = 0x14 then 0xFFFFFFFF else d.rws ||| ro
  | .clk => if off = 0x14 then 0x80000000 else d.rws ||| ro
  | .pwr => if off = 0x14 then 0xFFFFFFFF else d.rws ||| ro
  | .ras => if off = 0x14 then 0xFFFFFFFF else d.rws ||| ro
  | .daily => if off = 0x14 then 0xFFFFFFFF else ro
  | .volt => if off = 0x14 then 0xFFFFFFFF else ro
  | .port => if off = 0x14 then 0x20000000 else d.rws ||| ro
  | .stage => if off = 0x44 ∨ off = 0x10C then 0 else d.rws ||| ro
  | .clu => 0
  | .cve => 0
  | .sec => 0
  | .miryn => 0
  | _ => d.rws ||| ro

/-- The bits of the register at `a` that a warm reset keeps. -/
def warmKept (a : Nat) : Nat :=
  match addrTile a with
  | some _ => tileKept a
  | none =>
    match place a with
    | .page k _ _ off =>
      if off = 0x20 ∨ off = 0x24 then 0xFFFFFFFF
      else match regDef k off with
        | some d => rimKept k off d
        | none => 0
    | _ => 0

/-- Every register back at its reset value but for the bits `keep` gives (by BAR0 offset). -/
def Ctl.resetRegs (c : Ctl) (keep : Nat → Nat) : Ctl :=
  { c with regs := c.regs.filterMap fun e =>
      let m := BitVec.ofNat 32 (keep e.1)
      let w := (c.rd e.1 &&& m) ||| (rstOf e.1 &&& ~~~m)
      if w = rstOf e.1 then none else some (e.1, w) }

/-- Messages that wait for a page no longer pending are gone. -/
def Ctl.dropWaiting (c : Ctl) : Ctl := { c with host := { c.host with waiting := c.host.waiting.filter c.pending } }

/-! ### Regulators (18 R476, R477, R494) -/

/-- Where the regulator of rail `n` answers (18 R494). -/
def railBus (n : Nat) : RailBus :=
  if n < 24 then .avs (n / 6) (n % 6) else if n = 24 then .avs 0 6 else if n = 25 then .avs 1 6 else .pmb (0x40 + (n - 26))

/-- A frame to the regulator of rail `n`. -/
def Ctl.toRegulator (c : Ctl) (n : Nat) (cmd : RegCmd) : Ctl := { c with out := c.out ++ [.regulator (railBus n) cmd] }

/-- A rail's target voltage written to its regulator, unless it has that target. -/
def Ctl.railTarget (c : Ctl) (n mv : Nat) : Ctl :=
  if SMap.find? c.pwr.volts n = some mv then c
  else { c with pwr := { c.pwr with volts := SMap.put c.pwr.volts n mv } }.toRegulator n (.volts mv)

/-- A cluster's rail commanded to a voltage, and there. -/
def Ctl.railAt (c : Ctl) (cl mv : Nat) : Ctl := (c.railTarget cl mv).put (voltPage cl) F.VOLT_STATUS_V_MV mv

/-- The operating voltage of VDDM, where some cluster runs, or is to run, at `mhz` (18 R476). -/
def Ctl.vddmMv (c : Ctl) (mhz : Nat) : Nat :=
  if 1100 < mhz ∨ (List.range 24).any fun cl => decide (1100 < c.get (freqPage cl) F.FREQ_CUR_MHZ) then 800 else 750

/-- VDDM commanded to its operating voltage. -/
def Ctl.vddm (c : Ctl) (mhz : Nat) : Ctl := c.railTarget 24 (c.vddmMv mhz)

/-! ### The tile (16 R414, R439) -/

/-- What a tile held behind its wrapper answers at once for what it had taken in: credit requests are granted, transfers queued and
remote accesses waiting draw an error (16 R414). -/
def Ctl.answerHeld (c : Ctl) (t : Nat) (x : Tile) : Ctl :=
  let c := x.creditReqs.foldl (fun c r => c.sendMsg9 t { type := 0xB, dest := r.src, value := r.units }) c
  let c := x.recvQ.foldl (fun c f =>
    if f.eject then { c with mixAcks := c.mixAcks ++ [(true, f.from_)] }
    else if f.refill then c else c.sendAck t f.src (ackArg f.stream f.seq) true) c
  (x.sp.reqs ++ x.sp.merges).foldl (fun c r =>
    match r.who with
    | .remote src tag =>
      if r.wr then c.ackRemote t src tag true
      else c.sendPkt t { kind := 3, cls := 1, rsp := true, dest := src, tag := tag, err := true }
    | _ => c) c

/-- A known-answer shot that runs on a tile being held. -/
def Ctl.kasHeld (c : Ctl) (t : Nat) : Ctl :=
  let mine := c.ras.runs.filter fun k => k.tile == t
  { c with ras := { c.ras with runs := c.ras.runs.filter (fun k => k.tile != t), wanted := c.ras.wanted ++ mine.filter (·.second) } }

/-- Tile `t` is put behind its wrapper and reset: its registers but for RWS fields and the error registers, its queues and contents;
its router keeps forwarding and its schedule keeps its flits; of the known-answer shots that run on it the first run is lost and the
second is made again (16 R414, 17 R450). -/
def Blk.holdTile (b : Blk) (t : Nat) : Blk :=
  let x := b.tile t
  let b := b.onCtl fun c =>
    (((c.answerHeld t x).kasHeld t).resetRegs fun a => if addrTile a = some t then tileKept a else 0xFFFFFFFF).dropWaiting
  b.setTile t { mix := { x.mix with inj := [] } }

/-- Tiles put behind their wrappers, one after another. -/
def Blk.holdTiles (b : Blk) (ts : List Nat) : Blk := ts.foldl Blk.holdTile b

/-- The wrapper of tile `t` opens and each control core starts at its entry (16 R414, R439). -/
def Blk.openTile (b : Blk) (t : Nat) : Blk :=
  let x := b.tile t
  if !x.wrapped || b.ctl.tileOff t then b
  else
    let c0 : Core := { x.core0 with run := true, pc := b.ctl.rd (seqPage t + F.SEQ_CORE_ENTRY0.off) }
    let c1 : Core := if isSTile t then { x.core1 with run := true, pc := b.ctl.rd (seqPage t + F.SEQ_CORE_ENTRY1.off) } else x.core1
    b.setTile t { x with wrapped := false, core0 := c0, core1 := c1 }

/-- Tiles released; where VDDM is in retention it is first raised, and they wait for it (18 R478). -/
def Blk.release (b : Blk) (ts : List Nat) : Blk :=
  if b.ctl.boot.retention then
    b.onCtl fun c =>
      { c with boot := { c.boot with raising := true, waitTiles := ts.foldl (fun l t => insertNat t l) c.boot.waitTiles } }.vddm 0
  else ts.foldl Blk.openTile b

/-- TILE.RESET as the owning function writes it: ASSERT holds the tile, RELEASE opens it (16 R439). -/
def Blk.tileResetDo (b : Blk) (t : Nat) (w : Word) : Blk :=
  if bit w 0 then b.holdTile t else if bit w 1 && (b.tile t).wrapped then b.release [t] else b

/-! ### Stages (16 R428, 12 R308) -/

/-- Each enabled ring among `rs` holds no post: CONSUMED is its post slate's COUNT (12 R308). -/
def Ctl.emptyRings (c : Ctl) (rs : List Nat) : Ctl :=
  rs.foldl (fun c n =>
    let x := c.ring n
    if x.on then c.setRing n { x with consumed := (c.rimSlate x.slate).count } else c) c

/-- The contexts of stage `s` that are not CLOSED. -/
def Ctl.openCtxs (c : Ctl) (s : Nat) : List Nat :=
  (c.uam.ctxs.filter fun e => e.2.st != 0 && c.ownsCtx s e.1).map (·.1)

/-- Some contexts closed (12 R307, R308). -/
def Blk.closeCtxs (b : Blk) (l : List Nat) : Blk := l.foldl (fun b n => b.ctxStop n 0) b

/-- The stage's rim side emptied: contexts closed, rings without posts, its queues at the rim but for those of the stacks, whose requests complete,
and its egress queues emptied, its outtakes records and fetch passes discarded, its stall probes withdrawn (12 R308, R330, 16 R413, R428). -/
def Blk.clearStageRim (b : Blk) (s : Nat) : Blk :=
  let b := b.closeCtxs (b.ctl.openCtxs s)
  b.onCtl fun c =>
    let c := c.emptyRings ((c.uam.rings.map (·.1)).filter (c.ownsRing s))
    let first := c.get (stagePage s) F.STAGE_FETCH_RANGE_FIRST
    let count := c.get (stagePage s) F.STAGE_FETCH_RANGE_COUNT
    { c with
      net := c.net.filter fun f => match f.loc with | .rim st e => st != s || decide (e < 12) | _ => true
      uam := { c.uam with held := c.uam.held.filter fun g => g.stage != s, scan := SMap.erase c.uam.scan s }
      outtakes := SMap.erase c.outtakes s
      detect := SMap.erase c.detect s
      sheets := SMap.erase c.sheets s
      progs := c.progs.filter fun e => !(decide (first ≤ e.1) && decide (e.1 < first + count)) }

/-- The device status of some stage: STATE set, LOADED cleared. -/
def Ctl.setStage (c : Ctl) (s st : Nat) : Ctl :=
  (c.put (stagePage s) F.STAGE_RUNSTATE_STATE st).put (stagePage s) F.STAGE_RUNSTATE_LOADED 0

/-! ### Miryn (16 R435) -/

/-- The ageing guard of a cluster: the keep word, or the guard not persisted (15 R399). -/
def Ctl.guardMv (c : Ctl) (cl : Nat) : Nat := (SMap.find? c.clk.guard cl).getD (bits (c.keepWord (77 + cl)) 5 0)

/-- The plan voltage of point `p` of a cluster. -/
def Ctl.planMv (c : Ctl) (cl p : Nat) : Nat := Config.fuseMv cl p + c.guardMv cl

/-- A test that runs ends with a result; a cluster under stress test goes back to the plan voltage of 500 MHz (17 R454). -/
def Ctl.endTest (c : Ctl) (result : Nat) : Ctl :=
  match c.ras.test with
  | none => c
  | some k =>
    let c := (c.put rasPage F.RAS_TEST_STATUS_BUSY 0).put rasPage F.RAS_TEST_STATUS_RESULT result
    let c := if k.kind = 3 then (c.put (freqPage k.index) F.FREQ_CUR_MHZ 500).railAt k.index (c.planMv k.index 0) else c
    ({ c with ras := { c.ras with test := none } }.logEvent rasPage (Config.eventCode 2) 0).raise rasPage 4

/-- What every reset that reaches Miryn does to its work: suspects, second runs and the test are gone (17 R450, R454); cues pause. -/
def Ctl.mirynReset (c : Ctl) : Ctl :=
  let c := c.endTest 4
  let c := (c.put secPage F.SEC_STATUS_BUSY 0).put rstPage F.RST_STATUS_MIRYN_UP 0
  { c with suspects := [], ras := { c.ras with wanted := [], runs := [] } }

/-- A fresh nonce (17 R468, R471). -/
def Ctl.newNonce (c : Ctl) : Ctl :=
  let (v, c) := c.choose
  c.put64 secPage F.SEC_NONCE_LO_NONCE (v % 2 ^ 64)

/-! ### Counting resets (16 R413, R416, R436) -/

/-- A reset of source `n` counted, and recorded in LAST_CAUSE unless it is Miryn's watchdog (16 R438). -/
def Ctl.countReset (c : Ctl) (n : Nat) : Ctl :=
  let c := (c.bumpN rstPage F.RST_VB_COUNT_COUNT n 1).dailyAdd (2 + n) 1
  if n = 3 then c else c.put rstPage F.RST_LAST_CAUSE_CAUSE n

/-! ### Resets that reach everything (16 R413, R415, R432, 14 R381) -/

/-- Where bring-up begins after a reset of source `n`: rails stay enabled for RESET_N and the software full reset when they were all
up (16 R413). -/
def Boot.startOf (o : Boot) (n : Nat) : Start :=
  if n = 7 then .none
  else if n = 6 then .rails
  else if (n = 2 ∨ n = 4) ∧ o.group = 5 ∧ !o.releasing ∧ !o.held then .railsOn
  else .first

/-- A reset of source `n` that reaches everything, and after which rails that were released, or are being, are not enabled for 100 ms (18 R483): all state but the keep array, the backup domain's registers, the dailies and
what stands outside the LZ6; RESET_N is driven low; the rails are released where the source releases them. -/
def Blk.fullReset (b : Blk) (n : Nat) : Blk :=
  let c := b.ctl.countReset n
  let o := c.boot
  let start := o.startOf n
  let codes := (if n = 6 then [0x06] else if n = 7 then [0x07] else []) ++ o.faults.filter fun k => k == 0x11 || k == 0x12
  let boot : Boot :=
    { aon := o.aon, pwrOk := o.pwrOk && n != 1, resetLow := true, perstLow := o.perstLow, running := .full, start := start, cause := n
      held := n == 7, rails := if n = 0 then [] else o.rails, releasing := n != 0 && start != .railsOn && !o.rails.isEmpty
      good := if start = .railsOn then o.good else [], group := if start = .railsOn then 5 else 0
      retrySeq := n != 0 && (n == 6 || o.retrySeq || o.releasing || (start != .railsOn && !o.rails.isEmpty))
      faults := codes, frame := if n = 0 then 0 else o.frame }
  let kept := c.regs.filter fun e =>
    decide (rstPage + 0x50 ≤ e.1) && decide (e.1 < rstPage + 0x70) || e.1 == rstPage + F.RST_LAST_CAUSE.off
  let lost := c.get rstPage F.RST_STATUS_VBAK_LOST
  let fresh : Ctl :=
    { regs := kept, out := c.out, free := c.free, keep := c.keep, boot := boot
      daily := { c.daily with us := 0 }, time := { mono := c.time.mono }, pwr := { boardLow := c.pwr.boardLow, volts := if start = .railsOn then c.pwr.volts else [] }
      mgmt := { smbAddr := c.mgmt.smbAddr }, nor := c.nor }
  { ctl := (fresh.put rstPage F.RST_STATUS_VBAK_LOST lost).newNonce }

/-! ### Warm reset (16 R413, R427, 11 R290, 13 R347) -/

/-- A warm reset: none while a reset of wider or the same reach runs (16 R416, 13 R347). -/
def Blk.warmReset (b : Blk) : Blk :=
  if b.ctl.boot.running != .none || !b.ctl.boot.aon then b
  else
    let b := b.closeCtxs ((b.ctl.uam.ctxs.filter fun e => e.2.st != 0).map (·.1))
    b.onCtl (fun (c : Ctl) =>
      let c := (c.countReset 5).mirynReset
      let ready := (List.range 12).filter c.stackReady
      let c := ready.foldl (fun c h => c.put (hbmPage h) F.HBM_STATUS_READY 0) c
      let c := (List.range 16).foldl (fun c p => if c.linkUp p then c.bump (portPage p) F.PORT_LINK_DOWN_COUNT else c) c
      let c := c.resetRegs warmKept
      let c := { c with
        latch := [], hold := [], net := [], mixAcks := [], host := {}, hbmWarm := ready, detect := [], outtakes := []
        arbs := {}, progs := [], sheets := [], cves := [], mgmt := { jtag := c.mgmt.jtag, dr := c.mgmt.dr, smbAddr := c.mgmt.smbAddr }
        uam := { c.uam with
          tx := [], past := [], rx := [], held := [], scan := [], marks := []
          ctxs := c.uam.ctxs.map fun (e : Nat × Ctx) => (e.1, { e.2 with st := 0, unacked := [], rxOwed := 0 }) }
        pwr := { c.pwr with notices := [], heldCmds := [], loop := [] }, therm := { c.therm with sensors := [] }
        clk := { c.clk with changes := [], stretched := [], cycle := [], lockCap := [] }
        ras := { c.ras with kaOn := [] }
        boot := { c.boot with running := .warm, cause := 5, retention := false, raising := false, waitTiles := [], waitStages := []
                              lockTries := [], recov := [], recovLeft := 0 } }
      (c.emptyRings (c.uam.rings.map fun (e : Nat × Ring) => e.1)).newNonce) |> fun b => { b with tiles := [] }

end Sys2Proof.Machine
end

