-- ==== Sys2Proof/Machine/Clocks.lean ====
section
/-!
DEFINITION. Frequencies, the voltage plan, clock stretching and ageing (15 R389 to R399).
-/
namespace Sys2Proof.Machine

/-! ### Device flags and FAULT_N codes (17 R451, R452, R469) -/

/-- A FAULT_N code becomes active. -/
def Ctl.faultOn (c : Ctl) (code : Nat) : Ctl := { c with boot := { c.boot with faults := insertNat code c.boot.faults } }

/-- A FAULT_N code is no longer active. -/
def Ctl.faultOff (c : Ctl) (code : Nat) : Ctl := { c with boot := { c.boot with faults := c.boot.faults.filter (· != code) } }

/-- Flags of keep word 101 set by Miryn (17 R451). -/
def Ctl.setFlags (c : Ctl) (m : Nat) : Ctl := c.keepMiryn 101 (c.keepWord 101 ||| BitVec.ofNat 32 m)

/-! ### The voltage plan (15 R398) -/

/-- The highest frequency of a cluster's plan whose voltage is at most 920 mV, held to that at which it locked (15 R398, 16 R433). -/
def Ctl.fmaxOf (c : Ctl) (cl : Nat) : Nat :=
  let plan := match (List.range 35).reverse.find? fun p => decide (c.planMv cl p ≤ 920) with
    | some p => 500 + 25 * p
    | none => 0
  match SMap.find? c.clk.lockCap cl with
  | some m => min plan m
  | none => plan

/-- Plan voltage at a frequency. -/
def Ctl.mvAt (c : Ctl) (cl mhz : Nat) : Nat := c.planMv cl ((mhz - 500) / 25)

/-- FMAX_MHZ of a cluster renewed; below 1,100 MHz the cluster is aged, which is an event where it was not before (15 R398, 17 R452). -/
def Ctl.newFmax (c : Ctl) (cl : Nat) : Ctl :=
  let f := c.fmaxOf cl
  let was := c.get (voltPage cl) F.VOLT_FMAX_MHZ_MHZ
  let c := c.put (voltPage cl) F.VOLT_FMAX_MHZ_MHZ f
  if f < 1100 then
    let c := if was = 0 ∨ 1100 ≤ was then (c.raise (voltPage cl) 1).logEvent (voltPage cl) (Config.eventCode 3) 0 else c
    ((c.put rasPage F.RAS_AGED_CLUSTERS (c.get rasPage F.RAS_AGED_CLUSTERS ||| 2 ^ cl)).setFlags 5).faultOn 0x11
  else c

/-! ### Scopes of a frequency change (15 R393) -/

/-- The clusters of a scope: a stage's, or one cluster. -/
def Ctl.scopeClusters (c : Ctl) (sc : Nat) : List Nat := if sc < 12 then c.stageClusters sc else [sc - 12]

/-- The scope a cluster changes in. -/
def Ctl.clusterScope (c : Ctl) (cl : Nat) : Nat := (c.clusterStage cl).getD (12 + cl)

/-- A scope exists: a valid stage, or a cluster that is in none and not fenced. -/
def Ctl.scopeOk (c : Ctl) (sc : Nat) : Bool :=
  if sc < 12 then c.valid sc else decide (sc < 36) && (c.clusterStage (sc - 12)).isNone && !c.fenced.contains (sc - 12)

/-- The tiles of a scope. -/
def Ctl.scopeTiles (c : Ctl) (sc : Nat) : List Nat :=
  if sc < 12 then c.stageTiles sc else (clusterTiles (sc - 12)).filter c.tileGood

/-- A cluster has no good sensor (14 R382). -/
def Ctl.blind (c : Ctl) (cl : Nat) : Bool := (List.range 4).all fun n => (SMap.get {} c.therm.sensors (4 * cl + n)).bad

def Ctl.reqMhz (c : Ctl) (cl : Nat) : Nat := c.get (freqPage cl) F.FREQ_REQ_MHZ_MHZ

/-- Steady mode is asked for (14 R380). -/
def Ctl.steady (c : Ctl) : Bool := c.flag pwrPage F.PWR_CTRL_STEADY

/-- The request of a scope as the cap loop leaves it: the smallest REQ_MHZ, lowered by the loop, or raised above it with BOOST (15
R392, 14 R364, R380). -/
def Ctl.loopMhz (c : Ctl) (sc : Nat) : Nat :=
  let req := (c.scopeClusters sc).foldl (fun m cl => min m (c.reqMhz cl)) 1350
  match SMap.find? c.pwr.loop sc with
  | some l => if c.flag pwrPage F.PWR_CTRL_BOOST && !c.steady then min 1350 l else min req l
  | none => req

/-- What a cluster allows by itself: FMAX, and 900 MHz without a good sensor. -/
def Ctl.clusterMax (c : Ctl) (cl : Nat) : Nat := min (c.fmaxOf cl) (if c.blind cl then 900 else 1350)

/-- The frequency a scope is to run at: the lowest any of its clusters needs (14 R363, 15 R392). -/
def Ctl.targetMhz (c : Ctl) (sc : Nat) : Nat :=
  let m := min (c.loopMhz sc) (SMap.get 1350 c.therm.ceil sc)
  let m := if c.steady then min m 900 else m
  (c.scopeClusters sc).foldl (fun m cl => min m (c.clusterMax cl)) m

/-- The present frequency of a scope. -/
def Ctl.scopeMhz (c : Ctl) (sc : Nat) : Nat := c.get (freqPage ((c.scopeClusters sc).headD 0)) F.FREQ_CUR_MHZ

/-- FREQ.CUR.LIMIT: the cause that sets a cluster's frequency `f` (15 R392). -/
def Ctl.limitCode (c : Ctl) (sc cl f : Nat) : Nat :=
  if c.reqMhz cl = f then 0
  else if SMap.get 1350 c.therm.ceil sc = f then 2
  else if c.steady ∧ f = 900 then 3
  else if c.blind cl ∧ f = 900 then 4
  else if c.fmaxOf cl = f then 5
  else if SMap.find? c.pwr.loop sc = some f then 1
  else 6

/-! ### A change (15 R394, R395) -/

def Ctl.changeOf (c : Ctl) (sc : Nat) : Option FreqChange := c.clk.changes.find? fun x => x.scope == sc

/-- The change of a scope replaced, or taken off the list. -/
def Ctl.setChange (c : Ctl) (sc : Nat) (x : Option FreqChange) : Ctl :=
  { c with clk := { c.clk with changes := (c.clk.changes.filter fun y => y.scope != sc) ++ x.toList } }

/-- Every rail of a scope commanded to its plan voltage for `mhz` (15 R394). -/
def Ctl.commandVolts (c : Ctl) (sc mhz : Nat) : Ctl := (c.scopeClusters sc).foldl (fun c cl => c.railTarget cl (c.mvAt cl mhz)) c

/-- Every rail of a scope at its plan voltage for `mhz`. -/
def Ctl.setVolts (c : Ctl) (sc mhz : Nat) : Ctl :=
  (c.scopeClusters sc).foldl (fun c cl => c.put (voltPage cl) F.VOLT_STATUS_V_MV (c.mvAt cl mhz)) c

/-- A notice for each predicted step above its rail's threshold; the step is held (14 R375, R376). -/
def Ctl.addNotices (c : Ctl) (steps : List LoadStep) : Ctl :=
  steps.foldl (fun c s =>
    if c.getN pwrPage F.PWR_RN_THRESH_A s.rail < s.amps.natAbs then
      { c with pwr := { c.pwr with notices := c.pwr.notices ++ [⟨s.rail, s.amps, .held, s.cause⟩] } }
    else c) c

/-- The mixdown schedules of a scope run again, from slot 0 (10 R260). -/
def Blk.restartMix (b : Blk) (sc : Nat) : Blk :=
  (b.ctl.scopeTiles sc).foldl (fun b t =>
    if (b.tile t).mix.stopped then b.onTile t fun x => { x with mix := { x.mix with stopped := false } } else b) b

/-- FREQ_CHANGE: the power unit takes the change a scope needs: suspension and notice begin, and for a raise the rails, and VDDM for more than
1,100 MHz, are set to the voltage of the new frequency. `steps` are the current steps predicted (15 R393, R394, R408). -/
def execFreqChange (sc : Fin 36) (steps : List (Fin 26 × Int)) (s : State) : Host.Outcome State Fault Refusal :=
  s.onCtl fun c =>
    let f := c.targetMhz sc
    let old := c.scopeMhz sc
    if !c.scopeOk sc || (c.changeOf sc).isSome || f == old || !c.flag clkPage F.CLK_STATUS_REFCLK_OK || !c.ready then c
    else
      let c := c.addNotices (steps.map fun e => ⟨e.1, e.2, .freq⟩)
      let c := if old < f then (c.commandVolts sc f).vddm f else c
      c.setChange sc (some { scope := sc, mhz := f, old := old, phase := if old < f then .raising else .ready })

/-- VOLTAGE_SETTLED: every rail of a scope reports the voltage asked for: the stop of a raise may begin, the lowering after a lowered
frequency ends (15 R394). -/
def execVoltageSettled (sc : Fin 36) (s : State) : Host.Outcome State Fault Refusal :=
  s.onCtl fun c =>
    match c.changeOf sc with
    | some x =>
      if x.phase = .raising then (c.setVolts sc x.mhz).setChange sc (some { x with phase := .ready })
      else if x.phase = .lowering then (c.setVolts sc x.mhz).setChange sc none
      else c
    | none => c

/-- FREQ_STOP_BEGIN: the clocks of a scope stop once the voltage is settled, its notices are released and its routers have stopped (15
R394). -/
def execFreqStopBegin (sc : Fin 36) (s : State) : Host.Outcome State Fault Refusal :=
  s.on fun b =>
    let c := b.ctl
    match c.changeOf sc with
    | some x =>
      let quiet := c.pwr.notices.all fun n => n.phase == .released || !(c.scopeClusters sc).contains n.rail
      let still := (c.scopeTiles sc).all fun t => !b.mixRuns t
      if x.phase = .ready ∧ quiet ∧ still then b.onCtl fun c => c.setChange sc (some { x with phase := .stopped }) else b
    | none => b

/-- FREQ_RESTART: the clocks restart at the new frequency, and the routers at slot 0; a lowered frequency's rails go down after it.
what the rim held for the stage's slates takes effect. `ns` is the length of the stop (07 R179, 15 R394). -/
def execFreqRestart (sc : Fin 36) (ns : Nat) (s : State) : Host.Outcome State Fault Refusal :=
  s.on fun b =>
    match b.ctl.changeOf sc with
    | some x =>
      if x.phase = .stopped then
        (b.onCtl fun c =>
          let c := (c.scopeClusters sc).foldl (fun c cl =>
            let p := freqPage cl
            let c := (c.put p F.FREQ_CUR_MHZ x.mhz).put p F.FREQ_CUR_LIMIT (c.limitCode sc cl x.mhz)
            ((c.put p F.FREQ_LAST_STOP_NS ns).bump p F.FREQ_CHANGES_COUNT).raise p 1) c
          let c := if x.old < x.mhz then c else (c.commandVolts sc x.mhz).vddm 0
          (c.setChange sc (if x.old < x.mhz then none else some { x with phase := .lowering })).settleRim sc).restartMix sc
      else b
    | none => b

/-- FREQ_CHANGE_ABANDON: a rail did not report its new voltage in time: the frequency is unchanged and the routers restart (15
R394). -/
def execFreqChangeAbandon (sc : Fin 36) (s : State) : Host.Outcome State Fault Refusal :=
  s.on fun b =>
    match b.ctl.changeOf sc with
    | some x =>
      if x.phase = .raising then
        (b.onCtl fun c =>
          ((c.scopeClusters sc).foldl (fun c cl =>
            let p := freqPage cl
            ((c.bump p F.FREQ_ABANDONED_COUNT).errHw p 0x02).raise p 2) c).setChange sc none).restartMix sc
      else b
    | none => b

/-! ### Margin warnings and stretching (15 R396, R397) -/

/-- A cluster's clock is stopped for a change. -/
def Ctl.clockStopped (c : Ctl) (cl : Nat) : Bool := c.clk.changes.any fun x => x.phase == .stopped && x.scope == c.clusterScope cl

/-- A cluster is under stress test (17 R453, R456). -/
def Ctl.stressed (c : Ctl) (cl : Nat) : Bool :=
  match c.ras.test with
  | some t => t.kind == 3 && t.index == cl
  | none => false

/-- The stress corner a cluster is in whose warnings are failures and whose clock does not stretch: 0 or 1 (17 R455). -/
def Ctl.strictCorner (c : Ctl) (cl : Nat) : Bool :=
  c.stressed cl && match c.ras.test with
    | some t => decide (t.corners.headD 4 < 2)
    | none => false

/-- A monitor's report is a warning (15 R396). -/
def Ctl.isWarning (c : Ctl) (cl : Nat) (m : Margin) : Bool :=
  match m with
  | .slack _ ps => decide (ps < c.get (stinPage cl) F.STIN_WARN_SLACK_PS)
  | .jitter ps => decide (c.get (stinPage cl) F.STIN_WARN_JIT_PS < ps)
  | .duty v => decide (v < 450) || decide (550 < v)

/-- Two clusters side by side. -/
def clusterNext (a b : Nat) : Bool :=
  (a / 6 == b / 6 && (a % 6 + 1 == b % 6 || b % 6 + 1 == a % 6)) || (a % 6 == b % 6 && (a / 6 + 1 == b / 6 || b / 6 + 1 == a / 6))

/-- The oscillators of two neighbouring clusters are coupled: they run at one frequency and neither is fenced, or counts as
fenced under stress test (15 R389, 17 R456). -/
def Ctl.coupled (c : Ctl) (a b : Nat) : Bool :=
  clusterNext a b && !c.fenced.contains a && !c.fenced.contains b && !c.stressed a && !c.stressed b &&
    c.get (freqPage a) F.FREQ_CUR_MHZ == c.get (freqPage b) F.FREQ_CUR_MHZ

/-- The clusters of `l` and those coupled to one of them, `n` couplings away at most. -/
def Ctl.couplings (c : Ctl) (l : List Nat) : Nat → List Nat
  | 0 => l
  | n + 1 => Ctl.couplings c ((List.range 24).filter fun a => l.contains a || l.any (c.coupled a)) n

/-- The connected set of coupled clusters a cluster is in (15 R389). -/
def Ctl.coupledSet (c : Ctl) (cl : Nat) : List Nat := c.couplings [cl] 23

/-- A cluster's clock is stretched: its own monitors warned, or it follows a cluster it is coupled to (15 R397). -/
def Ctl.isStretched (c : Ctl) (cl : Nat) : Bool := (c.coupledSet cl).any c.clk.stretched.contains

/-- A warning counted, by its kind of monitor. -/
def Ctl.countWarning (c : Ctl) (cl : Nat) (m : Margin) : Ctl :=
  match m with
  | .slack _ _ => c.bump (stinPage cl) F.STIN_SLACK_WARN_COUNT
  | _ => c.bump (stinPage cl) F.STIN_CLOCK_WARN_COUNT

/-- MARGIN_WARNING: a report beyond the limits of STIN.WARN is counted, and with STRETCH_EN the clock of the cluster stretches; a lowering of its
rails goes back; in stress corners 0 and 1 it is a failure of the corner and stretches nothing (15 R395 to R397, 17 R455). -/
def execMarginWarning (cl : ClusterId) (m : Margin) (s : State) : Host.Outcome State Fault Refusal :=
  s.onCtl fun c =>
    let p := stinPage cl
    if c.clockStopped cl || !c.isWarning cl m then c
    else
      let c := c.countWarning cl m
      let c := match c.changeOf (c.clusterScope cl) with
        | some (x : FreqChange) => if x.phase = ChangePhase.lowering then ((c.commandVolts x.scope x.old).setVolts x.scope x.old).setChange x.scope none else c
        | none => c
      if c.strictCorner cl then
        { c with ras := { c.ras with test := c.ras.test.map fun (t : TestRun) => { t with warned := true } } }
      else if c.flag p F.STIN_CTRL_STRETCH_EN && !c.clk.stretched.contains cl.val then
        let c := (((c.bump p F.STIN_STRETCH_EVENTS_COUNT).raise p 1).logEvent p (Config.eventCode 4) 1).dailyAdd 32 1
        { c with clk := { c.clk with
          stretched := insertNat cl c.clk.stretched
          episodes := SMap.set 0 c.clk.episodes cl (SMap.get 0 c.clk.episodes cl + 1) } }
      else c

/-- The stretched cycles of a cluster counted (02 R55, 15 R397). -/
def Ctl.countStretch (c : Ctl) (cl cycles : Nat) : Ctl :=
  (clusterTiles cl).foldl (fun c t => if c.tileGood t then c.perf t 0x0E cycles else c)
    (c.bump (stinPage cl) F.STIN_STRETCH_CYCLES_COUNT cycles)

/-- STRETCH_RETURN: HOLD cycles have passed without a warning: the clock is back at nominal, and with it those that followed it and follow no
other stretched one; `cycles` were stretched, in each of them (15 R389, R397). -/
def execStretchReturn (cl : ClusterId) (cycles : Nat) (s : State) : Host.Outcome State Fault Refusal :=
  s.onCtl fun c =>
    if c.clk.stretched.contains cl.val then
      let set := c.coupledSet cl
      let c := { c with clk := { c.clk with stretched := c.clk.stretched.filter (· != cl.val) } }
      (set.filter fun a => a == cl.val || !c.isStretched a).foldl (fun c a => c.countStretch a cycles) c
    else c

/-! ### Ageing (15 R399) -/

/-- DRIFT_PS of a cluster: the fused slack less the mean of the last 24 samples, averaged over its eight stand-ins; the rounding is
not stated, so it is rounded down or up freely. -/
def Ctl.newDrift (c : Ctl) (cl : Nat) : Ctl :=
  let l := SMap.get [] c.clk.drift cl
  let fused := (List.range 8).foldl (fun v n => v + Config.fusedPs cl n) (0 : Int)
  let num := fused * l.length - l.foldl (· + ·) 0
  let den : Int := 8 * l.length
  let (r, c) := c.choose
  let d := num / den + (if num % den = 0 then 0 else (r % 2 : Nat))
  let c := c.put (voltPage cl) F.VOLT_DRIFT_PS_PS (codeOf 16 d)
  if signedOf 64 (SMap.get 0 c.daily.items (57 + cl)) < d then
    { c with daily := { c.daily with items := SMap.set 0 c.daily.items (57 + cl) (codeOf 64 d) } }
  else c

/-- STANDIN_SAMPLE: Miryn samples the eight stand-ins of a cluster, normalised (15 R399). -/
def execStandinSample (cl : ClusterId) (slack : List Int) (s : State) : Host.Outcome State Fault Refusal :=
  s.onCtl fun c =>
    if !c.mirynUp || c.fenced.contains cl.val then c
    else
      let p := stinPage cl
      let l := (List.range 8).map fun n => slack.getD n 0
      let c := (List.range 8).foldl (fun c n =>
        (c.putN p F.STIN_SLACK_NOW_PS n (codeOf 16 (l.getD n 0))).putN p F.STIN_SLACK_FUSED_PS n (codeOf 16 (Config.fusedPs cl n))) c
      let d := SMap.get [] c.clk.drift cl ++ [l.foldl (· + ·) 0]
      let c := { c with clk := { c.clk with drift := SMap.set [] c.clk.drift cl (d.drop (d.length - 24)) } }
      c.newDrift cl

/-- The guard a cluster's re-plan computes: the larger of the old and half the drift, 5 mV more where it stretched more than once in 10 s,
up by at most 10 mV, never down, never above 50 mV (15 R399). -/
def newGuard (old : Nat) (drift : Int) (episodes : Nat) : Nat :=
  let g := max old ((drift + 1) / 2).toNat
  let g := if 360000 < episodes then g + 5 else g
  max old (min (min g (old + 10)) 50)

/-- AGEING_REPLAN: Miryn computes and persists each cluster's guard (15 R399). -/
def execAgeingReplan (s : State) : Host.Outcome State Fault Refusal :=
  s.onCtl fun c =>
    if !c.mirynUp then c
    else
      let c := (List.range 24).foldl (fun c cl =>
        let p := voltPage cl
        let old := c.guardMv cl
        let g := newGuard old (signedOf 16 (c.get p F.VOLT_DRIFT_PS_PS)) (SMap.get 0 c.clk.episodes cl)
        if g = old then c
        else
          let (c, ok) := c.keepWrite true 0 0 (77 + cl) (BitVec.ofNat 32 g)
          let c := if ok then { c with clk := { c.clk with guard := SMap.erase c.clk.guard cl } }
            else
              let c := { c with clk := { c.clk with guard := SMap.put c.clk.guard cl g } }
              (c.put p F.VOLT_STATUS_AGE_VOLATILE 1).errHw p 0x02
          c.newFmax cl) c
      { c with clk := { c.clk with episodes := [] } }

end Sys2Proof.Machine
end

