-- ==== Sys2Proof/Machine/Daily.lean ====
section
/-!
DEFINITION. The dailies (17 R460, R461) and the failure of the event log (17 R459).
-/
namespace Sys2Proof.Machine

/-- An item of the dailies. -/
def Ctl.dailyItem (c : Ctl) (i : Nat) : Nat := SMap.get 0 c.daily.items i

/-- The words of the keep summary before its CRC: items 0 (in hours), 1, 32 and 81, items 10 to 17 (in hours), and item 83 (17 R461). -/
def dailySummary (m : SMap Nat) : List Word :=
  let v := SMap.get 0 m
  ([v 0 / 3600, v 1, v 32, v 81] ++ (List.range 8).map (fun n => v (10 + n) / 3600) ++ [v 83]).map (BitVec.ofNat 32)

/-- The items a keep summary gives back; those it lacks are zero. -/
def summaryItems (l : List Word) : SMap Nat :=
  let v (i : Nat) : Nat := (l.getD i 0).toNat
  let m := [(0, v 0 * 3600), (1, v 1)] ++ (List.range 8).map (fun n => (10 + n, v (4 + n) * 3600)) ++ [(32, v 2), (81, v 3), (83, v 12)]
  m.filter fun e => e.2 != 0

/-- A snapshot: its sequence number grows, the record and the keep summary with its CRC are written (17 R461). -/
def Ctl.snapDaily (c : Ctl) : Ctl :=
  let c := c.dailyAdd 83 1
  let ws := dailySummary c.daily.items
  let ws := ws ++ [BitVec.ofNat 32 (crc32c.of (wordBytes ws))]
  let c := ws.zipIdx.foldl (fun c (w, i) => c.keepMiryn (110 + i) w) c
  let c := c.put64 dailyPage F.DAILY_LAST_SNAP_LO_NS c.reel
  { c with daily := { c.daily with spi := some c.daily.items, last := some c.time.mono } }

/-- The items Miryn restores after power was removed, counts made since it returned added to them, and the source used (17 R461);
`spiOk` says whether the newest record's CRC holds. -/
def Ctl.restoreDaily (c : Ctl) (spiOk : Bool) : Ctl :=
  let ws := (List.range 14).map fun i => c.keepWord (110 + i)
  let sumOk := ws.getD 13 0 == BitVec.ofNat 32 (crc32c.of (wordBytes (ws.take 13)))
  let (src, base) := match c.daily.spi, spiOk with
    | some m, true => (0, m)
    | _, _ => if sumOk then (1, summaryItems (ws.take 13)) else (2, [])
  let items := (List.range 84).filterMap fun i =>
    let old := SMap.get 0 base i
    let new := c.dailyItem i
    let v := if 57 ≤ i ∧ i ≤ 80 then (if signedOf 64 old < signedOf 64 new then new else old) else (old + new) % 2 ^ 64
    if v = 0 then none else some (i, v)
  { c.put dailyPage F.DAILY_STATUS_SOURCE src with daily := { c.daily with items := items } }

/-- DAILY_SNAPSHOT: every 24 hours of operation Miryn takes a snapshot (17 R461). -/
def execDailySnapshot (s : State) : Host.Outcome State Fault Refusal :=
  s.onCtl fun c => if c.mirynUp then c.snapDaily else c

/-- The log memory fails: from then on events go to the AON FIFO, of which the failure is the first (17 R459). -/
def Ctl.logFail (c : Ctl) : Ctl :=
  if c.log.failed then c
  else
    let c := { c with log := { c.log with failed := true } }
    (((c.errHw logPage 0x01).raise logPage 1).setFlags 2).faultOn 0x12

end Sys2Proof.Machine
end

