-- ==== Sys2Proof/Machine/Power.lean ====
section
/-!
DEFINITION. Power measurement, caps, TRACK, rail notice and energy (14 R356 to R380).
-/
namespace Sys2Proof.Machine

/-! ### Measurement (14 R357 to R361) -/

/-- LZ4 mode is selected (14 R359). -/
def Ctl.lz4 (c : Ctl) : Bool := bit (c.option 4) 0

/-- Rail `n`. -/
def Ctl.rail (c : Ctl) (n : Nat) : Rail := c.pwr.rails.getD n {}

/-- Rail `n` replaced. -/
def Ctl.setRail (c : Ctl) (n : Nat) (r : Rail) : Ctl := { c with pwr := { c.pwr with rails := c.pwr.rails.set n r } }

/-- Power of a rail under an activity estimate: GAIN times it plus OFFSET; in LZ4 mode the last reading, or the estimate itself from
the eleventh miss on (14 R358, R359, R361). -/
def Rail.measure (r : Rail) (lz4 : Bool) (est : Nat) : Rail :=
  let p : Int :=
    if !lz4 then (r.gain * est : Nat) * 15625 + r.off * 64000000
    else match r.reading with
      | some uw => if r.misses ≤ 10 then (uw * 1024 : Nat) else (est * 64000000 : Nat)
      | none => (est * 64000000 : Nat)
  { r with est := est, power := p }

/-- A missed reading of rail `n` (14 R361): why is 0 timeout, 1 CRC or PEC, 2 outside the window. -/
def Ctl.telemMiss (c : Ctl) (n why : Nat) : Ctl :=
  let p := pwrPage
  let c := (c.bump p F.PWR_TELEM_MISS_COUNT).errHw p 0x05
  let c := if c.flag p F.PWR_TELEM_FIRST_VALID then c
    else c.wr (p + F.PWR_TELEM_FIRST.off) (BitVec.ofNat 32 (0x80000000 + n * 0x10000 + why))
  let c := if n < 24 then c.bump (nrgPage n) F.NRG_TELEM_MISS_COUNT else c
  let r := c.rail n
  let m := r.misses + 1
  let c := c.setRail n { r with misses := m, frozen := r.frozen || (!c.lz4 && decide (1000 ≤ m)) }
  if !c.lz4 && m == 1000 then (c.logEvent p (Config.eventCode 5) 0).raise p 5 else if c.lz4 && m == 11 then c.raise p 5 else c

/-- TELEMETRY_READING: a regulator's reply: `ok` is its CRC or PEC, `mv` and `ma` its voltage and current; one that fails a check is a
missed reading (14 R360, R361). -/
def execTelemetryReading (n : Fin 32) (ok : Bool) (mv ma : Nat) (s : State) : Host.Outcome State Fault Refusal :=
  s.onCtl fun c =>
    if !ok then c.telemMiss n 1
    else if ma < c.getN pwrPage F.PWR_RAIL_WIN_MIN_A n * 1000 ∨ c.getN pwrPage F.PWR_RAIL_WIN_MAX_A n * 1000 < ma then c.telemMiss n 2
    else
      let r := c.rail n
      let l := r.samples ++ [(r.est, mv * ma)]
      c.setRail n { r with misses := 0, frozen := false, reading := some (mv * ma), samples := l.drop (l.length - 64) }

/-- TELEMETRY_TIMEOUT: a reply did not come in time (14 R360). -/
def execTelemetryTimeout (n : Fin 32) (s : State) : Host.Outcome State Fault Refusal := s.onCtl fun c => c.telemMiss n 0

/-- A quotient whose rounding is not stated: down or up freely, exact where it divides. -/
def looseDiv (a d : Int) (free : Nat) : Int := a / d + (if a % d = 0 then 0 else (free % 2 : Nat))

/-- GAIN and OFFSET of a rail by least squares over its samples (14 R358). Nothing changes while the estimates do not differ. -/
def Rail.fit (r : Rail) (f1 f2 : Nat) : Rail :=
  let n : Int := r.samples.length
  let sx : Int := r.samples.foldl (fun v e => v + e.1) (0 : Nat)
  let sy : Int := r.samples.foldl (fun v e => v + e.2) (0 : Nat)
  let sxx : Int := r.samples.foldl (fun v e => v + e.1 * e.1) (0 : Nat)
  let sxy : Int := r.samples.foldl (fun v e => v + e.1 * e.2) (0 : Nat)
  let den := n * sxx - sx * sx
  if den = 0 then r
  else
    let num := n * sxy - sx * sy
    let g := looseDiv (num * 4096 * 16) (den * 1000000) f1
    let o := looseDiv ((sy * den - num * sx) * 16) (n * den * 1000000) f2
    { r with gain := min 0xFFFF g.toNat, off := max (-32768) (min 32767 o) }

/-- CALIBRATION_TICK: every 1 ms Miryn updates each rail's GAIN and OFFSET from its readings, in blended mode, and asks every regulator for the next
ones (14 R358, R361, R370). -/
def execCalibrationTick (s : State) : Host.Outcome State Fault Refusal :=
  s.onCtl fun c =>
    if !c.mirynUp then c
    else
      let c := (List.range 32).foldl (fun c n => c.toRegulator n .readings) c
      if c.lz4 then c
      else
      let c := (List.range 32).foldl (fun c n =>
        let (f1, c) := c.choose
        let (f2, c) := c.choose
        if (c.rail n).frozen then c else c.setRail n ((c.rail n).fit f1 f2)) c
      { c with pwr := { c.pwr with calMs := c.pwr.calMs + 1 } }

/-! ### Limits (14 R362, R363) -/

/-- Power of rail `n`, not below 0. -/
def Ctl.railPower (c : Ctl) (n : Nat) : Nat := (c.rail n).power.toNat

/-- Device power: the rails and 2 W (14 R357). -/
def Ctl.devPower (c : Ctl) : Nat := (c.pwr.rails.foldl (fun (v : Int) r => v + r.power) 0).toNat + 2 * wUnit

/-- A stage's power: its clusters, and in blended mode the shares of the HBM rails and of the fabric rails, by bursts and frames since
the last tick (14 R359, R378). -/
def Ctl.stagePower (c : Ctl) (s : Nat) (bursts frames : List Nat) : Nat :=
  if !c.valid s then 0
  else
    let own := (c.stageClusters s).foldl (fun v cl => v + c.railPower cl) 0
    let share (rails part whole : Nat) : Nat := if whole = 0 then 0 else rails * part / whole
    let mine := (c.stageStacks s).foldl (fun v h => v + bursts.getD h 0) 0
    if c.lz4 then own
    else own + share (c.railPower 28 + c.railPower 29 + c.railPower 30) mine bursts.sum +
      share (c.railPower 26 + c.railPower 27) (frames.getD s 0) frames.sum

/-- The board drives THERM_ALERT_N low and the LZ6 does not (14 R383). -/
def Ctl.boardAlert (c : Ctl) : Bool := c.pwr.boardLow && !c.therm.driven

/-- The device sources but the cue, in W (14 R362). -/
def Ctl.otherCaps (c : Ctl) : Nat :=
  let p := pwrPage
  let m := min (c.get p F.PWR_HOST_CAP_W) (c.get p F.PWR_BMC_CAP_W)
  let m := if c.boardAlert then min m (c.get p F.PWR_ALERT_CAP_W) else m
  if c.pwr.safe then min m (bits (c.keepWord 76) 12 0) else m

/-- The active ceiling or setpoint in whole W (14 R368). -/
def Ctl.cueWatts (c : Ctl) : Nat := c.cues.value / 1000000

/-- EFF_CAP: the smallest device source (14 R362). -/
def Ctl.effCap (c : Ctl) : Nat := min c.otherCaps c.cueWatts

/-- The setpoint TRACK holds: min of the cue's and the other sources, in the unit of power (14 R373). -/
def Ctl.setpoint (c : Ctl) : Nat := min (c.cues.value * 1024) (c.otherCaps * wUnit)

/-- The ballast in use: BALLAST.EN, and its stage in RUN (14 R372, R373). -/
def Ctl.ballast (c : Ctl) : Option Nat :=
  let s := c.get pwrPage F.PWR_BALLAST_STAGE
  if c.flag pwrPage F.PWR_BALLAST_EN && decide (s < 12) && c.valid s && c.stState s == 2 then some s else none

/-- The device limit the loop holds: while TRACK reads 1 or 2 the setpoint acts through the ballast alone (DEDUCED from 14 R373). -/
def Ctl.devLimit (c : Ctl) : Nat :=
  let t := c.get pwrPage F.PWR_STATUS_TRACK
  if c.cues.mode = 1 ∧ (t = 1 ∨ t = 2) then c.otherCaps else c.effCap

def Ctl.gate (c : Ctl) (s : Nat) : Nat := c.get (stagePage s) F.STAGE_GATE_G

/-- A stage's issue gate moved, unless that load step is held for its notice (14 R363, R376). -/
def Ctl.setGate (c : Ctl) (s g : Nat) : Ctl :=
  if c.stepHeld fun w => match w with | .gate u => u.val == s | _ => false then c else c.put (stagePage s) F.STAGE_GATE_G g

/-- The issue gate of a cluster under stress test (17 R456): lowered to `g` at most, or opened by 32. -/
def Ctl.testGate (c : Ctl) (f : Nat → Nat) : Ctl :=
  { c with ras := { c.ras with test := c.ras.test.map fun t => if t.kind = 3 then { t with gate := f t.gate } else t } }

/-- Stages in RUN. -/
def Ctl.running (c : Ctl) : List Nat := (List.range 12).filter fun s => c.valid s && c.stState s == 2

/-- The quantities limited: number as of the energies, limit in W, and what is lowered: a scope, or none for the device (14 R362). -/
def Ctl.limits (c : Ctl) : List (Nat × Nat × Option Nat) :=
  ((List.range 24).filter fun cl => !c.fenced.contains cl).map (fun cl => (30 + cl, c.get (nrgPage cl) F.NRG_CAP_W_W, some (c.clusterScope cl))) ++
  ((List.range 12).filter c.valid).map (fun s => (10 + s, c.get (stagePage s) F.STAGE_PWR_CAP_W, some s)) ++
  [(0, c.devLimit, none)]

/-! ### The loop (14 R364) -/

/-- Gates of some stages lowered together; by how much the spec leaves open. -/
def Ctl.lowerGates (c : Ctl) (ss : List Nat) : Ctl :=
  let (v, c) := c.choose
  ss.foldl (fun c s => c.setGate s (min (c.gate s - 1) v)) c

/-- The device's fast limiter: the ballast's gate to 0 first, then those of every other running stage and of a cluster under stress test (14 R364, 17
R456). -/
def Ctl.lowerDevice (c : Ctl) : Ctl :=
  let others (c : Ctl) (ss : List Nat) : Ctl :=
    let (v, c) := (c.lowerGates ss).choose
    c.testGate fun g => min (g - 1) v
  match c.ballast with
  | some s => if c.gate s ≠ 0 then c.setGate s 0 else others c (c.running.filter (· != s))
  | none => others c c.running

/-- The fast limiter: every quantity more than 10 % above its limit, `now` being its 10 microsecond power (14 R364). -/
def Ctl.fastLimit (c : Ctl) (now : Nat → Nat) : Ctl :=
  let p := pwrPage
  let hit := c.limits.filter fun e => decide (11 * (e.2.1 * wUnit) < 10 * now e.1)
  if hit.isEmpty then c.put p F.PWR_STATUS_LIMIT 0
  else
    let c := if c.flag p F.PWR_STATUS_LIMIT then c
      else ((c.put p F.PWR_STATUS_LIMIT 1).bump p F.PWR_LIMIT_EVENTS_COUNT).raise p 2
    hit.foldl (fun c e =>
      match e.2.2 with
      | some sc => if sc < 12 then c.lowerGates [sc] else c
      | none => c.lowerDevice) c

/-- The average the loop compares with a limit: of the last 1 ms, or of 8 ms in LZ4 mode (14 R359, R364). -/
def Ctl.loopAvg (c : Ctl) (q : Nat) : Nat :=
  if c.lz4 then (c.pwr.hist.foldl (fun v m => v + SMap.get 0 m q) 0) / max 1 c.pwr.hist.length else SMap.get 0 c.pwr.avgs q

/-- The limits that bear on a scope: its clusters', its own, the device's. -/
def Ctl.scopeLimits (c : Ctl) (sc : Nat) : List (Nat × Nat) :=
  (c.limits.filter fun e => e.2.2 == none || e.2.2 == some sc).map fun e => (e.1, e.2.1)

/-- One step down for a scope: its gate by 32 in steady mode, else its frequency by 25 MHz (14 R363, R364, R380). -/
def Ctl.stepDown (c : Ctl) (sc : Nat) : Ctl :=
  if c.steady then (if sc < 12 then c.setGate sc (c.gate sc - 32) else c)
  else { c with pwr := { c.pwr with loop := SMap.put c.pwr.loop sc (max 500 (c.loopMhz sc - 25)) } }

/-- One step up for a scope: its gate by 32, then its frequency, up to the request, or with BOOST to 1,350 MHz while every limit has 10 %
headroom (14 R364, R380). -/
def Ctl.stepUp (c : Ctl) (sc : Nat) : Ctl :=
  if sc < 12 ∧ c.gate sc < 256 ∧ !(c.cues.mode == 1 && c.ballast == some sc) then c.setGate sc (min 256 (c.gate sc + 32))
  else if c.steady then c
  else
    let req := (c.scopeClusters sc).foldl (fun m cl => min m (c.reqMhz cl)) 1350
    let room := (c.scopeLimits sc).all fun (q, w) => decide (100 * c.loopAvg q ≤ 90 * (w * wUnit))
    let top := if c.flag pwrPage F.PWR_CTRL_BOOST && room then 1350 else req
    let m := c.loopMhz sc
    if m < top then
      let f := min top (m + 25)
      { c with pwr := { c.pwr with loop := if f = req then SMap.erase c.pwr.loop sc else SMap.put c.pwr.loop sc f } }
    else c

/-- The loop's step each millisecond, scope by scope (14 R364). -/
def Ctl.slowLimit (c : Ctl) : Ctl :=
  let ballast := c.ballast
  let c := if (c.limits.filter fun e => e.1 == 0).all fun e => decide (100 * c.loopAvg 0 < 95 * (e.2.1 * wUnit)) then c.testGate fun g => min 256 (g + 32)
    else c
  let scopes := (List.range 36).filter c.scopeOk
  scopes.foldl (fun c sc =>
    let l := c.scopeLimits sc
    let high := l.any fun (q, w) => decide (w * wUnit < c.loopAvg q) && !(q == 0 && ballast == some sc) && !(q == 0 && decide (12 ≤ sc)) &&
      (q != 0 || c.stState sc == 2)
    let below := l.all fun (q, w) => decide (100 * c.loopAvg q < 95 * (w * wUnit))
    if high then c.stepDown sc else if below then c.stepUp sc else c) c

/-! ### TRACK (14 R372 to R374) -/

/-- The tolerance about a setpoint: 2 % or 40 W, whichever is larger; in LZ4 mode 3 % or 60 W (14 R359, R374). -/
def trackTol (lz4 : Bool) (s : Nat) : Nat := if lz4 then max (3 * s / 100) (60 * wUnit) else max (s / 50) (40 * wUnit)

/-- TRACK set; a move out of OK raises its cause. -/
def Ctl.setTrack (c : Ctl) (t : Nat) : Ctl :=
  let was := c.get pwrPage F.PWR_STATUS_TRACK
  let c := c.put pwrPage F.PWR_STATUS_TRACK t
  if was = 1 ∧ t ≠ 1 then c.raise pwrPage 3 else c

/-- The loop's 10 microsecond step in TRACK: the ballast's gate moves so as to bring power to the setpoint, by an amount the spec leaves
open; the state follows (14 R372, R373). -/
def Ctl.trackStep (c : Ctl) (p : Nat) : Ctl :=
  let sp := c.setpoint
  if c.cues.mode = 0 then { c.setTrack 0 with pwr := { (c.setTrack 0).pwr with underFor := 0, overFor := 0 } }
  else match c.ballast with
    | none => { c.setTrack 4 with pwr := { (c.setTrack 4).pwr with underFor := 0, overFor := 0 } }
    | some s =>
      let (v, c) := c.choose
      let g := c.gate s
      let g' := if sp < p then min g (v % 257) else if p < sp then max g (v % 257) else g
      let c := if c.flag pwrPage F.PWR_STATUS_LIMIT then c else c.setGate s g'
      let g := c.gate s
      let u := if g = 256 ∧ p + trackTol c.lz4 sp < sp then c.pwr.underFor + 1 else 0
      let o := if g = 0 ∧ sp + trackTol c.lz4 sp < p then c.pwr.overFor + 1 else 0
      let was := c.get pwrPage F.PWR_STATUS_TRACK
      let t := if 100 ≤ u then 2 else if 100 ≤ o then 3
        else if (u ≠ 0 ∧ was = 2) ∨ (o ≠ 0 ∧ was = 3) then was else 1
      { c.setTrack t with pwr := { (c.setTrack t).pwr with underFor := u, overFor := o } }

/-- The present 100 ms window takes a tick: power, setpoint, whether TRACK read 1, ticks since the setpoint last stepped: moved faster than
2,000 W/s (14 R374). -/
def Ctl.windowTick (c : Ctl) (p : Nat) : Ctl :=
  let sp := c.setpoint
  let w := c.pwr
  let stepped := 20 * 1024000 < (if sp < w.setpoint then w.setpoint - sp else sp - w.setpoint)
  let w := { w with setpoint := sp, calm := if stepped then 0 else w.calm + 1 }
  if c.cues.mode = 0 then { c with pwr := { w with winP := 0, winS := 0, winN := 0, winOk := true } }
  else { c with pwr := { w with winP := w.winP + p, winS := w.winS + sp, winN := w.winN + 1
                                winOk := w.winOk && c.get pwrPage F.PWR_STATUS_TRACK == 1 } }

/-- TRACK_WINDOW_END: at each 100 ms boundary of reel time the tracking error is published; a window that meets the conditions and lies
outside the tolerance is a miss (14 R374, 17 R460). The error is power less setpoint; its rounding is not stated. -/
def execTrackWindowEnd (s : State) : Host.Outcome State Fault Refusal :=
  s.onCtl fun c =>
    let w := c.pwr
    if w.winN = 0 then c
    else
      let p := pwrPage
      let err : Int := (w.winP : Int) - w.winS
      let tol := trackTol c.lz4 (w.winS / w.winN) * w.winN
      let held := !c.lz4 && decide (64 ≤ w.calMs) && w.winOk && decide (w.winN + 5000 ≤ w.calm)
      let (f, c) := c.choose
      let c := c.put p F.PWR_TRACK_ERR_W (codeOf 16 (looseDiv err ((w.winN * wUnit : Nat) : Int) f))
      let c := c.bump p F.PWR_TRACK_WINDOWS_COUNT
      let a := err.natAbs
      let c := if held && decide (tol < a) then c.bump p F.PWR_TRACK_MISS_COUNT else c
      let bin := if 4 * a < tol then 0 else if 2 * a < tol then 1 else if 4 * a < 3 * tol then 2 else if a < tol then 3
        else if a < 2 * tol then 4 else 5
      let c := c.dailyAdd (26 + bin) 1
      { c with pwr := { c.pwr with winP := 0, winS := 0, winN := 0, winOk := true } }

/-! ### The tick (14 R363) -/

/-- A quantity's energy or sum grows. -/
def addAt (m : SMap Nat) (k v : Nat) : SMap Nat := SMap.set 0 m k (SMap.get 0 m k + v)

/-- The instant of a snapshot asked for has come: every counter is copied, and the instant recorded (14 R379). -/
def Ctl.takeSnap (c : Ctl) : Ctl :=
  match c.pwr.snapAt with
  | some ns =>
    if ns ≤ c.reel then { c with pwr := { c.pwr with snap := c.pwr.nrg, snapAt := none } }.put64 pwrPage F.PWR_SNAP_TIME_LO_NS ns else c
  | none => c

/-- POWER_TICK: 10 microseconds: rails measured from their activity estimates `est` (1/16 W), energy counted, ramps advanced, limits and
TRACK served. `bursts` and `frames` are those of each stack and stage since the last tick, `cls` the power of each class of mesh traffic
(1/16 W), `steps` the predicted current steps that are held for notice, `falls` those not controlled (14 R358 to R378). -/
def execPowerTick (est bursts frames cls : List Nat) (steps : List LoadStep) (falls : List (Fin 26 × Int)) (s : State) :
    Host.Outcome State Fault Refusal :=
  s.onCtl fun c =>
    if !c.boot.aon then c
    else
      let c := c.takeSnap.addNotices steps
      let lz4 := c.lz4
      let c := { c with pwr := { c.pwr with rails := c.pwr.rails.zipIdx.map fun (e : Rail × Nat) => e.1.measure lz4 (est.getD e.2 0) } }
      let dev := c.devPower
      let qs : List (Nat × Nat) := (0, dev) :: ((List.range 12).map (fun s => (10 + s, c.stagePower s bursts frames)) ++
        (List.range 24).map fun cl => (30 + cl, c.railPower cl))
      let now (q : Nat) : Nat := SMap.get 0 qs q
      let nrg := qs.foldl (fun m e => addAt m e.1 e.2) c.pwr.nrg
      let nrg := if lz4 then nrg else (List.range 5).foldl (fun m k => addAt m (1 + k) (cls.getD k 0 * 64000000)) nrg
      let sums := qs.foldl (fun m e => addAt m e.1 e.2) c.pwr.sums
      let ms := c.pwr.ticks + 1 == 100
      let avgs := if ms then (sums.map fun (e : Nat × Nat) => (e.1, e.2 / 100)).filter fun (e : Nat × Nat) => e.2 != 0 else c.pwr.avgs
      let hist := if ms then (c.pwr.hist ++ [avgs]).drop (c.pwr.hist.length + 1 - 8) else c.pwr.hist
      let c := { c with pwr := { c.pwr with
        nrg := nrg, sums := if ms then [] else sums, ticks := if ms then 0 else c.pwr.ticks + 1, avgs := avgs, hist := hist } }
      let c := if c.mirynUp then { c with cues := c.cues.advance } else c
      let c := if ms then c.put pwrPage F.PWR_POWER_W (min 8191 (SMap.get 0 avgs 0 / wUnit)) else c
      let c := c.trackStep dev
      let c := c.fastLimit now
      let c := if ms then c.slowLimit else c
      let c := c.windowTick dev
      falls.foldl (fun c (r, a) =>
        if c.getN pwrPage F.PWR_RN_THRESH_A r < a.natAbs then
          ({ c.bump pwrPage F.PWR_RN_LATE_COUNT with pwr := { c.pwr with notices := c.pwr.notices ++ [⟨r, a, .released, .freq⟩] } } : Ctl).toRegulator r
            (.step a)
        else c) c

/-! ### Rail notice (14 R375 to R377) -/

/-- The first notice of a rail in one phase passes to another. -/
def moveNotice (r : Nat) (a z : NoticePhase) : List Notice → List Notice
  | [] => []
  | n :: l => if n.rail = r ∧ n.phase = a then { n with phase := z } :: l else n :: moveNotice r a z l

def Ctl.onNotice (c : Ctl) (f : List Notice → List Notice) : Ctl := { c with pwr := { c.pwr with notices := f c.pwr.notices } }

/-- RAIL_NOTICE_WRITE_DONE: the AVSBus write of a held step, its signed size, is complete and RN asserts (14 R376). -/
def execRailNoticeWriteDone (r : Fin 26) (s : State) : Host.Outcome State Fault Refusal :=
  s.onCtl fun c =>
    match c.pwr.notices.find? fun n => n.rail == r.val && n.phase == .held with
    | some n => (c.onNotice (moveNotice r .held .noticed)).toRegulator r (.step n.amps)
    | none => c

/-- RAIL_NOTICE_RETRY: the write was not complete by t = -8 us: the step is held on and counted (14 R376). -/
def execRailNoticeRetry (r : Fin 26) (s : State) : Host.Outcome State Fault Refusal :=
  s.onCtl fun c =>
    if c.pwr.notices.any fun n => n.rail == r.val && n.phase == .held then c.bump pwrPage F.PWR_RN_HOLDS_COUNT else c

/-- RN_DEASSERT: 20 microseconds after a step its notice ends; RN stays asserted while another on the rail holds it (14 R376). -/
def execRnDeassert (r : Fin 26) (s : State) : Host.Outcome State Fault Refusal :=
  s.onCtl fun c => c.onNotice fun l => l.eraseP fun n => n.rail == r.val && n.phase == .released

/-! ### Energy windows (14 R379) -/

/-- SNAP_CTRL.SNAP: a snapshot is taken at the next whole microsecond of reel time (14 R379). -/
def Ctl.snapshot (c : Ctl) : Ctl := { c with pwr := { c.pwr with snapAt := some ((c.reelUs + 1) * 1000) } }

/-- SNAP_CTRL.ARM (14 R379). -/
def Ctl.armWindow (c : Ctl) (fn addr : Nat) : Ctl :=
  let p := pwrPage
  if c.flag p F.PWR_SNAP_CTRL_ARMED ∨ c.get p F.PWR_WIN_LEN_MS = 0 ∨ c.get64 p F.PWR_WIN_START_LO_US ≤ c.reelUs then c.err p 0x03 fn addr
  else { (c.put p F.PWR_SNAP_CTRL_ARMED 1).put p F.PWR_SNAP_CTRL_WIN_DONE 0 with pwr := { c.pwr with winOpen := false } }

/-- The differences of two sets of counters. -/
def nrgDiff (a b : SMap Nat) : SMap Nat := (a.map fun e => (e.1, e.2 - SMap.get 0 b e.1)).filter fun e => e.2 != 0

/-- WINDOW_EDGE: at WIN_START, and again WIN_LEN later, the counters are read at one instant; the second publishes the differences (14
R379). -/
def execWindowEdge (s : State) : Host.Outcome State Fault Refusal :=
  s.onCtl fun c =>
    let p := pwrPage
    let at_ := c.get64 p F.PWR_WIN_START_LO_US
    if !c.flag p F.PWR_SNAP_CTRL_ARMED then c
    else if !c.pwr.winOpen then
      if at_ ≤ c.reelUs then { c with pwr := { c.pwr with winOpen := true, winBase := c.pwr.nrg } } else c
    else if at_ + c.get p F.PWR_WIN_LEN_MS * 1000 ≤ c.reelUs then
      let c := { c with pwr := { c.pwr with winOpen := false, win := nrgDiff c.pwr.nrg c.pwr.winBase } }
      ((c.put p F.PWR_SNAP_CTRL_ARMED 0).put p F.PWR_SNAP_CTRL_WIN_DONE 1).raise p 6
    else c

/-! ### Caps from outside (14 R371, R383) -/

/-- SAFE_CAP_TIMEOUT: Miryn has not returned within 2 s: the safe cap joins the device sources (14 R371). -/
def execSafeCapTimeout (s : State) : Host.Outcome State Fault Refusal :=
  s.onCtl fun c =>
    if c.mirynUp || c.pwr.safe || !c.ready then c else { c with pwr := { c.pwr with safe := true } }.raise pwrPage 1

/-- BOARD_ALERT: the board drives THERM_ALERT_N low (14 R383). -/
def execBoardAlert (s : State) : Host.Outcome State Fault Refusal :=
  s.onCtl fun c => { c with pwr := { c.pwr with boardLow := true } }

/-- BOARD_ALERT_RELEASE: the board stops driving it (14 R383). -/
def execBoardAlertRelease (s : State) : Host.Outcome State Fault Refusal :=
  s.onCtl fun c => { c with pwr := { c.pwr with boardLow := false } }

end Sys2Proof.Machine
end

