-- ==== Sys2Proof/Machine/Thermal.lean ====
section
/-!
DEFINITION. Junction sensors, throttling and the thermal trip (14 R381, R382).
-/
namespace Sys2Proof.Machine

/-- Sensor `n`: 4·c + k for sensor k of cluster c, 96 + k for the rim's. -/
def Ctl.sensor (c : Ctl) (n : Nat) : Sensor := SMap.get {} c.therm.sensors n

/-- The register that shows sensor `n` (14 R386). -/
def sensorAddr (n : Nat) : Nat :=
  if n < 96 then sensPage (n / 4) + F.SENS_TEMP_VALID.off + 4 * (n % 4) else thermPage + F.THERM_RIM_TEMP_VALID.off + 4 * (n - 96)

/-- A sensor takes a reading of `v` sixteenths of a degree with its cluster at power `p`: bad beyond −40 and 150 degrees, or where it has
stood for 1,000 readings over which the power changed by more than a tenth (14 R382; the rim's have no cluster). -/
def Sensor.take (x : Sensor) (rim : Bool) (v : Int) (p : Nat) : Sensor :=
  let stood := v = x.last ∧ x.same ≠ 0
  let same := if stood then x.same + 1 else 1
  let lo := if stood then min x.lo p else p
  let hi := if stood then max x.hi p else p
  let stuck := !rim && decide (1000 ≤ same) && decide (lo < 10 * (hi - lo))
  { last := v, same := same, lo := lo, hi := hi, bad := x.bad || decide (v < -640) || decide (2400 < v) || stuck
    trips := if 1840 ≤ v then x.trips + 1 else 0 }

/-- Sensor `n` read: its register shows it; newly bad, it is counted against its cluster (14 R382). -/
def Ctl.readSensor (c : Ctl) (n : Nat) (v : Int) : Ctl :=
  let old := c.sensor n
  let x := old.take (decide (96 ≤ n)) v (if n < 96 then c.railPower (n / 4) else 0)
  let c := { c with therm := { c.therm with sensors := SMap.set {} c.therm.sensors n x } }
  let c := c.wr (sensorAddr n) (BitVec.ofNat 32 (codeOf 16 v + if x.bad then 0 else 0x80000000))
  if x.bad && !old.bad && decide (n < 96) then (c.bump (sensPage (n / 4)) F.SENS_SENSOR_BAD_COUNT).raise (sensPage (n / 4)) 1 else c

/-- The sensors whose readings bear on a limit: those not marked bad (DEDUCED from 14 R382, R386). -/
def Ctl.goodSensors (c : Ctl) (ns : List Nat) : List Sensor := (ns.map c.sensor).filter fun x => !x.bad && x.same != 0

/-- The sensors of a cluster. -/
def clusterSensors (cl : Nat) : List Nat := (List.range 4).map (4 * cl + ·)

/-- A cluster's throttled state follows its sensors: throttled at 100 degrees, no longer once all are below 95 (14 R381). -/
def Ctl.throttle (c : Ctl) (cl : Nat) : Ctl :=
  let l := c.goodSensors (clusterSensors cl)
  let w := c.get thermPage F.THERM_THROTTLED_CLUSTERS
  let was := w.testBit cl
  if l.any (fun x => decide (1600 ≤ x.last)) then
    if was then c
    else ((c.put thermPage F.THERM_THROTTLED_CLUSTERS (w ||| 2 ^ cl)).raise (sensPage cl) 2).raise thermPage 1
  else if was && l.all (fun x => decide (x.last < 1520)) then c.put thermPage F.THERM_THROTTLED_CLUSTERS (w - 2 ^ cl)
  else c

/-- SENSOR_READ: every 10 microseconds all sensors are read, checked and compared with the thresholds; three readings running of 115
degrees trip (14 R381, R382). `readings` are in sixteenths of a degree, 4·c + k for cluster c and 96 + k for the rim. -/
def execSensorRead (readings : List Int) (s : State) : Host.Outcome State Fault Refusal :=
  s.on fun b =>
    if !b.ctl.boot.aon || b.ctl.boot.resetLow || b.ctl.boot.held then b
    else
      let b := b.onCtl fun c =>
        let live := (List.range 104).filter fun n => n ≥ 96 || !c.fenced.contains (n / 4)
        let c := live.foldl (fun c n => c.readSensor n (readings.getD n 0)) c
        let l := c.goodSensors live
        let c := match l with
          | [] => c
          | x :: r => c.put thermPage F.THERM_HOT_C16 (codeOf 16 (r.foldl (fun m (y : Sensor) => max m y.last) x.last))
        let hot := l.any fun x => decide (signedOf 16 (c.get thermPage F.THERM_ALERT_C_C16) ≤ x.last)
        let c := if hot && !c.therm.driven then c.raise thermPage 2 else c
        let c := { c with therm := { c.therm with driven := hot } }
        (List.range 24).foldl (fun c cl => if c.fenced.contains cl then c else c.throttle cl) c
      if (b.ctl.goodSensors (List.range 104)).any fun x => decide (3 ≤ x.trips) then b.fullReset 7 else b

/-- THROTTLE_STEP: a scope with a sensor at 100 degrees loses a step of 25 MHz, every 100 microseconds; one whose clusters are no longer
throttled regains one, every millisecond (14 R380, R381). -/
def execThrottleStep (sc : Fin 36) (s : State) : Host.Outcome State Fault Refusal :=
  s.onCtl fun c =>
    if !c.scopeOk sc then c
    else
      let cls := c.scopeClusters sc
      let w := c.get thermPage F.THERM_THROTTLED_CLUSTERS
      let ceil := SMap.get 1350 c.therm.ceil sc
      let setCeil (c : Ctl) (f : Nat) : Ctl := { c with therm := { c.therm with ceil := SMap.set 1350 c.therm.ceil sc f } }
      if cls.any fun cl => (c.goodSensors (clusterSensors cl)).any fun x => decide (1600 ≤ x.last) then
        let f := min ceil (c.targetMhz sc)
        if f ≤ 500 then c
        else
          let c := (setCeil c (max 500 (f - 25))).bump thermPage F.THERM_THROTTLE_EVENTS_COUNT
          if c.steady && decide (f - 25 < 900) && !c.flag pwrPage F.PWR_STATUS_STEADY_LOST then
            (c.put pwrPage F.PWR_STATUS_STEADY_LOST 1).raise pwrPage 4
          else c
      else if cls.any fun cl => w.testBit cl then c
      else setCeil c (min 1350 (ceil + 25))

end Sys2Proof.Machine
end

