-- ==== Sys2Proof/Machine/Boot.lean ====
section
/-!
DEFINITION. Supply, rails, bring-up, warm restart, Miryn's resets (16 R421 to R437, 18 R478 to R483, R492, R495, R496).
-/
namespace Sys2Proof.Machine

/-! ### Failing to wake (16 R431, R433, 18 R483) -/

/-- The step of bring-up in RST.STATUS.PHASE (16 R423). -/
def Ctl.phase (c : Ctl) : Nat := c.get rstPage F.RST_STATUS_PHASE

def Ctl.setPhase (c : Ctl) (n : Nat) : Ctl := c.put rstPage F.RST_STATUS_PHASE n

/-- A wake-up failure recorded in BOOT_FAIL and on FAULT_N (16 R431, R434). -/
def Ctl.wakeFail (c : Ctl) (code rail : Nat) : Ctl :=
  (c.wr (rstPage + F.RST_BOOT_FAIL_CODE.off) (BitVec.ofNat 32 (0x80000000 + code * 0x100 + rail))).faultOn code

/-- The LZ6 holds in reset with a code; every rail is released (16 R431, R433, 18 R483). -/
def Ctl.holdReset (c : Ctl) : Ctl :=
  let c := c.setPhase 8
  { c with boot := { c.boot with
    held := true, releasing := !c.boot.rails.isEmpty, good := [], group := 0, retry := [], retrySeq := !c.boot.rails.isEmpty } }

/-! ### Power and pins -/

/-- Clusters of the option block's fence mask (16 R417). -/
def Ctl.optFenced (c : Ctl) (cl : Nat) : Bool := bit (c.option 6) cl

/-- Bring-up begins once PWR_OK is high and nothing holds the reset: the option block is loaded, then the rails follow, or, where they
stayed enabled, Miryn's ROM (16 R420, R423, 18 R492). `failed` are the keep words whose two copies fail. -/
def Ctl.beginBringup (c : Ctl) (failed : List (Fin 256)) : Ctl :=
  let o := c.boot
  if !o.aon || !o.pwrOk || o.resetLow || o.running != .full || o.start == .none || o.held then c
  else
    let c := if o.cause = 0 then c.dailyAdd 1 1 else c
    let c := c.loadOptions (failed.map (·.val))
    let c := (List.range 16).foldl (fun c p => if bit (c.option 3) p then c else c.put (portPage p) F.PORT_STATUS_OPT_DIS 1) c
    let c := { c with fenced := (List.range 24).filter c.optFenced, boot := { c.boot with start := .none } }
    c.setPhase (if o.start == .railsOn then 2 else 1)

/-- POWER_ON: VDD_AON rises into range (16 R413, 18 R480). -/
def execPowerOn (s : State) : Host.Outcome State Fault Refusal :=
  s.on fun b => if b.ctl.boot.aon then b else (b.onCtl fun c => { c with boot := { c.boot with aon := true } }).fullReset 0

/-- PWR_OK_RISE: PWR_OK has risen and is taken; the SMBus address is sampled from its straps (13 R350, 16 R423, 18 R480). -/
def execPwrOkRise (strap : Fin 4) (failed : List (Fin 256)) (s : State) : Host.Outcome State Fault Refusal :=
  s.onCtl fun c =>
    if !c.boot.aon || c.boot.pwrOk then c else
      { c with boot := { c.boot with pwrOk := true }, mgmt := { c.mgmt with smbAddr := 0x60 + strap.val } }.beginBringup failed

/-- PWR_OK_LOSS: PWR_OK fell for 100 ns or more (16 R413, R416, 18 R480, R483). -/
def execPwrOkLoss (s : State) : Host.Outcome State Fault Refusal :=
  s.on fun b => if b.ctl.boot.aon && b.ctl.boot.pwrOk then b.fullReset 1 else b

/-- RESET_N_ASSERT: an external low of 100 ns or more; while the LZ6 drives the pin it makes no second reset (16 R415). -/
def execResetNAssert (s : State) : Host.Outcome State Fault Refusal :=
  s.on fun b => if b.ctl.boot.aon && !b.ctl.boot.resetLow then b.fullReset 2 else b

/-- RESET_N_RELEASE: RESET_N is seen high (16 R415, 18 R492). -/
def execResetNRelease (failed : List (Fin 256)) (s : State) : Host.Outcome State Fault Refusal :=
  s.onCtl fun c =>
    if !c.boot.aon || !c.boot.resetLow then c else { c with boot := { c.boot with resetLow := false } }.beginBringup failed

/-- VDD_AON_LOSS: all power is removed: what is not in MRAM, in the SPI NOR or in the backup domain is gone, FAULT_N floats (16 R419,
R436, 17 R461, 18 R496). -/
def execVddAonLoss (s : State) : Host.Outcome State Fault Refusal :=
  s.on fun b =>
    let c := b.ctl
    let kept := c.regs.filter fun e =>
      decide (rstPage + 0x50 ≤ e.1) && decide (e.1 < rstPage + 0x70) || e.1 == rstPage + F.RST_LAST_CAUSE.off
    let gone : Ctl :=
      { regs := kept, out := c.out, free := c.free, keep := { c.keep with queue := [] }, daily := { spi := c.daily.spi }, nor := c.nor
        boot := { aon := false, start := .none }, pwr := { boardLow := c.pwr.boardLow } }
    { ctl := gone.put rstPage F.RST_STATUS_VBAK_LOST (c.get rstPage F.RST_STATUS_VBAK_LOST) }

/-- The backup domain's registers cleared (16 R436, R438). -/
def Ctl.clearBackup (c : Ctl) (lost : Nat) : Ctl :=
  ((c.zeroRange rstPage 0x50 0x6C).put rstPage F.RST_LAST_CAUSE_CAUSE 0).put rstPage F.RST_STATUS_VBAK_LOST lost

/-- VBAK_LOSS: VBAK leaves its range (16 R436). -/
def execVbakLoss (s : State) : Host.Outcome State Fault Refusal := s.onCtl fun c => c.clearBackup 1

/-! ### Rails (16 R431, R432, 18 R481 to R483) -/

/-- The group of a rail (18 R481). -/
def railGroup (n : Nat) : Nat :=
  if n < 24 then 5 else if n = 31 then 1 else if n = 26 ∨ n = 27 then 4 else if n = 28 ∨ n = 29 then 3 else 2

/-- The target of a rail that is no cluster's, in mV: its voltage of 18 R476, for the stacks' the nominal fused in the LZ6 (18 R477). -/
def Ctl.railNominal (c : Ctl) (n : Nat) : Nat :=
  let f := Config.vhbmFuse n
  match n with
  | 24 => c.vddmMv 0
  | 25 => 750
  | 26 => 800
  | 27 => 1200
  | 28 => 900 + f % 301
  | 29 => 600 + f % 301
  | 30 => 1600 + f % 301
  | _ => 1800

/-- A rail enabled, its target first written to its regulator, but for VDD_IO18's; a cluster's starts at the plan voltage of its request (18 R477,
R481). -/
def Ctl.enableRail (c : Ctl) (n : Nat) : Ctl :=
  let c := if n < 24 then c.railAt n (c.mvAt n (c.reqMhz n)) else if n = 31 then c else c.railTarget n (c.railNominal n)
  { c with boot := { c.boot with rails := insertNat n c.boot.rails } }

/-- A rail released on its own. -/
def Ctl.releaseRail (c : Ctl) (n : Nat) : Ctl :=
  let c := if n < 24 then c.put (voltPage n) F.VOLT_STATUS_V_MV 0 else c
  let c := { c with pwr := { c.pwr with volts := SMap.erase c.pwr.volts n } }
  { c with boot := { c.boot with rails := c.boot.rails.filter (· != n), good := c.boot.good.filter (· != n) } }

/-- Every enabled rail has shown its power-good. -/
def Ctl.railsGood (c : Ctl) : Bool := c.boot.rails.all c.boot.good.contains

/-- Once every group is enabled and every power-good seen, Miryn's ROM runs (16 R423). -/
def Ctl.railsDone (c : Ctl) : Ctl := if c.phase = 1 ∧ c.boot.group = 5 ∧ c.railsGood then c.setPhase 2 else c

/-- The rails are being brought up: nothing holds the reset and none is being released. -/
def Ctl.sequencing (c : Ctl) : Bool :=
  c.boot.aon && c.boot.running == .full && !c.boot.held && !c.boot.releasing && !c.boot.retrySeq && decide (1 ≤ c.phase)

/-- RAIL_GROUP_ENABLE: the next group is enabled once every power-good of the one before was seen (18 R481). -/
def execRailGroupEnable (s : State) : Host.Outcome State Fault Refusal :=
  s.onCtl fun c =>
    if !c.sequencing || c.phase != 1 || decide (5 ≤ c.boot.group) || !c.railsGood then c
    else
      let g := c.boot.group + 1
      let rs := (List.range 32).filter fun n => railGroup n == g && !(decide (n < 24) && c.fenced.contains n)
      let c := rs.foldl Ctl.enableRail c
      { c with boot := { c.boot with group := g } }.railsDone

/-- VR_PG_RISE: a power-good input is seen high; one whose rail is not enabled is ignored (18 R481, R483). -/
def execVrPgRise (n : Fin 32) (s : State) : Host.Outcome State Fault Refusal :=
  s.onCtl fun c =>
    if c.sequencing && c.boot.rails.contains n.val then
      { c with boot := { c.boot with good := insertNat n c.boot.good } }.railsDone
    else c

/-- VR_PG_TIMEOUT: a power-good was not seen within 20 ms of its enable (16 R431). -/
def execVrPgTimeout (n : Fin 32) (s : State) : Host.Outcome State Fault Refusal :=
  s.onCtl fun c =>
    if !c.sequencing || !c.boot.rails.contains n.val || c.boot.good.contains n.val then c
    else if n.val < 24 then
      let t := SMap.get 0 c.boot.railTries n + 1
      let c := c.releaseRail n
      let c := { c with boot := { c.boot with railTries := SMap.put c.boot.railTries n t } }
      if 3 < t then { c with fenced := insertNat n c.fenced }.railsDone
      else { c with boot := { c.boot with retry := insertNat n c.boot.retry } }.railsDone
    else
      let t := c.boot.seqTries + 1
      let c := { c with boot := { c.boot with seqTries := t } }
      if 3 < t then (c.wakeFail 0x01 n).holdReset
      else { c with boot := { c.boot with releasing := true, good := [], group := 0, retry := [], railTries := [], retrySeq := true } }

/-- RAIL_RETRY: 100 ms off have passed: one cluster's rail is enabled again, or the whole sequence starts again (16 R431, R432). -/
def execRailRetry (which : Option ClusterId) (s : State) : Host.Outcome State Fault Refusal :=
  s.onCtl fun c =>
    match which with
    | some n =>
      if c.sequencing && c.boot.retry.contains n.val then
        { c with boot := { c.boot with retry := c.boot.retry.filter (· != n.val) } }.enableRail n
      else c
    | none => if c.boot.aon && !c.boot.releasing && !c.boot.resetLow then { c with boot := { c.boot with retrySeq := false } } else c

/-- POWER_GOOD_LOSS: a power-good that was seen falls while its rail is enabled (16 R432). -/
def execPowerGoodLoss (n : Fin 32) (s : State) : Host.Outcome State Fault Refusal :=
  s.on fun b =>
    let o := b.ctl.boot
    if o.aon && !o.releasing && o.rails.contains n.val && o.good.contains n.val then b.fullReset 6 else b

/-- RAIL_RELEASE: the highest group still enabled is released (18 R482, R483). -/
def execRailRelease (s : State) : Host.Outcome State Fault Refusal :=
  s.onCtl fun c =>
    if !c.boot.releasing then c
    else
      let g := c.boot.rails.foldl (fun m n => max m (railGroup n)) 0
      let c := (c.boot.rails.filter fun n => railGroup n == g).foldl Ctl.releaseRail c
      { c with boot := { c.boot with releasing := !c.boot.rails.isEmpty } }

/-! ### Image, clocks, classification (16 R421 to R427) -/

/-- The slots in the order the option block gives (16 R417). -/
def imageOrder (w : Word) : List Nat := match bits w 1 0 with | 0 => [0, 1] | 1 => [1, 0] | 2 => [0] | _ => [1]

/-- IMAGE_VERIFY: the ROM tries the images in order and runs the first that verifies, its version not below MIN_IMAGE; none: recovery,
or the LZ6 stays held. `sfdp` says whether the SPI NOR answers SFDP, `ok` for A and B whether header, length and signature hold, `ver` gives
their versions; `logOk` the log memory's test; `spiOk` the CRC of the newest dailies record. A failing image, or a device that does not answer,
counts as a failed SPI command (13 R355, 16 R421, R423, R427, R437, 17 R459, R461). -/
def execImageVerify (sfdp : Bool) (ok : Bool × Bool) (ver : Fin 256 × Fin 256) (logOk spiOk : Bool) (s : State) : Host.Outcome State Fault Refusal :=
  s.onCtl fun c =>
    if !c.boot.aon || c.boot.running == .none || c.boot.held || c.phase != 2 then c
    else
      let good (k : Nat) : Bool := sfdp && !c.boot.spiBad.contains k && (if k = 0 then ok.1 else ok.2) &&
        decide (bits (c.option 5) 15 8 ≤ (if k = 0 then ver.1.val else ver.2.val))
      let order := imageOrder (c.option 1)
      let c := if logOk || c.boot.running != .full then c else c.logFail
      let c := (order.takeWhile fun k => !good k).foldl
        (fun c _ => (c.logEvent mirynPage (Config.eventCode 6) 0).bump devPage F.DEV_MGMT_ERR_SPI) c
      match order.find? good with
      | some k =>
        let c := c.wr (mirynPage + F.MIRYN_IMAGE_SLOT.off) (BitVec.ofNat 32 (k * 2 ^ 31 + (if k = 0 then ver.1.val else ver.2.val)))
        let c := (c.put mirynPage F.MIRYN_STATUS_ROM 0).put rstPage F.RST_STATUS_MIRYN_UP 1
        let c := c.put pwrPage F.PWR_DITHER_HASH_HASH (crc32c.of ((List.range 16).map Config.serial))
        let c := if c.boot.running = .full ∧ c.boot.cause = 0 then c.restoreDaily spiOk else c
        c.setPhase 3
      | none =>
        let c := c.wakeFail 0x03 0
        if bit (c.option 1) 2 then c.setPhase 9 else c.holdReset

/-- OSCILLATOR_LOCK_TIMEOUT: a cluster did not lock within 5 ms: it is tried 100 MHz lower, three times, then fenced (16 R433). -/
def execOscillatorLockTimeout (cl : ClusterId) (s : State) : Host.Outcome State Fault Refusal :=
  s.onCtl fun c =>
    if c.boot.running == .none || c.boot.held || c.phase != 3 || c.fenced.contains cl.val then c
    else
      let t := SMap.get 0 c.boot.lockTries cl + 1
      let c := { c with boot := { c.boot with lockTries := SMap.put c.boot.lockTries cl t } }
      if 3 < t then { c with fenced := insertNat cl c.fenced, clk := { c.clk with lockCap := SMap.erase c.clk.lockCap cl } }
      else { c with clk := { c.clk with lockCap := SMap.put c.clk.lockCap cl (c.reqMhz cl - 100 * t) } }

/-- Good M-tiles and S-tiles of a cluster, by a list of those bad. -/
def Ctl.goodCounts (c : Ctl) (cl : Nat) : Nat × Nat :=
  let l := (clusterTiles cl).filter fun t => !c.continuity t
  ((l.filter fun t => !isSTile t).length, (l.filter isSTile).length)

/-- Registers of R20 and R21 of one cluster (01 R20, R21). -/
def Ctl.publishCluster (c : Ctl) (cl : Nat) : Ctl :=
  let f := c.fenced.contains cl
  let (m, n) := if f then (0, 0) else c.goodCounts cl
  let short := !f && (decide (m < 57) || decide (n < 19))
  let map := if f then 0 else (List.range 80).foldl (fun v l => if c.continuity (clusterTile cl l) then v else v + 2 ^ l) 0
  let p := cluPage cl 0
  let c := (List.range 3).foldl (fun c k => c.wr (p + 0x40 + 4 * k) (BitVec.ofNat 32 (map / 2 ^ (32 * k)))) c
  let c := c.wr (p + 0x4C) (BitVec.ofNat 32 (ofBool f * 2 ^ 31 + ofBool short * 2 ^ 30 + m * 2 ^ 16 + n))
  let d := devPage
  let c := (c.put d F.DEV_GOOD_TILES_M_GOOD (c.get d F.DEV_GOOD_TILES_M_GOOD + m)).put d F.DEV_GOOD_TILES_S_GOOD
    (c.get d F.DEV_GOOD_TILES_S_GOOD + n)
  if f then (c.put d F.DEV_FENCE_MASK_FENCED (c.get d F.DEV_FENCE_MASK_FENCED + 2 ^ cl)).put d F.DEV_RATING_FENCED_COUNT
    (c.get d F.DEV_RATING_FENCED_COUNT + 1)
  else if short then (c.put d F.DEV_SHORT_MASK_SHORT (c.get d F.DEV_SHORT_MASK_SHORT + 2 ^ cl)).put d F.DEV_RATING_SHORT_COUNT
    (c.get d F.DEV_RATING_SHORT_COUNT + 1)
  else c

/-- Clusters classified from the continuity list and the fences, and the registers of R20 published; no cluster up: held with code 0x04
(01 R17, R18, R20, R29, 16 R425, R427, R433, 17 R452). -/
def Ctl.classify (c : Ctl) : Ctl :=
  let low := (List.range 24).filter fun cl => let (m, n) := c.goodCounts cl; decide (m < 48) || decide (n < 16)
  let c := low.foldl (fun c cl => { c with fenced := insertNat cl c.fenced }) c
  let c := c.fenced.foldl Ctl.releaseRail c
  let c := { c with offTiles := (List.range 1920).filter c.continuity }
  let c := c.zeroRange devPage 0x40 0x4C
  let c := (List.range 24).foldl Ctl.publishCluster c
  let below := c.get devPage F.DEV_SHORT_MASK_SHORT + c.get devPage F.DEV_FENCE_MASK_FENCED != 0
  let c := if below then c.put devPage F.DEV_RATING_BELOW_RATING 1 else c
  let bad := (List.range 24).any fun cl => !c.optFenced cl &&
    ((c.get devPage F.DEV_SHORT_MASK_SHORT).testBit cl || (c.get devPage F.DEV_FENCE_MASK_FENCED).testBit cl)
  let c := if bad && c.boot.running == .full then
      ((c.setFlags 1).logEvent rasPage (Config.eventCode 7) 0).faultOn 0x11
    else c
  let hit := (List.range 12).filter fun s => c.valid s && (c.stageClusters s).any c.fenced.contains
  let c := hit.foldl (fun c s =>
    ((c.put (stagePage s) F.STAGE_RECT_VALID 0).put (stagePage s) F.STAGE_PORT_MASK_PORTS 0).errHw (stagePage s) 0x03) c
  if c.fenced.length = 24 then (c.wakeFail 0x04 0).holdReset else c.setPhase 6

/-- OSCILLATORS_LOCKED: REFCLK is checked; every cluster not fenced has locked at its request or below it, and seam links are repaired,
both ends of each link that cannot be (`seam`) entering the continuity list. The stacks are trained: those that fail three times (`untrained`) are
marked failed, the good ones are zero-filled. A cold bring-up goes on to HBM and the at-start test, a warm
restart to classification (01 R9, 11 R288, R289, 15 R408, 16 R423, R427, R433). -/
def execOscillatorsLocked (refclk : Bool) (seam : List SeamLink) (untrained : List StackId) (s : State) : Host.Outcome State Fault Refusal :=
  s.onCtl fun c =>
    if c.boot.running == .none || c.boot.held || c.phase != 3 then c
    else if !refclk then (c.put clkPage F.CLK_STATUS_REFCLK_OK 0).wakeFail 0x02 0
    else
      let c := (c.put clkPage F.CLK_STATUS_REFCLK_OK 1).faultOff 0x02
      let up := (List.range 24).filter fun cl => !c.fenced.contains cl
      let c := up.foldl (fun c cl =>
        let sc := c.clusterScope cl
        let c := c.newFmax cl
        let f := c.targetMhz sc
        let c := (c.put (freqPage cl) F.FREQ_CUR_MHZ f).put (freqPage cl) F.FREQ_CUR_LIMIT (c.limitCode sc cl f)
        c.railAt cl (c.mvAt cl f)) c
      let c := c.vddm 0
      let c := c.put clkPage F.CLK_STATUS_LOCKED (up.foldl (fun v cl => v + 2 ^ cl) 0)
      let c := c.setContinuity (seam.flatMap SeamLink.ends)
      if c.boot.running = .warm then c.classify
      else
        let bad := untrained.map (·.val)
        ((List.range 12).foldl (fun c h => if bad.contains h then c.stackFail h else c.put (hbmPage h) F.HBM_STATUS_INIT_BUSY 1) c).setPhase 5

/-- AT_START_TEST_COMPLETE: the tiles of the clusters that came up which failed enter the continuity list; clusters are classified (16 R425). -/
def execAtStartTestComplete (failing : List TileId) (s : State) : Host.Outcome State Fault Refusal :=
  s.onCtl fun c =>
    if c.boot.running != .full || c.boot.held || c.phase != 5 || !c.boot.retry.isEmpty || !c.railsGood then c
    else (c.setContinuity ((failing.map (·.val)).filter fun t => !c.fenced.contains (tileCluster t))).classify

/-- The resident tile image put into a tile (16 R426). -/
def Blk.writeImage (b : Blk) (t : Nat) (r : Resident) : Blk :=
  let b := b.onTile t fun x => (if isSTile t then r.s else r.m).foldl (fun x e => x.spWrite e.1 (runOf e.2 false)) { x with init := false }
  b.onCtl fun c => r.regs.foldl (fun c e =>
    let a := tilePage t 0 + e.1
    match place a with
    | .page k _ _ off =>
      match regDef k off with
      | some d =>
        let m := BitVec.ofNat 32 (regStored d)
        c.wr a ((e.2 &&& m) ||| (c.rd a &&& ~~~m))
      | none => c
    | _ => c) c

/-- Good tiles of no valid stage (16 R426). -/
def Ctl.residents (c : Ctl) : List Nat := (List.range 1920).filter fun t => c.tileGood t && (c.tileStage t).isNone

/-- RESIDENT_CALL_SHEET: the resident tile image goes into every good tile of no valid stage, those tiles are released, and READY = 1;
`m` and `n` are the image for M-tiles and S-tiles, `regs` its register words, `ms` the time bring-up took (16 R423, R426, R427). -/
def execResidentCallSheet (m n : List (Nat × List Byte)) (regs : List (Nat × Word)) (ms : Nat) (s : State) :
    Host.Outcome State Fault Refusal :=
  s.on fun b =>
    let c := b.ctl
    if c.boot.running == .none || c.boot.held || c.phase != 6 || (List.range 12).any (fun h => c.flag (hbmPage h) F.HBM_STATUS_INIT_BUSY)
    then b
    else
      let ts := c.residents
      let r : Resident := { m := m, s := n, regs := regs }
      let b := ts.foldl (fun b t => b.writeImage t r) b
      let b := ts.foldl Blk.openTile b
      b.onCtl fun c =>
        let c := (c.put rstPage F.RST_STATUS_READY 1).setPhase 7
        let c := c.put rstPage F.RST_BOOT_MS_MS (min ms 0xFFFF)
        ({ c with boot := { c.boot with running := .none, image := r } }).logEvent rstPage (Config.eventCode 8) 0

/-- WARM_RESET_RELEASE: 2 ms after its assertion the warm reset is released and Miryn restarts (16 R415, R427). -/
def execWarmResetRelease (s : State) : Host.Outcome State Fault Refusal :=
  s.onCtl fun c => if c.boot.running = .warm ∧ c.phase = 0 then c.setPhase 2 else c

/-! ### Miryn with the outputs on (16 R435, 14 R370, R371) -/

/-- MIRYN_WATCHDOG: Miryn alone is reset; it has no effect during a reset of wider reach (16 R416, R435). -/
def execMirynWatchdog (s : State) : Host.Outcome State Fault Refusal :=
  s.onCtl fun c => if c.boot.running != .none || !c.mirynUp then c else (c.countReset 3).mirynReset.raise rstPage 1

/-- MIRYN_RETURN: Miryn runs again: overdue cues are applied in order, the safe cap leaves (14 R370, R371, 16 R435). -/
def execMirynReturn (s : State) : Host.Outcome State Fault Refusal :=
  s.onCtl fun c =>
    if c.boot.running != .none || c.mirynUp || !c.boot.aon then c
    else
      let c := (c.put rstPage F.RST_STATUS_MIRYN_UP 1).raise rstPage 2
      let c := { c with cues := { c.cues with back := c.reelUs }, pwr := { c.pwr with safe := false } }
      c.cueDrain c.cues.queue.length

/-! ### VDDM and FAULT_N (18 R478, R495, R496) -/

/-- VDDM_RETENTION: every good tile has been held for 100 ms with READY = 1 and no test: VDDM is commanded to 0.55 V (18 R478). -/
def execVddmRetention (s : State) : Host.Outcome State Fault Refusal :=
  s.on fun b =>
    let c := b.ctl
    let quiet := (List.range 1920).all fun t => c.tileOff t || (b.tile t).wrapped
    if c.ready && c.ras.test.isNone && quiet && !c.boot.raising then
      b.onCtl fun c => { c with boot := { c.boot with retention := true } }.railTarget 24 550
    else b

/-- FAULT_N_FRAME: the next frame carries the active code; while several are active, the first two in order alternate (17 R469, 18
R495, R496). -/
def execFaultNFrame (s : State) : Host.Outcome State Fault Refusal :=
  s.onCtl fun c =>
    if !c.boot.aon then c
    else
      let f := match c.boot.faults with
        | [] => 0
        | [a] => a
        | a :: z :: _ => if c.boot.frame = a then z else a
      { c with boot := { c.boot with frame := f } }

end Sys2Proof.Machine
end

