-- ==== Sys2Proof/Machine/Time.lean ====
section
/-!
DEFINITION. Reel time, its copies in the tiles, and its references (15 R400 to R409).
-/
namespace Sys2Proof.Machine

/-! ### Sync ticks (15 R402) -/

/-- SYNC_TICK_SEND: every microsecond the rim sends a tick with the reel time to every good tile of every valid stage; it enters at the
edge row the tile's rim traffic uses (15 R402, 10 R249). -/
def execSyncTickSend (s : State) : Host.Outcome State Fault Refusal :=
  s.onCtl fun c =>
    if !c.ready then c
    else ((List.range 12).filter c.valid).foldl (fun c st =>
      (c.stageTiles st).foldl (fun c t => c.msgFromRim t { type := 7, rim := true, value := c.reel }) c) c

/-- SYNC_TICK: a tile corrects its copy: the tick's time and the delay its hops took, a tile cycle each; a copy that is ahead holds. The
rounding of the delay is not stated (15 R402, 10 R239). -/
def execSyncTick (i : Nat) (s : State) : Host.Outcome State Fault Refusal :=
  s.on fun b =>
    match b.ctl.atTile i with
    | some (t, .msg m) =>
      if m.type = 7 then
        let old := b.tileReel t
        let b := b.onCtl fun c => c.takeNet i
        if !b.live t then b
        else
          let (f, c) := b.ctl.choose
          let mhz := c.get (freqPage (tileCluster t)) F.FREQ_CUR_MHZ
          let d := (looseDiv ((m.hops * 1000 : Nat) : Int) ((max 1 mhz : Nat) : Int) f).toNat
          ({ b with ctl := c } : Blk).onTile t fun x => { x with reel := some (old, m.value + d, c.time.mono) }
      else b
    | _ => b

/-! ### Switching (15 R403, R407 to R409) -/

def Ctl.src (c : Ctl) : Nat := c.get timePage F.TIME_STATUS_SRC
def Ctl.slewing (c : Ctl) : Bool := c.flag timePage F.TIME_STATUS_SLEWING
def Ctl.onTime (c : Ctl) (f : TimeU → TimeU) : Ctl := { c with time := f c.time }

/-- The newest `n` ns of a record of ADJ (15 R407). -/
def lastAdj : Nat → List (Int × Nat) → List (Int × Nat)
  | _, [] => []
  | n, (a, d) :: l => if n ≤ d then [(a, n)] else (a, d) :: lastAdj (n - d) l

/-- The time for which the present ADJ has stood enters the record of the last 64 s (15 R407). -/
def TimeU.pushAdj (t : TimeU) : TimeU := { t with adjs := lastAdj 64000000000 ((t.adj, t.mono - t.adjAt) :: t.adjs), adjAt := t.mono }

/-- The mean of ADJ over its record; its rounding is not stated (15 R407). -/
def TimeU.meanAdj (t : TimeU) (free : Nat) : Int :=
  let n := t.adjs.foldl (fun v e => v + e.2) 0
  if n = 0 then t.adj else looseDiv (t.adjs.foldl (fun (v : Int) e => v + e.1 * (e.2 : Nat)) 0) (n : Nat) free

/-- ADJ moved by a free amount of ppb between `lo` and `hi`, and held within 500 ppm (15 R401). -/
def TimeU.moveAdj (t : TimeU) (lo hi : Int) (v : Nat) : TimeU :=
  { t.pushAdj with adj := max (-500000) (min 500000 (t.adj + lo + ((v % (hi - lo + 1).toNat : Nat) : Int))) }

/-- ADJ as the servo leaves it under PTP with a measured offset of `off` sixteenths of a ns: its law is not stated. Where `fine` says that the
conditions of 15 R405 hold and 60 s have passed since the last slew ended, it is such that reel time, as measured, is within 50 ns of the grandmaster
at the next Sync, 125 ms on (15 R401, R405; DEDUCED, log 35). -/
def Ctl.servoPtp (c : Ctl) (off : Int) (fine : Bool) : Ctl :=
  let (v, c) := c.choose
  c.onTime fun t =>
    let held := fine && match t.settled with | some m => decide (m + 60000000000 ≤ t.mono) | none => false
    if held then t.moveAdj ((off - 799) / 2) ((off + 800) / 2) v else t.moveAdj (-500000 - t.adj) (500000 - t.adj) v

/-- ADJ as the servo leaves it under PPS with an edge `off` ns ahead of reel time: where `fine` says that REFCLK keeps the condition of 15 R405 and the
slew has ended, it is such that reel time, as measured, is within 20 ns of the next edge (15 R406; DEDUCED, log 35). -/
def Ctl.servoPps (c : Ctl) (off : Int) (fine : Bool) : Ctl :=
  let (v, c) := c.choose
  c.onTime fun t =>
    if fine && t.settled.isSome then t.moveAdj (off - 20) (off + 20) v else t.moveAdj (-500000 - t.adj) (500000 - t.adj) v

/-- Holdover freezes ADJ at its mean over the last 64 s with a reference (15 R407). -/
def Ctl.holdAdj (c : Ctl) : Ctl :=
  let (v, c) := c.choose
  c.onTime fun t => { t with adj := t.meanAdj v }

/-- The measured offset of a reference, reference minus reel time, in ns. -/
def Ctl.refOffset (c : Ctl) (k : Nat) : Int × Ctl :=
  if k = 1 then
    let (f, c) := c.choose
    (looseDiv (c.time.filt.getD 0) 16 f, c)
  else (c.time.ppsOff, c)

/-- TIME.OFFSET shows the last measurement, saturating (15 R410). -/
def Ctl.showOffset (c : Ctl) (o : Int) : Ctl :=
  c.put timePage F.TIME_OFFSET_NS (codeOf 32 (max (-2147483648) (min 2147483647 o)))

/-- An offset slewed out at 100 ppm, unless it is within 20 ns (15 R401, R409). -/
def Ctl.slew (c : Ctl) (o : Int) : Ctl :=
  let small := decide (o.natAbs ≤ 20)
  (c.put timePage F.TIME_STATUS_SLEWING (ofBool !small)).onTime fun t =>
    { t with slew := if small then 0 else if 0 < o then 100000 else -100000, settled := if small then some t.mono else none }

/-- The best qualified reference: 1 PTP, 2 PPS, 0 none. -/
def Ctl.bestRef (c : Ctl) : Nat :=
  if c.flag timePage F.TIME_STATUS_PTP_QUAL then 1 else if c.flag timePage F.TIME_STATUS_PPS_QUAL then 2 else 0

/-- A switch to reference `k`, or to holdover, counted (15 R407, R409). -/
def Ctl.switchTo (c : Ctl) (k : Nat) : Ctl :=
  let p := timePage
  let used := c.src = 1 ∨ c.src = 2
  let c := c.onTime fun t => if used then t.pushAdj else { t with adjAt := t.mono }
  let c := ((c.put p F.TIME_STATUS_SRC k).bump p F.TIME_SWITCHES_COUNT).raise p 4
  if k = 3 then c.holdAdj.slew 0
  else
    let (o, c) := c.refOffset k
    let c := c.showOffset o
    if c.flag p F.TIME_STATUS_SET then c.slew o
    else
      let c := (c.put p F.TIME_STATUS_SET 1).raise p 2
      if 0 < o then ({ c with reel := c.reel + o.toNat } : Ctl).slew 0 else c.slew o

/-- A better reference that has qualified is switched to, once no slew is in progress (15 R409). -/
def Ctl.improve (c : Ctl) : Ctl :=
  let k := c.bestRef
  let cur := c.src
  if k = 0 ∨ c.slewing then c else if cur = 0 ∨ k < cur then c.switchTo k else c

/-- The reference in use is gone: the best other one that is qualified, or holdover (15 R409). -/
def Ctl.leaveRef (c : Ctl) (k : Nat) : Ctl :=
  if c.src = k then c.switchTo (if c.bestRef = 0 then 3 else c.bestRef) else c

/-- PTP is no longer qualified, and its measurements are dropped. -/
def Ctl.ptpGone (c : Ctl) : Ctl :=
  ((c.put timePage F.TIME_STATUS_PTP_QUAL 0).onTime fun t =>
    { t with syncs := 0, sync := none, fwd := none, req := none, delay := none, filt := none, outliers := 0 }).leaveRef 1

/-- PPS is no longer qualified. -/
def Ctl.ppsGone (c : Ctl) : Ctl := ((c.put timePage F.TIME_STATUS_PPS_QUAL 0).onTime fun t => { t with edges := 0 }).leaveRef 2

/-- SLEW_END: the offset has come within 20 ns (15 R409). -/
def execSlewEnd (s : State) : Host.Outcome State Fault Refusal :=
  s.onCtl fun c => if c.slewing then (c.slew 0).improve else c

/-! ### PTP (15 R404) -/

/-- The time unit listens on a port: a candidate that is up and has PTP_EN (15 R404, 12 R332). -/
def Ctl.ptpPort (c : Ctl) (p : Nat) : Bool :=
  c.flag timePage F.TIME_CTRL_PTP_EN && (c.get timePage F.TIME_PTP_PORTS_PORTS).testBit p && c.linkUp p &&
    c.flag (portPage p) F.PORT_CFG_PTP_EN

/-- A PTP message discarded. -/
def Ctl.ptpDiscard (c : Ctl) : Ctl := c.bump timePage F.TIME_PTP_DISCARD_COUNT

def Ctl.ptpDomain (c : Ctl) : Nat := c.get timePage F.TIME_PTP_CFG_DOMAIN

/-- 10 ms in sixteenths of a nanosecond: the largest correctionField taken. -/
def corrMax : Int := 160000000

/-- A timestamp of an event message at a port, in sixteenths of a ns: a whole number of ns within 3 ns of reel time with the port's correction (12
R332). -/
def Ctl.stamp (c : Ctl) (adj : Nat) : Int × Ctl :=
  let (v, c) := c.choose
  let a := signedOf 16 adj
  let lo : Int := if a % 16 = 0 then -3 else -2
  (16 * ((c.reel : Int) + a / 16 + lo + ((v % (4 - lo).toNat : Nat) : Int)), c)

/-- The filtered offset after a new one: the filter is not stated, but lies between the old value and the new. -/
def filtered (old : Option Int) (new : Int) (v : Nat) : Int :=
  match old with
  | none => new
  | some f => f + (new - f) * ((v % 1025 : Nat) : Int) / 1024

/-- A Sync with its origin timestamp known: the offset is measured, held against the filtered one, and feeds the servo; the eighth
outlier in a row is a real change (15 R404). `fwd` is arrival less origin and corrections, `fine` says that the conditions of 15 R405 hold. -/
def Ctl.ptpMeasure (c : Ctl) (fwd : Int) (fine : Bool) : Ctl :=
  let c := c.onTime fun t => { t with fwd := some fwd }
  match c.time.delay with
  | none => c.onTime fun t => { t with syncs := t.syncs + 1 }
  | some d =>
    let off := -(fwd - d - 16 * signedOf 16 (c.get timePage F.TIME_PTP_CFG_ASYM_NS))
    let far : Bool := match c.time.filt with
      | some f => decide (16000 < (off - f).natAbs)
      | none => false
    if far ∧ c.time.outliers < 7 then c.ptpDiscard.onTime fun t => { t with outliers := t.outliers + 1 }
    else
      let (v, c) := c.choose
      let c := c.onTime fun t =>
        { t with filt := some (if far then off else filtered t.filt off v), outliers := 0, syncs := t.syncs + 1 }
      if c.src = 1 then
        let (f, c) := c.choose
        (c.showOffset (looseDiv off 16 f)).servoPtp off fine
      else c

/-- A PTP message received is a frame received (12 R299, R333, R337). -/
def Ctl.ptpRx (c : Ctl) (p : Nat) : Ctl :=
  if c.linkUp p then (c.bump (portPage p) F.PORT_RX_FRAMES_COUNT).bump (portPage p) F.PORT_PTP_RX_COUNT else c

/-- PTP_SYNC: a Sync on a port: its domain, master, sequence, correctionField (1/16 ns), logMessageInterval and, one-step, its origin
timestamp (1/16 ns); `fine` says that the conditions of 15 R405 hold (12 R333, 15 R404). -/
def execPtpSync (p : PortId) (domain master seq : Nat) (corr logInt : Int) (t1 : Option Int) (fine : Bool) (s : State) :
    Host.Outcome State Fault Refusal :=
  s.onCtl fun c =>
    let c := c.ptpRx p
    if !c.ptpPort p then c
    else if domain ≠ c.ptpDomain ∨ c.time.master ≠ some master ∨ corr < 0 ∨ corrMax < corr ∨ logInt < -7 ∨ 1 < logInt then c.ptpDiscard
    else
      let (t2, c) := c.stamp (c.get (portPage p) F.PORT_TS_ADJ_RX_ADJ)
      let q := c.get timePage F.TIME_STATUS_PTP_PORT
      let c := c.put timePage F.TIME_STATUS_PTP_PORT (if c.time.syncs = 0 ∨ !c.ptpPort q then p.val else min q p)
      match t1 with
      | some o => c.ptpMeasure (t2 - o - corr) fine
      | none => c.onTime fun t => { t with sync := some { master := master, seq := seq, t2 := t2, corr := corr, mono := t.mono } }

/-- PTP_FOLLOW_UP: it is matched to its Sync within 100 ms; `fine` says that the conditions of 15 R405 hold (15 R404). -/
def execPtpFollowUp (p : PortId) (domain master seq : Nat) (corr t1 : Int) (fine : Bool) (s : State) : Host.Outcome State Fault Refusal :=
  s.onCtl fun c =>
    let c := c.ptpRx p
    if !c.ptpPort p then c
    else if domain ≠ c.ptpDomain ∨ c.time.master ≠ some master ∨ corr < 0 ∨ corrMax < corr then c.ptpDiscard
    else match c.time.sync with
      | some y =>
        if y.master = master ∧ y.seq = seq ∧ c.time.mono ≤ y.mono + 100000000 then
          (c.onTime fun t => { t with sync := none }).ptpMeasure (y.t2 - t1 - y.corr - corr) fine
        else c.ptpDiscard
      | none => c.ptpDiscard

/-- DELAY_REQ_SEND: the time unit asks for the path delay on the port that receives its master's Sync (15 R404, 12 R333). -/
def execDelayReqSend (s : State) : Host.Outcome State Fault Refusal :=
  s.onCtl fun c =>
    let p := c.get timePage F.TIME_STATUS_PTP_PORT
    if c.time.master.isNone || !c.ptpPort p then c
    else
      let (t3, c) := c.stamp (c.get (portPage p) F.PORT_TS_ADJ_TX_ADJ)
      let n := c.time.reqSeq
      let c := (c.bump (portPage p) F.PORT_TX_FRAMES_COUNT).onTime fun t => { t with req := some (n, t3), reqSeq := (n + 1) % 65536 }
      { c with out := c.out ++ [.delayReq p n] }

/-- PTP_DELAY_RESP: it completes the measurement its request began; a mean path delay below 0 or above 100 microseconds is discarded (15
R404). `t4` is in sixteenths of a ns. -/
def execPtpDelayResp (p : PortId) (domain master seq : Nat) (corr t4 : Int) (s : State) : Host.Outcome State Fault Refusal :=
  s.onCtl fun c =>
    let c := c.ptpRx p
    if !c.ptpPort p then c
    else if domain ≠ c.ptpDomain ∨ c.time.master ≠ some master ∨ corr < 0 ∨ corrMax < corr then c.ptpDiscard
    else match c.time.req, c.time.fwd with
      | some (n, t3), some fwd =>
        if n ≠ seq then c.ptpDiscard
        else
          let (f, c) := c.choose
          let d := looseDiv (fwd + (t4 - t3 - corr)) 2 f
          let c := c.onTime fun t => { t with req := none }
          if d < 0 ∨ 1600000 < d then c.ptpDiscard else c.onTime fun t => { t with delay := some d }
      | some (n, _), none => if n ≠ seq then c.ptpDiscard else c.onTime fun t => { t with req := none }
      | none, _ => c.ptpDiscard

/-- PTP_ANNOUNCE: it feeds master selection; `best` is what the data-set comparison of IEEE 1588-2019 says of it against the selected
master (15 R404). -/
def execPtpAnnounce (p : PortId) (domain master : Nat) (best : Bool) (s : State) : Host.Outcome State Fault Refusal :=
  s.onCtl fun c =>
    let c := c.ptpRx p
    if !c.ptpPort p then c
    else if domain ≠ c.ptpDomain then c.ptpDiscard
    else if c.time.master = some master ∨ (c.time.master.isSome ∧ !best) then c
    else c.onTime fun t => { t with master := some master, sync := none, fwd := none, req := none, delay := none }

/-- PTP_LOSS: no Sync accepted for 3 s, or the Announce receipt timeout (15 R404, R409). -/
def execPtpLoss (s : State) : Host.Outcome State Fault Refusal :=
  s.onCtl fun c =>
    if c.time.syncs = 0 ∧ c.time.master.isNone then c
    else (((c.errHw timePage 0x02).raise timePage 3).onTime fun t => { t with master := none }).ptpGone

/-- PTP_QUALIFY: 16 s of accepted Syncs have passed with no loss; not while a slew to a worse reference runs (15 R404, R409). -/
def execPtpQualify (s : State) : Host.Outcome State Fault Refusal :=
  s.onCtl fun c =>
    if c.time.syncs = 0 || c.time.filt.isNone || c.slewing || !c.flag timePage F.TIME_CTRL_PTP_EN then c
    else (c.put timePage F.TIME_STATUS_PTP_QUAL 1).improve

/-! ### PPS (15 R406) -/

/-- PPS_EDGE: a rising edge of SYNC_PPS is timestamped: accepted within 1 ms of its predicted time, one second after the one before;
the sixteenth accepted in a row with a time of day qualifies PPS; `fine` says that REFCLK keeps the condition of 15 R405 (15 R406). -/
def execPpsEdge (fine : Bool) (s : State) : Host.Outcome State Fault Refusal :=
  s.onCtl fun c =>
    if !c.flag timePage F.TIME_CTRL_PPS_EN || !c.boot.aon then c
    else
      let ts : Int := (c.reel : Int) + signedOf 16 (c.get timePage F.TIME_PPS_CFG_ADJ_NS)
      let ok := match c.time.edge with
        | some e => decide ((ts - (e + 1000000000)).natAbs ≤ 1000000)
        | none => true
      if !ok then c.bump timePage F.TIME_PPS_BAD_COUNT
      else match c.time.tod with
        | none => c.onTime fun t => { t with edge := some ts }
        | some v =>
          let off : Int := (v : Int) - ts
          let c := c.onTime fun t => { t with edge := some ts, tod := some (v + 1000000000), edges := t.edges + 1, ppsOff := off }
          let c := if c.src = 2 then (c.showOffset off).servoPps off fine else c
          if 16 ≤ c.time.edges ∧ !c.flag timePage F.TIME_STATUS_PPS_QUAL ∧ !c.slewing then
            (c.put timePage F.TIME_STATUS_PPS_QUAL 1).improve
          else c

/-- PPS_LOSS: no edge accepted for 1.5 s (15 R406, R409). -/
def execPpsLoss (s : State) : Host.Outcome State Fault Refusal :=
  s.onCtl fun c =>
    if c.time.edge.isNone then c
    else (((c.errHw timePage 0x03).raise timePage 3).onTime fun t => { t with edge := none, tod := none }).ppsGone

/-- A time of day for the next edge: one that disagrees with the running count is counted, and PPS qualifies again under the new one (15
R406). -/
def Ctl.todSet (c : Ctl) (ns : Nat) : Ctl :=
  match c.time.tod with
  | some v =>
    if v = ns then c
    else (((c.bump timePage F.TIME_TOD_ERR_COUNT).errHw timePage 0x04).raise timePage 1).ppsGone.onTime fun t => { t with tod := some ns }
  | none => c.onTime fun t => { t with tod := some ns }

/-! ### REFCLK (15 R408) -/

/-- REFCLK_LOSS: REFCLK stops or leaves its range (15 R408). -/
def execRefclkLoss (s : State) : Host.Outcome State Fault Refusal :=
  s.onCtl fun c =>
    if !c.flag clkPage F.CLK_STATUS_REFCLK_OK then c
    else (((c.put clkPage F.CLK_STATUS_REFCLK_OK 0).bump clkPage F.CLK_REFCLK_LOSS_COUNT).errHw clkPage 0x01).raise clkPage 1

/-- REFCLK_RETURN: REFCLK is present and in range (15 R408, 16 R433). -/
def execRefclkReturn (s : State) : Host.Outcome State Fault Refusal :=
  s.onCtl fun c => if c.boot.aon then (c.put clkPage F.CLK_STATUS_REFCLK_OK 1).faultOff 0x02 else c

end Sys2Proof.Machine
end

