-- ==== Sys2Proof/Machine/Stage.lean ====
section
/-!
DEFINITION. Stages: their rectangles and ports, the commands of RUNSTATE and what ends them (01 R22 to R30, R502, 16 R428, R429).
-/
namespace Sys2Proof.Machine

/-! ### RECT (01 R22, R26, R27) -/

/-- Ranges of two slots overlap; an empty one overlaps nothing. -/
def overlap (f1 n1 f2 n2 : Nat) : Bool := decide (0 < n1) && decide (0 < n2) && decide (f1 < f2 + n2) && decide (f2 < f1 + n1)

/-- Range (first, count) of slot `s` would overlap that of another valid stage (01 R27). -/
def Ctl.rangeHit (c : Ctl) (s : Nat) (first count : Fld) (f n : Nat) : Bool :=
  (List.range 12).any fun u => u != s && c.valid u && overlap f n (c.get (stagePage u) first) (c.get (stagePage u) count)

/-- Slot `s`'s own range overlaps that of another valid stage. -/
def Ctl.ownRangeHit (c : Ctl) (s : Nat) (first count : Fld) : Bool :=
  c.rangeHit s first count (c.get (stagePage s) first) (c.get (stagePage s) count)

/-- A mask would place a port in the masks of a fifth valid stage (01 R26). -/
def Ctl.fifthPort (c : Ctl) (s mask : Nat) : Bool :=
  (List.range 16).any fun p => mask.testBit p && decide (4 ≤
    ((List.range 12).filter fun u => u != s && c.valid u && (c.get (stagePage u) F.STAGE_PORT_MASK_PORTS).testBit p).length)

/-- The first check a RECT with VALID = 1 fails, 0 for none (01 R22, R27). -/
def Ctl.rectCode (c : Ctl) (s : Nat) (w : Word) : Nat :=
  let cls := (List.range 24).filter (rectHas w)
  if bits w 6 4 < bits w 2 0 ∨ 5 < bits w 6 4 ∨ bits w 13 12 < bits w 9 8 then 0x01
  else if bits w 9 8 ≠ 0 ∧ bits w 13 12 ≠ 3 then 0x02
  else if cls.any fun cl => c.fenced.contains cl || c.stressed cl then 0x03
  else if cls.any fun cl => (List.range 12).any fun u => u != s && c.valid u && rectHas (c.rd (stagePage u + 0x40)) cl then 0x04
  else if c.fifthPort s (c.get (stagePage s) F.STAGE_PORT_MASK_PORTS) then 0x07
  else if c.ownRangeHit s F.STAGE_RSL_RANGE_FIRST F.STAGE_RSL_RANGE_COUNT then 0x0E
  else if c.ownRangeHit s F.STAGE_FETCH_RANGE_FIRST F.STAGE_FETCH_RANGE_COUNT then 0x14
  else if c.ownRangeHit s F.STAGE_CTX_RANGE_FIRST F.STAGE_CTX_RANGE_COUNT || c.ownRangeHit s F.STAGE_RING_RANGE_FIRST F.STAGE_RING_RANGE_COUNT
    then 0x16
  else 0

/-- The cluster whose block, or whose tile's block, an address lies in. -/
def addrCluster (a : Nat) : Option Nat :=
  if 0x200000 ≤ a ∧ a < 0x380000 then some ((a - 0x200000) / 0x10000) else (addrTile a).map tileCluster

/-- Pages of the clusters that changed owner: vectors 0, locks cleared, interrupts then pending sent to the new owner (02 R47, R51). -/
def Ctl.newOwner (c : Ctl) (cls : List Nat) : Ctl :=
  let hit (a : Nat) : Bool := match addrCluster a with | some cl => cls.contains cl | none => false
  let c := c.resetRegs fun a =>
    if hit a && (a % 0x1000 == 0x10) then 0x800FFFFF else if hit a && (a % 0x1000 == 0x28) then 0 else 0xFFFFFFFF
  let c := { c with host := { c.host with waiting := c.host.waiting.filter fun a => !hit a } }
  cls.foldl (fun c cl => (List.range 6).foldl (fun c k =>
    if c.pending (cluPage cl k) then c.sendMsg (cluPage cl k) else c) c) c

/-- What an accepted RECT write to the ballast's slot does to it (14 R372, R373). -/
def Ctl.ballastRect (c : Ctl) (s : Nat) : Ctl :=
  if c.get pwrPage F.PWR_BALLAST_STAGE = s then
    let c := c.put pwrPage F.PWR_BALLAST_EN 0
    if c.cues.mode = 1 then c.setTrack 4 else c
  else c

/-- RECT as the stage's slot takes it (01 R27, 02 R51, 12 R308, 14 R378). -/
def Blk.rectDo (b : Blk) (s fn addr : Nat) (w : Word) : Blk :=
  let p := stagePage s
  let c := b.ctl
  let code := if fn ≠ 0 then 0x0A else if c.stState s ≠ 0 then 0x05 else if bit w 31 then c.rectCode s w else 0
  if code ≠ 0 then b.onCtl fun c => c.err p code fn addr
  else
    let b := if bit w 31 then b else b.closeCtxs (c.openCtxs s)
    b.onCtl fun c =>
      let was := (List.range 24).map c.clusterStage
      let c := if bit w 31 && !c.valid s then { c with pwr := { c.pwr with nrg := SMap.erase c.pwr.nrg (10 + s) } } else c
      let c := c.wr (p + 0x40) (w &&& 0x80003377)
      let c := if bit w 31 then c else c.put p F.STAGE_PORT_MASK_PORTS 0
      let c := c.newOwner ((List.range 24).filter fun cl => was.getD cl none != c.clusterStage cl)
      c.ballastRect s

/-- PORT_MASK as the slot takes it (01 R26, R27, 12 R308). -/
def Blk.portMaskDo (b : Blk) (s fn addr : Nat) (w : Word) : Blk :=
  let p := stagePage s
  let c := b.ctl
  let m := bits w 15 0
  let dis := (List.range 16).any fun q => m.testBit q && c.flag (portPage q) F.PORT_STATUS_OPT_DIS
  let code := if fn ≠ 0 then 0x0A else if c.stState s ≠ 0 then 0x05 else if dis then 0x06 else if c.valid s && c.fifthPort s m then 0x07
    else 0
  if code ≠ 0 then b.onCtl fun c => c.err p code fn addr
  else
    let gone := if c.valid s then (c.openCtxs s).filter fun n => !m.testBit (c.ctx n).port else []
    (b.closeCtxs gone).onCtl fun c => c.put p F.STAGE_PORT_MASK_PORTS m

/-! ### RUNSTATE (01 R28, R29, R502, 16 R428, R429) -/

/-- A change in progress is completed first (15 R395). -/
def Blk.finishChange (b : Blk) (s : Nat) : Blk :=
  match b.ctl.changeOf s with
  | none => b
  | some x =>
    if x.phase = .lowering then b.onCtl fun c => ((c.commandVolts s x.mhz).setVolts s x.mhz).setChange s none
    else
      let (ns, c) := b.ctl.choose
      let c := (c.scopeClusters s).foldl (fun c cl =>
        let p := freqPage cl
        let c := (c.put p F.FREQ_CUR_MHZ x.mhz).put p F.FREQ_CUR_LIMIT (c.limitCode s cl x.mhz)
        ((c.put p F.FREQ_LAST_STOP_NS (ns % 2001)).bump p F.FREQ_CHANGES_COUNT).raise p 1) ((c.commandVolts s x.mhz).setVolts s x.mhz)
      ({ b with ctl := c.setChange s none } : Blk).restartMix s

/-- RESET accepted: the stage restart of R428 runs; its tiles are held, its rim side is emptied. -/
def Blk.stageReset (b : Blk) (s : Nat) : Blk :=
  if b.ctl.stState s = 5 then b
  else if !b.ctl.valid s then b.onCtl fun c => c.setStage s 5
  else
    let b := b.finishChange s
    ((b.holdTiles (b.ctl.stageTiles s)).clearStageRim s).onCtl fun c =>
      { c.setStage s 5 with boot := { c.boot with waitStages := c.boot.waitStages.filter (· != s) } }

/-- The code with which a LOAD is rejected, 0 for none (R502). -/
def Ctl.loadCode (c : Ctl) (s : Nat) : Nat :=
  let p := stagePage s
  let size := c.get p F.STAGE_OUT_SIZE_MIB
  if c.stState s ≠ 0 ∨ !c.valid s then 0x08
  else if !c.mirynUp then 0x22
  else if c.flag rasPage F.RAS_STATUS_SUSPECT then 0x23
  else if (c.stageClusters s).any c.stressed then 0x24
  else if (c.stageStacks s).any fun h => c.flag (hbmPage h) F.HBM_STATUS_FAILED then 0x13
  else if size < 64 ∨ c.stageBytes s < (c.get p F.STAGE_OUT_BASE_MIB + size) * 2 ^ 20 then 0x0D
  else 0

/-- LOAD accepted: the tiles are held and the stage call sheet starts (16 R429). -/
def Blk.stageLoad (b : Blk) (s : Nat) : Blk :=
  (b.holdTiles (b.ctl.stageTiles s)).onCtl fun c =>
    let c := (c.setStage s 1).wr (stagePage s + F.STAGE_SHEET_STAT_DONE.off) 0
    { c with sheets := SMap.put c.sheets s {} }

/-- The tiles due a known-answer shot in step `n` of a stage: n mod CADENCE = t mod CADENCE (17 R446). -/
def Ctl.dueKas (c : Ctl) (s n : Nat) : Ctl :=
  if !c.ras.kaOn.contains s then c
  else
    let k := max 1 (c.get rasPage F.RAS_KA_CFG_CADENCE)
    let ts := (c.stageTiles s).filter fun t => t % k == n % k && !(c.ras.wanted.any fun w => w.tile == t && w.how == .cadence && !w.second)
    { c with ras := { c.ras with wanted := c.ras.wanted ++ ts.map fun t => { tile := t, how := .cadence, step := n } } }

/-- The reserved rows of a tile take the KAS image (17 R445). -/
def Tile.kasImage (x : Tile) (t : Nat) : Tile :=
  x.spWrite (spBytes t - 0x8000) (runOf ((List.range 0x8000).map fun i => Config.kasByte (isSTile t) i) false)

/-- The mixdown of a stage's routers changed. -/
def Blk.onMix (b : Blk) (s : Nat) (f : Mix → Mix) : Blk :=
  ((List.range 1920).filter fun t => b.ctl.tileStage t == some s).foldl (fun b t =>
    if (b.tile t).mix == f (b.tile t).mix then b else b.onTile t fun x => { x with mix := f x.mix }) b

/-- At START the routers' schedules are at slot 0, and they count their ejected transfers anew (10 R257, R259). -/
def Blk.startMix (b : Blk) (s : Nat) : Blk := b.onMix s fun m => { m with next := 0, ejected := List.replicate 8 0 }

/-- When a stage reaches IDLE its routers' held flits and injection buffers are emptied, and with the flits go their credits (10 R260). -/
def Blk.emptyMix (b : Blk) (s : Nat) : Blk :=
  (b.onMix s fun m => { m with
    inj := [], held := [], gather := List.replicate 8 [], spent := [0, 0, 0, 0, 0], owed := [0, 0, 0, 0, 0], stopped := false, next := 0 }).onCtl fun c => { c with net := c.net.filter fun f =>
      match f with
      | ⟨.router t _, .flit _ _⟩ => c.tileStage t != some s
      | _ => true }

/-- The stage enters RUN: Miryn writes the KAS image, every good tile is released, the stage's counters of steps and cycles start
(10 R257, 16 R429, 17 R445, R446, R473). -/
def Blk.enterRun (b : Blk) (s : Nat) : Blk :=
  let ts := b.ctl.stageTiles s
  let b := b.startMix s
  let b := if b.ctl.mirynUp then ts.foldl (fun b t => b.onTile t fun x => x.kasImage t) b else b
  let b := ts.foldl Blk.openTile b
  b.onCtl fun c =>
    let c := (c.setStage s 2).put (stagePage s) F.STAGE_STEPS_COUNT 0
    let first := c.get (stagePage s) F.STAGE_FETCH_RANGE_FIRST
    let count := c.get (stagePage s) F.STAGE_FETCH_RANGE_COUNT
    let on := c.ras.kaOn.filter (· != s)
    { c with
      ras := { c.ras with
        kaOn := if c.flag rasPage F.RAS_CTRL_KA_EN then insertNat s on else on
        wanted := c.ras.wanted.filter fun k => k.second || k.how != .cadence || !ts.contains k.tile }
      clk := { c.clk with cycle := SMap.erase c.clk.cycle s }
      progs := c.progs.map fun (e : Nat × Prog) =>
        if first ≤ e.1 ∧ e.1 < first + count then (e.1, { e.2 with sent := List.replicate 28 0 }) else e
      : Ctl }.dueKas s 0

/-- START accepted: where VDDM is in retention the stage waits for it (16 R429, 18 R478). -/
def Blk.stageStart (b : Blk) (s : Nat) : Blk :=
  if b.ctl.boot.retention then
    b.onCtl fun c => { c with boot := { c.boot with raising := true, waitStages := insertNat s c.boot.waitStages } }.vddm 0
  else b.enterRun s

/-- WRAP accepted: the stage drains; its outtakes records are discarded; a ballast's gate opens (01 R28, 07 R187, 14 R373). -/
def Blk.stageWrap (b : Blk) (s : Nat) : Blk :=
  let b := b.finishChange s
  let b := (b.ctl.stageTiles s).foldl (fun b t =>
    if (b.tile t).spill then b.onTile t fun x => { x with spill := false } else b) b
  b.onCtl fun c =>
    let c := { c with outtakes := SMap.erase c.outtakes s, sheets := SMap.erase c.sheets s
                      boot := { c.boot with waitStages := c.boot.waitStages.filter (· != s) } }
    let c := c.setStage s 3
    if c.flag pwrPage F.PWR_BALLAST_EN ∧ c.get pwrPage F.PWR_BALLAST_STAGE = s then
      let c := c.put (stagePage s) F.STAGE_GATE_G 256
      if c.cues.mode = 1 then c.setTrack 4 else c
    else c

/-- An accepted START or WRAP: held where its load step is held for its notice, else done (14 R376, 01 R28). -/
def Blk.stageCommand (b : Blk) (s cmd : Nat) : Blk :=
  if b.ctl.stageHeld s then
    b.onCtl fun c => { c with pwr := { c.pwr with heldCmds := c.pwr.heldCmds ++ [(s, cmd)] } }
  else if cmd = 2 then b.stageStart s else b.stageWrap s

/-- The commands whose load steps are held no longer are done, where the stage may still take them (14 R376). -/
def Blk.doHeld (b : Blk) : Blk :=
  let (wait, go) := b.ctl.pwr.heldCmds.partition fun e => b.ctl.stageHeld e.1
  let b := b.onCtl fun c => { c with pwr := { c.pwr with heldCmds := wait } }
  go.foldl (fun b e =>
    let st := b.ctl.stState e.1
    if e.2 = 2 then (if st = 1 ∧ b.ctl.flag (stagePage e.1) F.STAGE_RUNSTATE_LOADED then b.stageStart e.1 else b)
    else if st = 1 ∨ st = 2 then b.stageWrap e.1 else b) b

/-- LOAD_STEP_RELEASE: the held step is released after its notice, and with it the START or WRAP it held (14 R376). -/
def execLoadStepRelease (r : Fin 26) (s : State) : Host.Outcome State Fault Refusal :=
  s.on fun b => (b.onCtl fun c => c.onNotice (moveNotice r .noticed .released)).doHeld

/-- A command of RUNSTATE (01 R28). -/
def Blk.runCommand (b : Blk) (s fn addr : Nat) (w : Word) : Blk :=
  let c := b.ctl
  let st := c.stState s
  let reject (code : Nat) : Blk := b.onCtl fun c => c.err (stagePage s) code fn addr
  match bits w 31 28 with
  | 0 => b
  | 1 => if c.loadCode s = 0 then b.stageLoad s else reject (c.loadCode s)
  | 2 => if st = 1 ∧ c.flag (stagePage s) F.STAGE_RUNSTATE_LOADED then b.stageCommand s 2 else reject 0x08
  | 3 => if st = 1 ∨ st = 2 then b.stageCommand s 3 else if st = 3 then b else reject 0x08
  | 4 => b.stageReset s
  | _ => reject 0x08

/-- A device-wide wrap (01 R29). -/
def Blk.deviceWrap (b : Blk) : Blk :=
  (List.range 12).foldl (fun b s => if b.ctl.valid s && (b.ctl.stState s == 1 || b.ctl.stState s == 2) then b.stageWrap s else b) b

/-- A tile's units are idle and none of its transfers is open. -/
def Tile.idle (x : Tile) : Bool :=
  x.queues.all Queue.complete && !x.shotRun && x.pendShot.isNone && x.recvQ.isEmpty && x.tracked.isEmpty && x.creditReqs.isEmpty &&
    x.sp.reqs.isEmpty && x.sp.rets.isEmpty && x.sp.merges.isEmpty

/-- A packet on its way is of a transfer of stage `s`: sent by one of its tiles, or by the rim to one of them (01 R28). -/
def Ctl.ofStage (c : Ctl) (s : Nat) (p : Pkt) : Bool := c.tileStage (if p.src < 1920 then p.src else p.dest) == some s

/-- The stage has drained: every unit idle, every transfer of the stage completed; the replies to its peers' reads of its windows are none
of its transfers (01 R28, 12 R323). -/
def Blk.drained (b : Blk) (s : Nat) : Bool :=
  let c := b.ctl
  let first := c.get (stagePage s) F.STAGE_FETCH_RANGE_FIRST
  let count := c.get (stagePage s) F.STAGE_FETCH_RANGE_COUNT
  (c.stageTiles s).all (fun t => (b.tile t).idle) &&
    c.net.all (fun f => match f.item with | .pkt p => !c.ofStage s p | _ => true) &&
    c.uam.tx.all (fun m => m.who == .serve || !c.ownsCtx s m.ctx) && c.mgmt.reads.all (fun r => r.stage != s) &&
    c.progs.all (fun e => !(decide (first ≤ e.1) && decide (e.1 < first + count)) || e.2.passes.isEmpty)

/-- WRAP_DRAIN_COMPLETE (01 R28). -/
def execWrapDrainComplete (st : StageId) (s : State) : Host.Outcome State Fault Refusal :=
  s.on fun b =>
    if b.ctl.stState st = 3 ∧ b.drained st then
      (b.emptyMix st).onCtl fun c => { c.setStage st 0 with outtakes := SMap.erase c.outtakes st }
    else b

/-- WRAP_TIMEOUT_EXPIRE: the drain was not complete within WRAP_TIMEOUT.MS (01 R28). -/
def execWrapTimeoutExpire (st : StageId) (s : State) : Host.Outcome State Fault Refusal :=
  s.onCtl fun c => if c.stState st = 3 then c.stageFault st 0x09 else c

/-- STAGE_RESTART_COMPLETE: every request the stage issued has completed or timed out: STATE = IDLE (16 R428). -/
def execStageRestartComplete (st : StageId) (s : State) : Host.Outcome State Fault Refusal :=
  s.on fun b =>
    if b.ctl.stState st = 5 then
      (b.emptyMix st).onCtl fun c => { c.setStage st 0 with mgmt := { c.mgmt with reads := c.mgmt.reads.filter fun r => r.stage != st.val } }
    else b

/-- VDDM_RAISE_DONE: VDDM reports its operating voltage: the releases and STARTs that waited proceed (18 R478). -/
def execVddmRaiseDone (s : State) : Host.Outcome State Fault Refusal :=
  s.on fun b =>
    let o := b.ctl.boot
    if !o.raising then b
    else
      let b := b.onCtl fun c => { c with boot := { c.boot with retention := false, raising := false, waitTiles := [], waitStages := [] } }
      let b := o.waitTiles.foldl Blk.openTile b
      o.waitStages.foldl (fun b s =>
        if b.ctl.stState s = 1 ∧ b.ctl.flag (stagePage s) F.STAGE_RUNSTATE_LOADED then b.enterRun s else b) b

end Sys2Proof.Machine
end

