-- ==== Sys2Proof/Machine/Ras.lean ====
section
/-!
DEFINITION. Known-answer shots, the suspect device, tests, the event log's second, signed option changes (17 R443 to R459, R468).
-/
namespace Sys2Proof.Machine

/-! ### Steps (17 R444, R446) -/

/-- A step of a stage ends and the next begins: counted; a shot due in it and not run is late, once; the tiles of the next step are due
(17 R444, R446, R473). -/
def Ctl.stepMark (c : Ctl) (s : Nat) : Ctl :=
  let p := stagePage s
  let n := c.get p F.STAGE_STEPS_COUNT
  let c := c.put p F.STAGE_STEPS_COUNT (n + 1)
  if c.stState s ≠ 2 then c
  else
    let due (k : Kas) : Bool := k.how == .cadence && !k.second && k.step == n && c.tileStage k.tile == some s
    let c := if (c.ras.wanted ++ c.ras.runs).any due then c.bump rasPage F.RAS_KA_LATE_COUNT else c
    c.dueKas s ((n + 1) % 2 ^ 32)

/-- STEP_TIMEOUT: a stage in RUN has had no mark for TIMEOUT_MS: Miryn counts one step for it (17 R444). -/
def execStepTimeout (st : StageId) (s : State) : Host.Outcome State Fault Refusal :=
  s.onCtl fun c => if c.mirynUp ∧ c.stState st = 2 then c.stepMark st else c

/-! ### Known-answer shots (17 R445 to R450) -/

/-- SUSPECT_QUEUE_TAKE: Miryn takes the oldest suspect tile and asks for a shot on it (17 R443, R447). -/
def execSuspectQueueTake (s : State) : Host.Outcome State Fault Refusal :=
  s.onCtl fun c =>
    match c.mirynUp, c.suspects with
    | true, t :: rest => { c with suspects := rest, ras := { c.ras with wanted := c.ras.wanted ++ [{ tile := t, how := .guard }] } }
    | _, _ => c

/-- What a known-answer shot does to its tile: the reserved scratchpad rows are overwritten, with data the spec does not state, the
reserved accumulator rows are EMPTY, both weight buffers are invalid (17 R445). -/
def Tile.kasRan (x : Tile) (t v : Nat) : Tile :=
  let x := x.spWrite (spBytes t - 0x8000) (runOf ((List.range 0x8000).map fun i => BitVec.ofNat 8 (Config.value (v + i))) false)
  { x with acc := x.acc.filter fun (e : Nat × AccRow) => decide (e.1 % 512 < 448), wbufs := [{}, {}] }

/-- KAS_RUN: a shot that is wanted starts on a tile: at its shot boundary while its stage runs; a second run whose stage no longer does
is made at once with the tile held (17 R445, R447). -/
def execKasRun (t : TileId) (s : State) : Host.Outcome State Fault Refusal :=
  s.on fun b =>
    let c := b.ctl
    let running := match c.tileStage t with | some st => c.stState st == 2 | none => false
    match c.ras.wanted.find? fun k => k.tile == t.val && (running || k.second) with
    | none => b
    | some k =>
      if !c.mirynUp || c.tileOff t || c.kasRuns t || (running && ((b.tile t).shotRun || (b.tile t).init)) then b
      else
        let b := if running || (b.tile t).wrapped then b else b.holdTile t
        let n := k.num.getD c.ras.next
        let v := b.ctl.free
        (b.onTile t fun x => x.kasRan t v).onCtl fun c =>
          { c with
            free := c.free + 0x8000
            ras := { c.ras with
              wanted := c.ras.wanted.erase k, runs := c.ras.runs ++ [{ k with num := some n }]
              next := if k.num.isNone then (n + 1) % 256 else c.ras.next } }

/-- HOW a shot came about, as RAS.SUSPECT records it (17 R470). -/
def KasHow.code : KasHow → Nat
  | .cadence => 1
  | .guard => 2
  | .test => 3

/-- A fault confirmed: counted and recorded; the first makes the device suspect and wraps it (17 R447, R449 to R451). -/
def Blk.confirm (b : Blk) (k : Kas) : Blk :=
  let num := k.num.getD 0
  let b := b.onCtl fun c =>
    let hours := c.reel / 3600000000000 % 2 ^ 13
    let c := c.keepMiryn (102 + c.dailyItem 81 % 8) (BitVec.ofNat 32 (k.tile + num * 2 ^ 11 + hours * 2 ^ 19))
    (c.bump rasPage F.RAS_CONFIRMED_COUNT).dailyAdd 81 1
  if b.ctl.flag rasPage F.RAS_STATUS_SUSPECT then b
  else
    b.deviceWrap.onCtl fun c =>
      let c := c.put rasPage F.RAS_STATUS_SUSPECT 1
      let c := c.wr (rasPage + F.RAS_SUSPECT_TILE.off) (BitVec.ofNat 32 (2 ^ 31 + k.how.code * 2 ^ 28 + num * 2 ^ 20 + k.tile))
      (((c.setFlags 1).faultOn 0x10).raise rasPage 1).logEvent rasPage (Config.eventCode 9) 3

/-- A test of kind 2 that ran on a tile ends with a result. -/
def Ctl.endTileTest (c : Ctl) (t result : Nat) : Ctl :=
  match c.ras.test with
  | some k => if k.kind = 2 ∧ k.index = t then c.endTest result else c
  | none => c

/-- KAS_COMPLETE: Miryn compares the signature of the shot that ran on a tile (17 R445, R447). -/
def execKasComplete (t : TileId) (match_ : Bool) (s : State) : Host.Outcome State Fault Refusal :=
  s.on fun b =>
    match b.ctl.ras.runs.find? fun k => k.tile == t.val with
    | none => b
    | some k =>
      if !b.ctl.mirynUp then b
      else
        let b := b.onCtl fun c =>
          let c := { c with ras := { c.ras with runs := c.ras.runs.erase k } }.bump rasPage F.RAS_KA_RUNS_COUNT
          if match_ then c else c.bump rasPage F.RAS_KA_MISMATCH_COUNT
        match k.second, match_ with
        | false, true => b.onCtl fun c => if k.how = .test then c.endTileTest t 1 else c
        | false, false => b.onCtl fun c => { c with ras := { c.ras with wanted := { k with second := true } :: c.ras.wanted } }
        | true, true =>
          b.onCtl fun c =>
            let c := ((c.bump rasPage F.RAS_TRANSIENT_COUNT).raise rasPage 2).logEvent rasPage (Config.eventCode 10) 0
            if k.how = .test then c.endTileTest t 1 else c
        | true, false => (b.confirm k).onCtl fun c => if k.how = .test then c.endTileTest t 2 else c

/-- RAS.FLAGS_CLR: with the key, the flags named are cleared (17 R449, R451, R459, R469, R474). -/
def Ctl.flagsClr (c : Ctl) (fn addr : Nat) (w : Word) : Ctl :=
  if bits w 31 24 ≠ 0x3C then c.err rasPage 0x04 fn addr
  else
    let m := bits w 2 0
    let c := if m = 0 then c else c.keepMiryn 101 (c.keepWord 101 &&& ~~~(BitVec.ofNat 32 m))
    let c := if bit w 0 then c.faultOff 0x11 else c
    if bit w 3 then ((c.put rasPage F.RAS_STATUS_SUSPECT 0).wr (rasPage + F.RAS_SUSPECT_TILE.off) 0).faultOff 0x10 else c

/-! ### Tests (17 R453 to R456) -/

/-- A CVE has neither a job nor one pending. -/
def Ctl.cveIdle (c : Ctl) (n : Nat) : Bool := SMap.get {} c.cves n == {}

/-- The condition of a test holds (17 R453). -/
def Blk.testOk (b : Blk) (kind n mode : Nat) : Bool :=
  let c := b.ctl
  let idle (s : Nat) : Bool := c.stState s == 0
  match kind with
  | 1 => decide (n < 1920) && c.tileGood n && (b.tile n).wrapped
  | 2 => decide (n < 1920) && c.tileGood n && (match c.tileStage n with | some s => c.stState s == 2 | none => false)
  | 3 => decide (n < 24) && !c.fenced.contains n && (match c.clusterStage n with | some s => idle s || c.stState s == 4 | none => true)
  | 4 => decide (n < 16) && (mode == 1 || mode == 2) &&
      (List.range 12).all fun s => !(c.valid s && (c.get (stagePage s) F.STAGE_PORT_MASK_PORTS).testBit n) || idle s
  | 5 => decide (n < 12) && (match c.stackStage n with | some s => idle s | none => true)
  | 6 => decide (n < 12) && (c.stackStage n).isNone && !c.flag (hbmPage n) F.HBM_STATUS_FAILED
  | 7 => decide (n < 3) && c.cveIdle n
  | 8 => decide (n < 16) && (List.range 12).all fun s => !(c.valid s && overlap (64 * n) 64 (c.get (stagePage s) F.STAGE_RSL_RANGE_FIRST)
      (c.get (stagePage s) F.STAGE_RSL_RANGE_COUNT))
  | _ => false

/-- The cluster under stress test at a corner's frequency and voltage (17 R455). -/
def Ctl.atCorner (c : Ctl) (cl k : Nat) : Ctl :=
  let fmax := c.fmaxOf cl
  let f := if k = 1 then min 1350 (fmax + 50) else if k = 2 then 500 else fmax
  let v := if k = 0 then c.mvAt cl fmax - 30 else if k = 2 then 600 else c.mvAt cl fmax
  ((c.put (freqPage cl) F.FREQ_CUR_MHZ f).railAt cl v).vddm 0

/-- TEST_CTRL.GO (17 R453, R454). -/
def Blk.testGo (b : Blk) (fn addr : Nat) : Blk :=
  let c := b.ctl
  let p := rasPage
  let kind := c.get p F.RAS_TEST_CTRL_KIND
  let n := c.get p F.RAS_TEST_CTRL_INDEX
  let mode := c.get p F.RAS_TEST_CTRL_MODE
  if c.ras.test.isSome then b.onCtl fun c => c.err p 0x02 fn addr
  else if !b.testOk kind n mode then b.onCtl fun c => c.err p 0x03 fn addr
  else
    let corners := if kind ≠ 3 then [] else (List.range 4).filter fun k => mode % 16 == 0 || mode.testBit k
    let b := if kind = 3 then b.holdTiles ((clusterTiles n).filter c.tileGood) else b
    b.onCtl fun c =>
      let c := c.zeroRange p 0x50 0x5C
      let c := c.put p F.RAS_TEST_STATUS_BUSY 1
      let c := { c with ras := { c.ras with test := some { kind := kind, index := n, mode := mode, corners := corners } } }
      if kind = 2 then { c with ras := { c.ras with wanted := c.ras.wanted ++ [{ tile := n, how := .test }] } }
      else match corners with
        | k :: _ => c.atCorner n k
        | [] => c

/-- After a stress test a cluster is at its stage's frequency again, its tiles held; those of no valid stage get the resident image and
are released (17 R456). -/
def Blk.afterStress (b : Blk) (cl : Nat) : Blk :=
  let b := b.onCtl fun c =>
    let f := c.targetMhz (c.clusterScope cl)
    ((c.put (freqPage cl) F.FREQ_CUR_MHZ f).railAt cl (c.mvAt cl f)).vddm 0
  if (b.ctl.clusterStage cl).isSome then b
  else
    let ts := (clusterTiles cl).filter b.ctl.tileGood
    ((ts.foldl (fun b t => b.writeImage t b.ctl.boot.image) b)).release ts

/-- The running test ends with a result, its unit returned (17 R453, R454, R456). -/
def Blk.testEnd (b : Blk) (k : TestRun) (result : Nat) : Blk :=
  let b := b.onCtl fun c => c.endTest result
  match k.kind with
  | 1 => if (b.tile k.index).wrapped then b.holdTile k.index else b
  | 2 => b.onCtl fun c =>
      { c with ras := { c.ras with wanted := c.ras.wanted.filter fun w => !(w.tile == k.index && w.how == .test && !w.second) } }
  | 3 => b.afterStress k.index
  | 6 => b.setStack k.index {}
  | 8 => b.onCtl fun c => { c with rsl := c.rsl.filter fun (e : Nat × RimSlate) => e.1 / 64 != k.index }
  | _ => b

/-- A test whose condition has stopped holding ends incomplete (17 R454). -/
def Blk.testWatch (b : Blk) : Blk :=
  match b.ctl.ras.test with
  | some k => if k.kind == 7 || b.testOk k.kind k.index k.mode then b else b.testEnd k 3
  | none => b

/-- TEST_CTRL.ABORT (17 R454). -/
def Blk.testAbort (b : Blk) : Blk :=
  match b.ctl.ras.test with
  | some k => b.testEnd k 4
  | none => b

/-- TEST_FAIL0 to 2: bits set, in the layout of R21. -/
def Ctl.failMap (c : Ctl) (map : List (Fin 80)) : Ctl :=
  map.foldl (fun c l =>
    let a := rasPage + 0x54 + 4 * (l.val / 32)
    c.wr a (c.rd a ||| BitVec.ofNat 32 (2 ^ (l.val % 32)))) c

/-- TEST_COMPLETE: the running test ends: passed or failed, `count` tiles, frames or bursts failing, or incomplete where its condition
was lost; a stress test ends after its last corner, a test of a tile in RUN with its known-answer shot (17 R453 to R455). -/
def execTestComplete (pass : Bool) (count : Nat) (s : State) : Host.Outcome State Fault Refusal :=
  s.on fun b =>
    match b.ctl.ras.test with
    | none => b
    | some k =>
      let p := rasPage
      if !(k.kind == 7 || b.testOk k.kind k.index k.mode) || k.lost then b.testEnd k 3
      else if k.kind = 2 ∨ !k.corners.isEmpty then b
      else
        let bad := if k.kind = 3 then b.ctl.get p F.RAS_TEST_STATUS_CORNERS_FAILED != 0 else !pass
        let b := b.onCtl fun c =>
          let c := if k.kind = 3 then c else c.put p F.RAS_TEST_STATUS_FAIL_COUNT (min 0xFFFF count)
          if k.kind = 1 ∧ bad then c.failMap [0] else c
        b.testEnd k (if bad then 2 else 1)

/-- STRESS_CORNER_END: a corner's time, which runs only while the cluster's gate is open, ends; `map` are the tiles that failed in it, `hot` that a
sensor outside the cluster reached ALERT_C in corner 3; the next corner starts (17 R455, R456). -/
def execStressCornerEnd (map : List (Fin 80)) (hot : Bool) (s : State) : Host.Outcome State Fault Refusal :=
  s.onCtl fun c =>
    match c.ras.test with
    | none => c
    | some k =>
      match k.corners with
      | [] => c
      | j :: rest =>
        if k.gate = 0 then c else
        let p := rasPage
        let fail := !map.isEmpty || k.warned
        let c := if fail then c.put p F.RAS_TEST_STATUS_CORNERS_FAILED (c.get p F.RAS_TEST_STATUS_CORNERS_FAILED ||| 2 ^ j) else c
        let c := c.failMap map
        let n := (List.range 3).foldl (fun v i => v + ((List.range 32).filter (bit (c.rd (p + 0x54 + 4 * i)))).length) 0
        let c := c.put p F.RAS_TEST_STATUS_FAIL_COUNT n
        let c := { c with ras := { c.ras with test := some { k with corners := rest, warned := false, lost := k.lost || (hot && j == 3) } } }
        match rest with
        | i :: _ => c.atCorner k.index i
        | [] => c

/-! ### The event log's second (17 R458, R459) -/

/-- LOG_COALESCE_FLUSH: at the end of a second each event that came more than once is written with REPEAT; `ok` says whether the log
memory's write-verify holds (17 R458, R459). -/
def execLogCoalesceFlush (ok : Bool) (s : State) : Host.Outcome State Fault Refusal :=
  s.onCtl fun c =>
    let marks := c.log.marks
    let c := { c with log := { c.log with marks := [] } }
    let c := marks.foldl (fun c (m : LogMark) => if m.n = 0 then c else c.logWrite m.typ m.inst m.code m.sev m.n) c
    if ok then c else c.logFail

/-! ### Signed option changes (17 R468) -/

/-- SEC.CMD.GO (17 R468, R474). -/
def Ctl.secGo (c : Ctl) (fn addr : Nat) : Ctl :=
  let p := secPage
  if c.flag p F.SEC_STATUS_BUSY || !c.mirynUp then c.err p 0x01 fn addr
  else
    let c := { c with ras := { c.ras with sec := c.rd (p + F.SEC_VALUE_WORD5.off) } }
    ((c.put p F.SEC_STATUS_BUSY 1).put p F.SEC_STATUS_RESULT 0).newNonce

/-- SEC_VERIFY_DONE: Miryn has verified the signature (`valid`): keep word 5 is written, or the request rejected (17 R468, R474). -/
def execSecVerifyDone (valid : Bool) (s : State) : Host.Outcome State Fault Refusal :=
  s.onCtl fun c =>
    let p := secPage
    if !c.flag p F.SEC_STATUS_BUSY then c
    else
      let c := c.put p F.SEC_STATUS_BUSY 0
      if !valid then (c.put p F.SEC_STATUS_RESULT 2).errHw p 0x02
      else
        let (c, ok) := c.keepWrite true 0 0 5 c.ras.sec
        if ok then c.put p F.SEC_STATUS_RESULT 1 else (c.put p F.SEC_STATUS_RESULT 3).errHw p 0x03

end Sys2Proof.Machine
end

