-- ==== Sys2Proof/Machine/Cve.lean ====
section
/-!
DEFINITION. The check-value engines (17 R462 to R465, R472).
-/
namespace Sys2Proof.Machine

/-- Bytes of the SPI NOR (13 R352). -/
def spiBytes : Nat := 0x4000000

/-- The parameters in the page of engine `n`, as a GO latches them (17 R464, R472). -/
def Ctl.cveParams (c : Ctl) (n : Nat) : CveJob :=
  let p := cvePage n
  { poly := c.get64 p F.CVE_POLY_LO_POLY, init := c.get64 p F.CVE_INIT_LO_INIT, xorout := c.get64 p F.CVE_XOROUT_LO_XOROUT
    cfg := c.rd (p + F.CVE_CFG_TARGET.off), start := c.get64 p F.CVE_START_LO_ADDR, stride := c.get64 p F.CVE_STRIDE_LO_BYTES
    block := 64 * (c.get p F.CVE_CTRL_B64_M1 + 1), blocks := c.get p F.CVE_BLOCKS_M1_COUNT + 1, seq := c.get p F.CVE_SEQ_BASE_SEQ }

/-- SOURCE of a job. -/
def CveJob.source (j : CveJob) : Nat := bits j.cfg 27 24
/-- TARGET of a job. -/
def CveJob.target (j : CveJob) : Nat := bits j.cfg 10 0

/-- TARGET names what SOURCE requires (17 R463, R472). -/
def Ctl.cveTarget (c : Ctl) (j : CveJob) : Bool :=
  match j.source with
  | 0 => decide (j.target < 12) && c.valid j.target
  | 1 => decide (j.target < 12) && (c.stackStage j.target).isNone
  | 2 => decide (j.target < 1920) && c.tileGood j.target
  | _ => true

/-- A job's parameters are valid (17 R472). -/
def Ctl.cveValid (c : Ctl) (j : CveJob) : Bool :=
  bits j.cfg 29 28 != 3 && decide (j.source ≤ 4) && decide (7 ≤ bits j.cfg 21 16) && c.cveTarget j

/-- A job starts on engine `n`; the page goes on showing the last job that ended (DEDUCED from 'last job', 17 R472). -/
def Ctl.cveStart (c : Ctl) (n : Nat) (j : CveJob) : Ctl := { c with cves := SMap.set ({} : Cve) c.cves n { job := some j } }

/-- The running job of engine `n` ends; the pending one starts. -/
def Ctl.cveNext (c : Ctl) (n : Nat) : Ctl :=
  match (SMap.get ({} : Cve) c.cves n).next with
  | some j => c.cveStart n j
  | none => { c with cves := SMap.set ({} : Cve) c.cves n ({} : Cve) }

/-- CMD.GO of engine `n` (17 R464, R472). -/
def Ctl.cveGo (c : Ctl) (n fn addr : Nat) : Ctl :=
  let p := cvePage n
  let j := c.cveParams n
  let e : Cve := SMap.get ({} : Cve) c.cves n
  if !c.cveValid j then c.err p 0x01 fn addr
  else if e.job.isNone then c.cveStart n j
  else if e.next.isSome then c.err p 0x02 fn addr
  else { c with cves := SMap.set ({} : Cve) c.cves n { e with next := some j } }

/-- CMD.ABORT of engine `n`: the running job ends with code 0x05, its RESULT not valid; a pending job starts (17 R464). -/
def Ctl.cveAbort (c : Ctl) (n fn addr : Nat) : Ctl :=
  if (SMap.get ({} : Cve) c.cves n).job.isNone then c
  else ((c.err (cvePage n) 0x05 fn addr).put (cvePage n) F.CVE_STATUS_DONE 0).cveNext n

/-- The bytes of block `i` of a job, at address `a`, with their poison marks: none where the block reaches past its source, a failed
stack or a disabled tile (17 R463, R465). `spi` are the blocks read from the SPI NOR, but for what
the LZ6 itself has written there; `e` what the checks of the block's words find. -/
def Blk.cveBlock (b : Blk) (j : CveJob) (spi : List (List Byte)) (i a : Nat) (e : List Ecc) : Option (Run × Blk) :=
  let c := b.ctl
  let k := j.target
  let failed (h : Nat) : Bool := c.flag (hbmPage h) F.HBM_STATUS_FAILED
  match j.source with
  | 0 =>
    let bad (x : Nat) : Bool := match c.stageAddr k x with | some (h, _) => failed h | none => true
    if !c.valid k || decide (c.stageBytes k < a + j.block) || bad a || bad (a + j.block - 1) then none else some (b.stgRead k a j.block e)
  | 1 => if (c.stackStage k).isSome || decide (stackBytes < a + j.block) || failed k then none else some (b.stackRead k a j.block e)
  | 2 => if c.tileOff k || decide (spBytes k < a + j.block) then none else some (b.spRead k a j.block e)
  | 3 =>
    if 1024 < a + j.block then none
    else
      let l := (List.range j.block).map fun x => BitVec.ofNat 8 ((c.keepWord ((a + x) / 4)).toNat / 256 ^ ((a + x) % 4))
      some (runOf l false, b)
  | _ =>
    if spiBytes < a + j.block then none
    else
      let l := spi.getD i []
      some (runOf ((List.range j.block).map fun x => (SMap.find? b.ctl.nor (a + x)).getD (l.getD x 0)) false, b)

/-- What FOLD puts before block `i` (17 R463). -/
def CveJob.foldBytes (j : CveJob) (i a : Nat) : List Byte :=
  match bits j.cfg 29 28 with
  | 1 => leBytes 8 a
  | 2 => leBytes 4 ((j.seq + i) % 2 ^ 32)
  | _ => []

/-- The CRC a job computes. -/
def CveJob.crc (j : CveJob) : Crc :=
  let w := bits j.cfg 21 16 + 1
  ⟨w, j.poly % 2 ^ w, j.init % 2 ^ w, j.xorout % 2 ^ w, bit j.cfg 31, bit j.cfg 30⟩

/-- A scan under way: the register, the blocks done, the first block with poison, whether it still goes on. -/
structure Scan where
  reg : Nat
  done : Nat := 0
  bad : Option Nat := none
  ok : Bool := true
  deriving DecidableEq, Repr

/-- How many checked words a block at address `a` reads: bursts of a stack, 32-byte words of a scratchpad (06 R150, 11 R280). -/
def CveJob.checks (j : CveJob) (a : Nat) : Nat :=
  match j.source with
  | 0 | 1 => (burstsOf a j.block).length
  | 2 => (wordsOf a j.block).length
  | _ => 0

/-- `n` blocks of a job scanned, from block `i` on; the list gives what the checks find, word by word (17 R463, R465). -/
def Blk.scan (j : CveJob) (spi : List (List Byte)) : List Ecc → Nat → Nat → Scan × Blk → Scan × Blk
  | _, 0, _, x => x
  | e, n + 1, i, (v, b) =>
    let a := (j.start + i * j.stride) % 2 ^ 64
    match b.cveBlock j spi i a e with
    | none => ({ v with ok := false }, b)
    | some (r, b) =>
      let reg := j.crc.bytes v.reg (j.foldBytes i a ++ r.bytes)
      Blk.scan j spi (e.drop (j.checks a)) n (i + 1) ({ v with reg := reg, done := i + 1, bad := if r.anyBad then some (v.bad.getD i) else v.bad }, b)

/-- CVE_JOB_COMPLETE: the running job of an engine ends: its result, or code 0x03 where a block was out of range; the pending one starts.
`spi` are the blocks the SPI NOR returned, `e` what the checks of the words read found (17 R463 to R465). -/
def execCveJobComplete (n : Fin 4) (spi : List (List Byte)) (e : List Ecc) (s : State) : Host.Outcome State Fault Refusal :=
  s.on fun b =>
    match (SMap.get ({} : Cve) b.ctl.cves n.val).job with
    | none => b
    | some j =>
      let p := cvePage n
      let (v, b) := Blk.scan j spi e j.blocks 0 ({ reg := j.crc.init }, b)
      b.onCtl fun c =>
        let c := c.put p F.CVE_DONE_BLOCKS_COUNT v.done
        let c := (c.put p F.CVE_STATUS_POISON_SEEN (ofBool v.bad.isSome)).put p F.CVE_POISON_AT_BLOCK (v.bad.getD 0)
        let c := c.put p F.CVE_STATUS_DONE (ofBool v.ok)
        let c := if v.ok then (c.put64 p F.CVE_RESULT_LO_CRC (j.crc.result v.reg)).raise p 1 else c.errHw p 0x03
        c.cveNext n

end Sys2Proof.Machine
end

