-- ==== Sys2Proof/Machine/Fetch.lean ====
section
/-!
DEFINITION. The row fetcher: scout lists, starts, passes and their transfers (08 R209, R210, 11 R274 to R278, R296).
-/
namespace Sys2Proof.Machine

/-- Fetch program `p`. -/
def Ctl.prog (c : Ctl) (p : Nat) : Prog := SMap.get {} c.progs p

/-- Fetch program `p` replaced. -/
def Ctl.setProg (c : Ctl) (p : Nat) (x : Prog) : Ctl := { c with progs := SMap.set {} c.progs p x }

/-- Word `i` of a submission. -/
def Pass.w (x : Pass) (i : Nat) : Word := BitVec.ofNat 32 (leNat ((x.bytes.drop (4 * i)).take 4))

/-- A submission is a start: FORM 0x5D, 16 bytes, no word poisoned (11 R276; the last two DEDUCED). -/
def Pass.isStart (x : Pass) : Bool := bits (x.w 0) 31 24 == 0x5D && x.bytes.length == 16 && !x.bad

/-- SLOTS of a submission. -/
def Pass.slots (x : Pass) : Nat := bits (x.w 1) 31 16

/-- The entries of a list. -/
def Pass.entries (x : Pass) : List Nat :=
  (List.range (bits (x.w 0) 15 0)).map fun i => leNat ((x.bytes.drop (16 + 2 * i)).take 2)

/-- The entries rise strictly. -/
def rising : List Nat → Bool
  | a :: b :: r => decide (a < b) && rising (b :: r)
  | _ => true

/-- A list is well formed (08 R209). -/
def Pass.wellFormed (x : Pass) : Bool :=
  let n := bits (x.w 0) 15 0
  bits (x.w 0) 31 24 == 0x5C && decide (8 ≤ x.slots) && decide (x.slots ≤ 4088) && x.slots % 8 == 0 &&
  x.bytes.length == 16 + 2 * n && !x.bad && rising x.entries && x.entries.all fun b => decide (b ≤ bits (x.w 1) 15 0)

/-- A submission reaching the row fetcher is accepted where its program has room; BUSY of the tile that sent it clears (11 R276,
R296). `start`: the FORM the command is for. -/
def Ctl.submit (c : Ctl) (i : Nat) (start : Bool) : Ctl :=
  match c.atRim i with
  | some (_, 0x32, .pkt p) =>
    let x : Pass := { bytes := p.run.bytes, bad := p.run.anyBad }
    let n := bits (x.w 0) 23 16
    let g := c.prog n
    if p.kind ≠ 0 ∨ (bits (x.w 0) 31 24 == 0x5D) ≠ start ∨ 2 ≤ g.passes.length then c
    else
      let c := (c.takeNet i).setProg n { g with passes := g.passes ++ [x] }
      if p.src < 1920 then c.put (tilePage p.src 0) F.TILE_FETCH_CMD_BUSY 0 else c
  | _ => c

/-- SCOUT_LIST: a list, or a transfer of no known form, is accepted by the row fetcher (08 R210, 11 R276). -/
def execScoutList (i : Nat) (s : State) : Host.Outcome State Fault Refusal := s.onCtl fun c => c.submit i false

/-- FETCH_START: a start is accepted by the row fetcher (11 R276). -/
def execFetchStart (i : Nat) (s : State) : Host.Outcome State Fault Refusal := s.onCtl fun c => c.submit i true

/-! ### The record (11 R275, R278) -/

/-- Word `i` of a record. -/
def recWord (r : Run) (i : Nat) : Word := BitVec.ofNat 32 ((r.slice (4 * i) 4).nat)

def frDense (r : Run) : Nat := bits (recWord r 0) 20 16
def frSparse (r : Run) : Nat := bits (recWord r 0) 12 8
def frBlocks (r : Run) : Nat := bits (recWord r 1) 31 16 + 1
def frBytes (r : Run) : Nat := (bits (recWord r 1) 7 0 + 1) * 64
def frSrc (r : Run) : Nat := (r.slice 8 8).nat
def frStride (r : Run) : Nat := (r.slice 16 8).nat

/-- The record of a program is valid for stage `s` (11 R278). -/
def Ctl.recordOk (c : Ctl) (s : Nat) (r : Run) : Bool :=
  let n := frDense r + frSparse r
  let entryOk (e : Nat) : Bool :=
    let w := recWord r (8 + 2 * e)
    bits w 14 13 != 3 && runOnDie (bits w 14 13) (bits w 20 15) && (runTiles (bits w 14 13) (bits w 31 21) (bits w 20 15)).all fun t =>
      decide (t < 1920) && c.tileStage t == some s && c.tileGood t
  bits (recWord r 0) 31 24 == 0xF0 && bits (recWord r 0) 23 22 != 0 && frDense r != 0 && decide (n ≤ 28) &&
  (List.range n).all entryOk && frSrc r % 64 == 0 && frStride r % 64 == 0 &&
  decide (frSrc r + (frBlocks r - 1) * frStride r + frBytes r ≤ c.stageBytes s)

/-! ### Delivery (08 R210, 11 R277) -/

/-- A zero block: every byte 0 except its MX scales, 0x7F (11 R277). -/
def zeroBlock (fmt sparse bytes : Nat) : List Byte :=
  let lo := 64 * fmtRowBytes fmt
  (List.range bytes).map fun i => if lo ≤ i ∧ i < lo + 64 * wGroups fmt sparse then 0x7F else 0

/-- What a branch receives in place of block `j`: block `n` of the layer, a zero block, or voids. -/
inductive FetchBlk where
  | layer (n : Nat)
  | zero
  | void

/-- One transfer sent to entry `e` of program `p` under its next sequence number (11 R277). -/
def Ctl.fetchSend (c : Ctl) (p : Nat) (r : Run) (e : Nat) (void : Bool) (data : Run) : Ctl :=
  let w := recWord r (8 + 2 * e)
  let g := c.prog p
  let k := g.sent.getD e 0
  let c := c.setProg p { g with sent := g.sent.set e (k + 1) }
  c.fromRim (bits w 31 21) 0x32
    { kind := 0, cls := bits (recWord r 0) 23 22, void := void, dmode := bits w 14 13, mcLast := bits w 20 15, src := 2047
      stream := bits w 12 9, rsen := bit w 8, rslate := bits w 7 4, seq := (bits (recWord r (9 + 2 * e)) 31 16 + k) % 2 ^ 16
      bytes := data.bytes.length, run := data }

/-- Block `j` of a branch whose first entry is `e0`, of `n` entries, sent in its parts; `ecc` is what the checks of the bursts read find (11
R277, R280). -/
def Blk.fetchBlock (b : Blk) (s p : Nat) (r : Run) (e0 n j : Nat) (x : FetchBlk) (ecc : List Ecc) : Blk :=
  let len := frBytes r
  let e := e0 + j % n
  let (data, void, b) := match x with
    | .layer k =>
      let (q, b) := b.stgRead s (frSrc r + k * frStride r) len ecc
      (q, false, b)
    | .zero => (runOf (zeroBlock (bits (recWord r 1) 15 12) (bits (recWord r 1) 11 10) len) false, false, b)
    | .void => ({}, true, b)
  b.onCtl fun c => (List.range ((len + 8191) / 8192)).foldl (fun c i => c.fetchSend p r e void (data.slice (8192 * i) 8192)) c

/-- The block is read from HBM. -/
def FetchBlk.reads : FetchBlk → Bool
  | .layer _ => true
  | _ => false

/-- A branch served with the blocks listed, and the outcomes of the checks that are left. -/
def Blk.fetchBranch (b : Blk) (s p : Nat) (r : Run) (e0 n : Nat) (l : List FetchBlk) (ecc : List Ecc) : Blk × List Ecc :=
  if n = 0 then (b, ecc)
  else l.zipIdx.foldl (fun (b, ecc) (x, j) =>
    (b.fetchBlock s p r e0 n j x ecc, if x.reads then ecc.drop (frBytes r / 64) else ecc)) (b, ecc)

/-- FETCH_PASS_START: the oldest waiting pass of a program starts: its record is read and checked, and both branches get their
transfers; `e` is what the checks find, burst by burst, in the record and the blocks read (08 R210, 11 R274 to R278, R280, R286). -/
def execFetchPassStart (p : Fin 256) (e : List Ecc) (s : State) : Host.Outcome State Fault Refusal :=
  s.on fun b =>
    let g := b.ctl.prog p
    let owns (st : Nat) : Bool :=
      let f := b.ctl.get (stagePage st) F.STAGE_FETCH_RANGE_FIRST
      b.ctl.valid st && decide (f ≤ p.val) && decide (p.val < f + b.ctl.get (stagePage st) F.STAGE_FETCH_RANGE_COUNT)
    match g.passes, (List.range 12).find? owns with
    | x :: rest, some st =>
      let pg := stagePage st
      let b := b.onCtl fun c => c.setProg p { g with passes := rest }
      let a := b.ctl.get64 pg F.STAGE_FETCH_TABLE_LO_ADDR_LO + (p.val - b.ctl.get pg F.STAGE_FETCH_RANGE_FIRST) * 256
      let (r, b) := b.stgRead st a 256 e
      if r.anyBad then b.onCtl fun c => c.consumePoison st 4 0
      else if !b.ctl.recordOk st r then b.onCtl fun c => c.stageFault st 0x15
      else
        let dense := (List.range (frBlocks r)).map FetchBlk.layer
        let both (d sp : List FetchBlk) (b : Blk) : Blk :=
          let (b, e) := b.fetchBranch st p r 0 (frDense r) d (e.drop 4)
          (b.fetchBranch st p r (frDense r) (frSparse r) sp e).1
        if x.isStart then both dense (List.replicate x.slots .void) b
        else
          let b := b.onCtl fun c => c.bump pg F.STAGE_SCOUT_LISTS_COUNT
          if !x.wellFormed then
            both dense (List.replicate (min 4088 (Config.badSlots (x.w 1))) .void) (b.onCtl fun c => c.bump pg F.STAGE_SCOUT_BAD_COUNT)
          else
            let blocks := bits (x.w 1) 15 0 + 1
            let l := x.entries
            if bit (x.w 2) 0 ∨ x.slots < l.length then
              both ((List.range blocks).map FetchBlk.layer) (List.replicate x.slots .void)
                (b.onCtl fun c => c.bump pg F.STAGE_SCOUT_OVERFLOW_COUNT)
            else
              let b := b.onCtl fun c => c.bump pg F.STAGE_SCOUT_PAD_COUNT (x.slots - l.length)
              both (List.replicate blocks .void) (l.map FetchBlk.layer ++ List.replicate (x.slots - l.length) .zero) b
    | _, _ => b

/-- FETCH_CMD with GO: LEN bytes of the scratchpad go to the row fetcher; dropped while BUSY (code 0x01) or where they reach past the
scratchpad (0x02). `fn` and `addr` are those of the write; LEN16_M1 already holds the value written; `e` is what the checks of the words
read find (11 R296). -/
def Blk.fetchGo (b : Blk) (t fn addr : Nat) (busy : Bool) (e : List Ecc) : Blk :=
  let p := tilePage t 0
  let a := b.ctl.get p F.TILE_FETCH_SRC_ADDR16 * 16
  let n := (b.ctl.get p F.TILE_FETCH_CMD_LEN16_M1 + 1) * 16
  if busy then b.onCtl fun c => c.err p 0x01 fn addr
  else if spBytes t < a + n then b.onCtl fun c => c.err p 0x02 fn addr
  else (b.onCtl fun c => c.put p F.TILE_FETCH_CMD_BUSY 1).submitFetch t a n e

end Sys2Proof.Machine
end

