-- ==== Sys2Proof/Machine/Deadlock.lean ====
section
/-!
DEFINITION. Stall probes, the deadlock detector, spill mode and the outtakes ring (07 R183 to R187).
-/
namespace Sys2Proof.Machine

/-- The destinations whose grant the mover's next step lacks, where a mover step waits for credit (07 R183). -/
def Blk.creditWait (b : Blk) (t : Nat) : List Nat :=
  match b.current t 6 with
  | some d =>
    if mvClass d = 0 ∨ !b.ctl.tokensReady t d.hdr then []
    else missingGrants (b.tile t) (mvDests b.ctl d) (creditUnits (if d.void then 0 else xbOf d))
  | none => []

/-- Edges as one number: a leading 1, then 11 bits per tile. -/
def edgesNat (l : List Nat) : Nat := l.foldl (fun v t => v * 2048 + t) 1

/-- The edges a number spells; `fuel` bounds them. -/
def edgesOf : Nat → Nat → List Nat
  | 0, _ => []
  | k + 1, v => if v ≤ 1 then [] else edgesOf k (v / 2048) ++ [v % 2048]

/-- STALL_PROBE: the stall timer of a tile expires: while a mover step waits for credit it sends or repeats its probe, with the first
eight missing destinations (07 R183). -/
def execStallProbe (t : TileId) (s : State) : Host.Outcome State Fault Refusal :=
  s.on fun b =>
    let miss := (b.creditWait t).take 8
    if !b.live t || miss.isEmpty then b
    else
      let again := (b.tile t).probing
      let b := b.onTile t fun x => { x with probing := true, edges := miss }
      let b := b.onCtl fun c => (c.bump (seqPage t) F.SEQ_PROBES_COUNT).raise (seqPage t) 3
      (b.tc0Rim t 2 { type := 4, arg := ofBool again, value := edgesNat miss }).1

/-! ### The detector (07 R184, R185) -/

/-- The detector of stage `s`. -/
def Ctl.detector (c : Ctl) (s : Nat) : Detector := SMap.get {} c.detect s

/-- The detector of stage `s` replaced. -/
def Ctl.setDetector (c : Ctl) (s : Nat) (d : Detector) : Ctl := { c with detect := SMap.set {} c.detect s d }

/-- The probes not withdrawn. -/
def Blk.currentProbes (b : Blk) (d : Detector) : SMap (List Nat) := d.probes.filter fun e => (b.tile e.1).probing

/-- A path of probing tiles from the last of `paths` back to `goal`, found breadth first; each path is listed newest tile first. -/
def cycleFrom (probes : SMap (List Nat)) (goal : Nat) : Nat → List Nat → List (List Nat) → Option (List Nat)
  | 0, _, _ => none
  | _, _, [] => none
  | k + 1, seen, path :: rest =>
    let next := SMap.get [] probes (path.headD 0)
    if next.contains goal then some path
    else
      let new := next.filter fun u => (SMap.find? probes u).isSome && !seen.contains u
      cycleFrom probes goal k (seen ++ new) (rest ++ new.map fun u => u :: path)

/-- Confirm queries sent to the tiles of the detector's cycle (07 R184). -/
def Ctl.askCycle (c : Ctl) (d : Detector) : Ctl := d.cycle.foldl (fun c t => c.msgFromRim t { type := 5, src := 2047 }) c

/-- The next cycle in the order found becomes the one being confirmed. -/
def Ctl.nextCycle (c : Ctl) (s : Nat) (d : Detector) : Ctl :=
  match d.waiting with
  | [] => c.setDetector s { d with cycle := [], answers := [] }
  | l :: rest =>
    let d := { d with cycle := l, answers := [], waiting := rest }
    (c.setDetector s d).askCycle d

/-- PROBE_ARRIVE: a probe reaches the detector of its stage; a cycle of edges through it whose tiles all probe is queried, or waits for
the cycle being handled (07 R184). -/
def execProbeArrive (i : Nat) (s : State) : Host.Outcome State Fault Refusal :=
  s.on fun b =>
    match b.ctl.atRim i with
    | some (st, _, .msg m) =>
      if m.type ≠ 4 then b
      else
        let c := b.ctl.takeNet i
        let d := c.detector st
        let d := { d with probes := SMap.put (b.currentProbes d) m.src (edgesOf 9 m.value)
                          counted := if m.arg = 0 then d.counted.filter (· != m.src) else d.counted }
        let probes := b.currentProbes d
        match cycleFrom probes m.src (probes.length + 1) [m.src] [[m.src]] with
        | none => { b with ctl := c.setDetector st d }
        | some l =>
          let l := l.foldl (fun r t => insertNat t r) []
          if d.cycle = l ∨ d.waiting.contains l then { b with ctl := c.setDetector st d }
          else
            let d := { d with waiting := d.waiting ++ [l] }
            { b with ctl := if d.cycle.isEmpty then c.nextCycle st d else c.setDetector st d }
    | _ => b

/-- CONFIRM_QUERY: a tile answers stalled only if its condition still holds (07 R184). -/
def execConfirmQuery (i : Nat) (s : State) : Host.Outcome State Fault Refusal :=
  s.on fun b =>
    match b.ctl.atTile i with
    | some (t, .msg m) =>
      if m.type ≠ 5 then b
      else
        let b := b.onCtl fun c => c.takeNet i
        if !b.live t then b
        else
          let stalled := (b.tile t).probing && !(b.creditWait t).isEmpty
          (b.tc0Rim t 2 { type := 6, value := ofBool stalled }).1
    | _ => b

/-- A confirmed cycle: counted, and its tiles put into spill mode in rising order (07 R185). -/
def Blk.spillCycle (b : Blk) (st : Nat) (l : List Nat) : Blk :=
  let b := b.onCtl fun c => c.bump (stagePage st) F.STAGE_DL_CYCLES_COUNT
  l.foldl (fun b t =>
    (b.onTile t fun x => { x with spill := true }).onCtl fun c => c.raise (seqPage t) 4) b

/-- CONFIRM_ANSWER: an answer reaches the detector; when every tile of the cycle has answered stalled, the cycle is confirmed (07 R184,
R185). -/
def execConfirmAnswer (i : Nat) (s : State) : Host.Outcome State Fault Refusal :=
  s.on fun b =>
    match b.ctl.atRim i with
    | some (st, _, .msg m) =>
      if m.type ≠ 6 then b
      else
        let b := b.onCtl fun c => c.takeNet i
        let d := b.ctl.detector st
        if m.value % 2 = 0 ∨ !d.cycle.contains m.src then b
        else
          let d := { d with answers := insertNat m.src d.answers }
          if d.answers = d.cycle then (b.spillCycle st d.cycle).onCtl fun c => c.nextCycle st d
          else b.onCtl fun c => c.setDetector st d
    | _ => b

/-- CONFIRM_TIMEOUT: a cycle not confirmed within 2 µs is dropped (07 R184). -/
def execConfirmTimeout (st : StageId) (s : State) : Host.Outcome State Fault Refusal :=
  s.onCtl fun c =>
    let d := c.detector st
    if d.cycle.isEmpty then c else c.nextCycle st d

/-- PROBE_NO_CYCLE: two repeat periods after a probe that is in no cycle, it is counted once (07 R184). -/
def execProbeNoCycle (t : TileId) (s : State) : Host.Outcome State Fault Refusal :=
  s.on fun b =>
    match b.ctl.tileStage t with
    | none => b
    | some st =>
      let d := b.ctl.detector st
      if (SMap.find? (b.currentProbes d) t).isNone || d.counted.contains t.val || d.cycle.contains t.val ||
          d.waiting.any (fun l => l.contains t.val) then b
      else b.onCtl fun c => (c.setDetector st { d with counted := insertNat t d.counted }).bump (stagePage st) F.STAGE_DL_NOCYCLE_COUNT

/-! ### The outtakes ring (07 R185 to R187) -/

/-- The outtakes ring of stage `s`. -/
def Ctl.ringOf (c : Ctl) (s : Nat) : Outtakes := SMap.get {} c.outtakes s

/-- The outtakes ring of stage `s` replaced. -/
def Ctl.setRingOf (c : Ctl) (s : Nat) (o : Outtakes) : Ctl := { c with outtakes := SMap.set {} c.outtakes s o }

/-- Bytes of the ring in use: a record's space frees with every older one's. -/
def Outtakes.used (o : Outtakes) : Nat := o.recs.foldl (fun n r => n + r.len) 0

/-- Bytes of the outtakes region. -/
def Ctl.outBytes (c : Ctl) (s : Nat) : Nat := c.get (stagePage s) F.STAGE_OUT_SIZE_MIB * 2 ^ 20

/-- Stage address of the outtakes region. -/
def Ctl.outBase (c : Ctl) (s : Nat) : Nat := c.get (stagePage s) F.STAGE_OUT_BASE_MIB * 2 ^ 20

/-- The 64-byte pieces of `n` bytes from ring offset `off`: (place in the run, stage address). -/
def Ctl.ringPieces (c : Ctl) (s off n : Nat) : List (Nat × Nat) :=
  (List.range ((n + 63) / 64)).map fun i => (64 * i, c.outBase s + (off + 64 * i) % c.outBytes s)

/-- The header of a record (07 R186). -/
def outHeader (t : Nat) (f : Xfer) : List Byte :=
  leBytes 4 (f.src % 2048 * 2 ^ 21 + t * 2 ^ 10 + f.stream * 64 + ofBool f.void * 32 + ofBool f.run.anyBad * 16) ++
  leBytes 4 (f.seq * 2 ^ 16 + f.run.bytes.length) ++
  leBytes 4 (ofBool f.rsen * 2 ^ 31 + f.rslate * 2 ^ 27) ++ leBytes 4 f.arrival ++ List.replicate 48 0

/-- A transfer as its record spells it. -/
def xferOf (o : OutRec) (r : Run) : Xfer :=
  let w (i : Nat) : Word := BitVec.ofNat 32 ((r.slice (4 * i) 4).nat)
  { src := bits (w 0) 31 21, stream := bits (w 0) 9 6, void := bit (w 0) 5, seq := bits (w 1) 31 16, rsen := bit (w 2) 31
    rslate := bits (w 2) 30 27, arrival := (w 3).toNat, run := r.slice 64 (min (bits (w 1) 15 0) (o.len - 64)), eject := o.eject
    from_ := o.from_, refill := true }

/-- SPILL_RECORD_WRITE: a spilling tile's oldest transfer is written as a record, freeing its units; one that does not fit is lost and
the stage enters FAULT with code 0x0C (07 R185, R186). -/
def execSpillRecordWrite (t : TileId) (s : State) : Host.Outcome State Fault Refusal :=
  s.on fun b =>
    let x := b.tile t
    match b.live t && x.spill, b.ctl.tileStage t, x.recvQ.find? fun f => !f.refill with
    | true, some st, some f =>
      let b := b.onTile t fun x => { x with recvQ := x.recvQ.erase f }
      let len := 64 + (f.run.bytes.length + 63) / 64 * 64
      let o := b.ctl.ringOf st
      if b.ctl.outBytes st < o.used + len then (b.onCtl fun c => c.stageFault st 0x0C).freeUnits t f
      else
        let r := ((runOf (outHeader t f) false).append f.run).append (zeroRun (len - 64 - f.run.bytes.length))
        let b := (b.ctl.ringPieces st o.tail len).foldl (fun b (i, a) => b.stgWrite st a (r.slice i 64)) b
        let b := b.onCtl fun c =>
          (c.setRingOf st { recs := o.recs ++ [{ off := o.tail, len := len, tile := t, eject := f.eject, from_ := f.from_ }]
                            tail := (o.tail + len) % c.outBytes st }).bump (stagePage st) F.STAGE_SPILL_RECORDS_COUNT
        b.freeUnits t f
    | _, _, _ => b

/-- OUTTAKES_REFILL: the rim refills a spilling tile with the record of lowest sequence number that its head receiver descriptor
matches, when the receive queue has room; after its last record the tile leaves spill mode (07 R187). `e` is what the checks find, burst by burst. -/
def execOuttakesRefill (t : TileId) (e : List Ecc) (s : State) : Host.Outcome State Fault Refusal :=
  s.on fun b =>
    let x := b.tile t
    match b.live t && x.spill, b.ctl.tileStage t, x.recvHead with
    | true, some st, some d =>
      let o := b.ctl.ringOf st
      let view (r : OutRec) : Xfer :=
        xferOf r ((b.ctl.ringPieces st r.off r.len).foldl (fun (q : Run) (_, a) => q.append (b.stgRead st a 64 []).1) {})
      let fits := (o.recs.filter fun r => r.tile == t.val && !r.done).filterMap fun r => (rvMatch d (view r)).map fun k => (k, r)
      let best := fits.foldl (fun (m : Option (Nat × OutRec)) q =>
        match m with
        | none => some q
        | some p => if q.1 < p.1 then some q else some p) none
      match best with
      | none => b
      | some (_, r) =>
        let units := creditUnits (view r).run.bytes.length
        if 256 < x.granted + units then b
        else
          let (q, b) := (b.ctl.ringPieces st r.off r.len).foldl (fun (q, b) (i, a) =>
            let (p, b) := b.stgRead st a 64 (e.drop (i / 64))
            (q.append p, b)) (({} : Run), b)
          let recs := (o.recs.map fun p => if p.off = r.off then { p with done := true } else p).dropWhile (·.done)
          let b := b.onCtl fun c => c.setRingOf st { o with recs := recs }
          b.onTile t fun x => { x with
            granted := x.granted + units, recvQ := x.recvQ ++ [xferOf r q]
            spill := recs.any fun p => p.tile == t.val && !p.done }
    | _, _, _ => b

end Sys2Proof.Machine
end

