-- ==== Sys2Proof/Machine/Gather.lean ====
section
/-!
DEFINITION. The gather engine of an S-tile: tables, hashes, bags, the hit cache, row fetches, pooling, near-memory adds (09).
-/
namespace Sys2Proof.Machine

/-! ### Tables and descriptors (09 R219 to R225) -/

/-- Word `k` of TABLE[n] of tile `t`. -/
def Ctl.tbl (c : Ctl) (t n k : Nat) : Word := c.rd (gathPage t + 0x40 + 0x20 * n + 4 * k)

def Ctl.tblHash (c : Ctl) (t n : Nat) : Nat := bits (c.tbl t n 0) 30 29
def Ctl.tblElem (c : Ctl) (t n : Nat) : Nat := bits (c.tbl t n 0) 28 27
def Ctl.tblRowBytes (c : Ctl) (t n : Nat) : Nat := (bits (c.tbl t n 0) 26 23 + 1) * 64
def Ctl.tblMulBits (c : Ctl) (t n : Nat) : Nat := bits (c.tbl t n 0) 21 16
def Ctl.tblSegShift (c : Ctl) (t n : Nat) : Nat := bits (c.tbl t n 0) 13 8
def Ctl.tblBase (c : Ctl) (t n : Nat) : Nat := (c.tbl t n 1).toNat + (c.tbl t n 2).toNat * 2 ^ 32
def Ctl.tblRows (c : Ctl) (t n : Nat) : Nat := (c.tbl t n 3).toNat + bits (c.tbl t n 4) 7 0 * 2 ^ 32
def Ctl.tblShardRows (c : Ctl) (t n : Nat) : Nat := (c.tbl t n 5).toNat
def Ctl.tblSelf (c : Ctl) (t n : Nat) : Nat := bits (c.tbl t n 6) 27 16
def Ctl.tblShards (c : Ctl) (t n : Nat) : Nat := bits (c.tbl t n 6) 11 0 + 1
def Ctl.tblMap (c : Ctl) (t n : Nat) : Nat := bits (c.tbl t n 7) 17 0 * 16

/-- Bytes of a table element. -/
def elemBytes (e : Nat) : Nat := if e = 0 then 4 else 2

/-- Elements of a row: E (09 R225). -/
def Ctl.tblElems (c : Ctl) (t n : Nat) : Nat := c.tblRowBytes t n / elemBytes (c.tblElem t n)

def gdUpdate (d : Desc) : Bool := bits (d.w 1) 31 30 == 1
def gdPool (d : Desc) : Nat := bits (d.w 1) 29 28
def gdTable (d : Desc) : Nat := bits (d.w 1) 27 26
/-- Bytes of an ID. -/
def gdIdBytes (d : Desc) : Nat := if bit (d.w 1) 25 then 8 else 4
def gdBf16 (d : Desc) : Bool := bit (d.w 1) 24
def gdHc (d : Desc) : Bool := bit (d.w 1) 23
def gdHcInv (d : Desc) : Bool := bit (d.w 1) 22
def gdIds (d : Desc) : Nat := bits (d.w 1) 17 0 * 16
def gdOff (d : Desc) : Nat := bits (d.w 2) 17 0 * 16
def gdWt (d : Desc) : Nat := bits (d.w 3) 17 0 * 16
def gdBags (d : Desc) : Nat := bits (d.w 5) 15 0 + 1
def gdStride (d : Desc) : Nat := bits (d.w 5) 31 16 * 16
/-- Byte address of bag `b`'s row. -/
def gdRow (d : Desc) (b : Nat) : Nat := bits (d.w 4) 17 0 * 16 + b * gdStride d

/-- Bytes of a row of type ROW_T. -/
def gdRowBytes (c : Ctl) (t : Nat) (d : Desc) : Nat := c.tblElems t (gdTable d) * (if gdBf16 d then 2 else 4)

def Ctl.hcSlot (c : Ctl) (t : Nat) : Nat := (c.get (gathPage t) F.GATH_HC_CFG_SLOT_B64_M1 + 1) * 64
def Ctl.hcEntries (c : Ctl) (t : Nat) : Nat := 2 ^ c.get (gathPage t) F.GATH_HC_CFG_ENTRIES_LOG2
def Ctl.hcBase (c : Ctl) (t : Nat) : Nat := c.get (gathPage t) F.GATH_HC_CFG_BASE16 * 16

/-- A table is enabled and valid (09 R226). -/
def Ctl.tableOk (c : Ctl) (t n : Nat) : Bool :=
  let h := c.tblHash t n
  bit (c.tbl t n 0) 31 && h != 3 && c.tblElem t n != 3 && c.tblRows t n != 0 &&
  (h != 1 || (decide (1 ≤ c.tblMulBits t n) && decide (c.tblMulBits t n ≤ 40))) &&
  (h != 2 || (decide (1 ≤ c.tblSegShift t n) && decide (c.tblSegShift t n ≤ 58))) &&
  c.tblShardRows t n != 0 && decide (c.tblSelf t n < c.tblShards t n)

/-- The first failing check of a gather descriptor (09 R226). -/
def gatherCheck (c : Ctl) (t : Nat) (d : Desc) : Option Nat :=
  let n := gdTable d
  let sp := spBytes t
  if !c.tableOk t n then some 0x01
  else if 2 ≤ bits (d.w 1) 31 30 ∨ (gdUpdate d ∧ (gdPool d = 2 ∨ c.tblElem t n = 2)) then some 0x02
  else if sp < gdOff d + 4 * (gdBags d + 1) ∨ sp < c.tblMap t n + 4 * c.tblShards t n ∨
      sp < gdRow d (gdBags d - 1) + gdRowBytes c t d ∨ gdStride d < gdRowBytes c t d then some 0x03
  else if gdHc d ∧ sp < c.hcBase t + c.hcEntries t * c.hcSlot t then some 0x04
  else none

/-- The gather engine changed. -/
def Blk.onGath (b : Blk) (t : Nat) (f : Gath → Gath) : Blk := b.onTile t fun x => { x with gath := f x.gath }

/-- The hit cache invalidated: no tag is left, and fills under way are abandoned (09 R231). -/
def Gath.invalidate (g : Gath) : Gath := { g with tags := [] }

/-- The tile has a gather engine and runs. -/
def Blk.gathLive (b : Blk) (t : Nat) : Bool := b.live t && isSTile t

/-- GATHER_DESCRIPTOR: the descriptor at the head of the gather queue is checked and taken; HC_INV empties the hit cache (09
R225, R226, R231). -/
def execGatherDescriptor (t : TileId) (e : List Ecc) (s : State) : Host.Outcome State Fault Refusal :=
  if !isSTile t then .fault .noSuchUnit
  else s.on fun b =>
    if !b.live t then b
    else match b.takeHead t 8 e with
      | .stay b => b
      | .ready d b =>
        match gatherCheck b.ctl t d with
        | some code => b.gathHalt t code
        | none =>
          let b := b.install t 8 d (gdBags d)
          if gdHcInv d then b.onGath t Gath.invalidate else b

/-! ### Hashing (09 R221 to R224) -/

/-- The logical row of an ID (09 R221). -/
def Ctl.hashRow (c : Ctl) (t n id : Nat) : Nat :=
  match c.tblHash t n with
  | 0 => id % c.tblRows t n
  | 1 => (id * 0x9E3779B97F4A7C15 % 2 ^ 64) / 2 ^ (64 - c.tblMulBits t n)
  | _ =>
    let k := c.tblSegShift t n
    (c.rd (gathPage t + 0xC0 + 4 * (id / 2 ^ k % 32))).toNat + id % 2 ^ k

/-- Bytes of HBM the tile's stage owns. -/
def Ctl.tileCap (c : Ctl) (t : Nat) : Nat :=
  match c.tileStage t with
  | some s => c.stageBytes s
  | none => 0

/-- An ID is dropped: its row is beyond the table, its shard beyond the count, or a local row beyond the stage's stacks (09
R222). -/
def Ctl.rowDropped (c : Ctl) (t n r : Nat) : Bool :=
  let sh := r / c.tblShardRows t n
  decide (c.tblRows t n ≤ r) || decide (c.tblShards t n ≤ sh) ||
  (sh == c.tblSelf t n &&
    decide (c.tileCap t < c.tblBase t n + (r % c.tblShardRows t n + 1) * c.tblRowBytes t n))

/-- A bag being worked on, with the outcomes of the checks of the words still to be read, in the order they are read (06 R150). -/
structure Work where
  bag : Bag
  ecc : List Ecc
  blk : Blk

/-- Narrow reads of a bag's arrays; the outcomes of the checks that are left come with the block. -/
def Blk.narrowRead (b : Blk) (t a n : Nat) (e : List Ecc) : Fetched :=
  let (r, b) := b.spRead t a n e
  ⟨r, e.drop (wordsOf a n).length, b⟩

/-- A bag opened (09 R223, R224, R228): its offsets, IDs and weights are read; bad, poisoned, or its IDs listed, padding left
out; a poisoned weight poisons its row, whichever ID it belongs to. In UPDATE mode its gradient row is read, as the wide reads of a
streaming unit (06 R143). -/
def Blk.openBag (b : Blk) (t : Nat) (d : Desc) (k : Nat) (e : List Ecc) : Work :=
  let f := b.narrowRead t (gdOff d + 4 * k) 8 e
  let o := f.run
  let lo := (o.slice 0 4).nat
  let hi := (o.slice 4 4).nat
  let w := gdIdBytes d
  let bag : Bag := { ser := d.ser, bag := k }
  let wsum := gdPool d == 3
  let f := if gdUpdate d then f.blk.stagedRead t 8 d.ser (gdRow d k) (gdRowBytes f.blk.ctl t d) f.rest else { f with run := {} }
  let bag := { bag with grad := f.run }
  if o.anyBad then ⟨{ bag with badAll := true }, f.rest, f.blk⟩
  else if hi < lo ∨ 4096 < hi - lo ∨ (lo < hi ∧ (spBytes t < gdIds d + hi * w ∨ (wsum ∧ spBytes t < gdWt d + hi * 4))) then
    ⟨{ bag with badBag := true }, f.rest,
      f.blk.onCtl fun c => ((c.bump (gathPage t) F.GATH_BAD_BAGS_COUNT).errHw (gathPage t) 0x10).raise (gathPage t) 3⟩
  else
    let n := hi - lo
    let f := f.blk.narrowRead t (gdIds d + lo * w) (n * w) f.rest
    let ids := f.run
    let f := if wsum then f.blk.narrowRead t (gdWt d + lo * 4) (n * 4) f.rest else { f with run := {} }
    let ws := f.run
    if ids.anyBad then ⟨{ bag with badAll := true }, f.rest, f.blk⟩
    else
      let all := (List.range n).map fun j =>
        ((ids.slice (j * w) w).nat, (ws.slice (j * 4) 4).nat, (ws.slice (j * 4) 4).anyBad)
      ⟨{ bag with todo := all.filter (fun x => x.1 != 2 ^ (8 * w) - 1), wtBad := ws.anyBad }, f.rest, f.blk⟩

/-! ### The hit cache and fetches (09 R229 to R232) -/

/-- Row fetches outstanding: those sent (09 R229). -/
def Gath.outstanding (g : Gath) : Nat := (g.fetches.filter fun f => !f.remote || f.req.isSome).length

/-- The tag of a key. -/
def Gath.tagOf (g : Gath) (n r : Nat) : Option HcTag := g.tags.find? fun x => x.table == n && x.row == r

/-- The entry a missed key takes in its set: a free one, or the least recently used, which loses its row or its fill (09 R230). -/
def Gath.victim (g : Gath) (entries r : Nat) : Nat :=
  let set := r % (entries / 4)
  match ((List.range 4).map (set * 4 + ·)).find? fun x => !g.tags.any fun q => q.entry == x with
  | some x => x
  | none =>
    ((g.tags.filter fun q => q.entry / 4 == set).foldl (fun (best : Option HcTag) q =>
      match best with
      | none => some q
      | some p => if q.used < p.used then some q else some p) none).elim (set * 4) (·.entry)

/-- A key takes an entry, being filled by fetch `tag`. -/
def Gath.fillTag (g : Gath) (entries n r tag : Nat) : Gath :=
  let x := g.victim entries r
  { g with clock := g.clock + 1
           tags := (g.tags.filter fun q => q.entry != x) ++ [{ entry := x, table := n, row := r, fill := some tag, used := g.clock }] }

/-- The requests for a local row: one per granule it lies in (09 R220, 11 R270). -/
def Ctl.fetchLocal (c : Ctl) (t n loc tag : Nat) : Ctl :=
  let a := c.tblBase t n + loc * c.tblRowBytes t n
  match c.tileStage t with
  | none => c
  | some s => (granules a 4 0 (c.tblRowBytes t n)).foldl (fun c (off, len) =>
      match c.stageAddr s (a + off) with
      | some (h, _) => c.sendRim t h { kind := 4, cls := 2, tag := tag * 4 + 2, addr := a + off, bytes := len }
      | none => c) c

/-- A missed row fetched: a local one at once, a remote one collected for its shard's request. Answers the fetch's number; a remote
row collected already is not collected twice. -/
def Blk.fetchRow (b : Blk) (t n : Nat) (i : BagId) (win ctx : Nat) (remote : Bool) : Nat × Blk :=
  let g := (b.tile t).gath
  match g.fetches.find? fun f => remote && f.remote && f.req.isNone && f.table == n && f.row == i.row with
  | some f => (f.tag, b)
  | none =>
    let a := b.ctl.tblBase t n + i.loc * b.ctl.tblRowBytes t n
    let f : Fetch := { tag := g.tag, table := n, row := i.row, shard := i.shard, loc := i.loc, win := win, ctx := ctx, remote := remote
                       left := (granules a 4 0 (b.ctl.tblRowBytes t n)).length }
    let b := b.onGath t fun g => { g with fetches := g.fetches ++ [f], tag := (g.tag + 1) % 2 ^ 22 }
    (g.tag, if remote then b else b.onCtl fun c => c.fetchLocal t n i.loc g.tag)

/-- What hashing an ID comes to: the ID in use, if it is one, the outcomes of the checks that are left, the block. -/
structure Hashed where
  id : Option BagId
  ecc : List Ecc
  blk : Blk

/-- An ID of a POOL bag hashed and looked up (09 R221, R222, R230): the ID in use, if it is one; `none` where every fetch slot is taken. A row
looked up and not found is a miss, whether its shard can be asked or not. -/
def Blk.hashId (b : Blk) (t : Nat) (d : Desc) (id wt : Nat) (wbad : Bool) (e : List Ecc) : Option Hashed :=
  let n := gdTable d
  let p := gathPage t
  let r := b.ctl.hashRow t n id
  let rb := b.ctl.tblRowBytes t n
  if b.ctl.rowDropped t n r then some ⟨none, e, b.onCtl fun c => (c.bump p F.GATH_ID_DROP_COUNT).errHw p 0x11⟩
  else
    let sh := r / b.ctl.tblShardRows t n
    let i : BagId := { row := r, shard := sh, loc := r % b.ctl.tblShardRows t n, weight := wt, wbad := wbad }
    let remote := sh != b.ctl.tblSelf t n
    let g := (b.tile t).gath
    let cached := gdHc d && decide (rb ≤ b.ctl.hcSlot t)
    let used (b : Blk) : Blk := b.onCtl fun c => c.bump p F.GATH_IDS_COUNT
    let f : Fetched := if remote then b.narrowRead t (b.ctl.tblMap t n + 4 * sh) 4 e else ⟨{}, e, b⟩
    let m := f.run
    let mw := BitVec.ofNat 32 m.nat
    let miss (cached : Bool) : Option Hashed :=
      if !remote && decide (512 ≤ g.outstanding) then none
      else
        let b := used f.blk
        let b := if cached then b.onCtl fun c => c.bump p F.GATH_HC_MISS_COUNT else b
        if m.anyBad then some ⟨some { i with mapBad := true, got := some (zeroRun rb) }, f.rest, b⟩
        else
          let (tag, b) := b.fetchRow t n i (bits mw 31 28) (bits mw 11 0) remote
          let b := if cached then b.onGath t fun g => g.fillTag (b.ctl.hcEntries t) n r tag else b
          some ⟨some { i with tag := tag }, f.rest, b⟩
    match cached, g.tagOf n r with
    | true, some q =>
      match q.fill with
      | some tag =>
        some ⟨some { i with tag := tag, mapBad := m.anyBad }, f.rest, (used f.blk).onCtl fun c => c.bump p F.GATH_HC_MERGE_COUNT⟩
      | none =>
        let b := (used f.blk).onCtl fun c => c.bump p F.GATH_HC_HIT_COUNT
        let f := b.narrowRead t (b.ctl.hcBase t + q.entry * b.ctl.hcSlot t) rb f.rest
        let b := f.blk.onGath t fun g => { g with
          clock := g.clock + 1, tags := g.tags.map fun x => if x.entry = q.entry then { x with used := g.clock } else x }
        some ⟨some { i with got := some f.run, mapBad := m.anyBad }, f.rest, b⟩
    | c, _ => miss c

/-- IDs of a POOL bag hashed in order, as far as fetch slots allow; a wait is counted (09 R229). -/
def Blk.hashIds (x : Work) (t : Nat) (d : Desc) : List (Nat × Nat × Bool) → Work
  | [] => { x with bag := { x.bag with todo := [] } }
  | (id, w, wb) :: rest =>
    match x.blk.hashId t d id w wb x.ecc with
    | none => { x with bag := { x.bag with todo := (id, w, wb) :: rest }
                       blk := x.blk.onCtl fun c => c.bump (gathPage t) F.GATH_STALL_FETCH_CYCLES }
    | some h => Blk.hashIds ⟨{ x.bag with ids := x.bag.ids ++ h.id.toList }, h.ecc, h.blk⟩ t d rest

/-! ### Near-memory adds (09 R233, R235) -/

/-- An element widened exactly to an FP32 code: type 0 FP32, 1 BF16, 2 FP16 (09 R227). -/
def widen (ty v : Nat) : Nat := if ty = 0 then v else if ty = 1 then v * 2 ^ 16 else f32 (fDecode fFP16 v)

/-- Elements of a row, each as an FP32 code with its poison. -/
def rowCodes (ty n : Nat) (r : Run) : List (Nat × Bool) :=
  let w := elemBytes ty
  (List.range n).map fun i => (widen ty (r.slice (w * i) w).nat, (r.slice (w * i) w).anyBad)

/-- The bytes of an FP32 code stored as FP32 or, rounded once, as BF16. -/
def packCode (bf16 : Bool) (v : Nat) : List Byte := if bf16 then leBytes 2 (narrow fBF16 .rne (of32 v)).1 else leBytes 4 v

/-- A row of elements stored, each byte with its element's poison. -/
def packRow (bf16 : Bool) (l : List (Nat × Bool)) : Run :=
  { bytes := l.flatMap fun e => packCode bf16 e.1, bad := l.flatMap fun e => List.replicate (if bf16 then 2 else 4) e.2 }

/-- The value an ID adds to element `g`: g, g / n, or weight · g (09 R233). -/
def addValue (pool n wt g : Nat) : Nat :=
  if pool = 1 then f32 (numDiv (of32 g) (.fin false n 0)) else if pool = 3 then f32 (numMul (of32 wt) (of32 g)) else g

/-- IDs of one bag that name one row combined, in ID order, into one add (09 R233). -/
def combineIds (val : BagId → List (Nat × Bool)) : List BagId → List (BagId × List (Nat × Bool)) → List (BagId × List (Nat × Bool))
  | [], acc => acc
  | i :: rest, acc =>
    let v := val i
    combineIds val rest
      (if acc.any fun e => e.1.row == i.row then
        acc.map fun e => if e.1.row = i.row then
          ({ e.1 with mapBad := e.1.mapBad || i.mapBad }, (e.2.zip v).map fun (x, y) => (add32 x.1 y.1, x.2 || y.2)) else e
      else acc ++ [(i, v)])

/-- A message of a gather engine on context `n`: refused where the context is not the stage's, failed where it is not OPEN, queued
otherwise (12 R309, R310). -/
def Blk.gatherMsg (b : Blk) (m : TxMsg) : Blk :=
  let p := stagePage m.stage
  let told (err : Bool) (c : Ctl) : Ctl :=
    match m.who with
    | .gatherRead t tag => c.gatherReply m t tag err
    | .gatherAdd t ser bag => c.gatherAck m t ser bag err
    | _ => c
  if !b.ctl.ownsCtx m.stage m.ctx then b.onCtl fun c => told true ((c.bump p F.STAGE_UAM_REFUSED_COUNT).errHw p 0x1A)
  else if (b.ctl.ctx m.ctx).st ≠ 2 then b.failed { m with msn := (b.ctl.ctx m.ctx).txMsn } 1
  else b.onCtl fun c => c.queueMsg m

/-- One add issued, counted in the bag's adds by the acknowledgements that follow: to the local stacks, one request per granule, the row's key
taken out of the hit cache first, or to the peer's window; a shard whose map entry is poisoned gets none (DESIGN CHOICE). The words of an add
hold elements of the table's type, so a value for a BF16 table is rounded to BF16 as it is sent (09 R233, 11 R283; DEDUCED, log 53). -/
def Work.issueAdd (x : Work) (t : Nat) (d : Desc) (i : BagId) (v : List (Nat × Bool)) : Work :=
  let b := x.blk
  let k := x.bag.bag
  let n := gdTable d
  let p := gathPage t
  let elem := b.ctl.tblElem t n
  let rb := b.ctl.tblRowBytes t n
  let r := packRow (elem == 1) v
  match b.ctl.tileStage t with
  | none => x
  | some s =>
    let local_ := i.shard == b.ctl.tblSelf t n
    let f : Fetched := if local_ then ⟨{}, x.ecc, b⟩ else b.narrowRead t (b.ctl.tblMap t n + 4 * i.shard) 4 x.ecc
    let m := f.run
    let sent (n : Nat) (b : Blk) : Work := ⟨{ x.bag with adds := x.bag.adds + n }, f.rest, b⟩
    if m.anyBad then sent 0 f.blk
    else
      let b := f.blk.onCtl fun c =>
        let c := c.bump p F.GATH_ADDS_COUNT
        if r.anyBad then c.bump p F.GATH_ADD_POISON_COUNT else c
      if local_ then
        let b := b.onGath t fun g => { g with tags := g.tags.filter fun q => !(q.table == n && q.row == i.row) }
        let a := b.ctl.tblBase t n + i.loc * rb
        let ps := granules a 4 0 rb
        sent ps.length (b.onCtl fun c => ps.foldl (fun c (off, len) =>
          match c.stageAddr s (a + off) with
          | some (h, _) => c.sendRim t h { kind := 6, cls := 2, tag := (d.ser * 2 ^ 16 + k) * 4 + 3, addr := a + off + elem
                                           bytes := len, run := r.slice off len }
          | none => c) c)
      else
        let w := BitVec.ofNat 32 m.nat
        sent 1 (b.gatherMsg { stage := s, ctx := bits w 11 0, op := 4, len := rb, elem := elem, win := bits w 31 28, inline := r,
                              roff := i.loc * rb, who := .gatherAdd t d.ser k })

/-- The adds of an UPDATE bag issued (09 R233). -/
def Work.issueAdds (x : Work) (t : Nat) (d : Desc) : Work :=
  let b := x.blk
  let g := x.bag
  let n := gdTable d
  let p := gathPage t
  let (ids, b) := g.todo.foldl (fun (l, b) (id, w, wb) =>
    let r := b.ctl.hashRow t n id
    if b.ctl.rowDropped t n r then (l, b.onCtl fun c => (c.bump p F.GATH_ID_DROP_COUNT).errHw p 0x11)
    else
      let i : BagId := { row := r, shard := r / b.ctl.tblShardRows t n, loc := r % b.ctl.tblShardRows t n, weight := w, wbad := wb }
      (l ++ [i], b.onCtl fun c => c.bump p F.GATH_IDS_COUNT)) (([] : List BagId), b)
  let grad := rowCodes (ofBool (gdBf16 d)) (b.ctl.tblElems t n) g.grad
  let val (i : BagId) : List (Nat × Bool) := grad.map fun e => (addValue (gdPool d) ids.length i.weight e.1, e.2 || i.wbad)
  (combineIds val ids []).foldl (fun x (i, v) => x.issueAdd t d i v) ⟨{ g with todo := [], ids := ids }, x.ecc, b⟩

/-- A bag replaced among the open ones. -/
def Gath.setBag (g : Gath) (x : Bag) : Gath :=
  { g with bags := g.bags.map fun q => if q.ser = x.ser ∧ q.bag = x.bag then x else q }

/-- GATHER_BAG: the next bag's step issues, at most eight ahead of the bag being pooled, and its IDs are hashed: rows fetched, or in
UPDATE mode adds issued; a bag that ran out of fetch slots goes on; one whose adds would bring more than 65,536 messages in flight waits (12
R312). `e` is what the checks of the words read find, in the order they are
read (09 R221 to R233, 06 R150). -/
def execGatherBag (t : TileId) (e : List Ecc) (s : State) : Host.Outcome State Fault Refusal :=
  if !isSTile t then .fault .noSuchUnit
  else s.on fun b =>
    let g := (b.tile t).gath
    match b.live t, g.bags.find? fun x => !x.todo.isEmpty with
    | false, _ => b
    | true, some bag =>
      match ((b.tile t).queue 8).find bag.ser with
      | some d =>
        let x := Blk.hashIds ⟨{ bag with todo := [] }, e, b⟩ t d bag.todo
        x.blk.onGath t fun g => g.setBag x.bag
      | none => b
    | true, none =>
      match b.current t 8 with
      | none => b
      | some d =>
        if !b.ctl.tokensReady t d.hdr || decide (9 ≤ g.bags.length) then b
        else
          let k := d.issued
          let b0 := b
          let b := b.issue t 8 d
          if d.void then b.stepDone t 8 d.ser
          else
            let x := b.openBag t d k e
            let x := { x with blk := x.blk.onGath t fun g => { g with bags := g.bags ++ [x.bag] } }
            let before := b0.ctl.txUsed
            let x := if gdUpdate d then x.issueAdds t d else Blk.hashIds { x with bag := { x.bag with todo := [] } } t d x.bag.todo
            if gdUpdate d ∧ 0 < before ∧ 65536 < x.blk.ctl.txUsed then b0 else x.blk.onGath t fun g => g.setBag x.bag

/-! ### Remote requests and arrivals (09 R230, R232, R234) -/

/-- GATHER_REMOTE_REQUEST: the distinct rows collected for a shard of a table, up to 1,024 and no more than there are fetch slots free, go out
as one request in ascending order, once 1,024 are collected or the last open bag is hashed; with no slot free the engine waits, which counts
(09 R229, R232; log 53). -/
def execGatherRemoteRequest (t : TileId) (n : Fin 4) (k : Nat) (s : State) : Host.Outcome State Fault Refusal :=
  if !isSTile t then .fault .noSuchUnit
  else s.on fun b =>
    let g := (b.tile t).gath
    let mine := g.fetches.filter fun f => f.remote && f.req.isNone && f.table == n.val && f.shard == k
    let hashed := g.bags.all fun x => x.todo.isEmpty
    match b.live t, b.ctl.tileStage t, mine with
    | true, some st, f0 :: _ =>
      if mine.length < 1024 ∧ !hashed then b
      else if !b.ctl.txRoom then b
      else if 512 ≤ g.outstanding then b.onCtl fun c => c.bump (gathPage t) F.GATH_STALL_FETCH_CYCLES
      else
        let locs := (mine.take (min 1024 (512 - g.outstanding))).foldl (fun l f => insertNat f.loc l) []
        let rb := b.ctl.tblRowBytes t n
        let req := g.tag
        let b := b.onGath t fun g => { g with
          tag := (g.tag + 1) % 2 ^ 22
          fetches := g.fetches.map fun f =>
            if f.remote ∧ f.req.isNone ∧ f.table = n.val ∧ f.shard = k ∧ locs.contains f.loc then { f with req := some req } else f }
        let b := b.onCtl fun c => c.bump (gathPage t) F.GATH_REMOTE_ROWS_COUNT locs.length
        b.gatherMsg { stage := st, ctx := f0.ctx, op := 2, len := locs.length * rb, win := f0.win, who := .gatherRead t (req * 4 + 2)
                      inline := zeroRun (locs.length * rb), rows := locs.flatMap (leBytes 8) }
    | _, _, _ => b

/-- A row has arrived for fetch `f`: the IDs that wait for it have it, and the entry it fills is filled, or, poisoned or with an
error, abandoned. `e` is what the checks of the words written in part find (06 R145, 09 R230). -/
def Blk.rowArrived (b : Blk) (t : Nat) (f : Fetch) (r : Run) (err : Bool) (e : List Ecc) : Blk :=
  let c := b.ctl
  let b := b.onGath t fun g => { g with
    fetches := g.fetches.filter fun q => q.tag != f.tag
    bags := g.bags.map fun x => { x with ids := x.ids.map fun i => if i.got.isNone ∧ i.tag = f.tag then { i with got := some r } else i } }
  match (b.tile t).gath.tags.find? fun q => q.fill == some f.tag with
  | none => b
  | some q =>
    if err || r.anyBad then b.onGath t fun g => { g with tags := g.tags.filter fun x => x.entry != q.entry }
    else
      let b := b.spStore t (c.hcBase t + q.entry * c.hcSlot t) r e
      b.onGath t fun g => { g with
        clock := g.clock + 1
        tags := g.tags.map fun x => if x.entry = q.entry then { x with fill := none, used := g.clock } else x }

/-- A remote request or an add completed with an error (09 R232, R235). -/
def Ctl.remoteErr (c : Ctl) (t : Nat) : Ctl :=
  ((c.bump (gathPage t) F.GATH_REMOTE_ERR_COUNT).errHw (gathPage t) 0x12).raise (gathPage t) 4

/-- A reply to a row fetch: a part of a local row, or the rows of a remote request (09 R229, R232). -/
def Blk.rowReply (b : Blk) (t n : Nat) (p : Pkt) (e : List Ecc) : Blk :=
  let g := (b.tile t).gath
  match g.fetches.find? fun f => f.tag == n && !f.remote with
  | some f =>
    let rb := b.ctl.tblRowBytes t f.table
    let f := { f with left := f.left - 1, parts := SMap.put f.parts p.addr p.run, err := f.err || p.err }
    if f.left = 0 then
      let r := f.parts.foldl (fun (r : Run) e => r.append e.2) {}
      b.rowArrived t f (if f.err then (zeroRun rb).poisoned else r) f.err e
    else b.onGath t fun g => { g with fetches := g.fetches.map fun q => if q.tag = f.tag then f else q }
  | none =>
    let fs := g.fetches.filter fun f => f.req == some n
    let locs := fs.foldl (fun l f => insertNat f.loc l) []
    let b := if p.err then b.onCtl fun c => c.remoteErr t else b
    (fs.foldl (fun ((e, b) : List Ecc × Blk) f =>
      let rb := b.ctl.tblRowBytes t f.table
      (e.drop 2, b.rowArrived t f (p.run.slice (locs.findIdx (· == f.loc) * rb) rb) p.err (e.take 2))) (e, b)).2

/-- GATHER_ROW_ARRIVE: a reply reaches a gather engine: rows fetched, or the acknowledgement of an add. `e` is what the checks of words of the
hit cache written in part find, two for a row (09 R229, R232, R234). -/
def execGatherRowArrive (i : Nat) (e : List Ecc) (s : State) : Host.Outcome State Fault Refusal :=
  s.on fun b =>
    match b.ctl.atTile i with
    | some (t, .pkt p) =>
      if p.kind ≠ 3 ∨ p.tag % 4 < 2 ∨ !isSTile t then b
      else
        let b := b.onCtl fun c => c.takeNet i
        if !b.live t then b
        else if p.tag % 4 = 2 then b.rowReply t (p.tag / 4) p e
        else
          let b := if p.err then b.onCtl fun c => c.remoteErr t else b
          b.onGath t fun g => { g with bags := g.bags.map fun x =>
            if (x.ser * 2 ^ 16 + x.bag) % 2 ^ 22 = p.tag / 4 then { x with adds := x.adds - 1 } else x }
    | _ => b

/-! ### Pooling (09 R227, R228) -/

/-- One element pooled over the rows of a bag, in ID order (09 R227): `l` lists each row's element and weight. -/
def poolElem (pool : Nat) (l : List (Nat × Nat)) : Nat :=
  match pool with
  | 2 => match l with
    | [] => 0
    | (v, _) :: r => r.foldl (fun m e => maxMin 0 true m e.1) (if isNan32 v then nan32 else v)
  | 3 => l.foldl (fun s e => f32 (numAdd (numMul (of32 e.2) (of32 e.1)) (of32 s))) 0
  | p =>
    let sum := l.foldl (fun s e => add32 s e.1) 0
    if p = 1 then (if l.isEmpty then 0 else f32 (numDiv (of32 sum) (.fin false l.length 0))) else sum

/-- Some row taking part has poison in the 32-byte word that covers byte `a` of the output row (09 R228). -/
def Bag.byteBad (g : Bag) (a : Nat) : Bool := g.ids.any fun i => ((i.got.getD {}).slice (a / 32 * 32) 32).anyBad

/-- The output row of a bag: its elements with their poison, which keeps its place in the row, byte for byte (09 R224, R227, R228). -/
def Ctl.poolRow (c : Ctl) (t : Nat) (d : Desc) (g : Bag) : List (Nat × Bool) :=
  let n := gdTable d
  let ee := c.tblElems t n
  if g.badAll then List.replicate ee (0, true)
  else if g.badBag then List.replicate ee (0, c.flag (gathPage t) F.GATH_CTRL_BAD_POISON)
  else
    let all := g.wtBad || g.ids.any fun i => i.mapBad
    let w := if gdBf16 d then 2 else 4
    let rows := g.ids.map fun i => (rowCodes (c.tblElem t n) ee (i.got.getD {}), i.weight)
    (List.range ee).map fun k =>
      let l := rows.map fun (r, w) => (r.getD k (0, false), w)
      (poolElem (gdPool d) (l.map fun e => (e.1.1, e.2)), all || g.byteBad (w * k))

/-- A bag has all it needs: every ID hashed, every row here, every add acknowledged (09 R234). -/
def Bag.ready (g : Bag) : Bool := g.todo.isEmpty && g.adds == 0

/-- GATHER_BAG_COMPLETE: the oldest bag, its rows all here, is pooled and its row written; or an UPDATE bag with every add acknowledged
completes. `e` is what the checks of the words written in part find (09 R227, R228, R234). -/
def execGatherBagComplete (t : TileId) (e : List Ecc) (s : State) : Host.Outcome State Fault Refusal :=
  if !isSTile t then .fault .noSuchUnit
  else s.on fun b =>
    let g := (b.tile t).gath
    let q := (b.tile t).queue 8
    let upd (x : Bag) : Bool := (q.find x.ser).any gdUpdate
    let first := g.bags.find? fun x => !upd x
    let pick := (g.bags.find? fun x => upd x && x.ready).or (first.filter fun x => x.ready && x.ids.all fun i => i.got.isSome)
    match b.live t, pick with
    | true, some bag =>
      match q.find bag.ser with
      | none => b
      | some d =>
        let b := b.onGath t fun g => { g with bags := g.bags.filter fun x => !(x.ser == bag.ser && x.bag == bag.bag) }
        let b := if gdUpdate d then b
          else
            let r := packRow (gdBf16 d) (b.ctl.poolRow t d bag)
            let b := b.spStore t (gdRow d bag.bag) r e
            if r.anyBad then b.onCtl fun c => (c.bump (gathPage t) F.GATH_POISON_OUT_COUNT).raise (gathPage t) 2 else b
        (b.onCtl fun c => c.perf t 0x0F 1).stepDone t 8 d.ser
    | _, _ => b

end Sys2Proof.Machine
end

