-- ==== Sys2Proof/Machine/Pcie.lean ====
section
/-!
DEFINITION. The PCIe endpoint: the BAR2 window, stage traffic to the host, functions, interrupts and resets (13 R339 to R349).
-/
namespace Sys2Proof.Machine

/-- A function exists: the physical one, or a virtual one up to NumVFs with VF Enable set (13 R346). -/
def Ctl.fnExists (c : Ctl) (fn : Nat) : Bool := fn == 0 || (c.host.vfEnable && decide (fn ≤ c.host.numVfs))

/-- What a function's configuration space says of it (13 R339 to R341): identity, TotalVFs where it has the SR-IOV capability, bytes of BAR0, BAR2
and BAR4, entries of its MSI-X table, where in BAR4 the pending-bit array begins, the largest payload and read request, the capabilities it has
and those it has not. -/
structure Ident where
  vendor : Nat := 0x1D6E
  device : Nat
  cls : Nat := 0x120000
  rev : Nat := 0x01
  totalVfs : Option Nat := none
  bars : List Nat
  msix : Nat
  pba : Nat
  mps : Nat := 512
  mrrs : Nat := 4096
  aer : Bool := true
  ari : Bool := true
  flr : Bool := true
  msi : Bool := false
  intx : Bool := false
  ats : Bool := false
  pasid : Bool := false
  tph : Bool := false
  rom : Bool := false
  deriving DecidableEq, Repr

/-- SR-IOV is there unless the option block takes it away (16 R417). -/
def Ctl.sriov (c : Ctl) : Bool := bit (c.option 2) 9

/-- The configuration space of a function that exists (13 R339 to R341). -/
def Ctl.ident (c : Ctl) (fn : Nat) : Option Ident :=
  if fn = 0 then
    some { device := 0x6A19, totalVfs := if c.sriov then some 12 else none, bars := [2 ^ 28, 2 ^ 36, 2 ^ 16], msix := 512, pba := 2 ^ 15 }
  else if c.fnExists fn then some { device := 0x6A1A, bars := [2 ^ 28, 2 ^ 36, 2 ^ 14], msix := 128, pba := 2 ^ 13 }
  else none

/-- Vectors of a function, those of its MSI-X table (13 R341, 02 R51). -/
def vectorsOf (fn : Nat) : Nat := if fn = 0 then 512 else 128

/-- The bit of vector `v` in a function's pending-bit array: a message of a page on it waits (13 R341, 02 R49). -/
def Ctl.pba (c : Ctl) (fn v : Nat) : Bool :=
  c.host.waiting.any fun base => c.pageOwner base == fn && bits (c.rd (base + 0x10)) 30 20 == v

/-! ### The BAR2 window (13 R342 to R344) -/

/-- Where BAR2 offset `o` of a function leads: a stage's space, or a stack's with its number, and the address there. -/
inductive Bar2 where
  | stage (s a : Nat)
  | stack (h a : Nat)
  deriving DecidableEq, Repr

/-- The target of BAR2 offset `o` of function `fn` (13 R342). -/
def Ctl.bar2 (c : Ctl) (fn o : Nat) : Bar2 :=
  if fn = 0 then
    let a := c.get pciePage F.PCIE_BAR2_BASE_GIB * 2 ^ 30 + o
    let t := c.get pciePage F.PCIE_BAR2_SEL_TARGET
    if c.flag pciePage F.PCIE_BAR2_SEL_STACK then .stack t a else .stage t a
  else .stage (fn - 1) (c.get (stagePage (fn - 1)) F.STAGE_BAR2_BASE_GIB * 2 ^ 30 + o)

/-- A request of `n` bytes is served (13 R343). -/
def Ctl.bar2Ok (c : Ctl) (n : Nat) : Bar2 → Bool
  | .stage s a =>
    let up (x : Nat) : Bool := match c.stageAddr s x with | some (h, _) => c.stackReady h | none => false
    c.ready && c.valid s && decide (a + n ≤ c.stageBytes s) && decide (a < c.stageBytes s) &&
      (granules a (n / 4096 + 2) 0 n).all fun e => up (a + e.1)
  | .stack h a => c.ready && (c.stackStage h).isNone && decide (a + n ≤ stackBytes) && decide (a < stackBytes) && c.stackReady h

/-- A refused request counted (13 R343, R349). -/
def Ctl.bar2Refuse (c : Ctl) (fn : Nat) : Ctl :=
  if fn = 0 then c.bump pciePage F.PCIE_BAR2_ERR_COUNT else c.bump (stagePage (fn - 1)) F.STAGE_BAR2_ERR_COUNT

/-- BAR2_READ: a read of `len` bytes at a function's BAR2 offset: the data, with EP where a word is poisoned, or Unsupported Request;
`e` is what the checks of its bursts find (13 R342 to R344). -/
def execBar2Read (fn : Fn) (off : BitVec 36) (len : Fin 4097) (e : List Ecc) (s : State) : Host.Outcome State Fault Refusal :=
  s.on fun b =>
    let k := fn.num
    if !b.ctl.fnExists k then b
    else
      let t := b.ctl.bar2 k off.toNat
      if !b.ctl.bar2Ok len t then b.onCtl fun c => { c.bar2Refuse k with out := c.out ++ [.bar2Data k false false []] }
      else
        let (r, b) := match t with
          | .stage st a => b.stgRead st a len e
          | .stack h a => b.stackRead h a len e
        b.onCtl fun c => { c with out := c.out ++ [.bar2Data k true r.anyBad r.bytes] }

/-- BAR2_WRITE: bytes written at a function's BAR2 offset, poisoned where the TLP has EP set, or dropped; `e` is what the checks of the bursts it
covers in part find (13 R342 to R344, 11 R281). -/
def execBar2Write (fn : Fn) (off : BitVec 36) (data : List Byte) (ep : Bool) (e : List Ecc) (s : State) : Host.Outcome State Fault Refusal :=
  s.on fun b =>
    let k := fn.num
    if !b.ctl.fnExists k then b
    else
      let t := b.ctl.bar2 k off.toNat
      if !b.ctl.bar2Ok data.length t then b.onCtl fun c => c.bar2Refuse k
      else match t with
        | .stage st a => b.stgWrite st a (runOf data ep) e
        | .stack h a => b.stackWrite h a (runOf data ep) e

/-! ### Stage traffic to the host (13 R345) -/

/-- A packet of the given kind that has reached the PCIe endpoint: stage and packet. -/
def Ctl.hostItem (c : Ctl) (i kind : Nat) : Option (Nat × Pkt) :=
  match c.atRim i with
  | some (s, 0x20, .pkt p) => if p.kind = kind then some (s, p) else none
  | _ => none

/-- `n` bytes from offset 0 in pieces of at most `m`; `fuel` bounds them. -/
def tlpPieces (m : Nat) : Nat → Nat → Nat → List (Nat × Nat)
  | 0, _, _ => []
  | fuel + 1, off, n => if n ≤ m then [(off, n)] else (off, m) :: tlpPieces m fuel (off + m) (n - m)

/-- The stage's virtual function may issue requests: it exists and its Bus Master Enable is set (`bme`). -/
def Ctl.mayMaster (c : Ctl) (s : Nat) (bme : Bool) : Bool := bme && c.fnExists (s + 1)

/-- HOST_READ_REQUEST: a remote read from a tile is issued as memory reads of at most the maximum read request size, `128·2^mrrs`; with
Bus Master Enable clear it draws an error response (13 R345). -/
def execHostReadRequest (i : Nat) (bme : Bool) (mrrs : Fin 6) (s : State) : Host.Outcome State Fault Refusal :=
  s.onCtl fun c =>
    match c.hostItem i 1 with
    | none => c
    | some (st, p) =>
      let c := c.takeNet i
      if !c.mayMaster st bme then (c.bump (stagePage st) F.STAGE_DMA_ERR_COUNT).hbmReply 0x20 p true {}
      else
        let l := tlpPieces (128 * 2 ^ mrrs.val) (p.bytes / 128 + 1) 0 p.bytes
        let id := c.mgmt.nextRead
        let r : HostRead := { id := id, stage := st, tile := p.src, tag := p.tag, cls := p.cls, addr := p.addr, bytes := p.bytes, left := l
                              got := zeroRun p.bytes }
        { c with
          out := c.out ++ l.map fun (e : Nat × Nat) => Out.hostRead st id (p.addr + e.1) e.2
          mgmt := { c.mgmt with nextRead := id + 1, reads := c.mgmt.reads ++ [r] } }

/-- HOST_WRITE_REQUEST: a remote write from a tile is sent as write TLPs of at most the maximum payload size, `128·2^mps`, those that hold a
poisoned word with EP set, and acknowledged; with Bus Master Enable clear it draws an error response (13 R345, 11 R286, R287). -/
def execHostWriteRequest (i : Nat) (bme : Bool) (mps : Fin 3) (s : State) : Host.Outcome State Fault Refusal :=
  s.onCtl fun c =>
    match c.hostItem i 2 with
    | none => c
    | some (st, p) =>
      let c := c.takeNet i
      if !c.mayMaster st bme then (c.bump (stagePage st) F.STAGE_DMA_ERR_COUNT).hbmReply 0x20 p true {}
      else
        let c := (tlpPieces (128 * 2 ^ mps.val) (p.run.bytes.length / 128 + 1) 0 p.run.bytes.length).foldl (fun (c : Ctl) (e : Nat × Nat) =>
          let r := p.run.slice e.1 e.2
          let c := { c with out := c.out ++ [Out.hostWrite st (p.addr + e.1) r.anyBad r.bytes] }
          if r.anyBad then ((c.bump pciePage F.PCIE_POISON_TX_COUNT).raise pciePage 2).consumePoison st 5 0 else c) c
        c.hbmReply 0x20 p false {}

/-- The reply to a host read. -/
def Ctl.hostReply (c : Ctl) (r : HostRead) (err : Bool) (d : Run) : Ctl :=
  let c := { c with mgmt := { c.mgmt with reads := c.mgmt.reads.erase r } }
  let c := if err then c.bump (stagePage r.stage) F.STAGE_DMA_ERR_COUNT else c
  c.hbmReply 0x20 { src := r.tile, tag := r.tag, cls := r.cls, addr := r.addr } err d

/-- HOST_COMPLETION: a completion with the data of bytes `off` onward of a read, or with UR or CA status (`ok` false); when every byte is
here the tile gets its reply (13 R345). -/
def execHostCompletion (id off : Nat) (ok ep : Bool) (bytes : List Byte) (s : State) : Host.Outcome State Fault Refusal :=
  s.onCtl fun c =>
    match c.mgmt.reads.find? fun r => r.id == id with
    | none => c
    | some r =>
      if !ok then c.hostReply r true {}
      else match r.left.find? fun e => e.1 == off with
        | none => c
        | some (o, n) =>
          let k := bytes.length
          if k = 0 ∨ n < k then c
          else
            let rest := r.left.flatMap fun (e : Nat × Nat) => if e.1 = o then (if k = n then [] else [(o + k, n - k)]) else [e]
            let d := ((r.got.slice 0 o).append (runOf bytes ep)).append (r.got.slice (o + k) r.bytes)
            if rest.isEmpty then c.hostReply r false d
            else { c with mgmt := { c.mgmt with reads := c.mgmt.reads.map fun (q : HostRead) =>
                                      if q.id = id then { q with left := rest, got := d } else q } }

/-- HOST_COMPLETION_TIMEOUT: no completion within 50 ms (13 R345). -/
def execHostCompletionTimeout (id : Nat) (s : State) : Host.Outcome State Fault Refusal :=
  s.onCtl fun c =>
    match c.mgmt.reads.find? fun r => r.id == id with
    | some r => c.hostReply r true {}
    | none => c

/-! ### Functions and their interrupts (13 R346) -/

/-- Interrupts that wait are sent where their function can now send them (13 R346). -/
def Ctl.sendWaiting (c : Ctl) : Ctl :=
  c.host.waiting.foldl (fun c base =>
    ({ c with host := { c.host with waiting := c.host.waiting.filter (· != base) } }).sendMsg base) c

/-- VF_ENABLE: NumVFs and VF Enable are set, where the SR-IOV capability is there; the interrupts that waited for a virtual function are sent as it
can send them (13 R346, 16 R417). -/
def execVfEnable (en : Bool) (n : Fin 13) (s : State) : Host.Outcome State Fault Refusal :=
  s.onCtl fun c =>
    if !c.sriov then c
    else
      let c := { c with host := { c.host with vfEnable := en, numVfs := n } }
      let gone (fn : Nat) : Bool := !c.fnExists fn
      let c := { c with host := { c.host with
        msixEn := c.host.msixEn.filter fun fn => !gone fn, masked := c.host.masked.filter fun (e : Nat × Nat) => !gone e.1
        table := c.host.table.filter fun (e : Nat × MsixEntry) => !gone e.1 } }
      c.sendWaiting

/-- MSI_X_ENABLE: a function's MSI-X Enable, its masked vectors and its table's entries are set; the interrupts that waited are sent (13 R341,
R346, 02 R49). -/
def execMsiXEnable (fn : Fn) (en : Bool) (masked : List (Fin 2048)) (table : List MsixEntry) (s : State) : Host.Outcome State Fault Refusal :=
  s.onCtl fun c =>
    let k := fn.num
    if !c.fnExists k then c
    else
      let h := c.host
      let c := { c with host := { h with
        msixEn := if en then insertNat k h.msixEn else h.msixEn.filter (· != k)
        masked := (h.masked.filter fun (e : Nat × Nat) => e.1 != k) ++ ((masked.filter fun (v : Fin 2048) => decide (v.val < vectorsOf k)).map fun (v : Fin 2048) => (k, v.val))
        table := (h.table.filter fun (e : Nat × MsixEntry) => e.1 != k) ++ (table.filter fun (e : MsixEntry) => decide (e.vec < vectorsOf k)).map fun (e : MsixEntry) => (k, e) } }
      c.sendWaiting

/-! ### Function and link resets (13 R347, R339) -/

/-- VF_FLR: the function's PCIe state and BAR2_BASE reset; its stage receives RESET; one while a warm reset runs is completed by that
reset (13 R347). -/
def execVfFlr (st : StageId) (s : State) : Host.Outcome State Fault Refusal :=
  s.on fun b =>
    if !b.ctl.fnExists (st + 1) || b.ctl.boot.running != .none then b
    else
      let b := b.onCtl fun c =>
        let c := { c with
          host := { c.host with msixEn := c.host.msixEn.filter (· != st.val + 1)
                                masked := c.host.masked.filter fun (e : Nat × Nat) => e.1 != st.val + 1
                                table := c.host.table.filter fun (e : Nat × MsixEntry) => e.1 != st.val + 1 }
          mgmt := { c.mgmt with reads := c.mgmt.reads.filter fun r => r.stage != st.val } }
        c.wr (stagePage st + F.STAGE_BAR2_BASE_GIB.off) 0
      b.stageReset st

/-- PF_FLR: a warm reset, which resets the endpoint with its link (13 R347, 16 R413, R427). -/
def execPfFlr (s : State) : Host.Outcome State Fault Refusal := s.on fun b => b.warmReset

/-- HOT_RESET: a warm reset, where the link is up (13 R347); the link trains again. -/
def execHotReset (s : State) : Host.Outcome State Fault Refusal :=
  s.on fun b => if b.ctl.flag pciePage F.PCIE_STATUS_DL_UP then b.warmReset else b

/-- PCIE_LINK_DOWN: a warm reset (13 R347). -/
def execPcieLinkDown (s : State) : Host.Outcome State Fault Refusal :=
  s.on fun b => if b.ctl.flag pciePage F.PCIE_STATUS_DL_UP then b.warmReset else b

/-- PERST_N_ASSERT: PERST_N low for 100 ns or more: a warm reset (13 R347, R355). -/
def execPerstNAssert (s : State) : Host.Outcome State Fault Refusal :=
  s.on fun b =>
    if b.ctl.boot.perstLow then b
    else b.warmReset.onCtl fun c => { c with boot := { c.boot with perstLow := true } }

/-- PERST_N_DEASSERT: PERST_N is seen high; the link may train (16 R423). -/
def execPerstNDeassert (s : State) : Host.Outcome State Fault Refusal :=
  s.onCtl fun c => { c with boot := { c.boot with perstLow := false } }

/-- PCIE_LINK_UP: training completes, within the rate and width the option block allows (13 R339, R348, 16 R417, R423). The ranks of
`speed` count from 2.5 GT/s, those of `width` are x1, x2, x4, x8, x16. -/
def execPcieLinkUp (speed : Fin 6) (width : Fin 5) (flit : Bool) (s : State) : Host.Outcome State Fault Refusal :=
  s.onCtl fun c =>
    let p := pciePage
    let o := c.option 2
    let top := if bits o 2 0 = 0 ∨ bits o 2 0 = 7 then 6 else bits o 2 0
    let wide := if [1, 2, 4, 8, 16].contains (bits o 8 4) then bits o 8 4 else 16
    let v := speed.val + 1
    let w := 2 ^ width.val
    if c.boot.perstLow || c.boot.resetLow || c.boot.held || decide (c.phase < 2 ∧ !c.ready) || decide (top < v) || decide (wide < w) ||
        c.flag p F.PCIE_STATUS_DL_UP then c
    else
      let c := ((c.put p F.PCIE_STATUS_DL_UP 1).put p F.PCIE_STATUS_FLIT (ofBool (flit || v == 6))).put p F.PCIE_STATUS_SPEED v
      (c.put p F.PCIE_STATUS_WIDTH w).raise p 1

end Sys2Proof.Machine
end

