-- ==== Sys2Proof/Machine/Views.lean ====
section
/-!
DEFINITION. What the registers that show the state of a unit read: fields with no store of their own (02 R42, R50 and the register
tables of the chapters).
-/
namespace Sys2Proof.Machine

/-- One word of a 64-bit quantity. -/
def half (v : Nat) (hi : Bool) : Word := BitVec.ofNat 32 (if hi then v / 2 ^ 32 else v)

/-- A field at bits `hi` to `lo` shown as `v`. -/
def shown (w : Word) (hi lo v : Nat) : Word := putBits w hi lo v

/-- A flag at bit `n` shown as `v`. -/
def shownBit (w : Word) (n : Nat) (v : Bool) : Word := putBits w n n (ofBool v)

/-- Energy counter `k` of a list of energies, in microjoules (14 R378). -/
def microJ (m : SMap Nat) (k : Nat) : Nat := SMap.get 0 m k / 102400000 % 2 ^ 64

/-! ### The rim pages -/

/-- KEEP (16 R440). -/
def Ctl.keepView (c : Ctl) (off : Nat) (w : Word) : Word :=
  let i := c.get keepPage F.KEEP_SEL_INDEX
  match off with
  | 0x14 => shownBit (shown w 4 1 (min 8 c.keep.queue.length)) 0 (!c.keep.queue.isEmpty)
  | 0x44 => c.keepWord i
  | 0x48 => shownBit (shown 0 16 0 (c.keep.worn i)) 31 (decide (100000 ≤ c.keep.worn i))
  | _ => w

/-- RAS.STATUS: flags of keep word 101 and the suspect queue (17 R449, R452, R459, R470). -/
def Ctl.rasStatus (c : Ctl) : Word :=
  let k := c.keepWord 101
  shown (shownBit (shownBit (shownBit (c.rd (rasPage + 0x14)) 30 (bit k 0)) 29 (bit k 1)) 28 (bit k 2)) 6 0 c.suspects.length

/-- PWR (14 R384). -/
def Ctl.pwrView (c : Ctl) (off : Nat) (w : Word) : Word :=
  let p := c.pwr
  let m := if 0xA8 ≤ off ∧ off % 16 ≥ 8 then p.snap else p.nrg
  if off = 0x14 then
    let w := shownBit (shownBit w 31 c.lz4) 30 c.steady
    shown (shownBit (shownBit w 27 p.safe) 26 c.boardAlert) 12 0 (min 8191 c.effCap)
  else if off = 0x4C then BitVec.ofNat 32 (bits (c.keepWord 76) 12 0)
  else if off = 0x54 then shown w 8 0 (match c.ballast with | some s => c.gate s | none => 256)
  else if off = 0x78 ∨ off = 0x7C then half (microJ p.nrg 0) (off == 0x7C)
  else if off = 0x80 ∨ off = 0x84 then half (microJ p.snap 0) (off == 0x84)
  else if off = 0x88 ∨ off = 0x8C then half (microJ p.win 0) (off == 0x8C)
  else if off = 0x90 ∨ off = 0x94 then
    half (((SMap.get 0 p.nrg 0 - (List.range 12).foldl (fun v s => v + SMap.get 0 p.nrg (10 + s)) 0) / 102400000) % 2 ^ 64) (off == 0x94)
  else if 0xA0 ≤ off ∧ off < 0xF0 then half (microJ m ((off - 0xA0) / 16 + 1)) (off % 8 == 4)
  else w

/-- CUE (14 R385). -/
def Ctl.cueView (c : Ctl) (off : Nat) (w : Word) : Word :=
  let u := c.cues
  let next := match u.queue with | e :: _ => c.cueEff e | [] => 0
  match off with
  | 0x14 => shown (shownBit w 31 (!c.mirynUp)) 8 0 u.queue.length
  | 0x58 => half next false
  | 0x5C => half next true
  | 0x60 => BitVec.ofNat 32 (u.mode * 2 ^ 30 + ofBool (u.value != u.watts * 1000000) * 2 ^ 29 + u.watts * 2 ^ 16 + c.cueWatts % 2 ^ 13)
  | _ => w

/-- The words of a log entry (17 R457). -/
def LogEntry.words (e : LogEntry) (overrun : Bool) : List Word :=
  [BitVec.ofNat 32 e.seq, half e.time false, half e.time true, BitVec.ofNat 32 (e.typ * 2 ^ 24 + e.inst % 2 ^ 16 * 2 ^ 8 + e.code)] ++
  [BitVec.ofNat 32 (e.sev * 2 ^ 30 + ofBool overrun * 2 ^ 29 + ofBool e.aon * 2 ^ 28 + e.rep * 2 ^ 16)] ++ e.args

/-- The entries of the log that its readers reach, oldest first: once the log memory has failed, those of the AON FIFO (17 R457, R459). -/
def EvLog.all (l : EvLog) : List LogEntry := if l.failed then l.fifo else l.ring

/-- LOG (17 R471). -/
def Ctl.logView (c : Ctl) (off : Nat) (w : Word) : Word :=
  let l := c.log
  if off = 0x14 then shown (shown (shownBit w 31 l.failed) 20 16 l.fifo.length) 11 0 l.ring.length
  else if off = 0x40 then BitVec.ofNat 32 l.seq
  else if 0x48 ≤ off ∧ off < 0x68 then
    match l.all.find? fun e => e.seq == c.get logPage F.LOG_RD_SEQ_SEQ with
    | some e => (e.words false).getD ((off - 0x48) / 4) 0
    | none => 0
  else w

/-- TIME (15 R410). -/
def Ctl.timeView (c : Ctl) (off : Nat) (w : Word) : Word :=
  match off with
  | 0x40 => half (c.reel % 2 ^ 64) false
  | 0x44 => half (c.reel % 2 ^ 64) true
  | 0x4C => BitVec.ofNat 32 (codeOf 32 (c.time.adj + c.time.slew))
  | _ => w

/-- VOLT of cluster `cl`: AGE_MV is the view of its keep word; a guard that could not be persisted acts on the plan alone (15 R399, R410, 16 R418). -/
def Ctl.voltView (c : Ctl) (cl off : Nat) (w : Word) : Word :=
  match off with
  | 0x40 => shown w 5 0 (bits (c.keepWord (77 + cl)) 5 0)
  | 0x4C =>
    let v := c.planMv cl (c.get (voltPage cl) F.VOLT_PLAN_SEL_POINT)
    BitVec.ofNat 32 (if 920 < v then 0 else v % 2 ^ 10)
  | _ => w

/-- NRG of cluster `cl` (14 R386). -/
def Ctl.nrgView (c : Ctl) (cl off : Nat) (w : Word) : Word :=
  let r := c.rail cl
  let k := 30 + cl
  match off with
  | 0x44 => BitVec.ofNat 32 (min 1023 (c.railPower cl / wUnit))
  | 0x48 => BitVec.ofNat 32 (r.gain % 2 ^ 16)
  | 0x4C => BitVec.ofNat 32 (codeOf 16 r.off)
  | 0x50 => half (microJ c.pwr.nrg k) false
  | 0x54 => half (microJ c.pwr.nrg k) true
  | 0x58 => half (microJ c.pwr.snap k) false
  | 0x5C => half (microJ c.pwr.snap k) true
  | 0x60 => half (microJ c.pwr.win k) false
  | 0x64 => half (microJ c.pwr.win k) true
  | _ => w

/-- HBM.STATUS: who owns the stack (11 R293, 01 R23). -/
def Ctl.hbmView (c : Ctl) (h off : Nat) (w : Word) : Word :=
  match off with
  | 0x14 => shown (shownBit w 28 (c.stackStage h).isSome) 19 16 ((c.stackStage h).getD 0)
  | _ => w

/-- CLU: which tiles are pending (02 R50). -/
def Ctl.cluView (c : Ctl) (cl off : Nat) (w : Word) : Word :=
  if 0x50 ≤ off ∧ off < 0x5C then
    let k := (off - 0x50) / 4
    BitVec.ofNat 32 ((c.cluPendTiles cl).foldl (fun m t => if tileLocal t / 32 = k then m + 2 ^ (tileLocal t % 32) else m) 0)
  else w

/-! ### The STAGE pages -/

/-- The rim slate RSL_SEL selects; in the page of a slot that is not valid it selects none, since no such stage owns one (07 R179, R192). -/
def Ctl.rslIndex (c : Ctl) (s : Nat) : Option Nat :=
  let p := stagePage s
  let i := c.get p F.STAGE_RSL_SEL_INDEX
  if c.valid s ∧ i < c.get p F.STAGE_RSL_RANGE_COUNT then some (c.get p F.STAGE_RSL_RANGE_FIRST + i) else none

/-- Granules of a stage's mirror regions that are dirty (12 R326, R334). -/
def Blk.backlog (b : Blk) (s : Nat) : Nat :=
  ((List.range (b.ctl.stageBytes s / 4096)).filter fun g => b.ctl.mirrored s g && b.isDirty s g).length

/-- STAGE[s] (01 R30, 07 R192, 12 R334, 14 R387). -/
def Blk.stageView (b : Blk) (s off : Nat) (w : Word) : Word :=
  let c := b.ctl
  let k := 10 + s
  let rsl (f : RimSlate → Nat) : Word := match c.rslIndex s with | some i => BitVec.ofNat 32 (f (c.rimSlate i)) | none => 0
  match off with
  | 0x40 => shown w 27 16 (rectStacks w)
  | 0x68 => BitVec.ofNat 32 (((c.ringOf s).used + 2 ^ 20 - 1) / 2 ^ 20)
  | 0x6C => BitVec.ofNat 32 ((c.stageTiles s).filter fun t => (b.tile t).spill).length
  | 0x88 => rsl fun x => x.count
  | 0x8C => rsl fun x => x.thresh
  | 0x90 => rsl fun x => x.step * 2 ^ 16 + ofBool x.bcast * 2 ^ 8 + x.target * 2 ^ 4 + ofBool x.reached
  | 0x124 =>
    BitVec.ofNat 32 (min 4 (c.marks s).length * 2 ^ 29 + ofBool (c.uam.resync.contains s) * 2 ^ 28 + b.backlog s % 2 ^ 28)
  | 0x208 => half (microJ c.pwr.nrg k) false
  | 0x20C => half (microJ c.pwr.nrg k) true
  | 0x210 => half (microJ c.pwr.snap k) false
  | 0x214 => half (microJ c.pwr.snap k) true
  | 0x218 => half (microJ c.pwr.win k) false
  | 0x21C => half (microJ c.pwr.win k) true
  | _ => w

/-! ### The tile blocks -/

/-- A set of unit numbers as a mask. -/
def maskOf (n : Nat) (f : Nat → Bool) : Nat := (List.range n).foldl (fun m i => if f i then m + 2 ^ i else m) 0

/-- TILE (02 R50, 15 R402, 16 R439). -/
def Blk.tileView (b : Blk) (t off : Nat) (w : Word) : Word :=
  match off with
  | 0x40 => BitVec.ofNat 32 (b.ctl.pagePend t)
  | 0x70 => half (b.tileReel t % 2 ^ 64) false
  | 0x74 => half (b.tileReel t % 2 ^ 64) true
  | 0x80 => shownBit w 8 (b.tile t).wrapped
  | _ => w

/-- SEQ.STATUS, SEQ.TRACK, and CORE_ENTRY1, which reads 0 in an M-tile (07 R188, R189). -/
def Blk.seqView (b : Blk) (t off : Nat) (w : Word) : Word :=
  let x := b.tile t
  match off with
  | 0x14 =>
    let halted (u : Nat) : Bool := if u = 0 then x.shotHalt else (x.queue u).halted
    let busy (u : Nat) : Bool := u != 0 && !(x.queue u).complete
    BitVec.ofNat 32 (ofBool x.probing * 2 ^ 31 + ofBool x.spill * 2 ^ 30 + ofBool x.shotRun * 2 ^ 29 + ofBool x.pendShot.isSome * 2 ^ 28 +
      maskOf 9 halted * 2 ^ 16 + maskOf 9 busy)
  | 0x50 => if isSTile t then w else 0
  | 0x58 => BitVec.ofNat 32 x.tracked.length
  | _ => w

/-- ARR.STATUS (03 R86). -/
def Blk.arrView (b : Blk) (t off : Nat) (w : Word) : Word :=
  let x := b.tile t
  match off with
  | 0x14 =>
    let busy (k : Nat) : Bool := (x.fly ++ x.part.toList).any fun j => bit (j.words.getD 0 0) (18 + k)
    let full (k : Nat) : Bool := decide (2 ≤ (x.wbufs.getD k {}).st)
    BitVec.ofNat 32 (ofBool (b.arrHalted t) * 2 ^ 31 + ofBool (full 1) * 8 + ofBool (full 0) * 4 + ofBool (busy 1) * 2 + ofBool (busy 0))
  | _ => w

/-- VEC.STATUS (05 R139). -/
def Blk.vecView (b : Blk) (t off : Nat) (w : Word) : Word :=
  let v := (b.tile t).vec
  match off with
  | 0x14 => BitVec.ofNat 32 (ofBool (b.ctl.flag (vecPage t) F.VEC_HALT_INFO_VALID) * 2 ^ 31 + v.fifo.length * 2 ^ 8 + ofBool (!v.rows.isEmpty))
  | _ => w

/-- GATH.STATUS (09 R236). -/
def Blk.gathView (b : Blk) (t off : Nat) (w : Word) : Word :=
  let x := b.tile t
  match off with
  | 0x14 =>
    BitVec.ofNat 32 (ofBool (x.queue 8).halted * 2 ^ 31 + ofBool (!(x.queue 8).complete) * 2 ^ 10 + x.gath.outstanding)
  | _ => w

/-- RTR.STATUS (10 R264). -/
def Blk.rtrView (b : Blk) (t off : Nat) (w : Word) : Word :=
  match off with
  | 0x14 =>
    BitVec.ofNat 32 (ofBool (b.mixRuns t) * 2 ^ 31 + ofBool (b.tile t).mix.stopped * 2 ^ 30 + ofBool (b.ctl.rimOpen t) * 2 ^ 4 + b.ctl.wallMask t)
  | _ => w

/-! ### Every page -/

/-- The register at offset `off` of the page of kind `k` at `base`, as it reads with `w` stored. -/
def Blk.view (b : Blk) (k : PageKind) (i base off : Nat) (w : Word) : Word :=
  let c := b.ctl
  if off = 0x18 then c.irqStatus base
  else match k with
    | .keep => c.keepView off w
    | .rst => if off = 0x14 then shown w 7 0 (c.boot.faults.headD 0) else w
    | .time => c.timeView off w
    | .pwr => c.pwrView off w
    | .cue => c.cueView off w
    | .ras => if off = 0x14 then c.rasStatus else w
    | .log => c.logView off w
    | .cve =>
      let e : Cve := SMap.get {} c.cves i
      if off = 0x14 then shownBit (shownBit w 31 e.job.isSome) 30 e.next.isSome else w
    | .daily =>
      let v := c.dailyItem (c.get dailyPage F.DAILY_SEL_ITEM)
      if off = 0x44 then half v false else if off = 0x48 then half v true else w
    | .stage => b.stageView i off w
    | .clu => c.cluView i off w
    | .volt => c.voltView i off w
    | .nrg => c.nrgView i off w
    | .hbm => c.hbmView i off w
    | .uam => if off = 0x40 then BitVec.ofNat 32 (min 65536 c.txUsed) else if off = 0x44 then BitVec.ofNat 32 c.uam.rx.length else w
    | .pcie => if off = 0x14 then shown w 3 0 (if c.host.vfEnable then c.host.numVfs else 0) else w
    | .tile => b.tileView i off w
    | .seq => b.seqView i off w
    | .arr => b.arrView i off w
    | .vec => b.vecView i off w
    | .spd => if off = 0x14 then shownBit w 1 (b.tile i).init else w
    | .gath => b.gathView i off w
    | .rtr => b.rtrView i off w
    | _ => w

/-- The register a BAR0 offset names, as it reads; an unused offset reads 0 (02 R34, R35). -/
def Blk.reg (b : Blk) (a : Nat) : Word :=
  match place a with
  | .page k i base off =>
    if (regDef k off).isSome then b.view k i base off (b.ctl.rd a) else 0
  | _ => 0

end Sys2Proof.Machine
end

