-- ==== Sys2Proof/Machine/Mgmt.lean ====
section
/-!
DEFINITION. The management interfaces: SMBus, UART, JTAG, SPI NOR, MGMT frames (13 R350 to R355, 17 R467).
-/
namespace Sys2Proof.Machine

/-! ### SMBus (13 R350, R351) -/

/-- The codes the table lists (13 R350). -/
def smbCodes : List Nat := [0x01, 0x02, 0x03, 0x10, 0x11, 0x12, 0x20, 0x21, 0x30, 0x40, 0x50]

/-- A transaction discarded and counted (13 R351, R355). -/
def Ctl.smbDrop (c : Ctl) : Ctl := c.bump devPage F.DEV_MGMT_ERR_SMB

/-- A transaction to an address is taken: the always-on supply is up and the address is the target's; where Miryn serves the command and does not
run, the command byte is NACKed (13 R350, R351). -/
def Ctl.smbServe (c : Ctl) (addr : Nat) (miryn : Bool) (f : Ctl → Ctl) : Ctl :=
  if !c.boot.aon || addr != c.mgmt.smbAddr then c
  else if miryn && !c.mirynUp then { c with out := c.out ++ [.smbNack] }
  else f c

/-- A read of command `code`, whose data is `len` bytes: one of another length is discarded and counted; one of another code is another
command's (13 R350, R351). -/
def Ctl.smbReadOf (c : Ctl) (r : SmbRead) (code len : Nat) (miryn : Bool) (f : Ctl → Ctl) : Ctl :=
  if r.code ≠ code then c else c.smbServe r.addr miryn fun c => if r.len ≠ len then c.smbDrop else f c

/-- An answer on the SMBus. -/
def Ctl.smbSend (c : Ctl) (l : List Byte) : Ctl := { c with out := c.out ++ [.smb l] }

/-- SMB_IDENT: the part's identity and serial. It also takes a transaction of a reserved command code, which is discarded and counted (13 R350,
R351). -/
def execSmbIdent (r : SmbRead) (s : State) : Host.Outcome State Fault Refusal :=
  s.onCtl fun c =>
    if !smbCodes.contains r.code then c.smbServe r.addr false Ctl.smbDrop
    else c.smbReadOf r 0x01 24 false fun c => c.smbSend ([0x4C, 0x5A, 0x36, 0x00, 0x41, 0x00, 0x00, 0x00] ++ (List.range 16).map Config.serial)

/-- SMB_STATUS: READY, BELOW_RATING, REPLACE, MIRYN_UP and the stages in FAULT (13 R350, 16 R424). -/
def execSmbStatus (r : SmbRead) (s : State) : Host.Outcome State Fault Refusal :=
  s.onCtl fun c => c.smbReadOf r 0x02 2 false fun c =>
    let v := ofBool c.ready * 2 ^ 15 + ofBool (c.flag devPage F.DEV_RATING_BELOW_RATING) * 2 ^ 14 + ofBool (bit (c.keepWord 101) 0) * 2 ^ 13 +
      ofBool c.mirynUp * 2 ^ 12 + maskOf 12 fun s => c.stState s == 4
    c.smbSend (leBytes 2 v)

/-- SMB_FAULT_CODE: the code driven on FAULT_N (13 R350). -/
def execSmbFaultCode (r : SmbRead) (s : State) : Host.Outcome State Fault Refusal :=
  s.onCtl fun c => c.smbReadOf r 0x03 1 false fun c => c.smbSend (leBytes 1 c.boot.frame)

/-- SMB_TEMP: the hottest sensor, in 1/16 degree (13 R350). -/
def execSmbTemp (r : SmbRead) (s : State) : Host.Outcome State Fault Refusal :=
  s.onCtl fun c => c.smbReadOf r 0x10 2 true fun c => c.smbSend (leBytes 2 (c.get thermPage F.THERM_HOT_C16))

/-- SMB_POWER: device power in W (13 R350). -/
def execSmbPower (r : SmbRead) (s : State) : Host.Outcome State Fault Refusal :=
  s.onCtl fun c => c.smbReadOf r 0x11 2 true fun c => c.smbSend (leBytes 2 (c.get pwrPage F.PWR_POWER_W))

/-- SMB_ENERGY: the device energy counter (13 R350). -/
def execSmbEnergy (r : SmbRead) (s : State) : Host.Outcome State Fault Refusal :=
  s.onCtl fun c => c.smbReadOf r 0x12 8 true fun c => c.smbSend (leBytes 8 (microJ c.pwr.nrg 0))

/-- SMB_TOD_SET: seconds and ns of the next SYNC_PPS edge; discarded where the PEC, the length or the range is wrong (13 R350, R351, 15
R406). -/
def execSmbTodSet (w : SmbWrite) (s : State) : Host.Outcome State Fault Refusal :=
  s.onCtl fun c => c.smbServe w.addr true fun c =>
    let ns := leNat ((w.bytes.drop 6).take 4)
    if !w.pec || w.bytes.length != 10 || decide (1000000000 ≤ ns) then c.smbDrop else c.todSet (leNat (w.bytes.take 6) * 1000000000 + ns)

/-- SMB_TOD_GET: reel time as seconds and ns (13 R350). -/
def execSmbTodGet (r : SmbRead) (s : State) : Host.Outcome State Fault Refusal :=
  s.onCtl fun c => c.smbReadOf r 0x21 10 true fun c => c.smbSend (leBytes 6 (c.reel / 1000000000) ++ leBytes 4 (c.reel % 1000000000))

/-- SMB_CAP_SET: the BMC's device cap, 900 to 4,400 W (13 R350, R351, 14 R362). -/
def execSmbCapSet (w : SmbWrite) (s : State) : Host.Outcome State Fault Refusal :=
  s.onCtl fun c => c.smbServe w.addr true fun c =>
    let v := leNat w.bytes
    if !w.pec || w.bytes.length != 2 || decide (v < 900) || decide (4400 < v) then c.smbDrop else c.put pwrPage F.PWR_BMC_CAP_W v

/-- SMB_DIGEST: the configuration digest last published (13 R350, 17 R467). -/
def execSmbDigest (r : SmbRead) (s : State) : Host.Outcome State Fault Refusal :=
  s.onCtl fun c => c.smbReadOf r 0x40 8 true fun c => c.smbSend (leBytes 8 (c.get64 rasPage F.RAS_DIGEST_LO_CRC))

/-- SMB_LOG_NEXT: the next unread entry of the log, or zeros; with entries lost before it, the oldest with OVERRUN; the pointer moves past
it where the controller acknowledged the PEC (13 R350, R351, 17 R458). -/
def execSmbLogNext (r : SmbRead) (ack : Bool) (s : State) : Host.Outcome State Fault Refusal :=
  s.onCtl fun c => c.smbReadOf r 0x50 32 true fun c =>
    match c.log.all.find? fun e => decide (c.log.smb ≤ e.seq) with
    | none => c.smbSend (List.replicate 32 0)
    | some e =>
      let c := c.smbSend (wordBytes (e.words (decide (c.log.smb < e.seq))))
      if ack then { c with log := { c.log with smb := e.seq + 1 } } else c

/-- SMB_SCL_TIMEOUT: SCL low for more than 25 ms: the interface resets, the transaction is discarded and counted (13 R355). -/
def execSmbSclTimeout (s : State) : Host.Outcome State Fault Refusal :=
  s.onCtl fun c => if c.boot.aon then c.smbDrop else c

/-! ### UART, JTAG, SPI NOR (13 R352 to R355) -/

/-- UART_RX_BYTE: a byte received, its stop bit right or not: buffered where the console is enabled and there is room, else dropped and
counted (13 R353, R355). -/
def execUartRxByte (v : Byte) (stop : Bool) (s : State) : Host.Outcome State Fault Refusal :=
  s.onCtl fun c =>
    if stop && bit (c.option 5) 2 && decide (c.mgmt.uart.length < 256) then { c with mgmt := { c.mgmt with uart := c.mgmt.uart ++ [v] } }
    else c.bump devPage F.DEV_MGMT_ERR_UART

/-- A JTAG instruction that disrupts the part (13 R354). -/
def jtagDisruptive : JtagInstr → Bool
  | .extest => true
  | .clamp => true
  | .highz => true
  | .bypass => false
  | .idcode => false
  | .sample => false
  | .preload => false
  | .mirynDebug => false

/-- What the data register that an instruction selects captures: the IDCODE, the 0 of BYPASS (PRESUMED of IEEE 1149.1), or scan cells, which hold
what stands at the lands (13 R354). -/
def jtagDr : JtagInstr → Option Word
  | .idcode => some 0x1A616A4F
  | .bypass => some 0
  | .clamp => some 0
  | .highz => some 0
  | .sample => none
  | .preload => none
  | .extest => none
  | .mirynDebug => none

/-- The TAP's instruction is `i`. -/
def Mgmt.tap (m : Mgmt) (i : JtagInstr) : Mgmt := { m with jtag := i, dr := jtagDr i }

/-- JTAG_INSTRUCTION: an instruction loaded; a disruptive one decodes as BYPASS and is counted unless RESET_N is held low or the option
block enables debug; one for Miryn's debug port decodes as BYPASS unless the option block admits it (13 R354, R355, 16 R417). -/
def execJtagInstruction (i : JtagInstr) (s : State) : Host.Outcome State Fault Refusal :=
  s.onCtl fun c =>
    if jtagDisruptive i && !c.boot.resetLow && !bit (c.option 5) 0 then
      { c.bump devPage F.DEV_MGMT_ERR_JTAG with mgmt := c.mgmt.tap .bypass }
    else { c with mgmt := c.mgmt.tap (if i = .mirynDebug ∧ !bit (c.option 5) 1 then .bypass else i) }

/-- JTAG_TRST: the TAP resets: IDCODE is the instruction (13 R355; PRESUMED of IEEE 1149.1). -/
def execJtagTrst (s : State) : Host.Outcome State Fault Refusal := s.onCtl fun c => { c with mgmt := c.mgmt.tap .idcode }

/-- SPI_TIMEOUT: a command of the SPI NOR not answered in 10 ms fails and is counted; while the ROM reads an image (`reading`: which), that is logged
and the image does not verify (13 R355, 16 R421). -/
def execSpiTimeout (reading : Option (Fin 2)) (s : State) : Host.Outcome State Fault Refusal :=
  s.onCtl fun c =>
    let c := c.bump devPage F.DEV_MGMT_ERR_SPI
    match reading with
    | some k =>
      if c.boot.running != .none && c.phase == 2 then
        { c.logEvent mirynPage (Config.eventCode 6) 0 with boot := { c.boot with spiBad := insertNat k c.boot.spiBad } }
      else c
    | none => c

/-! ### MGMT frames (17 R467, 12 R304) -/

/-- The payload of a MGMT reply: OP, the token, the serial, the digest and its time, keep word 101, RAS.STATUS[31:27], the present time,
MIRYN.IMAGE, and four bytes the spec does not name (DEDUCED: in the order named, each in whole words). -/
def Ctl.mgmtReply (c : Ctl) (op token free : Nat) : List Byte :=
  leBytes 4 op ++ leBytes 4 token ++ (List.range 16).map Config.serial ++ leBytes 8 (c.get64 rasPage F.RAS_DIGEST_LO_CRC) ++
  leBytes 8 (c.get64 rasPage F.RAS_DIGEST_TIME_LO_NS) ++ leBytes 4 (c.keepWord 101).toNat ++
  leBytes 4 (bits c.rasStatus 31 27 * 2 ^ 27) ++ leBytes 8 c.reel ++ leBytes 4 (c.rd (mirynPage + 0x40)).toNat ++ leBytes 4 free

/-- The headers of a MGMT reply: back to where the request came from, in its encapsulation (DESIGN CHOICE, log 54). -/
def Ctl.mgmtEncap (c : Ctl) (p : Nat) (x : Encap) : Encap :=
  { x with dmac := x.smac, smac := c.portMac p, src := if x.kind = 0 then 0 else c.portIp p x.kind, dst := x.src, ecn := 2, sport := c.portUdp p
           dport := x.sport }

/-- MGMT_FRAME: a request of a port for status or digest is answered by Miryn, a hundred in a second; others are counted in RX_OTHER (17
R467). -/
def execMgmtFrame (p : PortId) (w : List Byte) (k : RxInfo) (s : State) : Host.Outcome State Fault Refusal :=
  s.onCtl fun c =>
    match c.arrival p w with
    | .frame x f =>
      if f.ty ≠ 0xD then c
      else
        let c := c.rxCount p k
        let op := leNat (f.payload.take 4)
        match c.mirynUp && f.payload.length == 16 && (op == 1 || op == 2), c.answer p 100 with
        | true, some c =>
          let (v, c) := c.choose
          let reply := c.mgmtReply op (leNat ((f.payload.drop 4).take 4)) v
          c.sendFrame { port := p, stage := 12, first := true, bytes := (c.mgmtEncap p x).wire (frameBytes { ty := 0xD, lenM1 := 63, payload := reply }) }
        | _, _ => c.bump (portPage p) F.PORT_RX_OTHER_COUNT
    | a => c.rxDrop p k a

end Sys2Proof.Machine
end

