-- ==== Sys2Proof/Machine/Bus.lean ====
section
/-!
DEFINITION. A write and a read of BAR0, or of a tile block by its own core or a call sheet: who reaches what, the order of the checks,
locks, 64-bit pairs, the value checks and what each register's write does (02 R34 to R48).
-/
namespace Sys2Proof.Machine

/-- An access: who makes it (0 the physical function, n VFn, 15 a control core of the tile, 16 a call sheet), its address, and whether
an error of it has been counted already (02 R45: one error a write). -/
structure Acc where
  who : Nat
  addr : Nat
  quiet : Bool := false

/-- ERR_FIRST.FN of an access: call sheets are checked as cores are (07 R181, 16 R429). -/
def Acc.fn (a : Acc) : Nat := min a.who 15

/-- The access is by a virtual function. -/
def Acc.isVf (a : Acc) : Bool := decide (1 ≤ a.who) && decide (a.who ≤ 12)

/-- An access's error counted against the page at `base`, unless one was. -/
def Ctl.errAt (c : Ctl) (a : Acc) (base code : Nat) : Ctl := if a.quiet then c else c.err base code a.fn a.addr

/-- The same, of the block. -/
def Blk.errAt (b : Blk) (a : Acc) (base code : Nat) : Blk := b.onCtl fun c => c.errAt a base code

/-- Where an error of step 1 or 2 that is not the addressed page's counts: the virtual function's own STAGE page, else `pf`
(02 R45). -/
def Acc.home (a : Acc) (pf : Nat) : Nat := if a.isVf then stagePage (a.who - 1) else pf

/-- Page 0 of the block that holds the page at `base`; a page that stands alone is its own (02 R34). -/
def blockBase (base : Nat) : Nat := if 0x200000 ≤ base ∧ base < 0x700000 ∨ 0x8000000 ≤ base then base - base % 0x10000 else base

/-- What the checks of who reaches what make of an access: dropped without a trace, counted against a page, refused at a register of a page
the function does reach, or let through to a page (02 R34, R38, R45 steps 1 and 2, 16 R424). -/
inductive Gate where
  | drop
  | fail (page code : Nat)
  | refuse (base page code : Nat)
  | pass (k : PageKind) (i base off : Nat)

/-- Pages served before READY (16 R424). -/
def earlyPage (addr : Nat) : Bool := decide (addr < 0x4000) || (decide (0x11000 ≤ addr) && decide (addr < 0x12000))

/-- The registers of a STAGE page that the physical function alone writes (01 R27, 07 R192, 10 R268, 11 R295, 12 R334, 14 R387). -/
def pfOnly : List Nat := [0x40, 0x48, 0x4C, 0x60, 0x64, 0x80, 0xC0, 0xD0, 0xD4, 0xD8, 0x100, 0x104, 0x200]

/-- The code with which step 1 refuses a register of a page the accessor reaches, 0 for none (02 R45; 10 R248, 15 R410, 16 R439,
17 R464). -/
def reachCode (a : Acc) (k : PageKind) (i off : Nat) : Nat :=
  match k with
  | .stage => if a.isVf && pfOnly.contains off then 0x0A else 0
  | .cve => if i = 3 ∧ 0x40 ≤ off ∧ off ≤ 0x78 then 0x04 else 0
  | .volt => if off = 0x40 then 0xF1 else 0
  | .rtr => if a.who = 15 ∧ ((0x40 ≤ off ∧ off ≤ 0x9C) ∨ 0x400 ≤ off) then 0xF1 else 0
  | .tile => if off = 0x80 ∧ 15 ≤ a.who then 0x04 else 0
  | _ => 0

/-- Who reaches what, by a write or a read; a refused field is no bar to reading it. -/
def Ctl.gateOf (c : Ctl) (a : Acc) (wr : Bool) : Gate :=
  if a.isVf && !c.fnExists a.who then .drop
  else if !c.ready && decide (a.who < 15) && (a.isVf || !earlyPage a.addr) then
    if a.isVf then .drop else .fail devPage 0xF3
  else
    let reach (base : Nat) : Bool := !a.isVf || c.pageStage base == some (a.who - 1)
    let off? : Bool := match addrTile a.addr with | some t => c.tileOff t | none => false
    match place a.addr with
    | .gap => if a.isVf then .fail (stagePage (a.who - 1)) 0xF1 else .fail devPage 0xF3
    | .slot base =>
      if !reach base then .fail (a.home devPage) 0xF1
      else if off? then .fail (a.home devPage) 0xF3
      else .fail (a.home base) 0xF3
    | .page k i base off =>
      let code := if wr then reachCode a k i off else 0
      if !reach base then .fail (a.home devPage) 0xF1
      else if code = 0xF1 then .refuse base (a.home base) 0xF1
      else if code ≠ 0 then .refuse base base code
      else if off? then .fail (a.home devPage) 0xF3
      else .pass k i base off

/-- An access to a page releases what a former one latched or held for a pair (02 R36). -/
def Ctl.unpair (c : Ctl) (base : Nat) : Ctl := { c with latch := SMap.erase c.latch base, hold := SMap.erase c.hold base }

/-- The registers served by Miryn of the power and cue pages do not answer while it is down (14 R370, DEDUCED). -/
def Ctl.mirynGone (c : Ctl) (k : PageKind) : Bool := (k == .pwr || k == .cue) && !c.mirynUp

/-- The recovery registers are there in recovery only (16 R438). -/
def Ctl.recovOff (c : Ctl) (k : PageKind) (off : Nat) : Bool := k == .miryn && (off == 0x44 || off == 0x48) && c.phase != 9

/-! ### LOCK (02 R47) -/

/-- A write of LOCK. -/
def Ctl.lockWrite (c : Ctl) (a : Acc) (base : Nat) (w : Word) : Ctl :=
  let l := base + 0x28
  let key := bits w 31 24
  if key = 0xA5 ∧ bit w 0 ∧ !bit (c.rd l) 0 then
    c.wr l (BitVec.ofNat 32 (a.fn * 256 + ofBool (bit w 1) * 2 + 1))
  else if key = 0x5A ∧ !bit w 0 then
    if !bit (c.rd l) 0 then c
    else if !bit (c.rd l) 1 ∧ (bits (c.rd l) 11 8 = a.fn ∨ a.who = 0) then c.wr l 0
    else c.errAt a base 0xF5
  else c.errAt a base 0xF5

/-! ### Counters cleared by a page's clear register -/

/-- The registers of CNT_CLEAR and the like: its offset in a page, and the ranges it clears, first and last offset. -/
def clearRanges (k : PageKind) (off : Nat) : List (Nat × Nat) :=
  match k, off with
  | .time, 0x5C => [(0x60, 0x6C)]
  | .pwr, 0x11C => [(0x100, 0x118)]
  | .cue, 0x84 => [(0x70, 0x80)]
  | .ras, 0xA8 => [(0x80, 0xA4)]
  | .log, 0x70 => [(0x68, 0x6C)]
  | .freq, 0x4C => [(0x50, 0x54)]
  | .stin, 0x68 => [(0x70, 0x7C)]
  | .hbm, 0x4C => [(0x44, 0x48), (0x50, 0x64)]
  | .port, 0x70 => [(0x80, 0xA8)]
  | .pcie, 0x48 => [(0x4C, 0x50)]
  | .seq, 0x5C => [(0xE0, 0xF8)]
  | .arr, 0x64 => [(0x40, 0x5C)]
  | .vec, 0x60 => [(0x5C, 0x5C), (0x64, 0x90)]
  | .spd, 0x80 => [(0x84, 0x94)]
  | .rtr, 0xA0 => [(0xA4, 0xBC)]
  | .gath, 0x148 => [(0x150, 0x17C)]
  | .perf, 0x40 => [(0x48, 0x4C), (0x60, 0x7C)]
  | .stage, 0xB0 => [(0xA0, 0xAC)]
  | .stage, 0x1A4 => [(0x180, 0x1A0)]
  | _, _ => []

/-- A clear register written with 1. -/
def Ctl.clearCounts (c : Ctl) (k : PageKind) (base off : Nat) : Ctl :=
  (clearRanges k off).foldl (fun c (r : Nat × Nat) => c.zeroRange base r.1 r.2) c

/-! ### Value checks (02 R45 step 6) -/

/-- A value outside `lo` to `hi`. -/
def outside (v lo hi : Nat) : Bool := decide (v < lo) || decide (hi < v)

/-- The value checks of the rim pages, 0 for none failed (13 R348, 14 R384 to R386, 15 R410, 17 R470, R471). -/
def Ctl.rimCode (c : Ctl) (k : PageKind) (off : Nat) (w : Word) : Nat :=
  match k with
  | .time => if off = 0x54 ∧ 127 < bits w 7 0 then 0x01 else 0
  | .pwr =>
    if off = 0x44 ∨ off = 0x4C ∨ off = 0x50 then ofBool (outside (bits w 12 0) 900 4400)
    else if off = 0x54 then (if 12 ≤ bits w 27 24 ∨ !c.valid (bits w 27 24) then 0x02 else 0)
    else if 0x180 ≤ off ∧ off < 0x200 then (if bits w 31 16 < bits w 15 0 then 0x04 else 0)
    else if 0x200 ≤ off then (if bits w 7 0 = 0 then 0x04 else 0)
    else 0
  | .therm => if off = 0x40 then ofBool (outside (bits w 15 0) 0x500 0x640) else 0
  | .ras =>
    if off = 0x40 then ofBool (bits w 31 16 < 10 || outside (bits w 4 0) 1 16)
    else if off = 0x60 then ofBool (bits w 15 0 == 0)
    else 0
  | .daily => if off = 0x40 ∧ 83 < bits w 6 0 then 0x02 else 0
  | .pcie => if off = 0x40 ∧ 11 < bits w 3 0 then 0x01 else 0
  | .volt => if off = 0x48 ∧ 34 < bits w 5 0 then 0x01 else 0
  | .freq => if off = 0x40 then ofBool (outside (bits w 10 0) 500 1350 || bits w 10 0 % 25 != 0) else 0
  | .stin =>
    if off = 0x60 then ofBool (outside (bits w 31 16) 10 200 || outside (bits w 15 0) 5 100)
    else if off = 0x64 then ofBool (bits w 31 30 == 3 || bits w 15 0 == 0)
    else 0
  | .nrg => if off = 0x40 then ofBool (outside (bits w 7 0) 20 250) else 0
  | .hbm => if off = 0x40 then ofBool (bits w 15 0 == 0) else 0
  | _ => 0

/-- Some four-bit field of the low `n` of a word is 0. -/
def zeroNibble (w : Word) (n : Nat) : Bool := (List.range n).any fun i => bits w (4 * i + 3) (4 * i) == 0

/-- The value checks of a PORT page (12 R336). -/
def Ctl.portCode (c : Ctl) (p off : Nat) (w : Word) : Nat :=
  let busy := (List.range 12).any fun s =>
    c.valid s && (c.get (stagePage s) F.STAGE_PORT_MASK_PORTS).testBit p && c.stState s != 0
  if off = 0x40 then
    let cur := c.rd (portPage p + 0x40)
    if bits w 30 29 = 3 ∨ bits w 27 26 = 3 then 0x01
    else if busy && (bits w 30 26 != bits cur 30 26) then 0x03
    else 0
  else if 0x44 ≤ off ∧ off ≤ 0x60 then (if busy then 0x03 else 0)
  else if off = 0x64 then (if zeroNibble w 8 then 0x02 else 0)
  else if off = 0x68 then (if zeroNibble w 4 then 0x02 else 0)
  else 0

/-- The value checks of the STAGE page's plain registers (01 R27, R30, 07 R192, 10 R268, 11 R295, 12 R334, 14 R387, 16 R440). -/
def Ctl.stageCode (c : Ctl) (s off : Nat) (w : Word) : Nat :=
  let idle := c.stState s == 0
  let range (first count : Fld) (top code : Nat) : Nat :=
    let f := bits w first.hi first.lo
    let n := bits w count.hi count.lo
    if !idle then 0x05 else if top < f + n || c.rangeHit s first count f n then code else 0
  match off with
  | 0x4C => if !idle then 0x05 else if bits w 15 0 = 0 then 0x0B else 0
  | 0x60 | 0x64 | 0xD4 | 0xD8 | 0x240 | 0x244 => if idle then 0 else 0x05
  | 0x80 => range F.STAGE_RSL_RANGE_FIRST F.STAGE_RSL_RANGE_COUNT 1024 0x0E
  | 0x84 => if c.get (stagePage s) F.STAGE_RSL_RANGE_COUNT ≤ bits w 9 0 then 0x0F else 0
  | 0xC0 => if !idle then 0x05 else if zeroNibble w 2 then 0x11 else 0
  | 0xD0 => range F.STAGE_FETCH_RANGE_FIRST F.STAGE_FETCH_RANGE_COUNT 256 0x14
  | 0x100 => range F.STAGE_CTX_RANGE_FIRST F.STAGE_CTX_RANGE_COUNT 4096 0x16
  | 0x104 => range F.STAGE_RING_RANGE_FIRST F.STAGE_RING_RANGE_COUNT 256 0x16
  | 0x110 => if bit w 31 && c.mirrorBad s (bits w 11 0) then 0x1C else 0
  | 0x200 => if outside (bits w 12 0) 100 4400 then 0x1E else 0
  | _ => 0

/-- A TC0_SLOTS mask is accepted: two clear bits at least, none adjacent, counting round (10 R261). -/
def slotRule (m : Nat) : Bool :=
  let clr (i : Nat) : Bool := !m.testBit (i % 8)
  decide (2 ≤ ((List.range 8).filter clr).length) && (List.range 8).all fun i => !(clr i && clr (i + 1))

/-- The value checks of an RTR page's registers (10 R248, R261, R265). -/
def Ctl.rtrCode (c : Ctl) (t off : Nat) (w : Word) : Nat :=
  let closed := match c.tileStage t with | some s => c.stState s != 0 | none => false
  if !((0x40 ≤ off ∧ off ≤ 0x9C) ∨ 0x400 ≤ off) then 0
  else if closed then 0x01
  else if off < 0x6C then (if (List.range 8).any fun i => decide (4 < bits w (4 * i + 3) (4 * i)) then 0x02 else 0)
  else if off = 0x6C then (if zeroNibble w 3 then 0x02 else 0)
  else if off = 0x70 then (if slotRule (bits w 7 0) then 0 else 0x03)
  else if 0x400 ≤ off then
    (if bit w 31 && (bits w 30 26 == 0 || [0, 6, 7].contains (bits w 25 23) || bits w 19 18 == 3) then 0x02 else 0)
  else 0

/-- The value checks of the tile blocks' plain registers (02 R55, 06 R158, 07 R190, 09 R238, 10 R267). -/
def Blk.tileCode (b : Blk) (k : PageKind) (t off : Nat) (w : Word) : Nat :=
  match k with
  | .seq =>
    if off = 0x44 then (if bits w 23 0 < 0x1000 then 0x0B else 0)
    else if 0x60 ≤ off ∧ off < 0x9C then (if (b.tile t).shotRun then 0x0C else 0)
    else 0
  | .spd =>
    if off = 0x40 then (if bits w 15 0 = 0 then 0x07 else 0)
    else if 0x44 ≤ off ∧ off ≤ 0x50 then (if 1919 < bits w 10 0 then 0x06 else 0)
    else 0
  | .rtr => b.ctl.rtrCode t off w
  | .gath =>
    if 0x40 ≤ off ∧ off ≤ 0x140 ∧ !((b.tile t).queue 8).complete then 0x13
    else if off = 0x140 ∧ outside (bits w 21 18) 2 12 then 0x13
    else 0
  | .perf => if 0x50 ≤ off ∧ off < 0x60 ∧ 0x12 < bits w 7 0 then 0x01 else 0
  | _ => 0

/-- The first value check a write of a plain register fails, 0 for none (02 R45 step 6). -/
def Blk.writeCode (b : Blk) (k : PageKind) (i off base : Nat) (w : Word) : Nat :=
  if off = 0x10 then
    (if (if b.ctl.pageOwner base = 0 then 512 else 128) ≤ bits w 30 20 then 0xF6 else 0)
  else match k with
    | .stage => b.ctl.stageCode i off w
    | .port => b.ctl.portCode i off w
    | .seq | .spd | .rtr | .gath | .perf => b.tileCode k i off w
    | _ => b.ctl.rimCode k off w

/-! ### What a write does -/

/-- The register at `base + off` takes the bits of `w` that are stored; its other bits stay. -/
def Ctl.store (c : Ctl) (d : RegDef) (a : Nat) (w : Word) : Ctl :=
  let m : Word := BitVec.ofNat 32 (regStored d)
  c.wr a ((c.rd a &&& ~~~m) ||| (w &&& m))

/-- The high word of a pair takes effect with the low word held for it (02 R36). A low word written by another function is no low word of
this pair: it is discarded (DEDUCED, log 11; the rule does not say that one function must write both). -/
def Ctl.storeHigh (c : Ctl) (k : PageKind) (d : RegDef) (a : Acc) (base off : Nat) (w : Word) (h : Option PairHold) : Ctl :=
  let c := match h with
    | some h =>
      if h.fn = a.who ∧ h.addr % 2 ^ 12 + 4 = off then
        match regDef k (off - 4) with
        | some l => c.store l (base + off - 4) h.val
        | none => c
      else c
    | none => c
  c.store d (base + off) w

/-- A write of a register of a rim page that does more than take a value, if it is one. -/
def Blk.rimCommand (b : Blk) (k : PageKind) (i base off : Nat) (a : Acc) (d : RegDef) (w : Word) : Option Blk :=
  match k, off with
  | .keep, 0x44 => some (b.onCtl fun c => (c.keepWrite false a.fn a.addr (c.get keepPage F.KEEP_SEL_INDEX) w).1)
  | .rst, 0x40 =>
    some (if bits w 31 24 = 0x5C ∧ bits w 1 0 = 1 then b.fullReset 4
      else if bits w 31 24 = 0x5C ∧ bits w 1 0 = 2 then b.warmReset
      else b.errAt a base 0x01)
  | .rst, 0x70 => some (if bit w 0 then b.onCtl fun c => c.clearBackup 0 else b)
  | .pwr, 0x4C =>
    some (if outside (bits w 12 0) 900 4400 then b.errAt a base 0x01
      else b.onCtl fun c => (c.keepWrite false a.fn a.addr 76 (BitVec.ofNat 32 (bits w 12 0))).1)
  | .pwr, 0x60 => some (b.onCtl fun c =>
      let c := if bit w 31 then c.snapshot else c
      if bit w 30 then c.armWindow a.fn a.addr else c)
  | .cue, 0x50 => some (if bit w 0 then b.onCtl fun c => c.cuePush a.fn a.addr else b)
  | .cue, 0x54 => some (if bit w 0 then b.onCtl fun c => c.cueFlush else b)
  | .ras, 0x48 => some (b.onCtl fun c => c.flagsClr a.fn a.addr w)
  | .ras, 0x4C =>
    let b := if bit w 30 then b.testAbort else b
    let b' := b.onCtl fun c => c.store d (base + off) w
    let c := b'.ctl
    some (if !bit w 31 then b'
      else if c.ras.test.isSome then b.errAt a base 0x02
      else if !b'.testOk (c.get rasPage F.RAS_TEST_CTRL_KIND) (c.get rasPage F.RAS_TEST_CTRL_INDEX) (c.get rasPage F.RAS_TEST_CTRL_MODE) then
        b.errAt a base 0x03
      else b'.testGo a.fn a.addr)
  | .cve, 0x78 => some (b.onCtl fun c =>
      let c := if bit w 30 then c.cveAbort i a.fn a.addr else c
      if bit w 31 then c.cveGo i a.fn a.addr else c)
  | .daily, 0x4C => some (b.onCtl fun c =>
      if !bit w 0 || !c.mirynUp then c
      else match c.daily.last with
        | some n => if c.time.mono < n + 60000000000 then c.errAt a base 0x01 else c.snapDaily
        | none => c.snapDaily)
  | .sec, 0xE0 => some (if bit w 0 then b.onCtl fun c => c.secGo a.fn a.addr else b)
  | .miryn, 0x44 => some (b.onCtl fun c =>
      let c := c.store d (base + off) w
      if !bit w 31 then c
      else
        let n := c.get mirynPage F.MIRYN_RECOV_CTRL_LEN4
        { c.put mirynPage F.MIRYN_RECOV_CTRL_BUSY 1 with boot := { c.boot with recov := [], recovLeft := n } })
  | .miryn, 0x48 => some (b.onCtl fun c =>
      if c.boot.recovLeft = 0 then c
      else { c with boot := { c.boot with recov := c.boot.recov ++ wordBytes [w], recovLeft := c.boot.recovLeft - 1 } })
  | .dev, 0x54 => some (b.onCtl fun c => c.withIrq devPage false fun c => c.wr (base + off) (c.rd (base + off) &&& ~~~w))
  | _, _ => none

/-- A write of the rim slate that RSL_SEL selects (07 R192). -/
def Ctl.rslWrite (c : Ctl) (a : Acc) (s : Nat) (x : RimIn) : Ctl :=
  match c.rslIndex s with
  | some i => c.rimTake i x
  | none => c.errAt a (stagePage s) 0x0F

/-- UCFG_CMD (12 R306). -/
def Blk.ucfgWrite (b : Blk) (a : Acc) (s cmd : Nat) : Blk :=
  if cmd = 0 ∨ 4 < cmd then b
  else match b.ctl.ucfgCheck s cmd with
    | some code => b.errAt a (stagePage s) code
    | none => b.ucfgDo s cmd

/-- A write of a register of a STAGE page that does more than take a value, if it is one. -/
def Blk.stageWrite (b : Blk) (s base off : Nat) (a : Acc) (w : Word) : Option Blk :=
  match off with
  | 0x40 => some (b.rectDo s a.fn a.addr w)
  | 0x44 => some (b.runCommand s a.fn a.addr w)
  | 0x48 => some (b.portMaskDo s a.fn a.addr w)
  | 0x88 => some (b.onCtl fun c => c.rslWrite a s (.count w.toNat))
  | 0x8C => some (b.onCtl fun c => c.rslWrite a s (.thresh w.toNat))
  | 0x90 => some (b.onCtl fun c => c.rslWrite a s (.ctrl (bits w 31 16) (bit w 8) (bits w 7 4)))
  | 0xE0 => some (if bit w 31 then b.onCtl fun c => (c.wr (base + 0xDC) 0).wr (base + 0xE0) 0 else b)
  | 0x10C => some (b.ucfgWrite a s (bits w 31 28))
  | 0x11C => some (if 4 ≤ (b.ctl.marks s).length then b.errAt a base 0x1D else b.addMark s w 0)
  | 0x1C4 | 0x1C8 => some (if bit w 31 then b.onCtl fun c => c.wr (base + off) 0 else b)
  | 0x280 => some (if bit w 0 then b.onCtl fun c => c.stepMark s else b)
  | _ => none

/-- FETCH_CMD: LEN16_M1 takes its value, unless GO is set and refused (11 R296). -/
def Blk.fetchWrite (b : Blk) (t base : Nat) (a : Acc) (d : RegDef) (w : Word) (e : List Ecc) : Blk :=
  let b' := b.onCtl fun c => c.store d (base + 0x64) w
  let n := (b'.ctl.get base F.TILE_FETCH_SRC_ADDR16 + b'.ctl.get base F.TILE_FETCH_CMD_LEN16_M1 + 1) * 16
  if !bit w 31 || (b.tile t).wrapped then b'
  else if b.ctl.flag base F.TILE_FETCH_CMD_BUSY then b.errAt a base 0x01
  else if spBytes t < n then b.errAt a base 0x02
  else b'.fetchGo t a.fn a.addr false e

/-- A write of a register of a tile block that does more than take a value, if it is one; a tile held in reset starts no shot and submits
nothing (16 R414). `e` is what the checks of the scratchpad words read find. -/
def Blk.tileWrite (b : Blk) (k : PageKind) (t base off : Nat) (a : Acc) (d : RegDef) (w : Word) (e : List Ecc) : Option Blk :=
  match k, off with
  | .tile, 0x64 => some (b.fetchWrite t base a d w e)
  | .tile, 0x80 =>
    some (if bits w 31 24 ≠ 0x7E ∨ bits w 1 0 = 3 then b.errAt a base 0x03 else b.tileResetDo t w)
  | .seq, 0x40 =>
    let (b', ok) := b.requestShot t (bits w 12 0) e
    some (if (b.tile t).wrapped then b else if ok then b' else b.errAt a base 0x0D)
  | .arr, 0x6C => some (b.onCtl fun c =>
      let c := c.store d (base + off) w
      if bit w 1 then (c.wr (base + 0x68) 0).wr (base + 0x70) 0 else c)
  | .spd, 0x58 =>
    let cmd := bits w 31 30
    some (if cmd = 3 ∨ (cmd ≠ 0 ∧ b.ctl.flag base F.SPD_STATUS_IND_BUSY) then b.errAt a base 0x05
      else if cmd ≠ 0 ∧ spBytes t ≤ b.ctl.get base F.SPD_IND_ADDR_WORD * 32 then b.errAt a base 0x04
      else b.indCommand t cmd)
  | .gath, 0x144 => some (if bit w 0 then b.onTile t fun x => { x with gath := x.gath.invalidate } else b)
  | .slate, _ => if 0x40 ≤ off ∧ off % 16 = 12 then some (b.slateAdd t ((off - 0x40) / 16) w.toNat) else none
  | _, _ => none

/-- What follows once a register has taken its value. -/
def Blk.afterStore (b : Blk) (k : PageKind) (i base off : Nat) (old w : Word) : Blk :=
  match k with
  | .time =>
    if off = 0x10 then b.onCtl fun c =>
      let c := if bit old 0 && !bit w 0 then c.ptpGone else c
      if bit old 1 && !bit w 1 then c.ppsGone else c
    else b
  | .pwr => if off = 0x10 then b.onCtl fun c => c.put pwrPage F.PWR_STATUS_STEADY_LOST 0 else b
  | .stage => if off = 0x110 ∧ bit w 31 ∧ !bit old 31 then b.mirrorStart i else b
  | .seq =>
    if 0x60 ≤ off ∧ off < 0x9C then b.onCtl fun c =>
      let n := (off - 0x60) / 4
      (c.putN base F.SEQ_CH_STATE_AVAIL n 0).putN base F.SEQ_CH_STATE_SPACE n (bits w 15 0)
    else b
  | .rtr => if off = 0x74 then b.onTile i fun x => { x with mix := { x.mix with ejected := List.replicate 8 0 } } else b
  | .gath => if off = 0x140 then b.onTile i fun x => { x with gath := x.gath.invalidate } else b
  | .slate => if 0x40 ≤ off ∧ off % 16 < 8 then b.slateEval i ((off - 0x40) / 16) else b
  | _ => b

/-- A plain register takes its value: after the value checks; a pair with its high word, a zero LFSR seed then refused (02 R36, R45,
05 R122, R136). -/
def Blk.plainWrite (b : Blk) (k : PageKind) (i base off : Nat) (a : Acc) (d : RegDef) (w : Word) (held : Option PairHold) : Blk :=
  let code := b.writeCode k i off base w
  let old := b.ctl.rd (base + off)
  if code ≠ 0 then b.errAt a base code
  else if (pairLows k).contains off then
    b.onCtl fun c => { c with hold := SMap.put c.hold base { fn := a.who, addr := a.addr, val := w } }
  else if 4 ≤ off ∧ (pairLows k).contains (off - 4) then
    let b' := b.onCtl fun c => c.storeHigh k d a base off w held
    if k = .vec ∧ off = 0x4C ∧ b'.ctl.rd64 (base + 0x48) = 0 then b.errAt a base 0x08 else b'
  else (b.onCtl fun c => c.store d (base + off) w).afterStore k i base off old w

/-- What a write that passed steps 1 to 4 does to a register other than LOCK. -/
def Blk.apply (b : Blk) (k : PageKind) (i base off : Nat) (a : Acc) (d : RegDef) (w : Word) (held : Option PairHold) (e : List Ecc) : Blk :=
  match off with
  | 0x18 => b.onCtl fun c => c.withIrq base true fun c => c.wr (base + 0x18) (c.rd (base + 0x18) &&& ~~~w)
  | 0x1C => b.onCtl fun c => c.withIrq base true fun c => c.store d (base + 0x1C) w
  | 0x20 => if bit w 31 then b.onCtl fun c => c.errClear base else b
  | _ =>
    if !(clearRanges k off).isEmpty then (if bit w 0 then b.onCtl fun c => c.clearCounts k base off else b)
    else
      let special : Option Blk := match k with
        | .stage => b.stageWrite i base off a w
        | .tile | .seq | .arr | .spd | .gath | .slate => b.tileWrite k i base off a d w e
        | _ => b.rimCommand k i base off a d w
      match special with
      | some b' => b'
      | none => b.plainWrite k i base off a d w held

/-- A write that reached its page: what it held for a pair is taken, then steps 2 to 6 of R45. On a locked page the lockable bits keep
their value, counted once; the others, and commands, take the write (02 R48). -/
def Blk.pageWrite (b : Blk) (k : PageKind) (i base off : Nat) (a : Acc) (be : Bool) (w : Word) (e : List Ecc) : Blk :=
  let held := SMap.find? b.ctl.hold base
  let b := b.onCtl fun c => c.unpair base
  if b.ctl.mirynGone k then b.onCtl fun c => c.errAt a devPage (Config.downCode % 256)
  else if b.ctl.recovOff k off then b.errAt a base 0xF3
  else match regDef k off with
    | none => b.errAt a (a.home (blockBase base)) 0xF3
    | some d =>
      if reservedOff off then b
      else if !be then b.errAt a base 0xF4
      else if regAllRO d then b.errAt a base 0xF0
      else if off = 0x28 then b.onCtl fun c => c.lockWrite a base w
      else if bit (b.ctl.rd (base + 0x28)) 0 && d.lk != 0 then
        let b := b.errAt a base 0xF2
        let lk : Word := BitVec.ofNat 32 d.lk
        if (regStored d ||| d.wo ||| d.w1c) &&& d.lk = (regStored d ||| d.wo ||| d.w1c) then b
        else b.apply k i base off { a with quiet := true } d ((w &&& ~~~lk) ||| (b.ctl.rd (base + off) &&& lk)) none e
      else b.apply k i base off a d w held e

/-- A 32-bit write of BAR0 at `addr` by function `who`, with its byte enables; `e` is what the checks of scratchpad words it makes the
block read find (02 R45). -/
def Blk.busWrite (b : Blk) (who addr : Nat) (be : Bool) (w : Word) (e : List Ecc := []) : Blk :=
  let a : Acc := { who := who, addr := addr }
  match b.ctl.gateOf a true with
  | .drop => b
  | .fail page code => b.errAt a page code
  | .refuse base page code => (b.onCtl fun c => c.unpair base).errAt a page code
  | .pass k i base off => b.pageWrite k i base off a be w e

/-- A 32-bit read of BAR0 at `addr` by function `who`: what it returns, the high word of a pair latched or released (02 R34 to R38). -/
def Blk.busRead (b : Blk) (who addr : Nat) : Word × Blk :=
  match b.ctl.gateOf { who := who, addr := addr } false with
  | .pass k _ base off =>
    let was := SMap.find? b.ctl.latch base
    let v := b.reg addr
    let b' := b.onCtl fun c => c.unpair base
    if b.ctl.mirynGone k then (0, b')
    else if (pairLows k).contains off then
      (v, b'.onCtl fun c => { c with latch := SMap.put c.latch base { fn := who, addr := addr + 4, val := b.reg (addr + 4) } })
    else match was with
      | some h => (if h.fn = who ∧ h.addr = addr then h.val else v, b')
      | none => (v, b')
  | _ => (0, b)

end Sys2Proof.Machine
end

