-- ==== Sys2Proof/Machine/Cores.lean ====
section
/-!
DEFINITION. The control cores: their loads and stores, FENCE.I and the custom instructions (07 R168, R175, R181, R182, 06 R152, R153). A
command is one instruction that a running core executes; a core that waits for something executes none.
-/
namespace Sys2Proof.Machine

/-- Core `k` of tile `t` may execute an instruction that uses registers `rs`: it runs, is not stalled, and no load of one of them is on its
way (06 R153). -/
def Blk.coreReady (b : Blk) (t k : Nat) (rs : List Reg) : Bool :=
  let c := (b.tile t).core k
  b.live t && c.run && c.stall == .none && !(c.awaits.any fun w => !w.store && w.rd != 0 && rs.any fun r => r.val == w.rd)

/-- A step of core `k` of tile `t`: core 1 is in S-tiles only (07 R181). -/
def State.onCore (s : State) (t : TileId) (k : Fin 2) (rs : List Reg) (f : Blk → Blk) : Host.Outcome State Fault Refusal :=
  if k = 1 ∧ !isSTile t then .fault .noSuchUnit
  else s.on fun b => if b.coreReady t k rs then f b else b

/-- The value of a register of core `k` of tile `t`. -/
def Blk.reg32 (b : Blk) (t k : Nat) (r : Reg) : Word := ((b.tile t).core k).reg r

/-- The instruction completes, as one event of the tile's profile (02 R55). -/
def Blk.retire (b : Blk) (t k : Nat) : Blk := (b.onCore t k Core.advance).onCtl fun c => c.perf t (0x10 + k) 1

/-- The instruction completes with a result. -/
def Blk.retireTo (b : Blk) (t k : Nat) (rd : Reg) (v : Word) : Blk := (b.onCore t k fun c => c.setReg rd v).retire t k

/-- An instruction raises an exception (07 R181). -/
def Blk.trap (b : Blk) (t k : Nat) (e : CoreTrap) : Blk := b.onCore t k fun c => c.raiseTrap e

/-! ### Loads and stores (06 R152, R153, 07 R181) -/

/-- The operation is a store. -/
def memStore : MemOp → Bool
  | .sb | .sh | .sw => true
  | _ => false

/-- Bytes of the operation. -/
def memSize : MemOp → Nat
  | .lb | .lbu | .sb => 1
  | .lh | .lhu | .sh => 2
  | .lw | .sw => 4

/-- A load that extends the sign. -/
def memSext : MemOp → Bool
  | .lb | .lh | .lw => true
  | _ => false

/-- The access fault of an operation. -/
def memFault (op : MemOp) (a : Nat) : CoreTrap := if memStore op then .storeAccess a else .loadAccess a

/-- The low bytes of a register, as a store writes them. -/
def Blk.storeRun (b : Blk) (t k : Nat) (op : MemOp) (r : Reg) : Run := runOf (leBytes (memSize op) (b.reg32 t k r).toNat) false

/-- An access to the core's own scratchpad, at byte `o`; a store merges its bytes into the word; a poisoned word loaded faults and is
consumption of poison; while the tags are cleared the access waits (06 R145, R149, R151, R152). -/
def Blk.localAccess (b : Blk) (t k : Nat) (op : MemOp) (r : Reg) (a o : Nat) (e : List Ecc) : Blk :=
  if (b.tile t).init then b
  else if memStore op then (b.spStore t o (b.storeRun t k op r) e).retire t k
  else
    let (v, b) := b.spRead t o (memSize op) e
    if v.anyBad then (b.onCtl fun c => c.tilePoison t 1).trap t k (.loadAccess a)
    else b.retireTo t k r (loadExt (memSize op) (memSext op) v.nat)

/-- An access refused before it leaves: counted, IRQ cause REMOTE_ERR set, and an access fault (06 R152, R155, R158). -/
def Blk.refuseAccess (b : Blk) (t k code : Nat) (op : MemOp) (a : Nat) : Blk :=
  (b.onCtl fun c => ((c.bump (spdPage t) F.SPD_REMOTE_ERR_COUNT).errHw (spdPage t) code).raise (spdPage t) 4).trap t k (memFault op a)

/-- An access through a remote window: checked at the source, then sent to the tile named; a second access to a word waits for the first
(06 R152, R153). -/
def Blk.remoteAccess (b : Blk) (t k : Nat) (op : MemOp) (r : Reg) (a : Nat) (e : List Ecc) : Blk :=
  let w := a / 0x400000 % 4
  let o := a % 0x400000
  let cfg := b.ctl.rd (spdPage t + 0x44 + 4 * w)
  let d := bits cfg 10 0
  let outsider := match b.ctl.tileStage t with | some s => b.ctl.tileStage d != some s | none => true
  if !bit cfg 31 || outsider || b.ctl.tileOff d then b.refuseAccess t k 0x01 op a
  else if spBytes d < o + memSize op then b.refuseAccess t k 0x02 op a
  else if d = t then b.localAccess t k op r a o e
  else
    let c := (b.tile t).core k
    let target := d * 2 ^ 17 + o / 32
    if c.awaits.any fun x => x.target == target then b
    else
      let tag := coreTag k c.tag
      let pkt : Pkt := { kind := if memStore op then 2 else 1, cls := 1, dest := d, tag := tag, addr := o, bytes := memSize op
                         run := if memStore op then b.storeRun t k op r else {} }
      let b := b.onCore t k fun c =>
        { c with
          tag := (c.tag + 1) % 2 ^ 16
          awaits := c.awaits ++ [{ tag := c.tag, store := memStore op, rd := r, size := memSize op, sext := memSext op, addr := a
                                   target := target }] }
      (b.onCtl fun c => c.sendPkt t pkt).retire t k

/-- The write of a core is dropped by the checks of its tile block: the first error counted since is the core's (07 R181). -/
def Blk.coreDrops (b : Blk) (addr : Nat) (be : Bool) (w : Word) (e : List Ecc) : Bool :=
  let pages := [addr - addr % 0x1000, blockBase (addr - addr % 0x1000)]
  let fresh := b.onCtl fun c => pages.foldl (fun c p => (c.wr (p + 0x20) 0).wr (p + 0x24) 0) c
  let after := fresh.busWrite 15 addr be w e
  pages.any fun p => bit (after.ctl.rd (p + 0x24)) 31 && bits (after.ctl.rd (p + 0x24)) 15 12 == 15

/-- An access to the tile's own block, checked as a BAR0 access is; a store that is dropped faults too (07 R181). -/
def Blk.blockAccess (b : Blk) (t k : Nat) (op : MemOp) (r : Reg) (a : Nat) (e : List Ecc) : Blk :=
  let addr := tilePage t 0 + a % 0x10000 - a % 4
  if memStore op then
    let w := BitVec.ofNat 32 ((b.reg32 t k r).toNat * 256 ^ (a % 4))
    let be := memSize op == 4
    let drop := b.coreDrops addr be w e
    let b := b.busWrite 15 addr be w e
    if drop then b.trap t k (.storeAccess a) else b.retire t k
  else
    let (v, b) := b.busRead 15 addr
    b.retireTo t k r (loadExt (memSize op) (memSext op) (v.toNat / 256 ^ (a % 4)))

/-- CORE_LOAD_STORE: a load or store of core `k`; `e` is what the check of its own scratchpad's word finds. An address the map does not
give, or one not a multiple of the access's size, raises an access fault (07 R181; the latter PRESUMED, log 8). -/
def execCoreLoadStore (t : TileId) (k : Fin 2) (op : MemOp) (r base : Reg) (imm : BitVec 12) (e : List Ecc) (s : State) :
    Host.Outcome State Fault Refusal :=
  s.onCore t k [r, base] fun b =>
    let a := (b.reg32 t k base + imm.signExtend 32).toNat
    if a % memSize op ≠ 0 then b.trap t k (memFault op a)
    else if 0x10000000 ≤ a ∧ a < 0x20000000 then
      if spBytes t ≤ a - 0x10000000 then b.refuseAccess t k 0x02 op a else b.localAccess t k op r a (a - 0x10000000) e
    else if 0x20000000 ≤ a ∧ a < 0x21000000 then b.remoteAccess t k op r a e
    else if 0x30000000 ≤ a ∧ a < 0x30010000 then b.blockAccess t k op r a e
    else b.trap t k (memFault op a)

/-- FENCE.I: the core's instruction cache holds nothing (07 R181). -/
def execFenceI (t : TileId) (k : Fin 2) (s : State) : Host.Outcome State Fault Refusal :=
  s.onCore t k [] fun b => (b.onCore t k fun c => { c with icache := [] }).retire t k

/-! ### Shots, slates, summaries, predicates (07 R182) -/

/-- SHOT.START: the shot whose header is in the row of byte rs1 starts or becomes pending; with one pending the core stalls (07 R168). -/
def execShotStart (t : TileId) (k : Fin 2) (rs1 : Reg) (e : List Ecc) (s : State) : Host.Outcome State Fault Refusal :=
  s.onCore t k [rs1] fun b =>
    let row := (b.reg32 t k rs1).toNat / 512
    let (b', ok) := b.requestShot t row e
    if ok then b'.retire t k else b.onCore t k fun c => { c with stall := .shot row }

/-- Slate rs1[3:0]. -/
def Blk.slateNo (b : Blk) (t k : Nat) (r : Reg) : Nat := bits (b.reg32 t k r) 3 0

/-- SL.ADD: rs2 is added to a local slate. -/
def execSlAdd (t : TileId) (k : Fin 2) (rs1 rs2 : Reg) (s : State) : Host.Outcome State Fault Refusal :=
  s.onCore t k [rs1, rs2] fun b => (b.slateAdd t (b.slateNo t k rs1) (b.reg32 t k rs2).toNat).retire t k

/-- SL.WAIT: the core stalls until the slate is released; at once where it is reached (07 R176). -/
def execSlWait (t : TileId) (k : Fin 2) (rs1 : Reg) (s : State) : Host.Outcome State Fault Refusal :=
  s.onCore t k [rs1] fun b =>
    let n := b.slateNo t k rs1
    if b.ctl.reached t n then b.retire t k else b.onCore t k fun c => { c with stall := .slate n }

/-- SL.READ: a local slate's COUNT. -/
def execSlRead (t : TileId) (k : Fin 2) (rd rs1 : Reg) (s : State) : Host.Outcome State Fault Refusal :=
  s.onCore t k [rd, rs1] fun b =>
    b.retireTo t k rd (BitVec.ofNat 32 (b.ctl.getN (slatePage t) F.SLATE_COUNT_COUNT (b.slateNo t k rs1)))

/-- SL.ARM: a local slate's THRESH is rs2, REACHED re-evaluated (07 R176). -/
def execSlArm (t : TileId) (k : Fin 2) (rs1 rs2 : Reg) (s : State) : Host.Outcome State Fault Refusal :=
  s.onCore t k [rs1, rs2] fun b =>
    let n := b.slateNo t k rs1
    ((b.onCtl fun c => c.putN (slatePage t) F.SLATE_THRESH_THRESH n (b.reg32 t k rs2).toNat).slateEval t n).retire t k

/-- SL.POLL: a local slate's REACHED. -/
def execSlPoll (t : TileId) (k : Fin 2) (rd rs1 : Reg) (s : State) : Host.Outcome State Fault Refusal :=
  s.onCore t k [rd, rs1] fun b => b.retireTo t k rd (BitVec.ofNat 32 (ofBool (b.ctl.reached t (b.slateNo t k rs1))))

/-- A core's stores that are on their way: SL.SIG and PRED.SET leave the tile only after them (07 R175). -/
def Blk.storesOut (b : Blk) (t k : Nat) : Bool := ((b.tile t).core k).awaits.any (·.store)

/-- A message that an instruction sends: where the limiter holds it the core stalls until it leaves (10 R262). -/
def Blk.sendFrom (t k : Nat) (r : Blk × Bool) : Blk := if r.2 then r.1.retire t k else r.1.onCore t k fun c => { c with stall := .tc0 }

/-- A target outside the stage: dropped and counted, no fault in the core (07 R179, R190). -/
def Blk.notOurs (b : Blk) (t k : Nat) : Blk := (b.onCtl fun c => c.errHw (seqPage t) 0x08).retire t k

/-- Tile `d` is in the stage of tile `t`. -/
def Ctl.sameStage (c : Ctl) (t d : Nat) : Bool :=
  decide (d < 1920) && (match c.tileStage t with | some s => c.tileStage d == some s | none => false)

/-- SL.SIG: rs2 is added, over TC0, to a slate of a tile of the stage or to a rim slate of it (07 R175, R179). -/
def execSlSig (t : TileId) (k : Fin 2) (rs1 rs2 : Reg) (s : State) : Host.Outcome State Fault Refusal :=
  s.onCore t k [rs1, rs2] fun b =>
    let a := b.reg32 t k rs1
    let v := (b.reg32 t k rs2).toNat
    if b.storesOut t k then b
    else if bit a 31 then
      let i := bits a 9 0
      if (b.ctl.tileStage t).isSome && b.ctl.rimSlateStage i == b.ctl.tileStage t then
        Blk.sendFrom t k (b.tc0Rim t k { type := 1, arg := i, value := v })
      else b.notOurs t k
    else if b.ctl.sameStage t (bits a 26 16) then
      Blk.sendFrom t k (b.tc0 t k { type := 1, dest := bits a 26 16, arg := bits a 3 0, value := v })
    else b.notOurs t k

/-- PRED.SET: a predicate becomes valid with a value, in the own tile or, over TC0, in another of the stage (07 R166, R175). -/
def execPredSet (t : TileId) (k : Fin 2) (rs1 rs2 : Reg) (s : State) : Host.Outcome State Fault Refusal :=
  s.onCore t k [rs1, rs2] fun b =>
    let a := b.reg32 t k rs1
    let d := b.reg32 t k rs2
    if bit d 31 then (b.onCtl fun c => c.predSet t (bits a 2 0) (bit a 8)).retire t k
    else if b.storesOut t k then b
    else if b.ctl.sameStage t (bits d 10 0) then
      Blk.sendFrom t k (b.tc0 t k { type := 2, dest := bits d 10 0, arg := bits a 2 0, value := ofBool (bit a 8) })
    else b.notOurs t k

/-- PRED.CLR: the predicates named are not valid. -/
def execPredClr (t : TileId) (k : Fin 2) (rs1 : Reg) (s : State) : Host.Outcome State Fault Refusal :=
  s.onCore t k [rs1] fun b =>
    (b.onCtl fun c =>
      let q := seqPage t
      c.put q F.SEQ_PRED_VALID (c.get q F.SEQ_PRED_VALID &&& (255 - bits (b.reg32 t k rs1) 7 0))).retire t k

/-- SUM.TAKE: the oldest summary is taken; on an empty FIFO the core stalls, and the instruction is executed again once one is there; a
poisoned summary faults and is consumption of poison (05 R126, R127, 07 R182). -/
def execSumTake (t : TileId) (k : Fin 2) (rd : Reg) (s : State) : Host.Outcome State Fault Refusal :=
  if k = 1 ∧ !isSTile t then .fault .noSuchUnit
  else s.on fun b =>
    let b := b.onTile t fun x =>
      if (x.core k).stall = .sum rd then x.setCore k { x.core k with stall := .none } else x
    if !b.coreReady t k [rd] then b
    else match (b.tile t).vec.fifo with
      | [] => b.onCore t k fun c => { c with stall := .sum rd }
      | m :: rest =>
        let b := b.onTile t fun x => { x with vec := { x.vec with fifo := rest, taken := m } }
        if bit m.info 31 then (b.onCtl fun c => c.tilePoison t 2).trap t k (.loadAccess 0)
        else b.retireTo t k rd m.value

/-- SUM.FLAGS: word 1 of the summary last taken. -/
def execSumFlags (t : TileId) (k : Fin 2) (rd : Reg) (s : State) : Host.Outcome State Fault Refusal :=
  s.onCore t k [rd] fun b => b.retireTo t k rd (b.tile t).vec.taken.info

end Sys2Proof.Machine
end

