-- ==== Sys2Proof/Machine/Registers.lean ====
section
/-!
DEFINITION. The commands that are writes and reads of BAR0: each is a write of the register it names, by a function of the host (02 R34 to
R49); what a register's write does is told once, in Bus.lean and the operations it calls.
-/
namespace Sys2Proof.Machine

/-- The base of the page an address lies in. -/
def pageOf (a : Addr) : Nat := a.toNat - a.toNat % 0x1000

/-- A write by a function of the host, with all byte enables. -/
def State.write (s : State) (fn : Fn) (addr : Nat) (w : Word) (e : List Ecc := []) : Host.Outcome State Fault Refusal :=
  s.on fun b => b.busWrite fn.num addr true w e

/-- Writes of consecutive registers from `a` on, each with its byte enables: a request that spans several registers is carried out as
separate accesses in rising order, each checked, counted and applied on its own (02 R35). -/
def Blk.busWrites (b : Blk) (who a : Nat) : List (Bool × Word) → Blk
  | [] => b
  | (be, w) :: rest => Blk.busWrites (b.busWrite who a be w) who (a + 4) rest

/-- REGISTER_WRITE: a write of the register at `addr`, and of those after it that the request spans, checked in order, then applied or
dropped and counted (02 R35, R45). -/
def execRegisterWrite (fn : Fn) (addr : Addr) (be : Bool) (w : Word) (more : List (Bool × Word)) (s : State) :
    Host.Outcome State Fault Refusal :=
  s.on fun b => b.busWrites fn.num (addr.toNat - addr.toNat % 4) ((be, w) :: more)

/-- Reads of `n` consecutive registers from `a` on, in rising order: their bytes (02 R35). -/
def Blk.busReads (b : Blk) (who a : Nat) : Nat → List Byte × Blk
  | 0 => ([], b)
  | n + 1 =>
    let (v, b) := b.busRead who a
    let (l, b) := Blk.busReads b who (a + 4) n
    (leBytes 4 v.toNat ++ l, b)

/-- PAIR_LOW_READ: a read of the `n` bytes at `addr`: of each register it touches, the addressed bytes; the low word of a pair latches
the high word for the function's next read of it; what is read leaves the block (02 R34 to R36, R38). -/
def execPairLowRead (fn : Fn) (addr : Addr) (n : Fin 4097) (s : State) : Host.Outcome State Fault Refusal :=
  s.on fun b =>
    let a := addr.toNat
    let (l, b) := b.busReads fn.num (a - a % 4) ((a % 4 + n.val + 3) / 4)
    b.onCtl fun c => { c with out := c.out ++ [.regData fn.num a ((l.drop (a % 4)).take n.val)] }

/-- LFSR_SEED_WRITE: the pair LFSR_SEED, low word then high word; zero is refused (02 R36, 05 R122). -/
def execLfsrSeedWrite (fn : Fn) (t : TileId) (lo hi : Word) (s : State) : Host.Outcome State Fault Refusal :=
  s.on fun b => (b.busWrite fn.num (vecPage t + 0x48) true lo).busWrite fn.num (vecPage t + 0x4C) true hi

/-- LOCK_PAGE: a write of LOCK written with KEY 0xA5 and LOCKED 1 (02 R47). -/
def execLockPage (fn : Fn) (page : Addr) (hold : Bool) (s : State) : Host.Outcome State Fault Refusal :=
  s.write fn (pageOf page + 0x28) (BitVec.ofNat 32 (0xA5000001 + ofBool hold * 2))

/-- UNLOCK_PAGE: a write of LOCK written with KEY 0x5A and LOCKED 0 (02 R47). -/
def execUnlockPage (fn : Fn) (page : Addr) (s : State) : Host.Outcome State Fault Refusal :=
  s.write fn (pageOf page + 0x28) 0x5A000000

/-- ERR_COUNT_CLEAR: a write of ERR_COUNT.CLEAR written with 1 (02 R43). -/
def execErrCountClear (fn : Fn) (page : Addr) (s : State) : Host.Outcome State Fault Refusal :=
  s.write fn (pageOf page + 0x20) 0x80000000

/-- IRQ_STATUS_WRITE: a write of a page's IRQ_STATUS (02 R49). -/
def execIrqStatusWrite (fn : Fn) (page : Addr) (w : Word) (s : State) : Host.Outcome State Fault Refusal :=
  s.write fn (pageOf page + 0x18) w

/-- IRQ_ENABLE_WRITE: a write of a page's IRQ_ENABLE (02 R49). -/
def execIrqEnableWrite (fn : Fn) (page : Addr) (w : Word) (s : State) : Host.Outcome State Fault Refusal :=
  s.write fn (pageOf page + 0x1C) w

/-- PERF_CNT_CLEAR: a write of PERF.CNT_CLEAR (02 R54). -/
def execPerfCntClear (fn : Fn) (t : TileId) (s : State) : Host.Outcome State Fault Refusal :=
  s.write fn (perfPage t + 0x40) 1

/-- RECT_WRITE: a write of STAGE[s].RECT (01 R22, R27). -/
def execRectWrite (fn : Fn) (st : StageId) (w : Word) (s : State) : Host.Outcome State Fault Refusal :=
  s.write fn (stagePage st + 0x40) w

/-- PORT_MASK_WRITE: a write of STAGE[s].PORT_MASK (01 R26, R27). -/
def execPortMaskWrite (fn : Fn) (st : StageId) (w : Word) (s : State) : Host.Outcome State Fault Refusal :=
  s.write fn (stagePage st + 0x48) w

/-- STAGE_LOAD: a write of RUNSTATE.CMD LOAD (01 R28, R502). -/
def execStageLoad (fn : Fn) (st : StageId) (s : State) : Host.Outcome State Fault Refusal :=
  s.write fn (stagePage st + 0x44) 0x10000000

/-- STAGE_START: a write of RUNSTATE.CMD START (01 R28, 16 R429). -/
def execStageStart (fn : Fn) (st : StageId) (s : State) : Host.Outcome State Fault Refusal :=
  s.write fn (stagePage st + 0x44) 0x20000000

/-- STAGE_WRAP: a write of RUNSTATE.CMD WRAP (01 R28). -/
def execStageWrap (fn : Fn) (st : StageId) (s : State) : Host.Outcome State Fault Refusal :=
  s.write fn (stagePage st + 0x44) 0x30000000

/-- STAGE_RESET: a write of RUNSTATE.CMD RESET (01 R28, 16 R428). -/
def execStageReset (fn : Fn) (st : StageId) (s : State) : Host.Outcome State Fault Refusal :=
  s.write fn (stagePage st + 0x44) 0x40000000

/-- ARR_CNT_CLEAR: a write of ARR.CNT_CLEAR (03 R86). -/
def execArrCntClear (fn : Fn) (t : TileId) (s : State) : Host.Outcome State Fault Refusal :=
  s.write fn (arrPage t + 0x64) 1

/-- SPARSE_CTRL_CLEAR: a write of SPARSE_CTRL with CLEAR, its other bit `en` (08 R217). -/
def execSparseCtrlClear (fn : Fn) (t : TileId) (en : Bool) (s : State) : Host.Outcome State Fault Refusal :=
  s.write fn (arrPage t + 0x6C) (BitVec.ofNat 32 (2 + ofBool en))

/-- VEC_CNT_CLEAR: a write of VEC.CNT_CLEAR (05 R139). -/
def execVecCntClear (fn : Fn) (t : TileId) (s : State) : Host.Outcome State Fault Refusal :=
  s.write fn (vecPage t + 0x60) 1

/-- SPD_IND_READ: a write of IND_CMD with CMD 1 (06 R154). -/
def execSpdIndRead (fn : Fn) (t : TileId) (s : State) : Host.Outcome State Fault Refusal :=
  s.write fn (spdPage t + 0x58) 0x40000000

/-- SPD_IND_WRITE: a write of IND_CMD with CMD 2 (06 R154). -/
def execSpdIndWrite (fn : Fn) (t : TileId) (s : State) : Host.Outcome State Fault Refusal :=
  s.write fn (spdPage t + 0x58) 0x80000000

/-- SPD_CNT_CLEAR: a write of SPD.CNT_CLEAR (06 R156). -/
def execSpdCntClear (fn : Fn) (t : TileId) (s : State) : Host.Outcome State Fault Refusal :=
  s.write fn (spdPage t + 0x80) 1

/-- SEQ_SHOT_START: a write of SEQ.SHOT_START (07 R168). -/
def execSeqShotStart (fn : Fn) (t : TileId) (row : Fin 8192) (e : List Ecc) (s : State) : Host.Outcome State Fault Refusal :=
  s.write fn (seqPage t + 0x40) (BitVec.ofNat 32 row) e

/-- CH_CFG_WRITE: a write of SEQ.CH_CFG[n] (07 R162). -/
def execChCfgWrite (fn : Fn) (t : TileId) (n : Fin 15) (w : Word) (s : State) : Host.Outcome State Fault Refusal :=
  s.write fn (seqPage t + 0x60 + 4 * n) w

/-- SEQ_CNT_CLEAR: a write of SEQ.CNT_CLEAR (07 R189). -/
def execSeqCntClear (fn : Fn) (t : TileId) (s : State) : Host.Outcome State Fault Refusal :=
  s.write fn (seqPage t + 0x5C) 1

/-- SLATE_ADD_WRITE: a write of SLATE.ADD[n] (07 R178, R191). -/
def execSlateAddWrite (fn : Fn) (t : TileId) (n : Fin 16) (w : Word) (s : State) : Host.Outcome State Fault Refusal :=
  s.write fn (slatePage t + 0x4C + 16 * n) w

/-- SLATE_COUNT_WRITE: a write of a slate's COUNT (07 R176, R191, R192). -/
def execSlateCountWrite (fn : Fn) (r : SlateReg) (w : Word) (s : State) : Host.Outcome State Fault Refusal :=
  s.write fn (match r with | .loc t n => slatePage t + 0x40 + 16 * n.val | .sel s => stagePage s + 0x88) w

/-- SLATE_THRESH_WRITE: a write of a slate's THRESH (07 R176, R191, R192). -/
def execSlateThreshWrite (fn : Fn) (r : SlateReg) (w : Word) (s : State) : Host.Outcome State Fault Refusal :=
  s.write fn (match r with | .loc t n => slatePage t + 0x44 + 16 * n.val | .sel s => stagePage s + 0x8C) w

/-- FETCH_CMD_GO: a write of FETCH_CMD with GO; `e` is what the checks of the words read find (11 R296). -/
def execFetchCmdGo (fn : Fn) (t : TileId) (len16M1 : Fin 512) (e : List Ecc) (s : State) : Host.Outcome State Fault Refusal :=
  s.write fn (tilePage t 0 + 0x64) (BitVec.ofNat 32 (0x80000000 + len16M1)) e

/-- SCOUT_CLEAR: a write of SCOUT_CLEAR (08 R211). -/
def execScoutClear (fn : Fn) (st : StageId) (s : State) : Host.Outcome State Fault Refusal :=
  s.write fn (stagePage st + 0xB0) 1

/-- HIT_CACHE_INVALIDATE: a write of HC_CTRL.INV (09 R231). -/
def execHitCacheInvalidate (fn : Fn) (t : TileId) (s : State) : Host.Outcome State Fault Refusal :=
  s.write fn (gathPage t + 0x144) 1

/-- HC_CFG_WRITE: a write of HC_CFG (09 R231, R236). -/
def execHcCfgWrite (fn : Fn) (t : TileId) (w : Word) (s : State) : Host.Outcome State Fault Refusal :=
  s.write fn (gathPage t + 0x140) w

/-- GATH_CNT_CLEAR: a write of GATH.CNT_CLEAR (09 R237). -/
def execGathCntClear (fn : Fn) (t : TileId) (s : State) : Host.Outcome State Fault Refusal :=
  s.write fn (gathPage t + 0x148) 1

/-- RTR_CNT_CLEAR: a write of RTR.CNT_CLEAR (10 R266). -/
def execRtrCntClear (fn : Fn) (t : TileId) (s : State) : Host.Outcome State Fault Refusal :=
  s.write fn (rtrPage t + 0xA0) 1

/-- HBM_CNT_CLEAR: a write of HBM.CNT_CLEAR (11 R293). -/
def execHbmCntClear (fn : Fn) (h : StackId) (s : State) : Host.Outcome State Fault Refusal :=
  s.write fn (hbmPage h + 0x4C) 1

/-- POISON_CONSUMED_CLEAR: a write of POISON_CONSUMED.CLEAR (11 R295). -/
def execPoisonConsumedClear (fn : Fn) (st : StageId) (s : State) : Host.Outcome State Fault Refusal :=
  s.write fn (stagePage st + 0xE0) 0x80000000

/-- UCFG_READ: a write of UCFG_CMD READ (12 R306, R307). -/
def execUcfgRead (fn : Fn) (st : StageId) (s : State) : Host.Outcome State Fault Refusal :=
  s.write fn (stagePage st + 0x10C) 0x10000000

/-- UCFG_WRITE: a write of UCFG_CMD WRITE (12 R306, R307). -/
def execUcfgWrite (fn : Fn) (st : StageId) (s : State) : Host.Outcome State Fault Refusal :=
  s.write fn (stagePage st + 0x10C) 0x20000000

/-- CONTEXT_OPEN: a write of UCFG_CMD OPEN (12 R306, R307). -/
def execContextOpen (fn : Fn) (st : StageId) (s : State) : Host.Outcome State Fault Refusal :=
  s.write fn (stagePage st + 0x10C) 0x30000000

/-- CONTEXT_CLOSE: a write of UCFG_CMD CLOSE (12 R306, R307). -/
def execContextClose (fn : Fn) (st : StageId) (s : State) : Host.Outcome State Fault Refusal :=
  s.write fn (stagePage st + 0x10C) 0x40000000

/-- MIRROR_ENABLE: a write of MIRROR_CTRL with EN 1 (12 R326). -/
def execMirrorEnable (fn : Fn) (st : StageId) (w : Word) (s : State) : Host.Outcome State Fault Refusal :=
  s.write fn (stagePage st + 0x110) (w ||| 0x80000000)

/-- MIRROR_MARK: a write of MIRROR_MARK (12 R328). -/
def execMirrorMark (fn : Fn) (st : StageId) (w : Word) (s : State) : Host.Outcome State Fault Refusal :=
  s.write fn (stagePage st + 0x11C) w

/-- UAM_CLEAR: a write of UAM_CLEAR (12 R334). -/
def execUamClear (fn : Fn) (st : StageId) (s : State) : Host.Outcome State Fault Refusal :=
  s.write fn (stagePage st + 0x1A4) 1

/-- PORT_CNT_CLEAR: a write of PORT.CNT_CLEAR (12 R337). -/
def execPortCntClear (fn : Fn) (p : PortId) (s : State) : Host.Outcome State Fault Refusal :=
  s.write fn (portPage p + 0x70) 1

/-- PCIE_CNT_CLEAR: a write of PCIE.CNT_CLEAR (13 R348). -/
def execPcieCntClear (fn : Fn) (s : State) : Host.Outcome State Fault Refusal :=
  s.write fn (pciePage + 0x48) 1

/-- BAR2_ERR_CLEAR: a write of STAGE[s].BAR2_ERR.CLEAR (13 R349). -/
def execBar2ErrClear (fn : Fn) (st : StageId) (s : State) : Host.Outcome State Fault Refusal :=
  s.write fn (stagePage st + 0x1C4) 0x80000000

/-- DMA_ERR_CLEAR: a write of STAGE[s].DMA_ERR.CLEAR (13 R349). -/
def execDmaErrClear (fn : Fn) (st : StageId) (s : State) : Host.Outcome State Fault Refusal :=
  s.write fn (stagePage st + 0x1C8) 0x80000000

/-- CUE_PUSH: a write of CUE.PUSH (14 R366). -/
def execCuePush (fn : Fn) (s : State) : Host.Outcome State Fault Refusal :=
  s.write fn (cuePage + 0x50) 1

/-- CUE_FLUSH: a write of CUE.FLUSH (14 R366). -/
def execCueFlush (fn : Fn) (s : State) : Host.Outcome State Fault Refusal :=
  s.write fn (cuePage + 0x54) 1

/-- BALLAST_WRITE: a write of PWR.BALLAST (14 R372). -/
def execBallastWrite (fn : Fn) (w : Word) (s : State) : Host.Outcome State Fault Refusal :=
  s.write fn (pwrPage + 0x54) w

/-- ENERGY_SNAPSHOT: a write of SNAP_CTRL.SNAP (14 R379). -/
def execEnergySnapshot (fn : Fn) (s : State) : Host.Outcome State Fault Refusal :=
  s.write fn (pwrPage + 0x60) 0x80000000

/-- WINDOW_ARM: a write of SNAP_CTRL.ARM (14 R379). -/
def execWindowArm (fn : Fn) (s : State) : Host.Outcome State Fault Refusal :=
  s.write fn (pwrPage + 0x60) 0x40000000

/-- PWR_CNT_CLEAR: a write of PWR.CNT_CLEAR (14 R384). -/
def execPwrCntClear (fn : Fn) (s : State) : Host.Outcome State Fault Refusal :=
  s.write fn (pwrPage + 0x11C) 1

/-- CUE_CNT_CLEAR: a write of CUE.CNT_CLEAR (14 R385). -/
def execCueCntClear (fn : Fn) (s : State) : Host.Outcome State Fault Refusal :=
  s.write fn (cuePage + 0x84) 1

/-- FREQ_REQ_WRITE: a write of FREQ.REQ_MHZ (15 R392). -/
def execFreqReqWrite (fn : Fn) (c : ClusterId) (w : Word) (s : State) : Host.Outcome State Fault Refusal :=
  s.write fn (freqPage c + 0x40) w

/-- TIME_CNT_CLEAR: a write of CNT_CLEAR of TIME, FREQ or STIN (15 R410). -/
def execTimeCntClear (fn : Fn) (p : TimePage) (s : State) : Host.Outcome State Fault Refusal :=
  s.write fn (match p with | .time => timePage + 0x5C | .freq c => freqPage c + 0x4C | .stin c => stinPage c + 0x68) 1

/-- SOFTWARE_FULL_RESET: a write of RST.CMD with ACTION 1 (16 R413). -/
def execSoftwareFullReset (fn : Fn) (s : State) : Host.Outcome State Fault Refusal :=
  s.write fn (rstPage + 0x40) 0x5C000001

/-- WARM_RESET: a write of RST.CMD with ACTION 2 (16 R427); the other warm sources are rows of the PCIe link. -/
def execWarmReset (fn : Fn) (s : State) : Host.Outcome State Fault Refusal :=
  s.write fn (rstPage + 0x40) 0x5C000002

/-- VB_CLEAR: a write of RST.VB_CLEAR (16 R438). -/
def execVbClear (fn : Fn) (s : State) : Host.Outcome State Fault Refusal :=
  s.write fn (rstPage + 0x70) 1

/-- TILE_RESET_ASSERT: a write of TILE.RESET with ASSERT (16 R414, R439). -/
def execTileResetAssert (fn : Fn) (t : TileId) (s : State) : Host.Outcome State Fault Refusal :=
  s.write fn (tilePage t 0 + 0x80) 0x7E000001

/-- TILE_RESET_RELEASE: a write of TILE.RESET with RELEASE (16 R414, R439). -/
def execTileResetRelease (fn : Fn) (t : TileId) (s : State) : Host.Outcome State Fault Refusal :=
  s.write fn (tilePage t 0 + 0x80) 0x7E000002

/-- KEEP_WRITE: a write of KEEP.DATA (16 R418, R419). -/
def execKeepWrite (fn : Fn) (w : Word) (s : State) : Host.Outcome State Fault Refusal :=
  s.write fn (keepPage + 0x44) w

/-- RECOVERY_START: a write of RECOV_CTRL with START (16 R437). -/
def execRecoveryStart (fn : Fn) (len4 : Fin 536870912) (s : State) : Host.Outcome State Fault Refusal :=
  s.write fn (mirynPage + 0x44) (BitVec.ofNat 32 (0x80000000 + len4))

/-- RECOVERY_DATA: a write of RECOV_DATA (16 R437). -/
def execRecoveryData (fn : Fn) (w : Word) (s : State) : Host.Outcome State Fault Refusal :=
  s.write fn (mirynPage + 0x48) w

/-- STEP_MARK: a write of STEP_MARK (17 R444). -/
def execStepMark (fn : Fn) (st : StageId) (s : State) : Host.Outcome State Fault Refusal :=
  s.write fn (stagePage st + 0x280) 1

/-- FLAGS_CLR: a write of FLAGS_CLR with its key (17 R451, R469). -/
def execFlagsClr (fn : Fn) (m : Fin 16) (s : State) : Host.Outcome State Fault Refusal :=
  s.write fn (rasPage + 0x48) (BitVec.ofNat 32 (0x3C000000 + m))

/-- TEST_GO: a write of TEST_CTRL with GO (17 R453). -/
def execTestGo (fn : Fn) (w : Word) (s : State) : Host.Outcome State Fault Refusal :=
  s.write fn (rasPage + 0x4C) ((w &&& 0x0FFF07FF) ||| 0x80000000)

/-- TEST_ABORT: a write of TEST_CTRL with ABORT (17 R454). -/
def execTestAbort (fn : Fn) (w : Word) (s : State) : Host.Outcome State Fault Refusal :=
  s.write fn (rasPage + 0x4C) ((w &&& 0x0FFF07FF) ||| 0x40000000)

/-- RAS_CNT_CLEAR: a write of RAS.CNT_CLEAR (17 R470). -/
def execRasCntClear (fn : Fn) (s : State) : Host.Outcome State Fault Refusal :=
  s.write fn (rasPage + 0xA8) 1

/-- LOG_CNT_CLEAR: a write of LOG.CNT_CLEAR (17 R471). -/
def execLogCntClear (fn : Fn) (s : State) : Host.Outcome State Fault Refusal :=
  s.write fn (logPage + 0x70) 1

/-- CVE_GO: a write of CMD.GO of an engine (17 R464). -/
def execCveGo (fn : Fn) (n : Fin 4) (s : State) : Host.Outcome State Fault Refusal :=
  s.write fn (cvePage n + 0x78) 0x80000000

/-- CVE_ABORT: a write of CMD.ABORT of an engine (17 R464). -/
def execCveAbort (fn : Fn) (n : Fin 4) (s : State) : Host.Outcome State Fault Refusal :=
  s.write fn (cvePage n + 0x78) 0x40000000

/-- SEC_GO: a write of SEC.CMD.GO (17 R468). -/
def execSecGo (fn : Fn) (s : State) : Host.Outcome State Fault Refusal :=
  s.write fn (secPage + 0xE0) 1

end Sys2Proof.Machine
end

