-- ==== Sys2Proof/Machine/Sheet.lean ====
section
/-!
DEFINITION. The stage call sheet (16 R429, R430), call-sheet control messages (10 R244, R245), the recovery image (16 R437), the
configuration digest (17 R466, R467).
-/
namespace Sys2Proof.Machine

/-! ### The stage call sheet (16 R429, R430) -/

/-- The sheet's address in the stage (16 R440). -/
def Ctl.sheetBase (c : Ctl) (s : Nat) : Nat := c.rd64 (stagePage s + 0x240)

/-- A record of a sheet as read. -/
structure SheetRec where
  run : Run := {}

/-- Word `i` of a record. -/
def SheetRec.w (r : SheetRec) (i : Nat) : Word := BitVec.ofNat 32 (r.run.slice (4 * i) 4).nat
def SheetRec.kind (r : SheetRec) : Nat := bits (r.w 0) 31 28
def SheetRec.tset (r : SheetRec) : Nat := bits (r.w 0) 27 26
def SheetRec.tile (r : SheetRec) : Nat := bits (r.w 0) 10 0
/-- Bytes of the payload. -/
def SheetRec.len (r : SheetRec) : Nat := (bits (r.w 1) 21 0 + 1) * (if r.kind = 1 then 16 else 4)
def SheetRec.src (r : SheetRec) : Nat := (r.run.slice 8 8).nat
def SheetRec.dst (r : SheetRec) : Nat := bits (r.w 4) 17 0

/-- The tiles a record goes to. -/
def Ctl.sheetTiles (c : Ctl) (s : Nat) (r : SheetRec) : List Nat :=
  match r.tset with
  | 0 => c.stageTiles s
  | 1 => (c.stageTiles s).filter fun t => !isSTile t
  | 2 => (c.stageTiles s).filter isSTile
  | _ => [r.tile]

/-- A record breaks a rule of the first row of R430. -/
def Ctl.sheetBad (c : Ctl) (s : Nat) (r : SheetRec) : Bool :=
  (r.kind != 1 && r.kind != 2) || (r.tset == 3 && !(c.stageTiles s).contains r.tile) ||
    (r.kind == 1 && (c.sheetTiles s r).any fun t => decide (spBytes t < r.dst * 16 + r.len)) || decide (c.stageBytes s < r.src + r.len)

/-- The sheet fails: the stage enters FAULT with the record named (16 R430). -/
def Ctl.sheetFail (c : Ctl) (s n code : Nat) : Ctl :=
  let c := c.put (stagePage s) F.STAGE_SHEET_STAT_FAIL_REC n
  { c.stageFault s code with sheets := SMap.erase c.sheets s }

/-- The header, read before the first record: MAGIC, RECORDS, and CHECK over all the records. Answers the number of records, or the code
(16 R429, R430). -/
def Blk.sheetHeader (b : Blk) (s : Nat) (e : List Ecc) : Sum Nat Nat × Blk :=
  let a := b.ctl.sheetBase s
  let size := b.ctl.stageBytes s
  if size < a + 16 then (.inr 0x20, b)
  else
    let (h, b) := b.stgRead s a 16 e
    let e := e.drop (burstsOf a 16).length
    let w0 := BitVec.ofNat 32 (h.slice 0 4).nat
    let n := bits w0 15 0
    if h.anyBad then (.inr 0x21, b)
    else if bits w0 31 24 ≠ 0xC5 ∨ n = 0 ∨ size < a + 16 + 32 * n then (.inr 0x20, b)
    else
      let (r, b) := b.stgRead s (a + 16) (32 * n) e
      if r.anyBad || crc32c.of r.bytes != (h.slice 4 4).nat then (.inr 0x21, b) else (.inl n, b)

/-- A record written to its tiles: an image into scratchpads, or words to registers, each checked as a core's write is (16 R429). -/
def Blk.sheetWrite (b : Blk) (s : Nat) (r : SheetRec) (p : Run) : Blk :=
  (b.ctl.sheetTiles s r).foldl (fun b t =>
    if r.kind = 1 then b.onTile t fun x => ({ x with init := false }).spWrite (r.dst * 16) p
    else (List.range (r.len / 4)).foldl (fun b i =>
      let off := r.dst - r.dst % 4 + 4 * i
      if off < 0x10000 then b.busWrite 16 (tilePage t 0 + off) true (BitVec.ofNat 32 (p.slice (4 * i) 4).nat) else b) b) b

/-- After the last record every cluster of the stage is at the stage's frequency, and LOADED is set (16 R429, 15 R391). -/
def Ctl.sheetDone (c : Ctl) (s : Nat) : Ctl :=
  let f := c.targetMhz s
  let c := (c.stageClusters s).foldl (fun c cl =>
    let p := freqPage cl
    let c := if c.get p F.FREQ_CUR_MHZ = f then c else (c.put p F.FREQ_CUR_MHZ f).bump p F.FREQ_CHANGES_COUNT
    (c.put p F.FREQ_CUR_LIMIT (c.limitCode s cl f)).railAt cl (c.mvAt cl f)) ((c.setChange s none).vddm f)
  { c.put (stagePage s) F.STAGE_RUNSTATE_LOADED 1 with sheets := SMap.erase c.sheets s }

/-- CALL_SHEET_RECORD: the next record of the sheet of a stage in LOADING is read, checked and written to its tiles; `e` is what the
checks of the bursts read find, in order (16 R429, R430). -/
def execCallSheetRecord (st : StageId) (e : List Ecc) (s : State) : Host.Outcome State Fault Refusal :=
  s.on fun b =>
    match SMap.find? b.ctl.sheets st with
    | none => b
    | some x =>
      if b.ctl.stState st ≠ 1 then b
      else
        let base := b.ctl.sheetBase st
        let (h, b) := if x.records = 0 then b.sheetHeader st e else (.inl x.records, b)
        match h with
        | .inr code => b.onCtl fun c => c.sheetFail st 0 code
        | .inl n =>
          let i := x.next
          let e := if x.records = 0 then e.drop ((burstsOf base 16).length + (burstsOf (base + 16) (32 * n)).length) else e
          let (rr, b) := b.stgRead st (base + 16 + 32 * i) 32 e
          let r : SheetRec := ⟨rr⟩
          if rr.anyBad then b.onCtl fun c => c.sheetFail st i 0x21
          else if b.ctl.sheetBad st r then b.onCtl fun c => c.sheetFail st i 0x20
          else
            let (p, b) := b.stgRead st r.src r.len (e.drop (burstsOf (base + 16 + 32 * i) 32).length)
            if p.anyBad || crc32c.of p.bytes != (r.w 5).toNat then b.onCtl fun c => c.sheetFail st i 0x21
            else
              (b.sheetWrite st r p).onCtl fun c =>
                let c := c.put (stagePage st) F.STAGE_SHEET_STAT_DONE (i + 1)
                let c := { c with sheets := SMap.put c.sheets st { records := n, next := i + 1 } }
                if i + 1 = n then c.sheetDone st else c

/-- CALL_SHEET_CONTROL: an arriving call-sheet control message is taken by its tile; a held tile's wrapper absorbs it. The manual gives
the message no field and no further effect (10 R244, R245, 16 R414). -/
def execCallSheetControl (i : Nat) (s : State) : Host.Outcome State Fault Refusal :=
  s.onCtl fun c =>
    match c.atTile i with
    | some (_, .msg m) => if m.type = 8 then c.takeNet i else c
    | _ => c

/-! ### Recovery (16 R437) -/

/-- Bytes written to the SPI NOR from address `a`, over `n` bytes erased; SPI_WP_N is high for that time alone (13 R352). -/
def Ctl.norWrite (c : Ctl) (a n : Nat) (l : List Byte) : Ctl :=
  let kept := c.nor.filter fun e => decide (e.1 < a ∨ a + n ≤ e.1)
  { c with nor := l.zipIdx.foldl (fun m e => SMap.set 0xFF m (a + e.2) e.1) kept }

/-- RECOVERY_VERIFY: the ROM has verified the image loaded: it is written to the slot that IMAGE names first and a software full reset follows, or
FAIL is set (13 R352, 16 R437). -/
def execRecoveryVerify (ok : Bool) (s : State) : Host.Outcome State Fault Refusal :=
  s.on fun b =>
    let c := b.ctl
    if c.phase ≠ 9 ∨ !c.flag mirynPage F.MIRYN_RECOV_CTRL_BUSY ∨ c.boot.recovLeft ≠ 0 then b
    else if ok then (b.onCtl fun c => c.norWrite ((imageOrder (c.option 1)).headD 0 * 2 ^ 24) (2 ^ 24) c.boot.recov).fullReset 4
    else b.onCtl fun c => (c.put mirynPage F.MIRYN_RECOV_CTRL_FAIL 1).put mirynPage F.MIRYN_RECOV_CTRL_BUSY 0

/-! ### The configuration digest (17 R466, R467) -/

/-- The bases of every implemented page, in rising order; the pages of a disabled tile are not implemented (02 R45 step 2). -/
def Ctl.pageBases (c : Ctl) : List Nat :=
  (List.range 18).map rimPage ++ (List.range 12).map stagePage ++ (List.range 24).flatMap (fun cl => (List.range 6).map (cluPage cl)) ++
    (List.range 12).map hbmPage ++ (List.range 16).map portPage ++ [uamPage, pciePage] ++
    ((List.range 1920).filter c.tileGood).flatMap fun t =>
      ((List.range 9).filter fun k => (tileKind (isSTile t) k).isSome).map (tilePage t)

/-- The bits of a register that region 3 of the digest holds: its RWS and RK fields; KEEP.DATA is left out. -/
def digestMask (a : Nat) : Nat :=
  match place a with
  | .page k _ _ off => if k = .keep ∧ off = 0x44 then 0 else match regDef k off with | some d => d.rws ||| d.rk | none => 0
  | _ => 0

/-- Region 3: every register with an RWS or RK field as it reads, other bits 0. -/
def Blk.digestRegs (b : Blk) : List Word :=
  b.ctl.pageBases.flatMap fun base => (List.range 1024).filterMap fun n =>
    let m := digestMask (base + 4 * n)
    if m = 0 then none else some (b.reg (base + 4 * n) &&& BitVec.ofNat 32 m)

/-- The digest, of the running firmware image, the resident tile image, the keep words and the configuration. -/
def Blk.digest (b : Blk) (fw img : List Byte) : Nat :=
  let tag (n : Nat) (l : List Byte) : List Byte := leBytes 4 n ++ l
  crc64.of (tag 0 fw ++ tag 1 img ++ tag 2 (wordBytes ((List.range 128).map b.ctl.keepWord)) ++ tag 3 (wordBytes b.digestRegs))

/-- DIGEST_COMPUTE: Miryn computes the digest and publishes it; `fw` and `img` are the bytes of the firmware image and of the resident
tile image. `mixed` says that a field of region 2 or 3 changed during the last pass too, the third run again: its digest is of no one configuration,
so a free value, and is published with DIGEST_MIXED (17 R466, R467). -/
def execDigestCompute (fw img : List Byte) (mixed : Bool) (s : State) : Host.Outcome State Fault Refusal :=
  s.on fun b =>
    if !b.ctl.mirynUp then b
    else
      let (v, b) : Nat × Blk := if mixed then (b.ctl.choose.1, { b with ctl := b.ctl.choose.2 }) else (b.digest fw img, b)
      b.onCtl fun c =>
        let c := (c.put64 rasPage F.RAS_DIGEST_LO_CRC (v % 2 ^ 64)).put64 rasPage F.RAS_DIGEST_TIME_LO_NS c.reel
        (c.put rasPage F.RAS_STATUS_DIGEST_MIXED (ofBool mixed)).raise rasPage 3

end Sys2Proof.Machine
end

