-- ==== Sys2Proof/Machine/Vector.lean ====
section
/-!
DEFINITION. The vector engine of a tile: its descriptors, rows, guards and summaries (05 R108 to R135).
-/
namespace Sys2Proof.Machine

/-! ### The descriptor (05 R129, R135) -/

/-- VECTOR_DESCRIPTOR: the descriptor at the head of the vector queue is checked; the guard settings are latched and, with
RESEED, the LFSR is loaded from the seed (05 R121, R129, R135). -/
def execVectorDescriptor (t : TileId) (e : List Ecc) (s : State) : Host.Outcome State Fault Refusal :=
  s.on fun b =>
    let p := vecPage t
    if !b.live t then b
    else match b.takeHead t 5 e with
      | .stay b => b
      | .ready d b =>
        match vectorCheck t d with
        | some code => b.vecHalt t code
        | none =>
          let b := b.install t 5 d (vdRows d)
          let c := b.ctl
          b.onTile t fun x => { x with vec := { x.vec with
            guard := c.rd (p + F.VEC_GUARD_CTRL.off)
            tol := c.rd (p + F.VEC_CSUM_TOL.off)
            wins := (List.range 8).map fun n => (c.rd (p + F.VEC_WIN_LO_LO.off + 8 * n), c.rd (p + F.VEC_WIN_HI_HI.off + 8 * n))
            lfsr := if vdReseed d && !d.void then c.get64 p F.VEC_LFSR_SEED_LO_SEED_LO else x.vec.lfsr
            waits := none } }

/-! ### Accumulator sources (05 R115 to R117, R132, 03 R72) -/

/-- The accumulator rows (array, row) vector row `k` reads, in lane order: long rows for INT64 (05 R114, R115). RECOMB_F64 moves on by its two
long rows with every vector row (DESIGN CHOICE, log 51). -/
def accRows (d : Desc) (k : Nat) : List (Nat × Nat) :=
  let r := vdAccRow d
  if vdOp d = 0x23 then [(vdAccArr d - 1, (r + 2 * k) % 256), (vdAccArr d - 1, (r + 2 * k + 1) % 256)]
  else if vdType d = 4 then
    if vdAccArr d = 3 then [(k % 2, (r + k / 2) % 256)] else [(vdAccArr d - 1, (r + k) % 256)]
  else if vdAccArr d = 3 then [(0, (r + k) % 512), (1, (r + k) % 512)]
  else [(vdAccArr d - 1, (r + 2 * k) % 512), (vdAccArr d - 1, (r + 2 * k + 1) % 512)]

/-- Vector rows between two reads of one accumulator row by a descriptor (05 R115, R117). -/
def accPeriod (d : Desc) : Nat := if vdOp d = 0x23 then 128 else if vdAccArr d = 3 then 512 else 256

/-- The physical rows of a row as read: the pair of a long row (03 R70). -/
def physRows (long : Bool) (r : Nat) : List Nat := if long then [2 * r, 2 * r + 1] else [r]

/-- The physical rows row `i` of a matrix instruction writes. -/
def miPhys (m : Desc) (i : Nat) : List Nat := physRows (miLong m) (miAccRow m i)

/-- The earliest row, as (serial number of its instruction, row), of a taken matrix instruction still to be written to
physical row `r` of array `a`, be it one that halted arrays never write; a ring row held back by the release of `r` does not count
(03 R71, R72, R81). -/
def Blk.dueRow (b : Blk) (t a r : Nat) : Option (Nat × Nat) :=
  let x := b.tile t
  let inFly := (x.fly ++ x.part.toList).find? fun j =>
    let m : Desc := { words := j.words }
    (miFeeders m).contains a && (miPhys m j.row).contains r
  match inFly with
  | some j => some (j.ser, j.row)
  | none =>
    match (x.queue 4).cur with
    | some m =>
      if !(miFeeders m).contains a then none
      else
        let rest := (List.range (m.steps - m.issued)).map (m.issued + ·)
        (rest.find? fun i => (miPhys m i).contains r &&
          !(miRing m && decide (miDepth m ≤ i) && accTag x a (miAccRow m i) (miLong m) != 0)).map fun i => (m.ser, i)
    | none => none

/-- Row `i` of the instruction with serial number `ser` is not yet written. -/
def Blk.rowDue (b : Blk) (t : Nat) (e : Nat × Nat) : Bool :=
  let x := b.tile t
  ((x.fly ++ x.part.toList).any fun j => j.ser == e.1 && j.row == e.2) ||
  ((x.queue 4).cur.any fun m => m.ser == e.1 && decide (m.issued ≤ e.2))

/-- The rows the read of vector row `k` waits for: recorded when the wait begins, less those written since (03 R72). -/
def Blk.accWaits (b : Blk) (t : Nat) (d : Desc) (k : Nat) : List (Nat × Nat) :=
  if d.void ∨ vdKind d 0 ≠ 2 then []
  else match (b.tile t).vec.waits with
    | some l => l.filter (b.rowDue t)
    | none => (accRows d k).flatMap fun (a, r) => (physRows (vdType d == 4) r).filterMap fun q => b.dueRow t a q

/-- What the read of one accumulator row gives: its elements with their poison, whether its tag was another type's, and the
outcome of the column-sum guard: 0 passes, 1 fails, 2 not checked (05 R116, R132). -/
structure AccRead where
  els : List (Nat × Bool) := []
  mism : Bool := false
  csum : Nat := 0

/-- The column-sum outcome of an FP32 row (05 R132): |S − C| against 2^(−REL)·M + 2^(ABS − 127). -/
def csumFp (tol : Word) (s c m : Nat) : Bool :=
  let diff := numAbs (numAdd (of32 s) (numNeg (of32 c)))
  let lim := numAdd (numScale (of32 m) (-(bits tol 15 8 : Int))) (numScale (.fin false 1 0) ((bits tol 7 0 : Int) - 127))
  match diff, lim with
  | .nan, _ => false
  | _, .nan => false
  | x, y => numLt y x

/-- One accumulator row read as TYPE (05 R116, R132). -/
def Tile.accRead (x : Tile) (ty : Nat) (tol : Word) (a r : Nat) : AccRead :=
  let long := ty == 4
  let want := if ty = 0 then 1 else if ty = 3 then 2 else 3
  let tag := accTag x a r long
  let lo := if long then x.accRow a (2 * r) else x.accRow a r
  let hi := x.accRow a (2 * r + 1)
  let val (n : Nat) : Nat := (lo.vals.getD n 0).toNat + (if long then (hi.vals.getD n 0).toNat * 2 ^ 32 else 0)
  let cols := List.range 64
  if tag = 0 then { els := cols.map fun _ => (0, false) }
  else if tag ≠ want then { els := cols.map fun n => (val n, true), mism := true, csum := 2 }
  else
    let els := cols.map fun n => (val n, lo.bad.getD n false || (long && hi.bad.getD n false))
    let w := if long then 64 else 32
    let csum :=
      if els.any (·.2) then 2
      else if ty = 0 then ofBool (csumFp tol (rowSum false (els.map (·.1))) lo.chkC lo.chkM)
      else ofBool ((els.map (·.1)).sum % 2 ^ w != lo.chkC % 2 ^ w)
    { els := els, csum := csum }

/-- A row released: its tag becomes EMPTY (05 R117). -/
def Tile.accRelease (x : Tile) (long : Bool) (a r : Nat) : Tile :=
  (physRows long r).foldl (fun x q => x.setAccRow a q { x.accRow a q with tag := 0 }) x

/-! ### Operands (05 R109, R133, R138) -/

/-- The elements of a run, `w` bytes each, with their poison. -/
def elemsOf (w : Nat) : Nat → Run → List (Nat × Bool)
  | 0, _ => []
  | n + 1, r => ((r.slice 0 w).nat, (r.slice 0 w).anyBad) :: elemsOf w n { bytes := r.bytes.drop w, bad := r.bad.drop w }

/-- Elements of one row of source `i`, and bytes of each. -/
def srcShape (t : Nat) (d : Desc) (i : Nat) : Nat × Nat :=
  if vdOp d = 0x23 then (if i = 1 then (1, 2) else (64, 2)) else (rowElems t d, typeBytes (vdType d))

/-- Where row `k` of source `i` lies; SLICE_I8's input is contiguous (05 R113). -/
def srcAddr (t : Nat) (d : Desc) (i k : Nat) : Nat :=
  if vdOp d = 0x22 then vdBase d i + k * srcBytes t d i else vdBase d i + k * vdStride d i

/-- A row of a source as its lanes have it: elements with their poison, the outcomes of checks not used up, and the block. -/
structure SrcRow where
  els : List (Nat × Bool)
  rest : List Ecc
  blk : Blk

/-- Row `k` of a scratchpad or constant source, in lane form; a scratchpad source comes through the source's staging buffer (06 R143). -/
def Blk.vecSource (b : Blk) (t : Nat) (d : Desc) (i k : Nat) (e : List Ecc) : SrcRow :=
  let (n, w) := srcShape t d i
  if vdKind d i = 3 then
    ⟨List.replicate n (constOf (vdType d) (b.ctl.getN (vecPage t) F.VEC_CONST_VALUE (vdConst d i)), false), e, b⟩
  else
    let g := b.stagedRead t (4 + i) d.ser (srcAddr t d i k) (n * w) e
    ⟨(elemsOf w n g.run).map fun (v, p) => (if vdOp d = 0x23 then v else laneOf (vdType d) v, p), g.rest, g.blk⟩

/-- Row `k` of an accumulator source: the rows read, in lane order, and the tile with them released where RELEASE says so: after
the descriptor's last read of the row (05 R115 to R117). -/
def Tile.accSource (x : Tile) (d : Desc) (k : Nat) : List AccRead × Tile :=
  let ty := vdType d
  let rows := accRows d k
  let rds := rows.map fun (a, r) => x.accRead ty x.vec.tol a r
  let x := if vdRelease d && decide (vdRows d ≤ k + accPeriod d) then
      rows.foldl (fun x (a, r) => x.accRelease (ty == 4) a r) x
    else x
  (rds, x)

/-! ### Guards (05 R129 to R132) -/

/-- The action of a guard (1 range, 2 NaN/Inf, 3 column sum) for a descriptor: 0 where it does not run. -/
def guardAct (d : Desc) (g : Word) : Nat → Nat
  | 1 => if vdRangeEn d then bits g 1 0 else 0
  | 2 => if vdNanEn d then bits g 3 2 else 0
  | _ => if vdCsumEn d then bits g 5 4 else 0

/-- The type a result has as the lanes produce it: RECOMB_F64 gives FP64, SLICE_I8 digits, CVT and SPLIT_BF16 are judged by
their input (05 R129). -/
def resultType (d : Desc) : Nat := if vdOp d = 0x23 then 2 else if vdOp d = 0x22 then 3 else vdType d

/-- An element fails the range guard (05 R130). -/
def rangeFails (ty : Nat) (lo hi : Word) (v : Nat) : Bool :=
  decide (ty ≤ 1) && !isNan32 v &&
    !((numEq (of32 lo.toNat) (of32 v) || numLt (of32 lo.toNat) (of32 v)) &&
      (numEq (of32 v) (of32 hi.toNat) || numLt (of32 v) (of32 hi.toNat)))

/-- An element is NaN or an infinity (05 R131). -/
def nanInf (ty v : Nat) : Bool :=
  if ty ≤ 1 then isSpecial32 v else if ty = 2 then decide (0x7FF0000000000000 ≤ v % 2 ^ 63) else false

/-- The guard failures of a row's results: (guard, lane) in element order, the column-sum failures before them; and the
results with the poison action 3 sets (05 R129). -/
def runGuards (d : Desc) (v : Vec) (rds : List AccRead) (els : List (Nat × Bool)) : List (Nat × Nat) × List (Nat × Bool) :=
  let ty := resultType d
  let act := guardAct d v.guard
  let (lo, hi) := v.wins.getD (vdWindow d) (0, 0)
  let cs := if act 3 = 0 then [] else rds.zipIdx.filter fun e => e.1.csum == 1
  let csBad (i : Nat) : Bool := act 3 == 3 && cs.any fun e => e.2 == i / 64 || vdOp d == 0x23
  let one (i val : Nat) : List (Nat × Nat) :=
    (if act 1 != 0 && rangeFails ty lo hi val then [(1, i)] else []) ++ (if act 2 != 0 && nanInf ty val then [(2, i)] else [])
  let fs := els.zipIdx.map fun (e, i) => (one i e.1, e, i)
  (cs.map (fun _ => (3, 0)) ++ fs.flatMap (·.1),
   fs.map fun (f, e, i) => (e.1, e.2 || csBad i || f.any fun g => act g.1 == 3))

/-! ### A row (05 R109, R111, R113, R114, R118) -/

/-- What a row's lanes give: results as the guards see them, with poison; the streams it writes; counts; the LFSR after it. -/
structure LaneRow where
  els : List (Nat × Bool) := []
  lfsr : Nat := 1
  replaced : Nat := 0
  lost : Nat := 0

/-- The elements of a plain operation, in element order. -/
def applyRow (d : Desc) : List ((Nat × Bool) × (Nat × Bool) × (Nat × Bool)) → Nat → List (Nat × Bool) × Nat
  | [], l => ([], l)
  | ((a, pa), (b, pb), (c, pc)) :: r, l =>
    let (v, l) := applyOp (vdOp d) (vdType d) (vdParam d) (vdRnd d) a b c l
    let (vs, l) := applyRow d r l
    ((v, pa || pb || pc) :: vs, l)

/-- Codes of `w` bits as bytes, with the poison of each byte: `per` elements share it. -/
def streamOf (w : Nat) (els : List (Nat × Bool)) : Run :=
  if w = 4 then
    let bs := pairUp els
    { bytes := bs.map (·.1), bad := bs.map (·.2) }
  else if w % 8 = 0 then
    let l := els.flatMap fun (v, p) => (leBytes (w / 8) v).map fun x => (x, p)
    { bytes := l.map (·.1), bad := l.map (·.2) }
  else
    let v := els.zipIdx.foldl (fun s (e, i) => s + e.1 % 2 ^ w * 2 ^ (w * i)) 0
    let n := (w * els.length + 7) / 8
    { bytes := leBytes n v
      bad := (List.range n).map fun k => (els.zipIdx).any fun (e, i) =>
        e.2 && decide (w * i < 8 * k + 8) && decide (8 * k < w * i + w) }
where
  pairUp : List (Nat × Bool) → List (Byte × Bool)
    | (a, p) :: (c, q) :: r => (BitVec.ofNat 8 (a % 16 + c % 16 * 16), p || q) :: pairUp r
    | [(a, p)] => [(BitVec.ofNat 8 (a % 16), p)]
    | [] => []

/-- Scale bytes of a row's blocks: a block with a poisoned element has its scale poisoned. -/
def scaleStream (els : List (Nat × Bool)) (sc : List Nat) : Run :=
  { bytes := sc.map (BitVec.ofNat 8)
    bad := sc.zipIdx.map fun (_, g) => ((els.drop (32 * g)).take 32).any (·.2) }

/-- CVT of a row: its codes and scale bytes, the LFSR, how many values were replaced (05 R118, R119). -/
def cvtRow (d : Desc) (els : List (Nat × Bool)) (l : Nat) : List Nat × List Nat × Nat × Nat :=
  let fmt := vdOutFmt d
  let ns := els.map fun e => laneNum (vdType d) e.1
  if isMx fmt then cvtBlocks fmt (vdRnd d) (els.length / 32) ns l
  else
    let cv : Num → Nat → Nat × Nat × Bool :=
      match floatOf fmt with
      | some f => cvtFloat fmt f (vdSat d) (vdRnd d)
      | none => cvtInt fmt (vdUns d) (vdRnd d)
    let (cs, l, n) := cvtList cv ns l
    (cs, [], l, n)

/-- The slices of a row of SLICE_I8: plane by plane, each element's digit with its poison; how many were lost (04 R100, R101). A poisoned
element poisons its own digits, and by 05 R128 the exponent, not the digits of the others, which the exponent bears on too (DESIGN CHOICE,
log 51). -/
def sliceRow (d : Desc) (e : Int) (els : List (Nat × Bool)) : List (List (Nat × Bool)) × Nat :=
  let s := vdParam d
  let l := els.map fun x => (sliceEl s e (fDecode fFP64 x.1), x.2)
  ((List.range s).map fun i => l.map fun (r, p) => (codeOf 8 (r.1.getD i 0), p), (l.filter fun r => r.1.2).length)

/-- Pieces of one plane of SLICE_I8: the bytes of elements `k0` on, contiguous, or in the weight layout 64-byte pieces one block of 4,096 bytes
apart (04 R100, 05 R113; the distance is a DESIGN CHOICE, log 51). -/
def planeWrites (d : Desc) (plane k0 : Nat) (r : Run) : List VWrite :=
  let base := vdBase d 3 + plane * vdStride d 3
  if vdOutFmt d = 1 then
    (List.range (r.bytes.length / 64)).map fun i => { addr := base + (k0 / 64 + i) * 4096, run := r.slice (64 * i) 64 }
  else [{ addr := base + k0, run := r }]

/-- What row `k` writes at DST and AUX, from its operands and its results after the guards (04 R91, 05 R113, R119, R133, R134). -/
def rowWrites (t : Nat) (d : Desc) (k : Nat) (v : Vec) (src els : List (Nat × Bool)) (codes scales : List Nat)
    (allBad : Bool) : List VWrite :=
  let dst := vdBase d 3 + k * vdStride d 3
  if vdKind d 3 ≠ 1 then []
  else
    let marked (cs : List Nat) : List (Nat × Bool) := (cs.zip els).map fun (c, e) => (c, e.2)
    match vdOp d with
    | 0x20 =>
      ⟨dst, streamOf (elemBits (vdOutFmt d)) (marked codes)⟩ ::
        (if isMx (vdOutFmt d) then [⟨vdAux d + rowElems t d / 32 * k, scaleStream els scales⟩] else [])
    | 0x21 =>
      let hl := els.map fun e => (splitBf16 e.1, e.2)
      [⟨dst, streamOf 16 (hl.map fun x => (x.1.1, x.2))⟩,
       ⟨vdAux d + k * vdStride d 3, streamOf 16 (hl.map fun x => (x.1.2.1, x.2))⟩]
    | 0x22 =>
      let (planes, _) := sliceRow d v.sliceE src
      (if k = 0 then [⟨vdAux d, runOf (leBytes 2 (codeOf 16 v.sliceE)) allBad⟩] else []) ++
        planes.zipIdx.flatMap fun (p, i) => planeWrites d i (k * rowElems t d) (streamOf 8 p)
    | _ =>
      let ty := if vdOp d = 0x23 then 2 else vdType d
      [⟨dst, streamOf (8 * typeBytes ty) (if ty = 1 then els.map fun e => (e.1 / 2 ^ 16, e.2) else els)⟩]

/-- Row `k` of descriptor `d` computed: its operands read, accumulator rows released, results, guards, writes. -/
def Blk.vecRow (b : Blk) (t : Nat) (d : Desc) (k : Nat) (e : List Ecc) : VRow × Blk :=
  let op := vdOp d
  let n := match opShape op with | some (_, n) => n | none => 0
  let (rds, b) :=
    if vdKind d 0 = 2 then
      let (r, x) := (b.tile t).accSource d k
      (r, b.setTile t x)
    else ([], b)
  let first : SrcRow :=
    if op = 0x22 ∧ k = 0 then
      let g := b.stagedRead t 4 d.ser (vdBase d 0) (8 * sliceK t d) e
      ⟨elemsOf 8 (sliceK t d) g.run, g.rest, g.blk⟩
    else ⟨[], e, b⟩
  let exps := first.els
  let b := if op = 0x22 ∧ k = 0 then
      first.blk.onTile t fun x => { x with vec := { x.vec with sliceE := sliceExp (exps.map fun q => fDecode fFP64 q.1) } }
    else b
  let src (b : Blk) (e : List Ecc) (i : Nat) : SrcRow :=
    if n ≤ i then ⟨List.replicate (rowElems t d) (0, false), e, b⟩
    else if i = 0 ∧ vdKind d 0 = 2 then ⟨rds.flatMap (·.els), e, b⟩
    else b.vecSource t d i k e
  let ra := src b first.rest 0
  let rb := src ra.blk ra.rest 1
  let rc := src rb.blk rb.rest 2
  let (a, q, c, b) := (ra.els, rb.els, rc.els, rc.blk)
  let v := (b.tile t).vec
  let (raw, l0) : List (Nat × Bool) × Nat :=
    if op = 0x20 ∨ op = 0x21 ∨ op = 0x22 then (a, v.lfsr)
    else if op = 0x23 then
      let (ea, pa) := q.getD 0 (0, false)
      (((a.take 64).zip ((a.drop 64).zip c)).map fun (h, l, w) =>
        (recomb (vdParam d) h.1 l.1 ea w.1, h.2 || l.2 || pa || w.2), v.lfsr)
    else applyRow d (a.zip (q.zip c)) v.lfsr
  let (fails, els) := runGuards d v rds raw
  let (codes, scales, l1, rep) := 
    if op = 0x20 then cvtRow d els l0
    else ([], [], l0, if op = 0x21 then (els.filter fun x => (splitBf16 x.1).2.2).length else 0)
  let ws := rowWrites t d k v a els codes scales (exps.any (·.2))
  let row : VRow :=
    { ser := d.ser, row := k, guard := v.guard, writes := ws
      seen := els
      fails := fails
      skip := if guardAct d v.guard 3 = 0 then 0 else (rds.filter fun r => r.csum == 2).length
      replaced := rep
      lost := if op = 0x22 then (sliceRow d v.sliceE a).2 else 0
      mism := (rds.filter (·.mism)).length
      bad := vdKind d 3 == 1 && ws.any fun w => w.run.anyBad
      lfsr := l1 }
  (row, b.onTile t fun x => { x with vec := { x.vec with lfsr := l1 } })

/-- The summary FIFO is full: no row issues until an entry frees, and none overtakes a summary held for it (05 R126, 07 R163). -/
def Vec.full (v : Vec) : Bool := decide (16 ≤ v.fifo.length) || !v.held.isEmpty

/-- VECTOR_ROW: the next row issues once its tokens and accumulator rows are there, fewer than four earlier rows have operands that have not
all reached the lanes and the summary FIFO is not full: its operands are requested and it is computed, releasing accumulator rows as read.
`late` is how many rows in flight have operands on their way, and `stallIn` the cycles it waited for an operand; both are timing (03 R72,
05 R109, R116, R117, R126, 07 R163). -/
def execVectorRow (t : TileId) (late stallIn : Nat) (e : List Ecc) (s : State) : Host.Outcome State Fault Refusal :=
  s.on fun b =>
    let p := vecPage t
    match b.live t, b.current t 5 with
    | true, some d =>
      let b := b.onCtl fun c => c.bump p F.VEC_STALL_IN_CYCLES stallIn
      let x := b.tile t
      let k := d.issued
      let waits := b.accWaits t d k
      if !b.ctl.tokensReady t d.hdr || decide (4 ≤ min late x.vec.rows.length) || x.vec.full then b
      else if !waits.isEmpty then b.setTile t { x with vec := { x.vec with waits := some waits } }
      else
        let b := b.setTile t { x with vec := { x.vec with waits := none } }
        let (row, b) := if d.void then ({ ser := d.ser, row := k, void := true, lfsr := x.vec.lfsr : VRow }, b) else b.vecRow t d k e
        let b := b.onTile t fun x => { x with vec := { x.vec with rows := x.vec.rows ++ [row] } }
        let b := (List.range row.mism).foldl (fun b _ => b.onCtl fun c =>
          ((c.bump p F.VEC_ACC_MISMATCH_COUNT).errHw p 0x05).raise p 3) b
        b.issue t 5 d
    | _, _ => b

/-! ### Completion (05 R123 to R129, 07 R164) -/

/-- Guard failures of a row counted, the first recorded, the actions taken (05 R129). -/
def Ctl.guardFails (c : Ctl) (t row : Nat) (guard : Word) : List (Nat × Nat) → Ctl
  | [] => c
  | (g, lane) :: r =>
    let p := vecPage t
    let act := bits guard (2 * g - 1) (2 * g - 2)
    let c := c.bump p (if g = 1 then F.VEC_GUARD_RANGE_COUNT else if g = 2 then F.VEC_GUARD_NANINF_COUNT else F.VEC_GUARD_CSUM_COUNT)
    let c := if c.flag p F.VEC_GUARD_FIRST_VALID then c
      else c.wr (p + F.VEC_GUARD_FIRST.off)
        (BitVec.ofNat 32 (0x80000000 + g * 0x10000000 + lane % 256 * 0x10000 + row % 0x10000))
    let c := if 2 ≤ act then c.raise p 2 else c
    let c := if act = 3 then c.plausEvent t g else c
    Ctl.guardFails c t row guard r

/-- Summaries owed by a row of a descriptor, and the running reduction after it (05 R123 to R125, 07 R166). -/
def rowSummaries (d : Desc) (row : VRow) (red : RedAcc) : List (Nat × Summary) × RedAcc :=
  let op := vdRedOp d
  let int := vdType d == 3
  let last := decide (row.row + 1 = vdRows d)
  let void : Summary := { value := 0, info := BitVec.ofNat 32 (2 ^ 29 + (if vdRedRow d then row.row else 0)) }
  if op = 0 then ([], red)
  else if row.void then ((if vdRedRow d then [(row.row, void)] else if last then [(0, void)] else []), red)
  else if vdRedRow d then
    ([(row.row, redSummary op int (redRow op int (vdIgnoreNan d) false {} row.seen 0) (some row.row))], red)
  else
    let red := redRow op int (vdIgnoreNan d) true (if row.row = 0 then {} else red) row.seen (row.row * row.seen.length)
    ((if last then [(0, redSummary op int red none)] else []), red)

/-- A summary enters the FIFO of 16 (05 R126). -/
def Blk.pushSummary (b : Blk) (t : Nat) (m : Summary) : Blk :=
  let x := b.tile t
  let b := b.setTile t { x with vec := { x.vec with fifo := x.vec.fifo ++ [m] } }
  if x.vec.fifo.isEmpty then b.onCtl fun c => c.raise (vecPage t) 5 else b

/-- A row's summary is offered to the FIFO; one that finds it full, or others held before it, is held (05 R126). -/
def Blk.offerSummary (b : Blk) (t : Nat) (m : Summary) : Blk :=
  let x := b.tile t
  if x.vec.full then b.setTile t { x with vec := { x.vec with held := x.vec.held ++ [m] } } else b.pushSummary t m

/-- Writes of a unit in order, `e` the outcomes of the words they write in part (06 R145). -/
def Blk.spStores (b : Blk) (t : Nat) (e : List Ecc) : List VWrite → Blk
  | [] => b
  | w :: r => Blk.spStores (b.spStore t w.addr w.run e) t (e.drop (partWords w.addr w.run.bytes.length).length) r

/-- The writes a row's summaries make (05 R125). -/
def sumWrites (d : Desc) (sums : List (Nat × Summary)) : List VWrite :=
  if vdSumDst d / 2 = 1 then
    sums.map fun (i, m) => ⟨vdSum d + 8 * i, runOf (leBytes 4 m.value.toNat ++ leBytes 4 m.info.toNat) (bit m.info 31)⟩
  else []

/-- VECTOR_ROW_COMPLETE: the oldest row in flight completes: its results and summaries are written, its guard failures and
counters take effect, and its step completes with its last write. `stallOut` counts cycles it waited for its writes, `e` is what the checks of
the words written in part find (05 R109, R123 to R129, R139, 06 R145, 07 R164). -/
def execVectorRowComplete (t : TileId) (stallOut : Nat) (e : List Ecc) (s : State) : Host.Outcome State Fault Refusal :=
  s.on fun b =>
    let p := vecPage t
    let x := b.tile t
    match b.live t, x.vec.rows with
    | true, row :: rest =>
      match (x.queue 5).find row.ser with
      | some d =>
        let (sums, red) := rowSummaries d row x.vec.red
        let b := (b.setTile t { x with vec := { x.vec with rows := rest, red := red } }).spStores t e (row.writes ++ sumWrites d sums)
        let b := b.onCtl fun c =>
          let c := c.bump p F.VEC_STALL_OUT_CYCLES stallOut
          let c := (c.bumpWrap p F.VEC_ROWS_COUNT).perf t 0x04 1
          let c := c.bump p F.VEC_CSUM_SKIP_COUNT row.skip
          let c := c.bump p F.VEC_CVT_REPLACED_COUNT row.replaced
          let c := c.bump p F.VEC_SLICE_LOST_COUNT row.lost
          let c := c.guardFails t row.row row.guard row.fails
          let c := if row.bad then (c.bump p F.VEC_POISON_OUT_COUNT).raise p 4 else c
          c.put64 p F.VEC_LFSR_STATE_LO_STATE_LO row.lfsr
        let b := match vdSumDst d % 2, sums with
          | 1, (_, m) :: _ => b.offerSummary t m
          | _, _ => b
        b.stepDone t 5 row.ser
      | none => b.setTile t { x with vec := { x.vec with rows := rest } }
    | _, _ => b

/-- SUMMARY_PUSH: a held summary enters the FIFO when an entry is free. `stall` counts the cycles the engine stopped (05 R126). -/
def execSummaryPush (t : TileId) (stall : Nat) (s : State) : Host.Outcome State Fault Refusal :=
  s.on fun b =>
    let x := b.tile t
    match b.live t, x.vec.held with
    | true, m :: rest =>
      let b := b.onCtl fun c => c.bump (vecPage t) F.VEC_STALL_SUM_CYCLES stall
      if 16 ≤ x.vec.fifo.length then b
      else (b.setTile t { x with vec := { x.vec with held := rest } }).pushSummary t m
    | _, _ => b

end Sys2Proof.Machine
end

