-- ==== Sys2Proof/Machine/Dispatch.lean ====
section
/-!
DEFINITION. One arm per command: a direct call of its meaning.
-/
namespace Sys2Proof.Machine

/-- The effect of a command on everything but the queue. -/
def exec (i : Instr) (s : State) : Host.Outcome State Fault Refusal :=
  match i with
  | .registerWrite fn addr be w more => Sys2Proof.Machine.execRegisterWrite fn addr be w more s
  | .pairLowRead fn addr n => Sys2Proof.Machine.execPairLowRead fn addr n s
  | .lockPage fn page hold => Sys2Proof.Machine.execLockPage fn page hold s
  | .unlockPage fn page => Sys2Proof.Machine.execUnlockPage fn page s
  | .errCountClear fn page => Sys2Proof.Machine.execErrCountClear fn page s
  | .irqStatusWrite fn page w => Sys2Proof.Machine.execIrqStatusWrite fn page w s
  | .irqEnableWrite fn page w => Sys2Proof.Machine.execIrqEnableWrite fn page w s
  | .perfCntClear fn t => Sys2Proof.Machine.execPerfCntClear fn t s
  | .rectWrite fn st w => Sys2Proof.Machine.execRectWrite fn st w s
  | .portMaskWrite fn st w => Sys2Proof.Machine.execPortMaskWrite fn st w s
  | .stageLoad fn st => Sys2Proof.Machine.execStageLoad fn st s
  | .stageStart fn st => Sys2Proof.Machine.execStageStart fn st s
  | .stageWrap fn st => Sys2Proof.Machine.execStageWrap fn st s
  | .stageReset fn st => Sys2Proof.Machine.execStageReset fn st s
  | .wrapDrainComplete st => Sys2Proof.Machine.execWrapDrainComplete st s
  | .wrapTimeoutExpire st => Sys2Proof.Machine.execWrapTimeoutExpire st s
  | .stageRestartComplete st => Sys2Proof.Machine.execStageRestartComplete st s
  | .matrixInstruction t e => Sys2Proof.Machine.execMatrixInstruction t e s
  | .arrayRowEnter t stallW stallA stallC => Sys2Proof.Machine.execArrayRowEnter t stallW stallA stallC s
  | .accRowWrite t => Sys2Proof.Machine.execAccRowWrite t s
  | .weightLoaderDescriptor t e => Sys2Proof.Machine.execWeightLoaderDescriptor t e s
  | .weightBufferFree t => Sys2Proof.Machine.execWeightBufferFree t s
  | .weightBlockUsable t e => Sys2Proof.Machine.execWeightBlockUsable t e s
  | .feederRowRequest t f scale => Sys2Proof.Machine.execFeederRowRequest t f scale s
  | .feederDescriptorCross t f e => Sys2Proof.Machine.execFeederDescriptorCross t f e s
  | .arrCntClear fn t => Sys2Proof.Machine.execArrCntClear fn t s
  | .sparseCtrlClear fn t en => Sys2Proof.Machine.execSparseCtrlClear fn t en s
  | .vectorDescriptor t e => Sys2Proof.Machine.execVectorDescriptor t e s
  | .vectorRow t late stallIn e => Sys2Proof.Machine.execVectorRow t late stallIn e s
  | .vectorRowComplete t stallOut e => Sys2Proof.Machine.execVectorRowComplete t stallOut e s
  | .summaryPush t stall => Sys2Proof.Machine.execSummaryPush t stall s
  | .lfsrSeedWrite fn t lo hi => Sys2Proof.Machine.execLfsrSeedWrite fn t lo hi s
  | .vecCntClear fn t => Sys2Proof.Machine.execVecCntClear fn t s
  | .scratchpadGrant t others => Sys2Proof.Machine.execScratchpadGrant t others s
  | .requestPromote t => Sys2Proof.Machine.execRequestPromote t s
  | .readDataReturn t e => Sys2Proof.Machine.execReadDataReturn t e s
  | .mergeWriteGrant t e => Sys2Proof.Machine.execMergeWriteGrant t e s
  | .eccWriteback t => Sys2Proof.Machine.execEccWriteback t s
  | .scrubRead t => Sys2Proof.Machine.execScrubRead t s
  | .spdInitComplete t => Sys2Proof.Machine.execSpdInitComplete t s
  | .remoteAccessServe ix => Sys2Proof.Machine.execRemoteAccessServe ix s
  | .readReply ix => Sys2Proof.Machine.execReadReply ix s
  | .spdIndRead fn t => Sys2Proof.Machine.execSpdIndRead fn t s
  | .spdIndWrite fn t => Sys2Proof.Machine.execSpdIndWrite fn t s
  | .spdIndDone t => Sys2Proof.Machine.execSpdIndDone t s
  | .spdCntClear fn t => Sys2Proof.Machine.execSpdCntClear fn t s
  | .descriptorPrefetch t u e => Sys2Proof.Machine.execDescriptorPrefetch t u e s
  | .shotStart t k rs1 e => Sys2Proof.Machine.execShotStart t k rs1 e s
  | .seqShotStart fn t row e => Sys2Proof.Machine.execSeqShotStart fn t row e s
  | .pendingShotStart t e => Sys2Proof.Machine.execPendingShotStart t e s
  | .shotComplete t => Sys2Proof.Machine.execShotComplete t s
  | .chCfgWrite fn t n w => Sys2Proof.Machine.execChCfgWrite fn t n w s
  | .seqCntClear fn t => Sys2Proof.Machine.execSeqCntClear fn t s
  | .coreLoadStore t k op r base imm e => Sys2Proof.Machine.execCoreLoadStore t k op r base imm e s
  | .fenceI t k => Sys2Proof.Machine.execFenceI t k s
  | .slAdd t k rs1 rs2 => Sys2Proof.Machine.execSlAdd t k rs1 rs2 s
  | .slWait t k rs1 => Sys2Proof.Machine.execSlWait t k rs1 s
  | .slRead t k rd rs1 => Sys2Proof.Machine.execSlRead t k rd rs1 s
  | .slSig t k rs1 rs2 => Sys2Proof.Machine.execSlSig t k rs1 rs2 s
  | .sumTake t k rd => Sys2Proof.Machine.execSumTake t k rd s
  | .predSet t k rs1 rs2 => Sys2Proof.Machine.execPredSet t k rs1 rs2 s
  | .slArm t k rs1 rs2 => Sys2Proof.Machine.execSlArm t k rs1 rs2 s
  | .slPoll t k rd rs1 => Sys2Proof.Machine.execSlPoll t k rd rs1 s
  | .sumFlags t k rd => Sys2Proof.Machine.execSumFlags t k rd s
  | .predClr t k rs1 => Sys2Proof.Machine.execPredClr t k rs1 s
  | .slateWaitRelease r => Sys2Proof.Machine.execSlateWaitRelease r s
  | .slateRearm r => Sys2Proof.Machine.execSlateRearm r s
  | .slateAddWrite fn t n w => Sys2Proof.Machine.execSlateAddWrite fn t n w s
  | .slateCountWrite fn r w => Sys2Proof.Machine.execSlateCountWrite fn r w s
  | .slateThreshWrite fn r w => Sys2Proof.Machine.execSlateThreshWrite fn r w s
  | .slateAddMessage ix => Sys2Proof.Machine.execSlateAddMessage ix s
  | .predicateToken ix => Sys2Proof.Machine.execPredicateToken ix s
  | .rimSlateBroadcast ix => Sys2Proof.Machine.execRimSlateBroadcast ix s
  | .callSheetControl ix => Sys2Proof.Machine.execCallSheetControl ix s
  | .moverDescriptor t e => Sys2Proof.Machine.execMoverDescriptor t e s
  | .moverTransferSend t track credit e => Sys2Proof.Machine.execMoverTransferSend t track credit e s
  | .creditRequest ix => Sys2Proof.Machine.execCreditRequest ix s
  | .creditGrant ix => Sys2Proof.Machine.execCreditGrant ix s
  | .transferArrive ix => Sys2Proof.Machine.execTransferArrive ix s
  | .receiverDescriptor t e => Sys2Proof.Machine.execReceiverDescriptor t e s
  | .receiverWrite t e => Sys2Proof.Machine.execReceiverWrite t e s
  | .transferAck ix => Sys2Proof.Machine.execTransferAck ix s
  | .stallProbe t => Sys2Proof.Machine.execStallProbe t s
  | .probeArrive ix => Sys2Proof.Machine.execProbeArrive ix s
  | .confirmQuery ix => Sys2Proof.Machine.execConfirmQuery ix s
  | .confirmAnswer ix => Sys2Proof.Machine.execConfirmAnswer ix s
  | .confirmTimeout st => Sys2Proof.Machine.execConfirmTimeout st s
  | .probeNoCycle t => Sys2Proof.Machine.execProbeNoCycle t s
  | .spillRecordWrite t => Sys2Proof.Machine.execSpillRecordWrite t s
  | .outtakesRefill t e => Sys2Proof.Machine.execOuttakesRefill t e s
  | .scoutList ix => Sys2Proof.Machine.execScoutList ix s
  | .fetchStart ix => Sys2Proof.Machine.execFetchStart ix s
  | .fetchPassStart p e => Sys2Proof.Machine.execFetchPassStart p e s
  | .fetchCmdGo fn t len16M1 e => Sys2Proof.Machine.execFetchCmdGo fn t len16M1 e s
  | .scoutClear fn st => Sys2Proof.Machine.execScoutClear fn st s
  | .gatherDescriptor t e => Sys2Proof.Machine.execGatherDescriptor t e s
  | .gatherBag t e => Sys2Proof.Machine.execGatherBag t e s
  | .gatherRemoteRequest t n k => Sys2Proof.Machine.execGatherRemoteRequest t n k s
  | .gatherRowArrive k e => Sys2Proof.Machine.execGatherRowArrive k e s
  | .gatherBagComplete t e => Sys2Proof.Machine.execGatherBagComplete t e s
  | .hitCacheInvalidate fn t => Sys2Proof.Machine.execHitCacheInvalidate fn t s
  | .hcCfgWrite fn t w => Sys2Proof.Machine.execHcCfgWrite fn t w s
  | .gathCntClear fn t => Sys2Proof.Machine.execGathCntClear fn t s
  | .packetRoute ix hdr corr bad => Sys2Proof.Machine.execPacketRoute ix hdr corr bad s
  | .rimPacketAccept ix => Sys2Proof.Machine.execRimPacketAccept ix s
  | .mixFlitArrive k lo hi => Sys2Proof.Machine.execMixFlitArrive k lo hi s
  | .mixSlotFire t p => Sys2Proof.Machine.execMixSlotFire t p s
  | .mixCreditReturn t out => Sys2Proof.Machine.execMixCreditReturn t out s
  | .mixAck => Sys2Proof.Machine.execMixAck s
  | .mixScheduleStop t => Sys2Proof.Machine.execMixScheduleStop t s
  | .tc0LimitRelease t expired => Sys2Proof.Machine.execTc0LimitRelease t expired s
  | .rtrCntClear fn t => Sys2Proof.Machine.execRtrCntClear fn t s
  | .hbmReadRequest ix e stack => Sys2Proof.Machine.execHbmReadRequest ix e stack s
  | .hbmWriteRequest ix e => Sys2Proof.Machine.execHbmWriteRequest ix e s
  | .hbmAddRequest ix e => Sys2Proof.Machine.execHbmAddRequest ix e s
  | .hbmPatrolScrub h e stack => Sys2Proof.Machine.execHbmPatrolScrub h e stack s
  | .hbmZeroFillComplete h ok => Sys2Proof.Machine.execHbmZeroFillComplete h ok s
  | .hbmWarmReady h => Sys2Proof.Machine.execHbmWarmReady h s
  | .hbmCntClear fn h => Sys2Proof.Machine.execHbmCntClear fn h s
  | .poisonConsumedClear fn st => Sys2Proof.Machine.execPoisonConsumedClear fn st s
  | .linkDown p => Sys2Proof.Machine.execLinkDown p s
  | .linkUp p => Sys2Proof.Machine.execLinkUp p s
  | .dataFrame p w k e => Sys2Proof.Machine.execDataFrame p w k e s
  | .ackFrame p f k halve gap e => Sys2Proof.Machine.execAckFrame p f k halve gap e s
  | .nakFrame p w k => Sys2Proof.Machine.execNakFrame p w k s
  | .rtsFrame p w k e => Sys2Proof.Machine.execRtsFrame p w k e s
  | .grantFrame p w k => Sys2Proof.Machine.execGrantFrame p w k s
  | .wreadFrame p w k e => Sys2Proof.Machine.execWreadFrame p w k e s
  | .rrespFrame p w k e => Sys2Proof.Machine.execRrespFrame p w k e s
  | .wwriteFrame p w k e => Sys2Proof.Machine.execWwriteFrame p w k e s
  | .waddFrame p w k e => Sys2Proof.Machine.execWaddFrame p w k e s
  | .markFrame p w k e => Sys2Proof.Machine.execMarkFrame p w k e s
  | .openFrame p w k => Sys2Proof.Machine.execOpenFrame p w k s
  | .openAckFrame p w k => Sys2Proof.Machine.execOpenAckFrame p w k s
  | .mgmtFrame p w k => Sys2Proof.Machine.execMgmtFrame p w k s
  | .addressRequest p w k => Sys2Proof.Machine.execAddressRequest p w k s
  | .otherFrame p w k => Sys2Proof.Machine.execOtherFrame p w k s
  | .sendRequest k => Sys2Proof.Machine.execSendRequest k s
  | .wreadRequest k => Sys2Proof.Machine.execWreadRequest k s
  | .wwriteRequest k => Sys2Proof.Machine.execWwriteRequest k s
  | .waddRequest k => Sys2Proof.Machine.execWaddRequest k s
  | .markRequest k => Sys2Proof.Machine.execMarkRequest k s
  | .frameSend n e => Sys2Proof.Machine.execFrameSend n e s
  | .ackTimer n => Sys2Proof.Machine.execAckTimer n s
  | .retxTimeout n e => Sys2Proof.Machine.execRetxTimeout n e s
  | .rnrBackoffExpire n => Sys2Proof.Machine.execRnrBackoffExpire n s
  | .openResend n => Sys2Proof.Machine.execOpenResend n s
  | .ringGrant r e => Sys2Proof.Machine.execRingGrant r e s
  | .grantTimer n => Sys2Proof.Machine.execGrantTimer n s
  | .ucfgRead fn st => Sys2Proof.Machine.execUcfgRead fn st s
  | .ucfgWrite fn st => Sys2Proof.Machine.execUcfgWrite fn st s
  | .contextOpen fn st => Sys2Proof.Machine.execContextOpen fn st s
  | .contextClose fn st => Sys2Proof.Machine.execContextClose fn st s
  | .ucfgCmdComplete st => Sys2Proof.Machine.execUcfgCmdComplete st s
  | .mirrorEnable fn st w => Sys2Proof.Machine.execMirrorEnable fn st w s
  | .mirrorGranuleSend st => Sys2Proof.Machine.execMirrorGranuleSend st s
  | .mirrorMark fn st w => Sys2Proof.Machine.execMirrorMark fn st w s
  | .uamClear fn st => Sys2Proof.Machine.execUamClear fn st s
  | .portCntClear fn p => Sys2Proof.Machine.execPortCntClear fn p s
  | .bar2Read fn off len e => Sys2Proof.Machine.execBar2Read fn off len e s
  | .bar2Write fn off data ep e => Sys2Proof.Machine.execBar2Write fn off data ep e s
  | .hostReadRequest ix bme mrrs => Sys2Proof.Machine.execHostReadRequest ix bme mrrs s
  | .hostWriteRequest ix bme mps => Sys2Proof.Machine.execHostWriteRequest ix bme mps s
  | .hostCompletion id off ok ep bytes => Sys2Proof.Machine.execHostCompletion id off ok ep bytes s
  | .hostCompletionTimeout id => Sys2Proof.Machine.execHostCompletionTimeout id s
  | .vfFlr st => Sys2Proof.Machine.execVfFlr st s
  | .pfFlr => Sys2Proof.Machine.execPfFlr s
  | .hotReset => Sys2Proof.Machine.execHotReset s
  | .pcieLinkDown => Sys2Proof.Machine.execPcieLinkDown s
  | .perstNAssert => Sys2Proof.Machine.execPerstNAssert s
  | .vfEnable en n => Sys2Proof.Machine.execVfEnable en n s
  | .pcieCntClear fn => Sys2Proof.Machine.execPcieCntClear fn s
  | .bar2ErrClear fn st => Sys2Proof.Machine.execBar2ErrClear fn st s
  | .dmaErrClear fn st => Sys2Proof.Machine.execDmaErrClear fn st s
  | .smbIdent r => Sys2Proof.Machine.execSmbIdent r s
  | .smbStatus r => Sys2Proof.Machine.execSmbStatus r s
  | .smbFaultCode r => Sys2Proof.Machine.execSmbFaultCode r s
  | .smbTemp r => Sys2Proof.Machine.execSmbTemp r s
  | .smbPower r => Sys2Proof.Machine.execSmbPower r s
  | .smbEnergy r => Sys2Proof.Machine.execSmbEnergy r s
  | .smbTodSet w => Sys2Proof.Machine.execSmbTodSet w s
  | .smbTodGet r => Sys2Proof.Machine.execSmbTodGet r s
  | .smbCapSet w => Sys2Proof.Machine.execSmbCapSet w s
  | .smbDigest r => Sys2Proof.Machine.execSmbDigest r s
  | .smbLogNext r ack => Sys2Proof.Machine.execSmbLogNext r ack s
  | .smbSclTimeout => Sys2Proof.Machine.execSmbSclTimeout s
  | .uartRxByte v stop => Sys2Proof.Machine.execUartRxByte v stop s
  | .jtagInstruction ix => Sys2Proof.Machine.execJtagInstruction ix s
  | .jtagTrst => Sys2Proof.Machine.execJtagTrst s
  | .spiTimeout reading => Sys2Proof.Machine.execSpiTimeout reading s
  | .powerTick est bursts frames cls steps falls => Sys2Proof.Machine.execPowerTick est bursts frames cls steps falls s
  | .calibrationTick => Sys2Proof.Machine.execCalibrationTick s
  | .telemetryReading n ok mv ma => Sys2Proof.Machine.execTelemetryReading n ok mv ma s
  | .telemetryTimeout n => Sys2Proof.Machine.execTelemetryTimeout n s
  | .cuePush fn => Sys2Proof.Machine.execCuePush fn s
  | .cueFlush fn => Sys2Proof.Machine.execCueFlush fn s
  | .cueApply => Sys2Proof.Machine.execCueApply s
  | .safeCapTimeout => Sys2Proof.Machine.execSafeCapTimeout s
  | .ballastWrite fn w => Sys2Proof.Machine.execBallastWrite fn w s
  | .trackWindowEnd => Sys2Proof.Machine.execTrackWindowEnd s
  | .railNoticeWriteDone r => Sys2Proof.Machine.execRailNoticeWriteDone r s
  | .railNoticeRetry r => Sys2Proof.Machine.execRailNoticeRetry r s
  | .loadStepRelease r => Sys2Proof.Machine.execLoadStepRelease r s
  | .rnDeassert r => Sys2Proof.Machine.execRnDeassert r s
  | .energySnapshot fn => Sys2Proof.Machine.execEnergySnapshot fn s
  | .windowArm fn => Sys2Proof.Machine.execWindowArm fn s
  | .windowEdge => Sys2Proof.Machine.execWindowEdge s
  | .sensorRead readings => Sys2Proof.Machine.execSensorRead readings s
  | .throttleStep sc => Sys2Proof.Machine.execThrottleStep sc s
  | .boardAlert => Sys2Proof.Machine.execBoardAlert s
  | .pwrCntClear fn => Sys2Proof.Machine.execPwrCntClear fn s
  | .cueCntClear fn => Sys2Proof.Machine.execCueCntClear fn s
  | .freqReqWrite fn c w => Sys2Proof.Machine.execFreqReqWrite fn c w s
  | .freqChange sc steps => Sys2Proof.Machine.execFreqChange sc steps s
  | .voltageSettled sc => Sys2Proof.Machine.execVoltageSettled sc s
  | .freqStopBegin sc => Sys2Proof.Machine.execFreqStopBegin sc s
  | .freqRestart sc ns => Sys2Proof.Machine.execFreqRestart sc ns s
  | .freqChangeAbandon sc => Sys2Proof.Machine.execFreqChangeAbandon sc s
  | .marginWarning cl m => Sys2Proof.Machine.execMarginWarning cl m s
  | .stretchReturn cl cycles => Sys2Proof.Machine.execStretchReturn cl cycles s
  | .standinSample cl slack => Sys2Proof.Machine.execStandinSample cl slack s
  | .ageingReplan => Sys2Proof.Machine.execAgeingReplan s
  | .syncTickSend => Sys2Proof.Machine.execSyncTickSend s
  | .syncTick ix => Sys2Proof.Machine.execSyncTick ix s
  | .ptpSync p domain master seq corr logInt t1 fine => Sys2Proof.Machine.execPtpSync p domain master seq corr logInt t1 fine s
  | .ptpFollowUp p domain master seq corr t1 fine => Sys2Proof.Machine.execPtpFollowUp p domain master seq corr t1 fine s
  | .ptpDelayResp p domain master seq corr t4 => Sys2Proof.Machine.execPtpDelayResp p domain master seq corr t4 s
  | .ptpAnnounce p domain master best => Sys2Proof.Machine.execPtpAnnounce p domain master best s
  | .delayReqSend => Sys2Proof.Machine.execDelayReqSend s
  | .ptpLoss => Sys2Proof.Machine.execPtpLoss s
  | .ptpQualify => Sys2Proof.Machine.execPtpQualify s
  | .ppsEdge fine => Sys2Proof.Machine.execPpsEdge fine s
  | .ppsLoss => Sys2Proof.Machine.execPpsLoss s
  | .slewEnd => Sys2Proof.Machine.execSlewEnd s
  | .refclkLoss => Sys2Proof.Machine.execRefclkLoss s
  | .refclkReturn => Sys2Proof.Machine.execRefclkReturn s
  | .timeCntClear fn p => Sys2Proof.Machine.execTimeCntClear fn p s
  | .powerOn => Sys2Proof.Machine.execPowerOn s
  | .pwrOkRise strap failed => Sys2Proof.Machine.execPwrOkRise strap failed s
  | .pwrOkLoss => Sys2Proof.Machine.execPwrOkLoss s
  | .resetNAssert => Sys2Proof.Machine.execResetNAssert s
  | .resetNRelease failed => Sys2Proof.Machine.execResetNRelease failed s
  | .softwareFullReset fn => Sys2Proof.Machine.execSoftwareFullReset fn s
  | .warmReset fn => Sys2Proof.Machine.execWarmReset fn s
  | .warmResetRelease => Sys2Proof.Machine.execWarmResetRelease s
  | .vbClear fn => Sys2Proof.Machine.execVbClear fn s
  | .railGroupEnable => Sys2Proof.Machine.execRailGroupEnable s
  | .vrPgRise n => Sys2Proof.Machine.execVrPgRise n s
  | .vrPgTimeout n => Sys2Proof.Machine.execVrPgTimeout n s
  | .railRetry which => Sys2Proof.Machine.execRailRetry which s
  | .powerGoodLoss n => Sys2Proof.Machine.execPowerGoodLoss n s
  | .railRelease => Sys2Proof.Machine.execRailRelease s
  | .imageVerify sfdp ok ver logOk spiOk => Sys2Proof.Machine.execImageVerify sfdp ok ver logOk spiOk s
  | .oscillatorLockTimeout cl => Sys2Proof.Machine.execOscillatorLockTimeout cl s
  | .atStartTestComplete failing => Sys2Proof.Machine.execAtStartTestComplete failing s
  | .residentCallSheet m n regs ms => Sys2Proof.Machine.execResidentCallSheet m n regs ms s
  | .mirynWatchdog => Sys2Proof.Machine.execMirynWatchdog s
  | .mirynReturn => Sys2Proof.Machine.execMirynReturn s
  | .tileResetAssert fn t => Sys2Proof.Machine.execTileResetAssert fn t s
  | .tileResetRelease fn t => Sys2Proof.Machine.execTileResetRelease fn t s
  | .vddmRetention => Sys2Proof.Machine.execVddmRetention s
  | .vddmRaiseDone => Sys2Proof.Machine.execVddmRaiseDone s
  | .callSheetRecord st e => Sys2Proof.Machine.execCallSheetRecord st e s
  | .keepWrite fn w => Sys2Proof.Machine.execKeepWrite fn w s
  | .keepPersist => Sys2Proof.Machine.execKeepPersist s
  | .recoveryStart fn len4 => Sys2Proof.Machine.execRecoveryStart fn len4 s
  | .recoveryData fn w => Sys2Proof.Machine.execRecoveryData fn w s
  | .recoveryVerify ok => Sys2Proof.Machine.execRecoveryVerify ok s
  | .stepMark fn st => Sys2Proof.Machine.execStepMark fn st s
  | .stepTimeout st => Sys2Proof.Machine.execStepTimeout st s
  | .suspectQueueTake => Sys2Proof.Machine.execSuspectQueueTake s
  | .kasRun t => Sys2Proof.Machine.execKasRun t s
  | .kasComplete t match_ => Sys2Proof.Machine.execKasComplete t match_ s
  | .flagsClr fn m => Sys2Proof.Machine.execFlagsClr fn m s
  | .testGo fn w => Sys2Proof.Machine.execTestGo fn w s
  | .testAbort fn w => Sys2Proof.Machine.execTestAbort fn w s
  | .testComplete pass count => Sys2Proof.Machine.execTestComplete pass count s
  | .stressCornerEnd map hot => Sys2Proof.Machine.execStressCornerEnd map hot s
  | .rasCntClear fn => Sys2Proof.Machine.execRasCntClear fn s
  | .logCoalesceFlush ok => Sys2Proof.Machine.execLogCoalesceFlush ok s
  | .logCntClear fn => Sys2Proof.Machine.execLogCntClear fn s
  | .dailySnapshot => Sys2Proof.Machine.execDailySnapshot s
  | .cveGo fn n => Sys2Proof.Machine.execCveGo fn n s
  | .cveAbort fn n => Sys2Proof.Machine.execCveAbort fn n s
  | .cveJobComplete n spi e => Sys2Proof.Machine.execCveJobComplete n spi e s
  | .digestCompute fw img mixed => Sys2Proof.Machine.execDigestCompute fw img mixed s
  | .secGo fn => Sys2Proof.Machine.execSecGo fn s
  | .secVerifyDone valid => Sys2Proof.Machine.execSecVerifyDone valid s
  | .faultNFrame => Sys2Proof.Machine.execFaultNFrame s
  | .boardAlertRelease => Sys2Proof.Machine.execBoardAlertRelease s
  | .perstNDeassert => Sys2Proof.Machine.execPerstNDeassert s
  | .pcieLinkUp speed width flit => Sys2Proof.Machine.execPcieLinkUp speed width flit s
  | .vddAonLoss => Sys2Proof.Machine.execVddAonLoss s
  | .vbakLoss => Sys2Proof.Machine.execVbakLoss s
  | .msiXEnable fn en masked table => Sys2Proof.Machine.execMsiXEnable fn en masked table s
  | .oscillatorsLocked refclk seam untrained => Sys2Proof.Machine.execOscillatorsLocked refclk seam untrained s

end Sys2Proof.Machine
end

