-- ==== Sys2Proof/Machine/Tick.lean ====
section
/-!
DEFINITION. A microsecond in which no command comes: the step of an empty queue (log 2). Reel time advances, the profile counters of cycles
and stage cycle counters count, the dailies' seconds pass, Miryn serves its console and watches a test's condition (02 R54, R55, 13 R353, 15 R400, R401, 17 R454, R460).
-/
namespace Sys2Proof.Machine

/-- A microsecond of reel time, at the nominal rate times 1 + ADJ + SLEW (15 R401). -/
def Ctl.tickReel (c : Ctl) : Ctl :=
  let v := c.time.frac + (1000000000 + c.time.adj + c.time.slew).toNat
  { c with reel := (c.reel + v / 1000000) % 2 ^ 64, time := { c.time with frac := v % 1000000, mono := c.time.mono + 1000 } }

/-- The arrays of a tile are idle with a descriptor at the head of their queue (02 R55, code 0x03). -/
def Tile.arraysWait (x : Tile) : Bool := x.fly.isEmpty && x.part.isNone && ((x.queue 4).cur.isSome || !(x.queue 4).hdrs.isEmpty)

/-- Of `f` tile cycles, how many a stage's issue gate closes: 256 - G of every 256, spread evenly (14 R363; 02 R55, code 0x0D). -/
def Ctl.gateClosed (c : Ctl) (t f : Nat) : Nat :=
  match c.tileStage t with
  | some s => f * (256 - c.get (stagePage s) F.STAGE_GATE_G) / 256
  | none => 0

/-- The profile counters of a good tile in `f` tile cycles: CYCLES, and the events that are cycles of a condition that holds (02 R54, R55). -/
def Ctl.tickTile (c : Ctl) (x : Tile) (t f : Nat) : Ctl :=
  if !c.tileGood t || c.flag (perfPage t) F.PERF_CTRL_FREEZE then c
  else
    let c := c.add64 (perfPage t) F.PERF_CYCLES_LO_CYCLES_LO f
    let c := if !isSTile t && x.arraysWait then c.perf t 0x03 f else c
    let c := c.perf t 0x0D (c.gateClosed t f)
    if x.queues.any (·.halted) then c.perf t 0x12 f else c

/-- The profile counters of a cluster's tiles in a microsecond (02 R54). -/
def Ctl.tickCluster (tile : Nat → Tile) (c : Ctl) (cl : Nat) : Ctl :=
  let f := c.get (freqPage cl) F.FREQ_CUR_MHZ
  if f = 0 ∨ c.clockStopped cl then c else (clusterTiles cl).foldl (fun c t => c.tickTile (tile t) t f) c

/-- The cycle counter of a stage that runs (15 R391). -/
def Ctl.tickStage (c : Ctl) (s : Nat) : Ctl :=
  if c.valid s && c.stState s == 2 && !c.clockStopped ((c.stageClusters s).headD 0) then
    { c with clk := { c.clk with cycle := SMap.set 0 c.clk.cycle s ((SMap.get 0 c.clk.cycle s + c.scopeMhz s) % 2 ^ 32) } }
  else c

/-- The item of the dailies for a hottest sensor in sixteenths of a degree (17 R460). -/
def heatItem (t : Nat) : Nat :=
  10 + ([60, 70, 80, 90, 95, 100, 105].filter fun d => decide (d * 16 ≤ t)).length

/-- The mean voltage of the clusters' rails, in mV. -/
def Ctl.meanMv (c : Ctl) : Nat :=
  let l := (List.range 24).filter fun cl => !c.fenced.contains cl
  (l.foldl (fun v cl => v + c.get (voltPage cl) F.VOLT_STATUS_V_MV) 0) / max 1 l.length

/-- A microsecond of operation; each second counts in the dailies (17 R460). -/
def Ctl.tickDaily (c : Ctl) : Ctl :=
  if !c.ready then c
  else if c.daily.us + 1 < 1000000 then { c with daily := { c.daily with us := c.daily.us + 1 } }
  else
    let c := { c with daily := { c.daily with us := 0 } }
    ((c.dailyAdd 0 1).dailyAdd (heatItem (c.get thermPage F.THERM_HOT_C16)) 1).dailyAdd (18 + min 7 ((c.meanMv - 600) / 25)) 1

/-- Miryn while it runs takes bytes of the console's input and writes console text; how many, and which, is not stated (13 R353). -/
def Ctl.console (c : Ctl) : Ctl :=
  if !c.mirynUp then c
  else
    let (v, c) := c.choose
    { c with
      mgmt := { c.mgmt with uart := c.mgmt.uart.drop (v % 257) }
      out := c.out ++ if v / 257 % 2 = 1 then [.console (BitVec.ofNat 8 (v / 514))] else [] }

/-- A microsecond passes, while the always-on supply is up; a test whose condition no longer holds ends (17 R454). -/
def Blk.tick (b : Blk) : Blk :=
  if !b.ctl.boot.aon then b
  else b.testWatch.onCtl fun c =>
    let c := (List.range 24).foldl (Ctl.tickCluster b.tile) c.tickReel.takeSnap
    ((List.range 12).foldl Ctl.tickStage c).tickDaily.console

/-- What the block does when no command waits. -/
def idle (s : State) : Host.Outcome State Fault Refusal := s.on Blk.tick

end Sys2Proof.Machine
end

