-- ==== Sys2Proof/Safety.lean ====
section
/-!
DEFINITION. What the statements about the block speak of: a command that completes, what it leaves as it was, a run that goes on, and when
a function of the host reaches a page.
-/
namespace Sys2Proof.Machine

/-- Command `i` at `s` completes with block `b`; the queue stays as it is. -/
def Runs (i : Instr) (s : State) (b : Blk) : Prop := exec i s = .next { s with blk := b }

/-- A step is safe: it goes on to a next state. -/
def Safe (s : State) : Prop := ∃ t, step s = .next t

/-- Tiles and HBM as they were: nothing but the control plane may differ. -/
def SameStore (a b : Blk) : Prop := b.tiles = a.tiles ∧ b.hbm = a.hbm

/-- Every tile but `t`, and HBM, as they were. -/
def SameOthers (a b : Blk) (t : Nat) : Prop := (∀ u, u ≠ t → b.tile u = a.tile u) ∧ b.hbm = a.hbm

/-- The control plane with another register file. -/
def Ctl.withRegs (c : Ctl) (r : SMap Word) : Ctl := { c with regs := r }

/-- Nothing differs but registers, and no register but those listed. -/
def OnlyRegs (a b : Blk) (l : List Nat) : Prop :=
  b = a.onCtl (fun c => c.withRegs b.ctl.regs) ∧ ∀ r, r ∉ l → b.ctl.rd r = a.ctl.rd r

/-- Nothing differs but registers, of which only those listed, and what the page at `base` latched or held for a pair (02 R36). -/
def OnlyRegsOf (a b : Blk) (base : Nat) (l : List Nat) : Prop :=
  OnlyRegs (a.onCtl fun c => c.unpair base) b l

/-- Nothing of the control plane differs but registers, what leaves the device, what waits to leave and the event log. -/
def Ctl.Quiet (c d : Ctl) : Prop := ∃ r o h l, d = { c with regs := r, out := o, host := h, log := l }

/-- The registers that counting an error against the page at `p` may change: the page's IRQ_STATUS, ERR_COUNT and ERR_FIRST, DEV.ERR_ADDR,
and the LOG page's counters of entries lost (02 R43, 17 R458, R459). -/
def errRegs (p : Nat) : List Nat := [p + 0x18, p + 0x20, p + 0x24, devPage + 0x50, logPage + 0x68, logPage + 0x6C]

/-- The addresses of a page's registers from offset `r.1` to `r.2`. -/
def regsIn (base : Nat) (r : Nat × Nat) : List Nat := (List.range ((r.2 - r.1) / 4 + 1)).map fun i => base + r.1 + 4 * i

/-- The addresses of the registers of several ranges of a page. -/
def regsAll (base : Nat) (l : List (Nat × Nat)) : List Nat := l.flatMap (regsIn base)

/-- A function of the host reaches the page at `base` (02 R34, R38, 16 R424): the device is READY, a tile block's tile is not disabled, and
a virtual function is there and its stage holds the page. -/
def Ctl.reaches (c : Ctl) (fn : Fn) (base : Nat) : Prop :=
  c.ready = true ∧ (∀ t, addrTile base = some t → c.tileGood t = true) ∧
    match fn with
    | .pf => True
    | .vf s => c.fnExists (s.val + 1) = true ∧ c.pageStage base = some s.val

/-- The page at `base` is not locked (02 R47). -/
def Ctl.unlocked (c : Ctl) (base : Nat) : Prop := bit (c.rd (base + 0x28)) 0 = false

/-- Command `i` sets the registers of the listed ranges of the page at `base` to 0, and changes nothing else. -/
def Clears (i : Instr) (s : State) (base : Nat) (l : List (Nat × Nat)) : Prop :=
  ∃ b, Runs i s b ∧ OnlyRegsOf s.blk b base (regsAll base l) ∧ ∀ r ∈ regsAll base l, b.ctl.rd r = 0

/-- The arrays of M-tile `t` run: the tile is live, and they are not halted (03 R81). -/
def ArraysRun (s : State) (t : TileId) : Prop := isSTile t = false ∧ s.blk.live t = true ∧ s.blk.arrHalted t = false

/-- An instruction of core `k` of tile `t` completes with block `b`: the program counter stands past it, the core stalls in nothing,
register `rd` holds what `res` gives and the others what they held; nothing of another tile or of HBM differs (07 R181, R182). -/
def CoreDone (i : Instr) (s : State) (t : TileId) (k : Fin 2) (res : Option (Reg × Word)) (b : Blk) : Prop :=
  Runs i s b ∧ SameOthers s.blk b t ∧
    ((b.tile t).core k).pc = ((s.blk.tile t).core k).pc + 4 ∧ ((b.tile t).core k).stall = .none ∧
    ∀ r : Reg, ((b.tile t).core k).reg r = match res with
      | some (rd, v) => if r = rd ∧ r ≠ 0 then v else ((s.blk.tile t).core k).reg r
      | none => ((s.blk.tile t).core k).reg r

/-- The shape of a tile no command changes: nine queues, and 32 registers in each control core. -/
def Tile.Shaped (x : Tile) : Prop := x.queues.length = 9 ∧ x.core0.x.length = 32 ∧ x.core1.x.length = 32

/-- Slate `n` of tile `t` takes an increment `v` from `c` to `d` (07 R176, R178): COUNT grows modulo 2^32, and REACHED is set where the
comparison holds and never cleared. -/
def Ctl.SlateAdded (c d : Ctl) (t n v : Nat) : Prop :=
  d.getN (slatePage t) F.SLATE_COUNT_COUNT n = (c.getN (slatePage t) F.SLATE_COUNT_COUNT n + v) % 2 ^ 32 ∧
    (d.reached t n = true ↔ c.reached t n = true ∨
      slateMet ((c.getN (slatePage t) F.SLATE_COUNT_COUNT n + v) % 2 ^ 32) (c.getN (slatePage t) F.SLATE_THRESH_THRESH n) = true)

/-- Slate `n` of tile `t` is as after a write of COUNT or THRESH: REACHED says what the comparison says (07 R176). -/
def Ctl.SlateJudged (c : Ctl) (t n : Nat) : Prop :=
  (c.reached t n = true ↔
    slateMet (c.getN (slatePage t) F.SLATE_COUNT_COUNT n) (c.getN (slatePage t) F.SLATE_THRESH_THRESH n) = true)

/-- The shot with its header at 512-byte row `row` starts in tile `t` (07 R167): it runs, its predicates are valid with their values, and each
queue begins the list its descriptor of the header names. -/
def ShotBegun (a b : Blk) (t : Nat) (r : Run) : Prop :=
  (b.tile t).shotRun = true ∧
    b.ctl.get (seqPage t) F.SEQ_PRED_VALID = (r.slice 0 4).nat / 0x10000 % 256 ∧
    (∀ p < 8, ((r.slice 0 4).nat / 0x10000).testBit p = true →
      (b.ctl.get (seqPage t) F.SEQ_PRED_VALUE).testBit p = ((r.slice 0 4).nat / 0x100).testBit p) ∧
    (∀ u, 1 ≤ u → u ≤ 8 → ((b.tile t).queue u).base = (r.slice (16 * u) 4).nat % 0x10000 ∧
      ((b.tile t).queue u).count = (r.slice (16 * u) 4).nat / 0x10000 ∧ ((b.tile t).queue u).next = 0 ∧
      ((b.tile t).queue u).hdrs = []) ∧
    (b.tile t).sp.mem = (a.tile t).sp.mem

/-- A shot header that starts: it lies in the scratchpad, no word used of it is poisoned and no list fails its checks (07 R167). -/
def ShotOk (t row : Nat) (r : Run) : Prop :=
  row * 512 < spBytes t ∧ (∀ u < 9, (r.slice (16 * u) 4).anyBad = false) ∧ shotListFault t r 8 1 = none

/-- The bytes of the scratchpad of tile `t` that a shot header at `row` shows its sequencer. -/
def Blk.shotHeader (b : Blk) (t row : Nat) (e : List Ecc) : Run :=
  spView (b.tile t).sp.mem (b.ctl.flag (spdPage t) F.SPD_CTRL_COLD_POISON) (row * 512) 132 e

/-- Counter `f` of the page at `base` has counted one event, saturating. -/
def Ctl.Counts (c d : Ctl) (base : Nat) (f : Fld) : Prop := d.get base f = satAdd (fldTop f) (c.get base f) 1

/-- A queue took the descriptor `d` as its head, with `n` steps (07 R163). -/
def Took (b : Blk) (t u : Nat) (d : Desc) (n : Nat) : Prop := ((b.tile t).queue u).cur = some { d with steps := n }

/-- A queue halted with a SEQ code, which SEQ.HALT_INFO shows where it showed no halt before (07 R169). -/
def SeqHalted (a b : Blk) (t u code : Nat) : Prop :=
  ((b.tile t).queue u).halted = true ∧
    (a.ctl.flag (seqPage t) F.SEQ_HALT_INFO_VALID = false →
      b.ctl.rd (seqPage t + 0x54) = BitVec.ofNat 32 (0x80000000 + code * 0x10000 + u))

/-- A control message that tile `t` sends: it stands at the tile's own router. -/
def msgOf (t : Nat) (m : Msg) : Flight := ⟨.router t 0, .msg { m with src := t }⟩

/-- A packet that tile `t` sends, as it travels: it stands at the tile's own router (10 R242, R243). -/
def pktOf (t : Nat) (p : Pkt) : Flight := ⟨.router t 0, .pkt { p.framed with src := t }⟩

/-- No check finds an uncorrectable error. -/
def NoLoss (e : List Ecc) : Prop := ∀ x ∈ e, x ≠ .uncorr

/-- The bytes of record `r` of stage `st`'s outtakes ring, as a transfer (07 R186). -/
def Blk.recordXfer (b : Blk) (st : Nat) (r : OutRec) : Xfer :=
  xferOf r ((b.ctl.ringPieces st r.off r.len).foldl (fun (q : Run) (_, a) => q.append (b.stgRead st a 64 []).1) {})

/-- A reset of source `n` that reaches everything (16 R413, R436): nothing of the tiles or of HBM is left; the keep array stays; the source is
recorded and counted; every register but those of the backup domain, RST.STATUS and SEC.NONCE is at its reset value. -/
def FullReset (a b : Blk) (n : Nat) : Prop :=
  b.tiles = [] ∧ b.hbm = [] ∧ b.ctl.keep = a.ctl.keep ∧ b.ctl.ready = false ∧ b.ctl.boot.resetLow = true ∧ b.ctl.boot.running = .full ∧
    b.ctl.boot.cause = n ∧ b.ctl.get rstPage F.RST_LAST_CAUSE_CAUSE = n ∧
    b.ctl.getN rstPage F.RST_VB_COUNT_COUNT n = satAdd 0xFFFF (a.ctl.getN rstPage F.RST_VB_COUNT_COUNT n) 1 ∧
    b.ctl.flag rstPage F.RST_STATUS_VBAK_LOST = a.ctl.flag rstPage F.RST_STATUS_VBAK_LOST ∧
    ∀ r, ¬ (rstPage + 0x50 ≤ r ∧ r < rstPage + 0x70) → r ∉ [rstPage + 0x14, rstPage + 0x44, secPage + 0x44, secPage + 0x48] →
      b.ctl.rd r = rstOf r

/-- A warm reset (16 R413, R427): nothing of the tiles is left, nothing is on its way; every stage is IDLE, every context CLOSED, Miryn
restarts; the keep array stays, and HBM where no message was outstanding. -/
def WarmReset (a b : Blk) : Prop :=
  b.tiles = [] ∧ b.ctl.keep = a.ctl.keep ∧ b.ctl.ready = false ∧ b.ctl.mirynUp = false ∧ b.ctl.boot.running = .warm ∧ b.ctl.net = [] ∧
    b.ctl.uam.tx = [] ∧ b.ctl.get rstPage F.RST_LAST_CAUSE_CAUSE = 5 ∧
    b.ctl.getN rstPage F.RST_VB_COUNT_COUNT 5 = satAdd 0xFFFF (a.ctl.getN rstPage F.RST_VB_COUNT_COUNT 5) 1 ∧
    (∀ n, (b.ctl.ctx n).st = 0) ∧ (∀ st < 12, b.ctl.stState st = 0) ∧
    (a.ctl.uam.tx = [] → a.ctl.uam.rx = [] → a.ctl.uam.marks = [] → b.hbm = a.hbm)

/-- The memories are in canonical form: each tile's scratchpad and each HBM stack. -/
def Blk.MemWf (b : Blk) : Prop := (∀ t, (b.tile t).sp.mem.wf = true) ∧ ∀ h, (b.stack h).wf = true

/-- Every tile keeps its shape. -/
def Blk.Shaped (b : Blk) : Prop := ∀ t, (b.tile t).Shaped

/-- The commands whose effect is on the control plane alone: no tile and no HBM stack takes part. -/
def onlyControl : Instr → Bool
  | .wrapTimeoutExpire .. | .callSheetControl .. | .confirmTimeout .. | .scoutList .. | .fetchStart .. |
    .packetRoute .. | .rimPacketAccept .. | .hbmWarmReady .. | .linkDown .. | .linkUp .. | .mgmtFrame .. | .addressRequest .. |
    .otherFrame .. | .ackTimer .. | .rnrBackoffExpire .. | .openResend .. | .grantTimer .. | .ucfgCmdComplete .. | .hostReadRequest .. |
    .hostWriteRequest .. | .hostCompletion .. | .hostCompletionTimeout .. | .vfEnable .. | .smbIdent .. | .smbStatus .. |
    .smbFaultCode .. | .smbTemp .. | .smbPower .. | .smbEnergy .. | .smbTodSet .. | .smbTodGet .. | .smbCapSet .. | .smbDigest .. | .smbLogNext .. | .smbSclTimeout |
    .uartRxByte .. | .jtagInstruction .. | .jtagTrst | .spiTimeout .. | .powerTick .. | .calibrationTick | .telemetryReading .. |
    .telemetryTimeout .. | .cueApply | .safeCapTimeout | .trackWindowEnd | .railNoticeWriteDone .. | .railNoticeRetry .. |
    .rnDeassert .. | .windowEdge | .throttleStep .. | .boardAlert | .freqChange .. | .voltageSettled .. |
    .marginWarning .. | .stretchReturn .. | .standinSample .. | .ageingReplan | .syncTickSend | .ptpSync .. | .ptpFollowUp .. |
    .ptpDelayResp .. | .ptpAnnounce .. | .delayReqSend | .ptpLoss | .ptpQualify | .ppsEdge .. | .ppsLoss | .slewEnd | .refclkLoss |
    .refclkReturn | .pwrOkRise .. | .resetNRelease .. | .warmResetRelease | .railGroupEnable | .vrPgRise .. | .vrPgTimeout .. |
    .railRetry .. | .railRelease | .imageVerify .. | .oscillatorLockTimeout .. | .atStartTestComplete .. | .mirynWatchdog |
    .mirynReturn | .keepPersist | .stepTimeout .. | .suspectQueueTake | .stressCornerEnd .. | .logCoalesceFlush .. | .dailySnapshot |
    .secVerifyDone .. | .faultNFrame | .boardAlertRelease | .perstNDeassert | .pcieLinkUp .. | .vbakLoss | .msiXEnable .. |
    .oscillatorsLocked .. => true
  | _ => false

end Sys2Proof.Machine
end

