-- ==== Sys2Proof/Certificates/Slice0/Obligations.lean ====
section
/-!
DEFINITION. The statements for the provers: what the commands do, by the rules of the spec.
-/
open Sys2Proof Sys2Proof.Machine

/-- 02 R54, 03 R86, 05 R139, 06 R156, 07 R189, 09 R237, 10 R266: a write of 1 to the CNT_CLEAR of a page of a tile block sets the page's
counters to 0 and changes nothing else, by any function that reaches the page, locked or not. 08 R211, 11 R293, 12 R334, R337, 13 R348, 14
R384, R385, 15 R410, 17 R470, R471: the same of the rim, cluster and STAGE pages; those that Miryn serves, while it runs. -/
def Obligations.ClearRegistersZeroTheirCounters : Prop :=
  (∀ (s : State) (fn : Fn) (t : TileId),
    (s.blk.ctl.reaches fn (perfPage t) → Clears (.perfCntClear fn t) s (perfPage t) [(0x48, 0x4C), (0x60, 0x7C)]) ∧
    (s.blk.ctl.reaches fn (arrPage t) → isSTile t = false → Clears (.arrCntClear fn t) s (arrPage t) [(0x40, 0x5C)]) ∧
    (s.blk.ctl.reaches fn (vecPage t) → Clears (.vecCntClear fn t) s (vecPage t) [(0x5C, 0x5C), (0x64, 0x90)]) ∧
    (s.blk.ctl.reaches fn (spdPage t) → Clears (.spdCntClear fn t) s (spdPage t) [(0x84, 0x94)]) ∧
    (s.blk.ctl.reaches fn (seqPage t) → Clears (.seqCntClear fn t) s (seqPage t) [(0xE0, 0xF8)]) ∧
    (s.blk.ctl.reaches fn (gathPage t) → isSTile t = true → Clears (.gathCntClear fn t) s (gathPage t) [(0x150, 0x17C)]) ∧
    (s.blk.ctl.reaches fn (rtrPage t) → Clears (.rtrCntClear fn t) s (rtrPage t) [(0xA4, 0xBC)])) ∧
  (∀ (s : State) (fn : Fn),
    (∀ st : StageId, s.blk.ctl.reaches fn (stagePage st) →
      Clears (.scoutClear fn st) s (stagePage st) [(0xA0, 0xAC)] ∧ Clears (.uamClear fn st) s (stagePage st) [(0x180, 0x1A0)]) ∧
    (∀ h : StackId, s.blk.ctl.reaches fn (hbmPage h) → Clears (.hbmCntClear fn h) s (hbmPage h) [(0x44, 0x48), (0x50, 0x64)]) ∧
    (∀ p : PortId, s.blk.ctl.reaches fn (portPage p) → Clears (.portCntClear fn p) s (portPage p) [(0x80, 0xA8)]) ∧
    (s.blk.ctl.reaches fn pciePage → Clears (.pcieCntClear fn) s pciePage [(0x4C, 0x50)]) ∧
    (s.blk.ctl.reaches fn pwrPage → s.blk.ctl.mirynUp = true → Clears (.pwrCntClear fn) s pwrPage [(0x100, 0x118)]) ∧
    (s.blk.ctl.reaches fn cuePage → s.blk.ctl.mirynUp = true → Clears (.cueCntClear fn) s cuePage [(0x70, 0x80)]) ∧
    (s.blk.ctl.reaches fn timePage → Clears (.timeCntClear fn .time) s timePage [(0x60, 0x6C)]) ∧
    (∀ c : ClusterId, s.blk.ctl.reaches fn (freqPage c) → Clears (.timeCntClear fn (.freq c)) s (freqPage c) [(0x50, 0x54)]) ∧
    (∀ c : ClusterId, s.blk.ctl.reaches fn (stinPage c) → Clears (.timeCntClear fn (.stin c)) s (stinPage c) [(0x70, 0x7C)]) ∧
    (s.blk.ctl.reaches fn rasPage → Clears (.rasCntClear fn) s rasPage [(0x80, 0xA4)]) ∧
    (s.blk.ctl.reaches fn logPage → Clears (.logCntClear fn) s logPage [(0x68, 0x6C)]))

/-- 02 R43, R46: an error counted against a page raises ERR_COUNT.COUNT by one, loads ERR_FIRST where it is not valid (with DEV.ERR_ADDR for
the DEV page) and, at the first, sets IRQ cause 0; a saturated count drops the error whole; the rest of the control plane but the log and
what leaves the device stays. 02 R43, R46: a write of 1 to ERR_COUNT.CLEAR sets COUNT to 0 and clears ERR_FIRST, and DEV.ERR_ADDR where the
page is DEV; nothing else changes. -/
def Obligations.ErrorsAreCountedAndCleared : Prop :=
  (∀ (c : Ctl) (p code fn addr sev : Nat), p % 0x1000 = 0 →
    (bits (c.rd (p + 0x20)) 15 0 = 0xFFFF → c.errSev p code fn addr sev = c) ∧
    (bits (c.rd (p + 0x20)) 15 0 ≠ 0xFFFF →
      (c.errSev p code fn addr sev).rd (p + 0x20) = BitVec.ofNat 32 (bits (c.rd (p + 0x20)) 15 0 + 1) ∧
      (c.errSev p code fn addr sev).rd (p + 0x24) =
        (if bit (c.rd (p + 0x24)) 31 then c.rd (p + 0x24)
         else BitVec.ofNat 32 (0x80000000 + code * 0x10000 + fn * 0x1000 + addr % 0x1000)) ∧
      (bit (c.rd (p + 0x24)) 31 = false → p = devPage → (c.errSev p code fn addr sev).rd 0x50 = BitVec.ofNat 32 (addr % 2 ^ 28)) ∧
      (bit (c.rd (p + 0x24)) 31 = true ∨ p ≠ devPage → (c.errSev p code fn addr sev).rd 0x50 = c.rd 0x50) ∧
      (c.errSev p code fn addr sev).rd (p + 0x18) =
        (if bits (c.rd (p + 0x20)) 15 0 = 0 then c.rd (p + 0x18) ||| 1 else c.rd (p + 0x18))) ∧
    (∀ r, r ∉ errRegs p → (c.errSev p code fn addr sev).rd r = c.rd r) ∧ c.Quiet (c.errSev p code fn addr sev)) ∧
  (∀ (s : State) (fn : Fn) (page : Addr) (k : PageKind) (i : Nat),
    place (pageOf page) = .page k i (pageOf page) 0 → s.blk.ctl.reaches fn (pageOf page) → s.blk.ctl.mirynGone k = false →
    ∃ b, Runs (.errCountClear fn page) s b ∧ b.ctl.rd (pageOf page + 0x20) = 0 ∧ b.ctl.rd (pageOf page + 0x24) = 0 ∧
      (pageOf page = devPage → b.ctl.rd 0x50 = 0) ∧
      OnlyRegsOf s.blk b (pageOf page)
        ([pageOf page + 0x20, pageOf page + 0x24] ++ (if pageOf page = devPage then [0x50] else [])))

/-- 02 R47: LOCK. Key 0xA5 with LOCKED 1 locks an unlocked page, sets HOLD as written and records the writer; on a locked page it counts
0xF5. Key 0x5A with LOCKED 0 unlocks a page whose HOLD is 0, by the owner or the physical function; it counts 0xF5 where HOLD is 1 or
another function asks, and does nothing to an unlocked page. -/
def Obligations.LockWritesFollowTheLockRule : Prop :=
  ∀ (s : State) (fn : Fn) (page : Addr) (hold : Bool) (k : PageKind) (i : Nat),
    place (pageOf page) = .page k i (pageOf page) 0 → s.blk.ctl.reaches fn (pageOf page) → s.blk.ctl.mirynGone k = false →
    let p := pageOf page
    let l := s.blk.ctl.rd (p + 0x28)
    (bit l 0 = false → ∃ b, Runs (.lockPage fn page hold) s b ∧ OnlyRegsOf s.blk b p [p + 0x28] ∧
      b.ctl.rd (p + 0x28) = BitVec.ofNat 32 (fn.num * 256 + ofBool hold * 2 + 1)) ∧
    (bit l 0 = true → Runs (.lockPage fn page hold) s (s.blk.onCtl fun c => (c.unpair p).err p 0xF5 fn.num (p + 0x28))) ∧
    (bit l 0 = true → bit l 1 = false → (bits l 11 8 = fn.num ∨ fn = .pf) → ∃ b, Runs (.unlockPage fn page) s b ∧
      OnlyRegsOf s.blk b p [p + 0x28] ∧ b.ctl.rd (p + 0x28) = 0) ∧
    (bit l 0 = true → (bit l 1 = true ∨ (bits l 11 8 ≠ fn.num ∧ fn ≠ .pf)) →
      Runs (.unlockPage fn page) s (s.blk.onCtl fun c => (c.unpair p).err p 0xF5 fn.num (p + 0x28))) ∧
    (bit l 0 = false → Runs (.unlockPage fn page) s (s.blk.onCtl fun c => c.unpair p))

/-- 02 R49: writing 1s to IRQ_STATUS clears those causes; a write to IRQ_ENABLE changes the enables the page has; after either, if the
reporting page is pending, its message leaves (or waits, where it cannot be sent). No other register changes. -/
def Obligations.InterruptRegisterWritesSendWhatStaysPending : Prop :=
  ∀ (s : State) (fn : Fn) (page : Addr) (w : Word) (k : PageKind) (i : Nat),
    place (pageOf page) = .page k i (pageOf page) 0 → s.blk.ctl.reaches fn (pageOf page) → s.blk.ctl.mirynGone k = false →
    let p := pageOf page
    let m : Word := BitVec.ofNat 32 ((pageInfo k).irq ||| (pageInfo k).level)
    let c := s.blk.ctl.unpair p
    let c1 := c.wr (p + 0x18) (c.rd (p + 0x18) &&& ~~~w)
    let c2 := c.wr (p + 0x1C) ((c.rd (p + 0x1C) &&& ~~~m) ||| (w &&& m))
    (∃ b, Runs (.irqStatusWrite fn page w) s b ∧ SameStore s.blk b ∧ (∀ r, b.ctl.rd r = c1.rd r) ∧
      (c1.pending (irqPage p) = true → b.ctl = c1.sendMsg (irqPage p))) ∧
    ((pageInfo k).irq ||| (pageInfo k).level ≠ 0 → ∃ b, Runs (.irqEnableWrite fn page w) s b ∧ SameStore s.blk b ∧ (∀ r, b.ctl.rd r = c2.rd r) ∧
      (c2.pending (irqPage p) = true → b.ctl = c2.sendMsg (irqPage p)))

/-- 02 R35, R36: a read of the low word of a pair answers its value and latches the high word; the next read of the high word by the same
function answers what was latched, whatever the registers hold by then. A narrower read answers the addressed bytes alone; a read that spans
the two registers answers both, the lower first. -/
def Obligations.PairReadsAreOneQuantity : Prop :=
  ∀ (s : State) (fn : Fn) (page : Addr) (off : Nat) (k : PageKind) (i : Nat) (r : SMap Word),
    place (pageOf page) = .page k i (pageOf page) 0 → s.blk.ctl.reaches fn (pageOf page) → s.blk.ctl.mirynGone k = false →
    off ∈ pairLows k → off % 4 = 0 → off + 4 < 0x1000 → off + 4 ∉ pairLows k →
    let a := pageOf page + off
    ∃ b, Runs (.pairLowRead fn (BitVec.ofNat 28 a) 4) s b ∧ b.ctl.out = s.blk.ctl.out ++ [.regData fn.num a (wordBytes [s.blk.reg a])] ∧ SameStore s.blk b ∧
      b.ctl.regs = s.blk.ctl.regs ∧
      ((b.ctl.withRegs r).reaches fn (pageOf page) → (b.ctl.withRegs r).mirynGone k = false →
        ∃ d, Runs (.pairLowRead fn (BitVec.ofNat 28 (a + 4)) 4) { s with blk := b.onCtl fun c => c.withRegs r } d ∧
          d.ctl.out = b.ctl.out ++ [.regData fn.num (a + 4) (wordBytes [s.blk.reg (a + 4)])]) ∧
      (∀ (o : Fin 4) (m : Fin 4097), 0 < m.val → o.val + m.val ≤ 4 → ∃ b, Runs (.pairLowRead fn (BitVec.ofNat 28 (a + o)) m) s b ∧
        SameStore s.blk b ∧ b.ctl.out = s.blk.ctl.out ++ [.regData fn.num (a + o) (((wordBytes [s.blk.reg a]).drop o).take m)]) ∧
      ∃ b, Runs (.pairLowRead fn (BitVec.ofNat 28 a) 8) s b ∧ SameStore s.blk b ∧
        b.ctl.out = s.blk.ctl.out ++ [.regData fn.num a (wordBytes [s.blk.reg a, s.blk.reg (a + 4)])]

/-- 02 R45 step 6, R36: a write with all byte enables that reaches a register of one word of a page of the kinds listed, on an unlocked
page, passing its value checks, stores its writable bits and changes nothing else. 10 R259: a write of a router's MIX_CTRL also counts its
ejected transfers anew. 02 R35: a write that spans two registers is the write of the lower, then of the next. -/
def Obligations.PlainWritesStoreTheWritableBits : Prop :=
  (∀ (s : State) (fn : Fn) (page : Addr) (off i : Nat) (k : PageKind) (d : RegDef) (w : Word),
    place (pageOf page) = .page k i (pageOf page) 0 → s.blk.ctl.reaches fn (pageOf page) → s.blk.ctl.unlocked (pageOf page) →
    k ∈ [PageKind.clk, .therm, .opt, .log, .volt, .freq, .stin, .sens, .nrg, .clu, .hbm, .port, .pcie, .perf, .rtr, .uam, .cve] →
    off % 4 = 0 → off < 0x1000 → 0x40 ≤ off → regDef k off = some d → regAllRO d = false → clearRanges k off = [] →
    ¬ (k = .cve ∧ off = 0x78) → ¬ (k = .rtr ∧ off = 0x74) → off ∉ pairLows k → off - 4 ∉ pairLows k →
    reachCode { who := fn.num, addr := pageOf page + off } k i off = 0 → s.blk.writeCode k i off (pageOf page) w = 0 →
    ∃ b, Runs (.registerWrite fn (BitVec.ofNat 28 (pageOf page + off)) true w []) s b ∧ OnlyRegsOf s.blk b (pageOf page) [pageOf page + off] ∧
      b.ctl.rd (pageOf page + off) =
        (s.blk.ctl.rd (pageOf page + off) &&& ~~~BitVec.ofNat 32 (regStored d)) ||| (w &&& BitVec.ofNat 32 (regStored d))) ∧
  (∀ (s : State) (fn : Fn) (t : TileId) (w : Word) (d : RegDef),
    let p := rtrPage t
    s.blk.ctl.reaches fn p → s.blk.ctl.unlocked p → regDef .rtr 0x74 = some d → s.blk.writeCode .rtr t 0x74 p w = 0 →
    ∃ b, Runs (.registerWrite fn (BitVec.ofNat 28 (p + 0x74)) true w []) s b ∧ SameOthers s.blk b t ∧
      b.tile t = { s.blk.tile t with mix := { (s.blk.tile t).mix with ejected := List.replicate 8 0 } } ∧
      b.ctl = (s.blk.ctl.unpair p).withRegs b.ctl.regs ∧ (∀ r, r ≠ p + 0x74 → b.ctl.rd r = s.blk.ctl.rd r) ∧
      b.ctl.rd (p + 0x74) = (s.blk.ctl.rd (p + 0x74) &&& ~~~BitVec.ofNat 32 (regStored d)) ||| (w &&& BitVec.ofNat 32 (regStored d))) ∧
  (∀ (s : State) (fn : Fn) (a : Addr) (be : Bool) (w : Word) (x : Bool × Word) (l : List (Bool × Word)) (b c : Blk),
    a.toNat % 4 = 0 → a.toNat + 4 < 2 ^ 28 → Runs (.registerWrite fn a be w []) s b →
    Runs (.registerWrite fn (a + 4) x.1 x.2 l) { s with blk := b } c → Runs (.registerWrite fn a be w (x :: l)) s c)

/-- 02 R34, R45: what a write is refused for, in the order of the checks. By a function that exists, before READY to a page not served then:
0xF3 against DEV, or, from a virtual function, no effect; to a page the virtual function's stage does not hold: 0xF1 against its STAGE page;
to an unused offset: 0xF3; with part of the byte enables to any but a reserved register: 0xF4; to a register wholly read-only: 0xF0; to a
lockable register of a locked page: 0xF2. A refused write changes what counting its error changes, and nothing else. -/
def Obligations.RefusedWritesCountOneErrorEach : Prop :=
  ∀ (s : State) (fn : Fn) (page : Addr) (off i : Nat) (k : PageKind) (be : Bool) (w : Word),
    place (pageOf page) = .page k i (pageOf page) 0 → off % 4 = 0 → off < 0x1000 →
    let p := pageOf page
    let cmd : Instr := .registerWrite fn (BitVec.ofNat 28 (p + off)) be w []
    let home (q : Nat) : Nat := match fn with | .pf => q | .vf st => stagePage st
    let refuse (c : Ctl) (q code : Nat) : Blk := { s.blk with ctl := c.err q code fn.num (p + off) }
    (s.blk.ctl.ready = false → earlyPage (p + off) = false → fn = .pf → Runs cmd s (refuse s.blk.ctl devPage 0xF3)) ∧
    (∀ st : StageId, fn = .vf st → s.blk.ctl.fnExists (st.val + 1) = true → s.blk.ctl.ready = true →
      s.blk.ctl.pageStage p ≠ some st.val → Runs cmd s (refuse s.blk.ctl (stagePage st) 0xF1)) ∧
    (∀ st : StageId, fn = .vf st → (s.blk.ctl.fnExists (st.val + 1) = false ∨ s.blk.ctl.ready = false) → Runs cmd s s.blk) ∧
    (s.blk.ctl.reaches fn p → s.blk.ctl.mirynGone k = false → s.blk.ctl.recovOff k off = false →
      reachCode { who := fn.num, addr := p + off } k i off = 0 →
      (regDef k off = none → Runs cmd s (refuse (s.blk.ctl.unpair p) (home (blockBase p)) 0xF3)) ∧
      (∀ d, regDef k off = some d → reservedOff off = false →
        (be = false → Runs cmd s (refuse (s.blk.ctl.unpair p) p 0xF4)) ∧
        (be = true → regAllRO d = true → Runs cmd s (refuse (s.blk.ctl.unpair p) p 0xF0)) ∧
        (be = true → regAllRO d = false → off ≠ 0x28 → bit (s.blk.ctl.rd (p + 0x28)) 0 = true → d.lk ≠ 0 →
          (regStored d ||| d.wo ||| d.w1c) &&& d.lk = (regStored d ||| d.wo ||| d.w1c) →
          Runs cmd s (refuse (s.blk.ctl.unpair p) p 0xF2))))

/-- 01 R22, R27, 02 R51: RECT. In a slot not IDLE a write counts 0x05; one with VALID set that fails a check counts the check's code;
accepted, the register takes the rectangle and VALID, and the other slots keep theirs; with VALID 0 it dissolves the stage and clears its
PORT_MASK. A virtual function's write counts 0x0A. 01 R26, R27: PORT_MASK. In a slot not IDLE a write counts 0x05, one that names a disabled
port 0x06, one that would put a port into the masks of five stages 0x07; accepted, the mask is what was written and no tile changes. -/
def Obligations.StagesAreDefinedWithTheirPorts : Prop :=
  (∀ (s : State) (st : StageId) (w : Word), s.blk.ctl.reaches .pf (stagePage st) → s.blk.ctl.unlocked (stagePage st) →
    let c := s.blk.ctl
    let p := stagePage st
    let cmd : Instr := .rectWrite .pf st w
    (c.stState st ≠ 0 → Runs cmd s { s.blk with ctl := (c.unpair p).err p 0x05 0 (p + 0x40) }) ∧
    (c.stState st = 0 → bit w 31 = true → c.rectCode st w ≠ 0 →
      Runs cmd s { s.blk with ctl := (c.unpair p).err p (c.rectCode st w) 0 (p + 0x40) }) ∧
    (c.stState st = 0 → bit w 31 = true → c.rectCode st w = 0 →
      ∃ b, Runs cmd s b ∧ b.ctl.rd (p + 0x40) = w &&& 0x80003377 ∧ b.ctl.valid st = true ∧
        ∀ u : StageId, u ≠ st → b.ctl.rd (stagePage u + 0x40) = c.rd (stagePage u + 0x40)) ∧
    (c.stState st = 0 → bit w 31 = false →
      ∃ b, Runs cmd s b ∧ b.ctl.valid st = false ∧ b.ctl.get p F.STAGE_PORT_MASK_PORTS = 0) ∧
    (c.reaches (.vf st) p → Runs (.rectWrite (.vf st) st w) s { s.blk with ctl := (c.unpair p).err p 0x0A (st.val + 1) (p + 0x40) })) ∧
  (∀ (s : State) (st : StageId) (w : Word), s.blk.ctl.reaches .pf (stagePage st) → s.blk.ctl.unlocked (stagePage st) →
    let c := s.blk.ctl
    let p := stagePage st
    let cmd : Instr := .portMaskWrite .pf st w
    let m := bits w 15 0
    let dis := (List.range 16).any fun q => m.testBit q && c.flag (portPage q) F.PORT_STATUS_OPT_DIS
    let refuse (code : Nat) : Blk := { s.blk with ctl := (c.unpair p).err p code 0 (p + 0x48) }
    (c.stState st ≠ 0 → Runs cmd s (refuse 0x05)) ∧
    (c.stState st = 0 → dis = true → Runs cmd s (refuse 0x06)) ∧
    (c.stState st = 0 → dis = false → (c.valid st && c.fifthPort st m) = true → Runs cmd s (refuse 0x07)) ∧
    (c.stState st = 0 → dis = false → (c.valid st && c.fifthPort st m) = false →
      ∃ b, Runs cmd s b ∧ b.ctl.get p F.STAGE_PORT_MASK_PORTS = m))

/-- 01 R28, R502, 16 R428, R429: RUNSTATE, by any function that reaches the STAGE page. LOAD that passes its checks moves the stage to
LOADING with its good tiles behind their wrappers; START of a loaded stage moves it to RUN with its good tiles open, or, where VDDM is in
retention, waits for it; WRAP moves LOADING and RUN to WRAP; RESET moves any valid stage that is not in RESET there and holds its tiles. 14
R376: an accepted START or WRAP whose load step is held for its notice waits, and changes nothing else. A command in the wrong state counts
0x08, a refused LOAD its code. 01 R28, R29, 10 R260, 16 R428: what ends a stage's states. A drain that is complete moves WRAP to IDLE and
drops its outtakes ring; one that is not complete in time moves it to FAULT with its bit of DEV.STAGE_FAULTED set; the end of the stage
restart moves RESET to IDLE. On IDLE the mixdown of the stage's routers is emptied, of every tile nothing else changes. In any other state
none of the three changes anything. -/
def Obligations.StageCommandsAndTheirEnds : Prop :=
  (∀ (s : State) (fn : Fn) (st : StageId), s.blk.ctl.reaches fn (stagePage st) →
    let c := s.blk.ctl
    let p := stagePage st
    let refuse (code : Nat) : Blk := { s.blk with ctl := (c.unpair p).err p code fn.num (p + 0x44) }
    (c.loadCode st = 0 → ∃ b, Runs (.stageLoad fn st) s b ∧ b.ctl.stState st = 1 ∧
      (∀ t ∈ c.stageTiles st, (b.tile t).wrapped = true) ∧ SMap.find? b.ctl.sheets st = some {}) ∧
    (c.loadCode st ≠ 0 → Runs (.stageLoad fn st) s (refuse (c.loadCode st))) ∧
    (c.stState st = 1 → c.flag p F.STAGE_RUNSTATE_LOADED = true → c.stageHeld st = false → c.boot.retention = false →
      ∃ b, Runs (.stageStart fn st) s b ∧ b.ctl.stState st = 2 ∧ ∀ t ∈ c.stageTiles st, (b.tile t).wrapped = false) ∧
    (c.stState st = 1 → c.flag p F.STAGE_RUNSTATE_LOADED = true → c.stageHeld st = false → c.boot.retention = true →
      ∃ b, Runs (.stageStart fn st) s b ∧ SameStore s.blk b ∧ b.ctl.regs = c.regs ∧ st.val ∈ b.ctl.boot.waitStages ∧
        b.ctl.boot.raising = true) ∧
    (¬ (c.stState st = 1 ∧ c.flag p F.STAGE_RUNSTATE_LOADED = true) → Runs (.stageStart fn st) s (refuse 0x08)) ∧
    (c.stState st = 1 ∨ c.stState st = 2 → c.stageHeld st = false → ∃ b, Runs (.stageWrap fn st) s b ∧ b.ctl.stState st = 3) ∧
    (c.stageHeld st = true →
      let wait (cmd : Nat) : Blk := s.blk.onCtl fun c =>
        { c.unpair p with pwr := { c.pwr with heldCmds := c.pwr.heldCmds ++ [(st.val, cmd)] } }
      (c.stState st = 1 → c.flag p F.STAGE_RUNSTATE_LOADED = true → Runs (.stageStart fn st) s (wait 2)) ∧
      (c.stState st = 1 ∨ c.stState st = 2 → Runs (.stageWrap fn st) s (wait 3))) ∧
    (c.stState st = 0 ∨ 4 ≤ c.stState st → Runs (.stageWrap fn st) s (refuse 0x08)) ∧
    (c.stState st ≠ 5 → c.valid st = true → ∃ b, Runs (.stageReset fn st) s b ∧ b.ctl.stState st = 5)) ∧
  (∀ (s : State) (st : StageId),
    let c := s.blk.ctl
    let emptied (b : Blk) : Prop := b.hbm = s.blk.hbm ∧ (∀ t : TileId, c.tileStage t ≠ some st.val → b.tile t = s.blk.tile t) ∧
      (∀ t : TileId, c.tileStage t = some st.val → b.tile t = { s.blk.tile t with mix := (b.tile t).mix } ∧
        (b.tile t).mix.held = [] ∧ (b.tile t).mix.inj = [] ∧ (b.tile t).mix.ejected = (s.blk.tile t).mix.ejected) ∧
      (∀ f ∈ b.ctl.net, f ∈ c.net ∧ ∀ t q k ch, f = ⟨.router t q, .flit k ch⟩ → c.tileStage t ≠ some st.val)
    (c.stState st = 3 → s.blk.drained st = true → ∃ b, Runs (.wrapDrainComplete st) s b ∧ b.ctl.stState st = 0 ∧
      SMap.find? b.ctl.outtakes st = none ∧ emptied b) ∧
    (¬ (c.stState st = 3 ∧ s.blk.drained st = true) → Runs (.wrapDrainComplete st) s s.blk) ∧
    (c.stState st = 3 → ∃ b, Runs (.wrapTimeoutExpire st) s b ∧ b.ctl.stState st = 4 ∧ SameStore s.blk b ∧ c.Quiet b.ctl ∧
      (b.ctl.get devPage F.DEV_STAGE_FAULTED_STAGE).testBit st = true) ∧
    (c.stState st ≠ 3 → Runs (.wrapTimeoutExpire st) s s.blk) ∧
    (c.stState st = 5 → ∃ b, Runs (.stageRestartComplete st) s b ∧ b.ctl.stState st = 0 ∧ emptied b ∧
      ∀ r ∈ b.ctl.mgmt.reads, r.stage ≠ st.val) ∧
    (c.stState st ≠ 5 → Runs (.stageRestartComplete st) s s.blk))

/-- 03 R76, R77, R81, 07 R163: the weight loader. A descriptor that passes the queue's checks stands at the head of queue 1 with NBLK steps
and its header leaves the prefetched ones; the block being loaded becomes usable with the bytes read, even in halted arrays; the buffer of a
block no longer used frees, and the loader starts its next block in it. 03 R75, R78, R80: the feeders. With a free slot and an extent that
passes, a data stream requests the next aligned row, a scale stream the row of its next scale slot, each by one wide read at the feeder's
rank; a descriptor crossed into starts its rows anew, or halts the arrays where an instruction crosses into it and it fails. -/
def Obligations.WeightsAndActivationsAreFetched : Prop :=
  (∀ (s : State) (t : TileId) (e : List Ecc), isSTile t = false → s.blk.live t = true →
    let x := s.blk.tile t
    (∀ d b', s.blk.arrHalted t = false → s.blk.takeHead t 1 e = .ready d b' →
      ∃ b, Runs (.weightLoaderDescriptor t e) s b ∧ SameOthers s.blk b t ∧ ((b.tile t).queue 1).hdrs = (x.queue 1).hdrs.drop 1 ∧
        ∃ c, ((b.tile t).queue 1).cur = some c ∧ c.hdr = d.hdr ∧ c.words = d.words ∧ c.steps = bits (d.w 2) 9 0 + 1) ∧
    (∀ k w, x.wbufs.findIdx? (·.st == 1) = some k → x.wbufs[k]? = some w →
      ∃ b, Runs (.weightBlockUsable t e) s b ∧ SameOthers s.blk b t ∧
        (b.tile t).wbufs[k]? = some { w with st := 2, block := { w.block with
          run := (s.blk.stagedRead t 1 w.dser (w.row * 512) (blockUsed w.block.fmt w.block.sparse) e).run } }) ∧
    (∀ k, x.wbufs.findIdx? (·.st == 4) = some k →
      (s.blk.current t 1 = none → ∃ b, Runs (.weightBufferFree t) s b ∧ (b.tile t).wbufs = x.wbufs.set k {} ∧
        SameOthers s.blk b t ∧ b.ctl = s.blk.ctl) ∧
      (∀ d, s.blk.arrHalted t = false → s.blk.current t 1 = some d → s.blk.ctl.tokensReady t d.hdr = true →
        (∀ v ∈ x.wbufs, v.st ≠ 0 ∧ v.st ≠ 1) → bits (d.w 1) 31 28 ≤ 0xB →
        let row := bits (d.w 1) 12 0 + d.issued * bits (d.w 2) 28 16
        (row + blockRows (bits (d.w 1) 31 28) (bits (d.w 1) 27 26)) * 512 ≤ spBytes t →
        ∃ b, Runs (.weightBufferFree t) s b ∧ SameOthers s.blk b t ∧ (b.tile t).wbufs = x.wbufs.set k
          { st := 1, ser := x.blkSer, dser := d.ser, row := row
            block := { fmt := bits (d.w 1) 31 28, sparse := bits (d.w 1) 27 26 } }))) ∧
  (∀ (s : State) (t : TileId) (f : Fin 2) (e : List Ecc), ArraysRun s t →
    let x := s.blk.tile t
    let u := f.val + 2
    (∀ d r al, (x.queue u).halted = false → (x.queue u).cur = some d → (x.feeder f).data.length < 4 → feederExtent t d = true →
      nextAligned d (x.feeder f).lastAl 64 (x.feeder f).reqRow = some (r, al) → (d.issued ≤ r → s.blk.ctl.tokensReady t d.hdr = true) →
      ∃ b, Runs (.feederRowRequest t f false) s b ∧ SameOthers s.blk b t ∧
        ((b.tile t).feeder f).data = (x.feeder f).data ++ [{ ser := d.ser, row := al }] ∧ ((b.tile t).feeder f).lastAl = some al ∧
        (b.tile t).sp.reqs = x.sp.reqs ++ [{ wide := true, rank := f.val + 1, who := .feedData f d.ser al, word := al * 16 }]) ∧
    (∀ d, (x.queue u).halted = false → (x.queue u).oldest = some d → fdScaleG d ≠ 0 → feederExtent t d = true → d.done < d.steps →
      let row := (fdSBase d + 4 * d.done) / 512
      (∀ z, (x.feeder f).scale = some z → ¬ (z.ser = d.ser ∧ z.row = row)) →
      ∃ b, Runs (.feederRowRequest t f true) s b ∧ SameOthers s.blk b t ∧ b.ctl = s.blk.ctl ∧
        ((b.tile t).feeder f).scale = some { ser := d.ser, row := row } ∧
        (b.tile t).sp.reqs = x.sp.reqs ++ [{ wide := true, rank := f.val + 1, who := .feedScale f d.ser row, word := row * 16 }]) ∧
    (∀ d b', s.blk.takeHead t u e = .ready d b' →
      (((x.feederHead f).isSome = true ∨
        ∀ i, s.blk.entering t = some i → (miFeeders i).contains f.val = true → feederCheck t d (miFmtA i) = none) →
        ∃ b, Runs (.feederDescriptorCross t f e) s b ∧ SameOthers s.blk b t ∧
          ((b.tile t).queue u).cur = some { d with steps := fdRows d } ∧ ((b.tile t).feeder f).reqRow = 0 ∧
          ((b.tile t).feeder f).lastAl = none) ∧
      (∀ i code, x.feederHead f = none → s.blk.entering t = some i → (miFeeders i).contains f.val = true →
        feederCheck t d (miFmtA i) = some code → ∃ b, Runs (.feederDescriptorCross t f e) s b ∧ SameOthers s.blk b t ∧
          b.arrHalted t = true ∧ b.ctl.rd (arrPage t + 0x60) = BitVec.ofNat 32 (0x80000000 + code * 0x10000))))

/-- 03 R76, R80, R81, 08 R201: a matrix instruction that passes its checks takes the block it names and stands at the head of the array
queue with a step for each row; the first check that fails halts the arrays with its code, kept in ARR.HALT_INFO. It waits while sub-rows of
the row before it are to enter. -/
def Obligations.MatrixInstructionsAreCheckedInOrder : Prop :=
  ∀ (s : State) (t : TileId) (e : List Ecc) (d : Desc) (b' : Blk), ArraysRun s t → s.blk.takeHead t 4 e = .ready d b' →
    let x := s.blk.tile t
    let fds := (miFeeders d).map x.feederHead
    let halts (code : Nat) : Prop := ∃ b, Runs (.matrixInstruction t e) s b ∧ SameOthers s.blk b t ∧ ((b.tile t).queue 4).halted = true ∧
      b.arrHalted t = true ∧ b.ctl.rd (arrPage t + 0x60) = BitVec.ofNat 32 (0x80000000 + code * 0x10000) ∧
      (b.tile t).wbufs = x.wbufs ∧ (b.tile t).curBlk = x.curBlk
    (x.part ≠ none → Runs (.matrixInstruction t e) s s.blk) ∧
    (x.part = none →
    (∀ code, instrCheck d = some code → halts code) ∧
    (instrCheck d = none → miReuse d = true → x.curBlk = none → halts 0x06) ∧
    (∀ buf w, instrCheck d = none → x.blockFor (miReuse d) = some (buf, w) →
      (w.fmt ≠ miFmtW d → halts 0x06) ∧
      (w.fmt = miFmtW d → w.sparse ≠ miSparse d → halts 0x0A) ∧
      (w.fmt = miFmtW d → w.sparse = miSparse d → (∀ o ∈ fds, o ≠ none) →
        (∀ code, fds.findSome? (fun q => q.bind fun q => feederCheck t q (miFmtA d)) = some code → halts code) ∧
        (fds.findSome? (fun q => q.bind fun q => feederCheck t q (miFmtA d)) = none → ∀ code, sparseCheck d = some code → halts code) ∧
        (fds.findSome? (fun q => q.bind fun q => feederCheck t q (miFmtA d)) = none → sparseCheck d = none →
          ∃ b, Runs (.matrixInstruction t e) s b ∧ SameOthers s.blk b t ∧ (b.tile t).curBlk = some w ∧
            ((b.tile t).queue 4).cur = some { d with steps := miRows d } ∧
            (∀ k, buf = some k → ∃ v, (b.tile t).wbufs[k]? = some v ∧ v.st = 3 ∧ v.block = w)))))

/-- 03 R59, R71, R75, 08 R199: a row whose tokens, activation rows and ring room are there enters the arrays; a sparse row sub-row after
sub-row. With its last sub-row it is in flight with the current block, and ARR.ROWS counts it once for each array. One that crosses into a
feeder descriptor that fails check 8 or 11 halts the arrays (03 R80). 03 R59, R70, R71: the row that entered first leaves the arrays and is written, in each array its
instruction names, to the row its ACC_BASE and RING give, with the tag of its accumulation type; no other accumulator row changes. 03 R70:
what the tag of the target makes of a write. Under OVERWRITE, or into an EMPTY row, what the row held does not matter; one that accumulates
into a row of another type counts as a mismatch and poisons every element. -/
def Obligations.RowsPassThroughTheArrays : Prop :=
  (∀ (s : State) (t : TileId) (a b c : Nat) (d : Desc), ArraysRun s t → s.blk.entering t = some d →
    let x := s.blk.tile t
    let heads := (miFeeders d).filterMap x.feederHead
    let crossed := heads.findSome? fun q => if q.done = 0 then feederCheck t q (miFmtA d) else none
    let sub (f : Nat) : List ARow := if f ∈ miFeeders d then ((x.feederNext f).map (·.2)).toList else []
    (∀ code, crossed = some code → ∃ k, Runs (.arrayRowEnter t a b c) s k ∧ SameOthers s.blk k t ∧ k.arrHalted t = true ∧
      (k.tile t).fly = x.fly ∧ k.ctl.rd (arrPage t + 0x60) = BitVec.ofNat 32 (0x80000000 + code * 0x10000)) ∧
    (∀ j, crossed = none → s.blk.ctl.mayIssue t = true →
      (∀ f ∈ miFeeders d, ∃ q, x.feederNext f = some q ∧ (q.1.done < q.1.issued ∨ s.blk.ctl.tokensReady t q.1.hdr = true)) →
      (x.part = some j ∨ (x.part = none ∧ ∃ w, x.curBlk = some w ∧ s.blk.ctl.tokensReady t d.hdr = true ∧ x.ringOk d d.issued = true ∧
        j = { ser := d.ser, words := d.words, row := d.issued, block := w })) →
      let j' : RowJob := { j with a := j.a ++ sub 0, b := j.b ++ sub 1 }
      let n := nsubOf (miSparse d) (miUmask d)
      (max j'.a.length j'.b.length < n → ∃ k, Runs (.arrayRowEnter t a b c) s k ∧ SameOthers s.blk k t ∧
        (k.tile t).part = some j' ∧ (k.tile t).fly = x.fly) ∧
      (n ≤ max j'.a.length j'.b.length → ∃ k, Runs (.arrayRowEnter t a b c) s k ∧ SameOthers s.blk k t ∧
        (k.tile t).part = none ∧ (k.tile t).fly = x.fly ++ [j'] ∧
        k.ctl.get64 (arrPage t) F.ARR_ROWS_LO = (s.blk.ctl.get64 (arrPage t) F.ARR_ROWS_LO + (miFeeders d).length) % 2 ^ 64))) ∧
  (∀ (s : State) (t : TileId) (j : RowJob) (rest : List RowJob), isSTile t = false → s.blk.live t = true → (s.blk.tile t).fly = j :: rest →
    let d : Desc := { words := j.words }
    let lo := if miAccType d = 3 then 2 * miAccRow d j.row else miAccRow d j.row
    let hi := if miAccType d = 3 then 2 * miAccRow d j.row + 1 else miAccRow d j.row
    miAccRow d j.row < miDepth d →
    ∃ b, Runs (.accRowWrite t) s b ∧ SameOthers s.blk b t ∧ (b.tile t).fly = rest ∧
      (∀ a ∈ miFeeders d, ((b.tile t).accRow a lo).tag = miAccType d ∧ ((b.tile t).accRow a hi).tag = miAccType d) ∧
      ∀ a r, a < 2 → r < 512 → (a ∉ miFeeders d ∨ (r ≠ lo ∧ r ≠ hi)) → (b.tile t).accRow a r = (s.blk.tile t).accRow a r) ∧
  (∀ (x y : Tile) (d : Desc) (w : WBlock) (a i : Nat) (subs : List ARow), miLong d = false → a < 2 →
    let r := miAccRow d i
    let tag := (x.accRow a r).tag
    (miAccMode d = 1 ∨ (tag = 0 ∧ (y.accRow a r).tag = 0) →
      (writeRow x d w a i subs).tile.accRow a r = (writeRow y d w a i subs).tile.accRow a r ∧ (writeRow x d w a i subs).mism = false) ∧
    (miAccMode d = 0 → tag ≠ 0 → tag ≠ miAccType d →
      (writeRow x d w a i subs).mism = true ∧ ((writeRow x d w a i subs).tile.accRow a r).bad = List.replicate 64 true))

/-- 08 R217: a write of 1 to SPARSE_CTRL.CLEAR sets SPARSE_DROP and SPARSE_FIRST to 0 and takes EVT_EN as written. 02 R36, 05 R122, R136:
the pair LFSR_SEED, low word then high word, holds what was written; zero counts 0x08 and the seed keeps its value. 07 R162, R190: a write
of CH_CFG while no shot runs takes CAP and resets the channel: AVAIL 0, SPACE CAP, the other channels as they were; while one runs it counts
0x0C. -/
def Obligations.TileRegistersWithEffectsOfTheirOwn : Prop :=
  (∀ (s : State) (fn : Fn) (t : TileId) (en : Bool), s.blk.ctl.reaches fn (arrPage t) → isSTile t = false → s.blk.ctl.unlocked (arrPage t) →
    ∃ b, Runs (.sparseCtrlClear fn t en) s b ∧ OnlyRegsOf s.blk b (arrPage t) [arrPage t + 0x68, arrPage t + 0x6C, arrPage t + 0x70] ∧
      b.ctl.rd (arrPage t + 0x68) = 0 ∧ b.ctl.rd (arrPage t + 0x70) = 0 ∧ b.ctl.flag (arrPage t) F.ARR_SPARSE_CTRL_EVT_EN = en) ∧
  (∀ (s : State) (fn : Fn) (t : TileId) (lo hi : Word), s.blk.ctl.reaches fn (vecPage t) → s.blk.ctl.unlocked (vecPage t) →
    let p := vecPage t
    ∃ b, Runs (.lfsrSeedWrite fn t lo hi) s b ∧ SameStore s.blk b ∧
      (lo.toNat + hi.toNat ≠ 0 → b.ctl.rd (p + 0x48) = lo ∧ b.ctl.rd (p + 0x4C) = hi ∧
        ∀ r, r ≠ p + 0x48 → r ≠ p + 0x4C → b.ctl.rd r = s.blk.ctl.rd r) ∧
      (lo.toNat + hi.toNat = 0 → (∀ r, r ∉ errRegs p → b.ctl.rd r = s.blk.ctl.rd r) ∧
        (bits (s.blk.ctl.rd (p + 0x20)) 15 0 ≠ 0xFFFF →
          b.ctl.rd (p + 0x20) = BitVec.ofNat 32 (bits (s.blk.ctl.rd (p + 0x20)) 15 0 + 1)))) ∧
  (∀ (s : State) (fn : Fn) (t : TileId) (n : Fin 15) (w : Word),
    let p := seqPage t
    s.blk.ctl.reaches fn p → s.blk.ctl.unlocked p →
    ((s.blk.tile t).shotRun = false → ∃ b, Runs (.chCfgWrite fn t n w) s b ∧ OnlyRegsOf s.blk b p [p + 0x60 + 4 * n, p + 0xA0 + 4 * n] ∧
      b.ctl.getN p F.SEQ_CH_CFG_CAP n = bits w 15 0 ∧ b.ctl.getN p F.SEQ_CH_STATE_AVAIL n = 0 ∧
      b.ctl.getN p F.SEQ_CH_STATE_SPACE n = bits w 15 0) ∧
    ((s.blk.tile t).shotRun = true →
      Runs (.chCfgWrite fn t n w) s { s.blk with ctl := (s.blk.ctl.unpair p).err p 0x0C fn.num (p + 0x60 + 4 * n) }))

/-- 05 R121, R129, R135: a vector descriptor that passes its checks stands at the head of queue 5 with a step for each row; the guard
settings are latched for it, and RESEED loads the LFSR from the seed. One that fails halts the engine with its code in VEC.HALT_INFO. 03
R72, 05 R109, R126, 07 R163: a vector row with its tokens issues, in its turn, while fewer than four rows have operands on their way and the
summary FIFO has room with no summary held; it waits for the accumulator rows still to be written, which it records. Computing a row stores nothing. 05 R109, R123 to R128: the oldest
row in flight completes: its results are written where they go, and LFSR_STATE shows the state after it. Its summary for the FIFO enters it,
or is held where the FIFO is full or others are held; a held one enters when an entry is free. -/
def Obligations.TheVectorUnitRunsItsDescriptors : Prop :=
  (∀ (s : State) (t : TileId) (e : List Ecc) (d : Desc) (b' : Blk), s.blk.live t = true → s.blk.takeHead t 5 e = .ready d b' →
    let c := s.blk.ctl
    let p := vecPage t
    (vectorCheck t d = none → ∃ b, Runs (.vectorDescriptor t e) s b ∧ SameOthers s.blk b t ∧
      ((b.tile t).queue 5).cur = some { d with steps := vdRows d } ∧ (b.tile t).vec.guard = c.rd (p + 0x40) ∧
      (b.tile t).vec.tol = c.rd (p + 0x44) ∧
      (b.tile t).vec.lfsr = if vdReseed d && !d.void then c.rd64 (p + 0x48) else (s.blk.tile t).vec.lfsr) ∧
    (∀ code, vectorCheck t d = some code → ∃ b, Runs (.vectorDescriptor t e) s b ∧ SameOthers s.blk b t ∧
      ((b.tile t).queue 5).halted = true ∧ (b.tile t).vec = (s.blk.tile t).vec ∧
      b.ctl.rd (p + 0x58) = BitVec.ofNat 32 (0x80000000 + code * 0x10000))) ∧
  (∀ (s : State) (t : TileId) (late n : Nat) (e : List Ecc) (d : Desc), s.blk.live t = true → s.blk.current t 5 = some d →
    s.blk.ctl.tokensReady t d.hdr = true →
    let x := s.blk.tile t
    let w := s.blk.accWaits t d d.issued
    let few := min late x.vec.rows.length < 4
    (few → x.vec.full = false → w = [] → ∃ b, Runs (.vectorRow t late n e) s b ∧ SameOthers s.blk b t ∧
      (b.tile t).sp.mem = x.sp.mem ∧ (b.tile t).vec.fifo = x.vec.fifo ∧
      ∃ r, (b.tile t).vec.rows = x.vec.rows ++ [r] ∧ r.ser = d.ser ∧ r.row = d.issued ∧ r.void = d.void) ∧
    (few → x.vec.full = false → w ≠ [] → ∃ b, Runs (.vectorRow t late n e) s b ∧ SameOthers s.blk b t ∧
      b.tile t = { x with vec := { x.vec with waits := some w } }) ∧
    (¬ few ∨ x.vec.full = true → ∃ b, Runs (.vectorRow t late n e) s b ∧ SameStore s.blk b)) ∧
  (∀ (s : State) (t : TileId) (n : Nat) (e : List Ecc), s.blk.live t = true →
    let v := (s.blk.tile t).vec
    (∀ r rest d, v.rows = r :: rest → ((s.blk.tile t).queue 5).find r.ser = some d → ∃ b, Runs (.vectorRowComplete t n e) s b ∧
      let ws := r.writes ++ sumWrites d (rowSummaries d r v.red).1
      SameOthers s.blk b t ∧ (b.tile t).vec.rows = rest ∧ b.ctl.rd64 (vecPage t + 0x50) = r.lfsr % 2 ^ 64 ∧
      (b.tile t).sp.mem = ((s.blk.spStores t e ws).tile t).sp.mem ∧
      (NoLoss e → (b.tile t).sp.mem = ws.foldl (fun m w => m.write w.addr w.run) (s.blk.tile t).sp.mem) ∧
      (∀ i m l, vdSumDst d % 2 = 1 → (rowSummaries d r v.red).1 = (i, m) :: l →
        (v.held = [] → v.fifo.length < 16 → (b.tile t).vec.fifo = v.fifo ++ [m] ∧ (b.tile t).vec.held = []) ∧
        (v.held ≠ [] ∨ 16 ≤ v.fifo.length → (b.tile t).vec.fifo = v.fifo ∧ (b.tile t).vec.held = v.held ++ [m]))) ∧
    (∀ m rest, v.held = m :: rest →
      (v.fifo.length < 16 → ∃ b, Runs (.summaryPush t n) s b ∧ SameOthers s.blk b t ∧ (b.tile t).vec.held = rest ∧
        (b.tile t).vec.fifo = v.fifo ++ [m] ∧ (b.tile t).sp = (s.blk.tile t).sp) ∧
      (16 ≤ v.fifo.length → ∃ b, Runs (.summaryPush t n) s b ∧ SameStore s.blk b)))

/-- 06 R141, R145, R146, R148, R153: what a port grants of those that compete for it: something where there is anyone and no bank is held for
a merge; either one wide access or narrow ones in distinct banks, none of them held, at most two of a remote source; and, where nothing is promoted, a wide access before narrow ones, the one of
lowest rank. -/
def Obligations.PortGrantsNeverConflict : Prop :=
  ∀ (held : List Nat) (cs : List Cand),
    let g := portGrant held cs
    (∀ c ∈ g, c ∈ cs) ∧ (held = [] → cs ≠ [] → g ≠ []) ∧ (∀ c ∈ g, c.wide = false → c.bank ∉ held) ∧ (∀ w ∈ g, w.wide = true → g = [w]) ∧ g.Pairwise (·.bank ≠ ·.bank) ∧
      (∀ n : Nat, (g.filter fun c => c.src == some n).length ≤ 2) ∧
      ((∀ c ∈ cs, c.promo = none) → (∃ c ∈ cs, c.wide = true) →
        ∃ w, g = [w] ∧ w.wide = true ∧ ∀ c ∈ cs, c.wide = true → w.rank ≤ c.rank)

/-- 06 R144, R145, R146, R149, R150: one cycle of both ports, among the requests that stand there and those that units present in it. A read
granted returns the words as they stood before this cycle's write, a merge keeps its write half, a whole write takes effect, the others wait
one cycle more, but for write-backs that a write makes void; while the tags are cleared nothing is granted. 06 R148:
the requests that have waited 64 tile cycles, and only those, become promoted, wide before narrow and by rank, and PROMOTE counts them; a
promoted one keeps its place. -/
def Obligations.ScratchpadRequestsAreGranted : Prop :=
  (∀ (s : State) (t : TileId) (o : List PortReq),
    let x := s.blk.tile t
    let y : Tile := { x with sp := { x.sp with reqs := x.sp.reqs ++ o.map PortReq.req } }
    let rd := y.readGrants.map (·.idx)
    let wr := y.writeGrants.map (·.idx)
    let left := (y.sp.reqs.zipIdx.filter fun e => !rd.contains e.2 && !wr.contains e.2).map fun e => { e.1 with waited := e.1.waited + 1 }
    (s.blk.ctl.tileGood t = true → x.init = false → ∃ b, Runs (.scratchpadGrant t o) s b ∧ SameOthers s.blk b t ∧
      ((b.tile t).sp.reqs.filter fun r => !r.isBack) = (left.filter fun r => !r.isBack) ∧
      (∀ i ∈ rd, ∀ r, y.sp.reqs[i]? = some r →
        (r.wr = false → r.isUnit = false → ∃ q ∈ (b.tile t).sp.rets, { q with stale := [] } = x.capture r) ∧
        (r.wr = true → r ∈ (b.tile t).sp.merges)) ∧
      (wr = [] → (b.tile t).sp.reqs = left ∧ (b.tile t).sp.mem = x.sp.mem ∧ b.ctl.net = s.blk.ctl.net) ∧
      (∀ i r, wr = [i] → y.sp.reqs[i]? = some r → (b.tile t).sp.mem = match r.who with
        | .unit _ => x.sp.mem
        | .writeback bad => if bad then x.sp.mem.setBad r.word true else x.sp.mem
        | _ => x.sp.mem.write (r.word * 32) r.run)) ∧
    (s.blk.ctl.tileGood t = false ∨ x.init = true → Runs (.scratchpadGrant t o) s s.blk)) ∧
  (∀ (s : State) (t : TileId),
    let x := s.blk.tile t
    let due (r : SpReq) : Prop := r.promo = none ∧ 64 ≤ r.waited
    ∃ b, Runs (.requestPromote t) s b ∧ SameOthers s.blk b t ∧ (b.tile t).sp.reqs.length = x.sp.reqs.length ∧
      (b.tile t).sp.mem = x.sp.mem ∧
      (∀ (i : Nat) (r : SpReq), x.sp.reqs[i]? = some r →
        (due r → ∃ n, x.sp.promos ≤ n ∧ n < (b.tile t).sp.promos ∧ (b.tile t).sp.reqs[i]? = some { r with promo := some n }) ∧
        (¬ due r → (b.tile t).sp.reqs[i]? = some r)) ∧
      (∀ (i j : Nat) (r q : SpReq) (m n : Nat), x.sp.reqs[i]? = some r → x.sp.reqs[j]? = some q → due r → due q → r.wide = true → q.wide = false →
        (∀ z ∈ x.sp.reqs, z.rank < 16) →
        (b.tile t).sp.reqs[i]? = some { r with promo := some m } → (b.tile t).sp.reqs[j]? = some { q with promo := some n } → m < n))

/-- 06 R144, R145, R150, R151, R154: what follows a grant. The oldest granted read returns to who asked, and the words it found in error that
no write has reached since are to be written back; the oldest merge, once its bank is free, stores its bytes, and after an uncorrectable
error poisons its word; the oldest write-back, where the write port gives it its turn, poisons an uncorrectable word and leaves the data. 06
R143, R150: a streaming unit reads the row it holds, else the row as it stands, which it then holds. 06 R149, R150: with SCRUB_EN the
scrubber reads the written words in rising order and wraps to the lowest; the clearing of the tags ends, and what waited for it is done. -/
def Obligations.ScratchpadReturnsAndTheScrubber : Prop :=
  (∀ (s : State) (t : TileId) (e : List Ecc), s.blk.ctl.tileGood t = true →
    let x := s.blk.tile t
    let p := spdPage t
    (∀ r rest, x.sp.rets = r :: rest →
      let v := r.view (s.blk.retUsed t r) (s.blk.ctl.flag p F.SPD_CTRL_COLD_POISON) e
      ∃ b, Runs (.readDataReturn t e) s b ∧ SameOthers s.blk b t ∧ (b.tile t).sp.rets = rest ∧ (b.tile t).sp.mem = x.sp.mem ∧
        (b.tile t).sp.reqs = x.sp.reqs ++ ((checks (s.blk.retUsed t r) r.colds e).filter fun z => !r.stale.contains z.1).map (fun z =>
          writeback z.1 (z.2 == .uncorr)) ∧
        (r.who = .indirect → ∀ n < 8, b.ctl.getN p F.SPD_IND_DATA_DATA n = (v.slice (4 * n) 4).nat % 2 ^ 32) ∧
        (∀ f ser al, r.who = .feedData f ser al → (b.tile t).feeder f = (x.feeder f).fill false ser al v) ∧
        (∀ f ser al, r.who = .feedScale f ser al → (b.tile t).feeder f = (x.feeder f).fill true ser al v) ∧
        (∀ src tag, r.who = .remote src tag → b.ctl.net = s.blk.ctl.net ++ [pktOf t
          { kind := 3, cls := 1, rsp := true, dest := src, tag := tag, bytes := r.size, run := v.slice r.off r.size }])) ∧
    (∀ r rest, x.sp.merges = r :: rest →
      let m := x.sp.mem.write (r.word * 32 + r.off) r.run
      (x.sp.wbusy.contains (bankOf r.word) = true → Runs (.mergeWriteGrant t e) s s.blk) ∧
      (x.sp.wbusy.contains (bankOf r.word) = false → ∃ b, Runs (.mergeWriteGrant t e) s b ∧ SameOthers s.blk b t ∧
        (b.tile t).sp.merges = rest ∧ (r.isUnit = true → (b.tile t).sp.mem = x.sp.mem) ∧
        (r.isUnit = false → NoLoss e → (b.tile t).sp.mem = m) ∧
        (r.isUnit = false → e.head? = some .uncorr → x.sp.mem.isWritten r.word = true → 0 < r.run.bytes.length →
          r.run.bytes.length < 32 → r.off + r.run.bytes.length ≤ 32 → (b.tile t).sp.mem = m.setBad r.word true))) ∧
    (∀ r i bad, (x.sp.reqs.zipIdx.find? fun q => q.1.isBack) = some (r, i) → r.who = .writeback bad →
      let turn := x.writeGrants.any (fun c => c.idx == i) && !x.sp.wbusy.contains (bankOf r.word)
      (turn = true → ∃ b, Runs (.eccWriteback t) s b ∧ SameOthers s.blk b t ∧ b.ctl.net = s.blk.ctl.net ∧
        (b.tile t).sp.reqs = x.sp.reqs.eraseIdx i ∧ (b.tile t).sp.mem.cells = x.sp.mem.cells ∧
        ∀ q, (b.tile t).sp.mem.isBad q = (x.sp.mem.isBad q || (bad && q == r.word))) ∧
      (turn = false → Runs (.eccWriteback t) s s.blk))) ∧
  (∀ (b : Blk) (t : TileId) (u ser row lo hi : Nat) (e : List Ecc),
    let x := b.tile t
    let g := b.stagedPart t u ser row lo hi e
    (∀ z, SMap.find? x.sp.staged u = some z → z.ser = ser → z.row = row →
      g.run.bytes = (z.run.slice (lo - row * 512) (hi - lo)).bytes) ∧
    ((∀ z, SMap.find? x.sp.staged u = some z → ¬ (z.ser = ser ∧ z.row = row)) →
      g.run.bytes = ((x.sp.mem.read (row * 512) 512).slice (lo - row * 512) (hi - lo)).bytes ∧
      ∃ z, SMap.find? (g.blk.tile t).sp.staged u = some z ∧ z.ser = ser ∧ z.row = row ∧ z.run = x.sp.mem.read (row * 512) 512) ∧
    (g.blk.tile t).sp.mem = x.sp.mem ∧ SameOthers b g.blk t) ∧
  (∀ (s : State) (t : TileId), s.blk.ctl.tileGood t = true →
    let x := s.blk.tile t
    (x.init = false → s.blk.ctl.flag (spdPage t) F.SPD_CTRL_SCRUB_EN = true → x.sp.mem.written ≠ [] →
      ∃ b w, Runs (.scrubRead t) s b ∧ SameOthers s.blk b t ∧ b.ctl = s.blk.ctl ∧ w ∈ x.sp.mem.written ∧ (b.tile t).sp.scrubAt = w + 1 ∧
        (b.tile t).sp.reqs = x.sp.reqs ++ [{ rank := 7, who := .scrub, word := w }] ∧
        (x.sp.scrubAt ≤ w ∨ ∀ q ∈ x.sp.mem.written, q < x.sp.scrubAt)) ∧
    (x.init = true → ∃ b, Runs (.spdInitComplete t) s b ∧ SameOthers s.blk b t ∧ (b.tile t).init = false ∧ (b.tile t).sp.late = [] ∧
      (b.tile t).sp.submit = none ∧ (b.tile t).sp.mem = x.sp.late.foldl (fun m w => m.write w.1 w.2) x.sp.mem ∧
      (x.sp.late = [] → x.sp.submit = none → b.ctl = s.blk.ctl ∧ b.tile t = { x with init := false })) ∧
    (x.init = false → Runs (.spdInitComplete t) s s.blk))

/-- 06 R151 to R153, 16 R414: a remote access that has arrived is presented at remote rank; a held tile answers with an error. The reply to
a core's load completes it: the value extended into its register, or a load access fault where it carries an error. 06 R154: IND_CMD. An
accepted read or write sets IND_BUSY and presents its access at indirect rank, a write with the eight data words; one with a command in
progress counts 0x05, one outside the scratchpad 0x04. IND_BUSY clears once the access has been had. -/
def Obligations.RemoteAndIndirectAccessesAreServed : Prop :=
  (∀ (s : State) (i : Nat) (t : Nat) (p : Pkt), s.blk.ctl.atTile i = some (t, .pkt p) →
    let x := s.blk.tile t
    let net := s.blk.ctl.net.eraseIdx i
    let k := p.tag % 4
    (p.kind = 1 → s.blk.live t = true → ∃ b, Runs (.remoteAccessServe i) s b ∧ SameOthers s.blk b t ∧ b.ctl.net = net ∧
      (b.tile t).sp.reqs = x.sp.reqs ++
        [{ rank := 5, who := .remote p.src p.tag, word := p.addr / 32, off := p.addr % 32, size := p.bytes }]) ∧
    (p.kind = 2 → s.blk.live t = true → ∃ b, Runs (.remoteAccessServe i) s b ∧ SameOthers s.blk b t ∧ b.ctl.net = net ∧
      (b.tile t).sp.reqs = x.sp.reqs ++ [{ wr := true, rank := 5, who := .remote p.src p.tag, word := p.addr / 32, off := p.addr % 32
                                           size := p.bytes, run := p.run }]) ∧
    (p.kind = 1 → s.blk.live t = false → ∃ b, Runs (.remoteAccessServe i) s b ∧ SameStore s.blk b ∧ b.ctl.net = net ++
      [pktOf t { kind := 3, cls := 1, rsp := true, dest := p.src, tag := p.tag, err := true }]) ∧
    (p.kind = 2 → s.blk.live t = false → p.src < 1920 → ∃ b, Runs (.remoteAccessServe i) s b ∧ SameStore s.blk b ∧ b.ctl.net = net ++
      [⟨.router t 0, .msg { type := 9, dest := p.src, src := t, arg := 2 ^ 20 + p.tag, value := 1 }⟩]) ∧
    (∀ w, p.kind = 3 → k < 2 → s.blk.live t = true → ((x.core k).awaits.find? fun w => w.tag == p.tag / 4 && w.store == false) = some w →
      x.Shaped → w.rd < 32 →
      (p.err = false → p.run.anyBad = false → ∃ b, Runs (.readReply i) s b ∧ SameOthers s.blk b t ∧ b.ctl.net = net ∧
        ((b.tile t).core k).awaits = (x.core k).awaits.erase w ∧ ((b.tile t).core k).pc = (x.core k).pc ∧
        (w.rd ≠ 0 → ((b.tile t).core k).reg w.rd = loadExt w.size w.sext p.run.nat)) ∧
      (p.err = true → ∃ b, Runs (.readReply i) s b ∧ SameOthers s.blk b t ∧
        ((b.tile t).core k).trap = some (.loadAccess w.addr) ∧ ((b.tile t).core k).x = (x.core k).x))) ∧
  (∀ (s : State) (fn : Fn) (t : TileId),
    let x := s.blk.tile t
    let p := spdPage t
    let c := s.blk.ctl
    let w := c.get p F.SPD_IND_ADDR_WORD
    let busy := c.flag p F.SPD_STATUS_IND_BUSY
    let refuse (code : Nat) : Blk := { s.blk with ctl := (c.unpair p).err p code fn.num (p + 0x58) }
    (c.reaches fn p → busy = false → w * 32 < spBytes t → ∃ b, Runs (.spdIndRead fn t) s b ∧ SameOthers s.blk b t ∧
      b.ctl.flag p F.SPD_STATUS_IND_BUSY = true ∧ (b.tile t).sp.mem = x.sp.mem ∧
      (b.tile t).sp.reqs = x.sp.reqs ++ [{ rank := 6, who := .indirect, word := w }]) ∧
    (c.reaches fn p → busy = false → w * 32 < spBytes t → ∃ b, Runs (.spdIndWrite fn t) s b ∧ SameOthers s.blk b t ∧
      b.ctl.flag p F.SPD_STATUS_IND_BUSY = true ∧ (b.tile t).sp.mem = x.sp.mem ∧
      ∃ r, (b.tile t).sp.reqs = x.sp.reqs ++ [r] ∧ r.wr = true ∧ r.rank = 6 ∧ r.word = w ∧ r.run.bytes.length = 32 ∧
        ∀ n < 8, (r.run.slice (4 * n) 4).nat = c.getN p F.SPD_IND_DATA_DATA n) ∧
    (c.reaches fn p → busy = true → Runs (.spdIndRead fn t) s (refuse 0x05) ∧ Runs (.spdIndWrite fn t) s (refuse 0x05)) ∧
    (c.reaches fn p → busy = false → spBytes t ≤ w * 32 → Runs (.spdIndRead fn t) s (refuse 0x04) ∧ Runs (.spdIndWrite fn t) s (refuse 0x04)) ∧
    ((∀ r ∈ x.sp.reqs, r.who ≠ .indirect) → (∀ r ∈ x.sp.rets, r.who ≠ .indirect) →
      ∃ b, Runs (.spdIndDone t) s b ∧ OnlyRegs s.blk b [p + 0x14] ∧ b.ctl.flag p F.SPD_STATUS_IND_BUSY = false))

/-- 07 R160: while a shot runs, a queue with descriptors left in its list prefetches the header of the next, at most four ahead. 07 R167,
R168, 14 R376, 16 R414: a shot start with no shot running or pending, whose load step is not held, begins its shot; else it becomes the
pending one, and with one pending already the register write counts 0x0D. The pending shot starts when none runs; one whose every list is complete ends, and sets cause 2. -/
def Obligations.QueuesPrefetchAndShotsStart : Prop :=
  (∀ (s : State) (t : TileId) (u : Fin 8) (e : List Ecc),
    let x := s.blk.tile t
    let q := x.queue (u.val + 1)
    let r := spView x.sp.mem (s.blk.ctl.flag (spdPage t) F.SPD_CTRL_COLD_POISON) (q.base * 64 + q.next * 64) 4 e
    let able := s.blk.live t = true ∧ x.shotRun = true ∧ x.shotHalt = false ∧ q.halted = false ∧ q.next < q.count ∧ q.hdrs.length < 4
    (able → ∃ b, Runs (.descriptorPrefetch t u e) s b ∧ SameOthers s.blk b t ∧ (b.tile t).sp.mem = x.sp.mem ∧
      (b.tile t).queue (u.val + 1) = { q with next := q.next + 1, hdrs := q.hdrs ++ [(BitVec.ofNat 32 r.nat, r.anyBad)] }) ∧
    (¬ able → Runs (.descriptorPrefetch t u e) s s.blk)) ∧
  (∀ (s : State) (fn : Fn) (t : TileId) (row : Fin 8192) (e : List Ecc),
    let x := s.blk.tile t
    let p := seqPage t
    let c := s.blk.ctl
    let free := x.shotRun = false ∧ x.pendShot = none ∧ x.init = false ∧ c.kasRuns t = false ∧ c.shotHeld t = false
    (c.reaches fn p → x.wrapped = false → x.Shaped →
      (free → ShotOk t row (s.blk.shotHeader t row e) → ∃ b, Runs (.seqShotStart fn t row e) s b ∧ SameOthers s.blk b t ∧
        ShotBegun s.blk b t (s.blk.shotHeader t row e)) ∧
      (¬ free → x.pendShot = none → ∃ b, Runs (.seqShotStart fn t row e) s b ∧ SameOthers s.blk b t ∧
        b.tile t = { x with pendShot := some row.val }) ∧
      (x.pendShot ≠ none → Runs (.seqShotStart fn t row e) s { s.blk with ctl := (c.unpair p).err p 0x0D fn.num (p + 0x40) })) ∧
    (∀ r, s.blk.live t = true → x.Shaped → x.pendShot = some r → x.shotRun = false → x.init = false → c.kasRuns t = false →
      c.shotHeld t = false → c.kasDue t = false → ShotOk t r (s.blk.shotHeader t r e) →
      (∀ k n, (x.core k).stall ≠ .shot n) →
      ∃ b, Runs (.pendingShotStart t e) s b ∧ SameOthers s.blk b t ∧ ShotBegun s.blk b t (s.blk.shotHeader t r e) ∧
        (b.tile t).pendShot = none) ∧
    (x.shotRun = true → x.shotHalt = false → (∀ q ∈ x.queues, q.halted = false ∧ q.complete = true) →
      ∃ b, Runs (.shotComplete t) s b ∧ SameOthers s.blk b t ∧ (b.tile t).shotRun = false ∧ bit (b.ctl.rd (p + 0x18)) 2 = true ∧
        (x.doneSen = true → x.doneSlate < 16 → c.SlateAdded b.ctl t x.doneSlate 1)) ∧
    ((x.shotRun = false ∨ x.shotHalt = true ∨ ∃ q ∈ x.queues, q.halted = true ∨ q.complete = false) → Runs (.shotComplete t) s s.blk))

/-- 07 R176, R178, R191: the writes of a local slate. ADD adds its value; COUNT and THRESH take theirs and REACHED is judged anew, in either
direction. Nothing else of the register file changes. 07 R176, R177: a local slate that was reached releases what waits on it: cores in
SL.WAIT go on, descriptors are released, its cause is set. Its rearm raises THRESH by STEP and judges REACHED anew. -/
def Obligations.LocalSlatesCountReachAndRearm : Prop :=
  (∀ (s : State) (fn : Fn) (t : TileId) (n : Fin 16) (w : Word),
    let p := slatePage t
    let c := s.blk.ctl
    c.reaches fn p → c.unlocked p →
    (∃ b, Runs (.slateAddWrite fn t n w) s b ∧ SameOthers s.blk b t ∧ c.SlateAdded b.ctl t n w.toNat ∧
      ∀ r, r ≠ p + 0x40 + 16 * n → r ≠ p + 0x48 + 16 * n → b.ctl.rd r = c.rd r) ∧
    (∃ b, Runs (.slateCountWrite fn (.loc t n) w) s b ∧ SameOthers s.blk b t ∧ b.ctl.rd (p + 0x40 + 16 * n) = w ∧ b.ctl.SlateJudged t n ∧
      ∀ r, r ≠ p + 0x40 + 16 * n → r ≠ p + 0x48 + 16 * n → b.ctl.rd r = c.rd r) ∧
    (∃ b, Runs (.slateThreshWrite fn (.loc t n) w) s b ∧ SameOthers s.blk b t ∧ b.ctl.rd (p + 0x44 + 16 * n) = w ∧ b.ctl.SlateJudged t n ∧
      ∀ r, r ≠ p + 0x44 + 16 * n → r ≠ p + 0x48 + 16 * n → b.ctl.rd r = c.rd r)) ∧
  (∀ (s : State) (t : TileId) (n : Fin 16),
    let x := s.blk.tile t
    let p := slatePage t
    (n.val ∈ x.fresh → ∃ b, Runs (.slateWaitRelease (.loc t n)) s b ∧ SameOthers s.blk b t ∧ n.val ∉ (b.tile t).fresh ∧
      bit (b.ctl.rd (p + 0x18)) (n.val + 1) = true ∧
      (∀ k, (x.core k).stall = .slate n.val → ((b.tile t).core k).stall = .none ∧ ((b.tile t).core k).pc = (x.core k).pc + 4) ∧
      (∀ k, (x.core k).stall ≠ .slate n.val → (b.tile t).core k = x.core k) ∧
      (∀ (u : Nat) (q : Queue) (h : Word) (bad : Bool) (l : List (Word × Bool)), x.queues[u]? = some q → q.waiting = true → q.hdrs = (h, bad) :: l → hWen h = true → hWslate h = n.val →
        (b.tile t).queues[u]? = some { q with released := true, waiting := false })) ∧
    (n.val ∉ x.fresh → Runs (.slateWaitRelease (.loc t n)) s s.blk) ∧
    (n.val ∈ x.rearm → ∃ b, Runs (.slateRearm (.loc t n)) s b ∧ SameOthers s.blk b t ∧ b.ctl.SlateJudged t n ∧
      b.ctl.getN p F.SLATE_THRESH_THRESH n =
        (s.blk.ctl.getN p F.SLATE_THRESH_THRESH n + s.blk.ctl.getN p F.SLATE_CTRL_STEP n) % 2 ^ 32) ∧
    (n.val ∉ x.rearm → Runs (.slateRearm (.loc t n)) s s.blk))

/-- 07 R176 to R180, R192: rim slates. RSL_SEL names one of the stage's range for the STAGE page's COUNT and THRESH; a wait is released, a
rearm raises THRESH by STEP, a broadcast due adds 1 to slate TARGET of every tile of the stage that is not held. 07 R179: while the stage's
clocks are stopped the rim holds what reaches its slates, and they have no cycle. 07 R166, R178, R179, 16
R414: a slate add or a predicate token that has arrived leaves the mesh and takes effect where it arrived: the slate of the tile grows, the
predicate is valid with its value, the rim slate of the stage grows; a held tile absorbs it. -/
def Obligations.RimSlatesAndSlateMessages : Prop :=
  (∀ (s : State) (fn : Fn) (st : StageId) (i : Fin 1024) (w : Word),
    let c := s.blk.ctl
    let p := stagePage st
    let x := c.rimSlate i
    let stopped := (c.rimSlateStage i).any c.stageStopped
    (c.reaches fn p → c.unlocked p → c.rslIndex st = some i.val → stopped = false →
      (∃ b, Runs (.slateCountWrite fn (.sel st) w) s b ∧ SameStore s.blk b ∧ b.ctl.regs = c.regs ∧ (b.ctl.rimSlate i).count = w.toNat ∧
        ((b.ctl.rimSlate i).reached = slateMet w.toNat x.thresh)) ∧
      (∃ b, Runs (.slateThreshWrite fn (.sel st) w) s b ∧ SameStore s.blk b ∧ b.ctl.regs = c.regs ∧ (b.ctl.rimSlate i).thresh = w.toNat ∧
        ((b.ctl.rimSlate i).reached = slateMet x.count w.toNat))) ∧
    (c.reaches fn p → c.unlocked p → c.rslIndex st = some i.val → stopped = true →
      (∃ b, Runs (.slateCountWrite fn (.sel st) w) s b ∧ SameStore s.blk b ∧ b.ctl.rimSlate i = { x with late := x.late ++ [.count w.toNat] }) ∧
      (∃ b, Runs (.slateThreshWrite fn (.sel st) w) s b ∧ SameStore s.blk b ∧ b.ctl.rimSlate i = { x with late := x.late ++ [.thresh w.toNat] })) ∧
    (c.reaches fn p → c.unlocked p → c.rslIndex st = none →
      Runs (.slateCountWrite fn (.sel st) w) s { s.blk with ctl := (c.unpair p).err p 0x0F fn.num (p + 0x88) }) ∧
    (c.rimSlateStage i = some st.val → stopped = true →
      Runs (.slateWaitRelease (.rim i)) s s.blk ∧ Runs (.slateRearm (.rim i)) s s.blk) ∧
    (c.rimSlateStage i = some st.val → stopped = false →
      (∃ b, Runs (.slateWaitRelease (.rim i)) s b ∧ SameStore s.blk b ∧ b.ctl.rimSlate i = { x with fresh := false }) ∧
      (x.rearm = true → ∃ b, Runs (.slateRearm (.rim i)) s b ∧ SameStore s.blk b ∧ (b.ctl.rimSlate i).thresh = (x.thresh + x.step) % 2 ^ 32 ∧
        (b.ctl.rimSlate i).reached = slateMet x.count ((x.thresh + x.step) % 2 ^ 32)) ∧
      (x.rearm = false → Runs (.slateRearm (.rim i)) s s.blk)) ∧
    (c.rimSlateStage i = some st.val →
      (0 < x.due → x.target < 16 → ∃ b, Runs (.rimSlateBroadcast i) s b ∧ (b.ctl.rimSlate i).due = x.due - 1 ∧
        ∀ t ∈ c.stageTiles st, (s.blk.live t = true → c.SlateAdded b.ctl t x.target 1) ∧ (s.blk.live t = false → b.tile t = s.blk.tile t)))) ∧
  (∀ (s : State) (i t : Nat) (m : Msg),
    let c := s.blk.ctl
    let net := c.net.eraseIdx i
    let q := seqPage t
    (c.atTile i = some (t, .msg m) → m.type = 1 → s.blk.live t = true → t < 1920 → ∃ b, Runs (.slateAddMessage i) s b ∧ SameOthers s.blk b t ∧
      b.ctl.net = net ∧ c.SlateAdded b.ctl t (m.arg % 16) m.value) ∧
    (c.atTile i = some (t, .msg m) → m.type = 2 → s.blk.live t = true → ∃ b, Runs (.predicateToken i) s b ∧ SameStore s.blk b ∧
      b.ctl.net = net ∧ (b.ctl.get q F.SEQ_PRED_VALID).testBit (m.arg % 8) = true ∧
      (b.ctl.get q F.SEQ_PRED_VALUE).testBit (m.arg % 8) = (m.value % 2 == 1) ∧ ∀ r, r ≠ q + 0x48 → b.ctl.rd r = c.rd r) ∧
    (c.atTile i = some (t, .msg m) → s.blk.live t = false →
      (m.type = 1 → ∃ b, Runs (.slateAddMessage i) s b ∧ SameStore s.blk b ∧ b.ctl = c.takeNet i) ∧
      (m.type = 2 → ∃ b, Runs (.predicateToken i) s b ∧ SameStore s.blk b ∧ b.ctl = c.takeNet i)) ∧
    (∀ st, c.atRim i = some (st, 0x30, .msg m) → m.type = 1 → c.rimSlateStage (m.arg % 1024) = some st →
      ∃ b, Runs (.slateAddMessage i) s b ∧ SameStore s.blk b ∧ b.ctl.net = net ∧
        (c.stageStopped st = false → (b.ctl.rimSlate (m.arg % 1024)).count = ((c.rimSlate (m.arg % 1024)).count + m.value) % 2 ^ 32) ∧
        (c.stageStopped st = true → b.ctl.rimSlate (m.arg % 1024) =
          { c.rimSlate (m.arg % 1024) with late := (c.rimSlate (m.arg % 1024)).late ++ [.add m.value] })))

/-- 07 R176, R181, R182, R191, 05 R126, R127: what a ready core's instructions on slates, summaries and predicates do. Each moves past
itself and gives its result; SL.WAIT on a slate not reached and SUM.TAKE on an empty FIFO stall the core. 07 R168, R175, R179, 10 R262: a
core's shot start and messages. SHOT.START begins the shot, makes it the pending one, or stalls the core; SL.SIG and PRED.SET send one TC0
message to a tile of the stage, or to a rim slate of it, after the core's own stores, and stall while the limit holds it; to a tile or a rim
slate outside the stage the message is dropped and 0x08 counted. -/
def Obligations.CoreInstructionsTakeEffect : Prop :=
  (∀ (s : State) (t : TileId) (k : Fin 2) (rd rs1 rs2 : Reg),
    let x := s.blk.tile t
    let core := x.core k
    let c := s.blk.ctl
    let p := slatePage t
    let n := bits (core.reg rs1) 3 0
    (k = 0 ∨ isSTile t = true) → x.Shaped →
    (s.blk.coreReady t k [] = true → ∃ b, CoreDone (.fenceI t k) s t k none b ∧ ((b.tile t).core k).icache = []) ∧
    (s.blk.coreReady t k [rs1, rs2] = true →
      (∃ b, CoreDone (.slAdd t k rs1 rs2) s t k none b ∧ c.SlateAdded b.ctl t n (core.reg rs2).toNat) ∧
      (∃ b, CoreDone (.slArm t k rs1 rs2) s t k none b ∧ b.ctl.SlateJudged t n ∧ b.ctl.getN p F.SLATE_THRESH_THRESH n = (core.reg rs2).toNat) ∧
      (bit (core.reg rs2) 31 = true → ∃ b, CoreDone (.predSet t k rs1 rs2) s t k none b ∧
        (b.ctl.get (seqPage t) F.SEQ_PRED_VALID).testBit (bits (core.reg rs1) 2 0) = true ∧
        (b.ctl.get (seqPage t) F.SEQ_PRED_VALUE).testBit (bits (core.reg rs1) 2 0) = bit (core.reg rs1) 8)) ∧
    (s.blk.coreReady t k [rs1] = true →
      (c.reached t n = true → ∃ b, CoreDone (.slWait t k rs1) s t k none b) ∧
      (c.reached t n = false → ∃ b, Runs (.slWait t k rs1) s b ∧ SameOthers s.blk b t ∧ b.ctl = c ∧ (b.tile t).core k = { core with stall := .slate n }) ∧
      (∃ b, CoreDone (.predClr t k rs1) s t k none b ∧ ∀ i < 8, (b.ctl.get (seqPage t) F.SEQ_PRED_VALID).testBit i =
        ((c.get (seqPage t) F.SEQ_PRED_VALID).testBit i && !bit (core.reg rs1) i))) ∧
    (s.blk.coreReady t k [rd, rs1] = true →
      (∃ b, CoreDone (.slRead t k rd rs1) s t k (some (rd, BitVec.ofNat 32 (c.getN p F.SLATE_COUNT_COUNT n))) b) ∧
      (∃ b, CoreDone (.slPoll t k rd rs1) s t k (some (rd, if c.reached t n then 1 else 0)) b)) ∧
    (s.blk.coreReady t k [rd] = true →
      (∃ b, CoreDone (.sumFlags t k rd) s t k (some (rd, x.vec.taken.info)) b) ∧
      (∀ m rest, x.vec.fifo = m :: rest →
        (bit m.info 31 = false → ∃ b, CoreDone (.sumTake t k rd) s t k (some (rd, m.value)) b ∧ (b.tile t).vec.fifo = rest ∧
          (b.tile t).vec.taken = m) ∧
        (bit m.info 31 = true → ∃ b, Runs (.sumTake t k rd) s b ∧ SameOthers s.blk b t ∧ (b.tile t).vec.fifo = rest ∧
          ((b.tile t).core k).trap = some (.loadAccess 0) ∧ ((b.tile t).core k).x = core.x)) ∧
      (x.vec.fifo = [] → ∃ b, Runs (.sumTake t k rd) s b ∧ SameOthers s.blk b t ∧ b.ctl = c ∧ (b.tile t).core k = { core with stall := .sum rd }))) ∧
  (∀ (s : State) (t : TileId) (k : Fin 2) (rs1 rs2 : Reg) (e : List Ecc),
    let x := s.blk.tile t
    let core := x.core k
    let c := s.blk.ctl
    let row := (core.reg rs1).toNat / 512
    let free := x.shotRun = false ∧ x.pendShot = none ∧ x.init = false ∧ c.kasRuns t = false ∧ c.shotHeld t = false
    let sig := bits (core.reg rs1) 26 16
    let pre := bits (core.reg rs2) 10 0
    (k = 0 ∨ isSTile t = true) → x.Shaped →
    (s.blk.coreReady t k [rs1] = true →
      (free → ShotOk t row (s.blk.shotHeader t row e) → ∃ b, CoreDone (.shotStart t k rs1 e) s t k none b ∧
        ShotBegun s.blk b t (s.blk.shotHeader t row e)) ∧
      (¬ free → x.pendShot = none → ∃ b, CoreDone (.shotStart t k rs1 e) s t k none b ∧ (b.tile t).pendShot = some row) ∧
      (x.pendShot ≠ none → ∃ b, Runs (.shotStart t k rs1 e) s b ∧ SameOthers s.blk b t ∧ b.ctl = c ∧
        (b.tile t).core k = { core with stall := .shot row })) ∧
    (s.blk.coreReady t k [rs1, rs2] = true → s.blk.storesOut t k = false →
      (bit (core.reg rs1) 31 = false → c.sameStage t sig = true →
        (x.tc0Sent < 4 → x.tc0Held = [] → ∃ b, CoreDone (.slSig t k rs1 rs2) s t k none b ∧ b.ctl.net = c.net ++ [⟨.router t 0, .msg
          { type := 1, dest := sig, src := t, arg := bits (core.reg rs1) 3 0, value := (core.reg rs2).toNat }⟩]) ∧
        (4 ≤ x.tc0Sent → ∃ b, Runs (.slSig t k rs1 rs2) s b ∧ SameOthers s.blk b t ∧ b.ctl.net = c.net ∧
          (b.tile t).core k = { core with stall := .tc0 } ∧
          (b.tile t).tc0Held = x.tc0Held ++
            [({ type := 1, dest := sig, src := t, arg := bits (core.reg rs1) 3 0, value := (core.reg rs2).toNat }, k.val)])) ∧
      (∀ st, bit (core.reg rs1) 31 = true → c.tileStage t = some st → c.rimSlateStage (bits (core.reg rs1) 9 0) = some st →
        x.tc0Sent < 4 → x.tc0Held = [] → ∃ b, CoreDone (.slSig t k rs1 rs2) s t k none b ∧ b.ctl.net = c.net ++ [⟨.router t 0, .msg
          { type := 1, dest := entryTile (c.entryOf t 0x30), src := t, rim := true, arg := bits (core.reg rs1) 9 0
            value := (core.reg rs2).toNat }⟩]) ∧
      (bit (core.reg rs1) 31 = true → c.tileStage t = none ∨ c.rimSlateStage (bits (core.reg rs1) 9 0) ≠ c.tileStage t →
        ∃ b, CoreDone (.slSig t k rs1 rs2) s t k none b ∧ b.ctl.net = c.net ∧
        (c.errHw (seqPage t) 0x08).rd (seqPage t + 0x20) = b.ctl.rd (seqPage t + 0x20)) ∧
      (bit (core.reg rs1) 31 = false → c.sameStage t sig = false → ∃ b, CoreDone (.slSig t k rs1 rs2) s t k none b ∧ b.ctl.net = c.net ∧
        (c.errHw (seqPage t) 0x08).rd (seqPage t + 0x20) = b.ctl.rd (seqPage t + 0x20)) ∧
      (bit (core.reg rs2) 31 = false → c.sameStage t pre = true → x.tc0Sent < 4 → x.tc0Held = [] →
        ∃ b, CoreDone (.predSet t k rs1 rs2) s t k none b ∧ b.ctl.net = c.net ++ [⟨.router t 0, .msg
          { type := 2, dest := pre, src := t, arg := bits (core.reg rs1) 2 0, value := if bit (core.reg rs1) 8 then 1 else 0 }⟩])) ∧
    (s.blk.coreReady t k [rs1, rs2] = true → s.blk.storesOut t k = true → Runs (.slSig t k rs1 rs2) s s.blk))

/-- 06 R145, R149, R151 to R153, R155, R158, 07 R181: loads and stores, every form of them. Of the own scratchpad, also through a window to
the core's own tile: a store's bytes are written, into a word poisoned where its merge found an uncorrectable error, a load's value reaches
its register, extended, and a load of a poisoned word raises a load access fault; while the tags are cleared the core waits. Through a remote
window to another tile of the stage, a request leaves; a second access to its word waits; a window without VALID, to a tile outside the stage
or one disabled, and an address past the scratchpad, is counted and raises an access fault. Of the tile's own block: the register is read or
written as by BAR0, and a store that is dropped raises a store access fault. An address that is no multiple of the access's size, or that the
map does not give, raises an access fault: PRESUMED for the former (log 8). -/
def Obligations.CoreLoadsAndStoresReachTheirMemory : Prop :=
  ∀ (s : State) (t : TileId) (k : Fin 2) (op : MemOp) (r base : Reg) (imm : BitVec 12) (e : List Ecc),
    let x := s.blk.tile t
    let core := x.core k
    let a := (core.reg base + imm.signExtend 32).toNat
    let n := memSize op
    let run := runOf (leBytes n (core.reg r).toNat) false
    let fault : CoreTrap := if memStore op then .storeAccess a else .loadAccess a
    let cmd : Instr := .coreLoadStore t k op r base imm e
    (k = 0 ∨ isSTile t = true) → x.Shaped → s.blk.coreReady t k [r, base] = true →
    let own (o : Nat) : Prop :=
      let v := spView x.sp.mem (s.blk.ctl.flag (spdPage t) F.SPD_CTRL_COLD_POISON) o n e
      (x.init = true → Runs cmd s s.blk) ∧
      (x.init = false → memStore op = true → ∃ b, CoreDone cmd s t k none b ∧
        (NoLoss e → (b.tile t).sp.mem = x.sp.mem.write o run) ∧
        (e.head? = some .uncorr → x.sp.mem.isWritten (o / 32) = true → (b.tile t).sp.mem = (x.sp.mem.write o run).setBad (o / 32) true)) ∧
      (x.init = false → memStore op = false → v.anyBad = false → ∃ b, CoreDone cmd s t k (some (r, loadExt n (memSext op) v.nat)) b ∧
        (b.tile t).sp.mem = x.sp.mem) ∧
      (x.init = false → memStore op = false → v.anyBad = true → ∃ b, Runs cmd s b ∧ SameOthers s.blk b t ∧ (b.tile t).sp.mem = x.sp.mem ∧
        ((b.tile t).core k).trap = some fault ∧ ((b.tile t).core k).x = core.x)
    let refused : Prop := ∃ b, Runs cmd s b ∧ SameOthers s.blk b t ∧ (b.tile t).sp = x.sp ∧ b.ctl.net = s.blk.ctl.net ∧
      ((b.tile t).core k).trap = some fault ∧ ((b.tile t).core k).x = core.x ∧ bit (b.ctl.rd (spdPage t + 0x18)) 4 = true ∧
      s.blk.ctl.Counts b.ctl (spdPage t) F.SPD_REMOTE_ERR_COUNT
    (a % n = 0 → 0x10000000 ≤ a → a < 0x10000000 + spBytes t → own (a - 0x10000000)) ∧
    (a % n = 0 → 0x10000000 + spBytes t ≤ a → a < 0x20000000 → refused) ∧
    (a % n = 0 → 0x20000000 ≤ a → a < 0x21000000 →
      let cfg := s.blk.ctl.rd (spdPage t + 0x44 + 4 * (a / 0x400000 % 4))
      let d := bits cfg 10 0
      let o := a % 0x400000
      let open_ := bit cfg 31 = true ∧ (s.blk.ctl.tileStage t).isSome = true ∧ s.blk.ctl.tileStage d = s.blk.ctl.tileStage t ∧
        s.blk.ctl.tileOff d = false
      (¬ open_ ∨ spBytes d < o + n → refused) ∧
      (open_ → o + n ≤ spBytes d → d = t → own o) ∧
      (open_ → o + n ≤ spBytes d → d ≠ t → (∃ w ∈ core.awaits, w.target = d * 2 ^ 17 + o / 32) → Runs cmd s s.blk) ∧
      (open_ → o + n ≤ spBytes d → d ≠ t → (∀ w ∈ core.awaits, w.target ≠ d * 2 ^ 17 + o / 32) →
        ∃ b, CoreDone cmd s t k none b ∧ (b.tile t).sp = x.sp ∧
          b.ctl.net = s.blk.ctl.net ++ [pktOf t { kind := if memStore op then 2 else 1, cls := 1, dest := d, tag := core.tag * 4 + k, addr := o
                                                  bytes := n, run := if memStore op then run else {} }] ∧
          ((b.tile t).core k).awaits = core.awaits ++ [{ tag := core.tag, store := memStore op, rd := r, size := n, sext := memSext op, addr := a
                                                         target := d * 2 ^ 17 + o / 32 }])) ∧
    (a % n = 0 → 0x30000000 ≤ a → a < 0x30010000 →
      let reg := tilePage t 0 + a % 0x10000 - a % 4
      let w := BitVec.ofNat 32 ((core.reg r).toNat * 256 ^ (a % 4))
      (memStore op = false → ∃ b, CoreDone cmd s t k (some (r, loadExt n (memSext op) ((s.blk.busRead 15 reg).1.toNat / 256 ^ (a % 4)))) b ∧
        (b.tile t).sp = x.sp) ∧
      (memStore op = true → s.blk.coreDrops reg (n == 4) w e = false → Runs cmd s ((s.blk.busWrite 15 reg (n == 4) w e).retire t k)) ∧
      (memStore op = true → s.blk.coreDrops reg (n == 4) w e = true →
        Runs cmd s ((s.blk.busWrite 15 reg (n == 4) w e).trap t k (.storeAccess a)))) ∧
    (a % n ≠ 0 ∨ a < 0x10000000 ∨ (0x21000000 ≤ a ∧ a < 0x30000000) ∨ 0x30010000 ≤ a → ∃ b, Runs cmd s b ∧ SameOthers s.blk b t ∧ b.ctl = s.blk.ctl ∧
      ((b.tile t).core k).trap = some fault ∧ (b.tile t).sp = x.sp)

/-- A command to a unit its tile does not have: the arrays exist in M-tiles only, the gather engine and core 1 in S-tiles only (01 R11, R12,
07 R181). It stops. -/
def Obligations.CommandsToAbsentUnitsStop : Prop :=
  ∀ (s : State) (t : TileId) (e : List Ecc) (n : Nat) (f : Fin 2) (q : Bool) (r : Reg),
    (isSTile t = true → exec (.matrixInstruction t e) s = .fault .noSuchUnit ∧ exec (.arrayRowEnter t n n n) s = .fault .noSuchUnit ∧
      exec (.accRowWrite t) s = .fault .noSuchUnit ∧ exec (.weightLoaderDescriptor t e) s = .fault .noSuchUnit ∧
      exec (.weightBufferFree t) s = .fault .noSuchUnit ∧ exec (.weightBlockUsable t e) s = .fault .noSuchUnit ∧
      exec (.feederRowRequest t f q) s = .fault .noSuchUnit ∧ exec (.feederDescriptorCross t f e) s = .fault .noSuchUnit) ∧
    (isSTile t = false → exec (.gatherDescriptor t e) s = .fault .noSuchUnit ∧ exec (.gatherBag t e) s = .fault .noSuchUnit ∧
      exec (.gatherBagComplete t e) s = .fault .noSuchUnit ∧ exec (.fenceI t 1) s = .fault .noSuchUnit ∧
      exec (.sumTake t 1 r) s = .fault .noSuchUnit)

/-- 07 R163, R169, R171 to R174, 10 R256, 16 R414: sending a transfer. Mover and receiver descriptors are checked before their first step. A
step of classes 1 to 3 asks each destination once for the credit it lacks; with its credit the transfer leaves, tracked, and the credit is
spent; a step of class 0 fills the injection buffer, and void it has nothing to send (log 53). A request for credit is granted while units are free, a held tile's at once. 07 R172 to
R175, R183, 06 R153, 16 R414: receiving a transfer. One that arrives joins the receive queue, or a held tile answers it with an error. The
oldest that matches the head descriptor is written where its step says, its units are freed and its sender has its acknowledgement; an
acknowledgement ends the tracking of its destination, with an error it halts the mover, and one of a core's store completes that. -/
def Obligations.TransfersLeaveArriveAndAreAnswered : Prop :=
  (∀ (s : State) (t : TileId) (n m i : Nat) (e : List Ecc), s.blk.live t = true →
    let x := s.blk.tile t
    let c := s.blk.ctl
    (∀ d b', s.blk.takeHead t 6 e = .ready d b' →
      (moverCheck c t d = none → ∃ b, Runs (.moverDescriptor t e) s b ∧ SameOthers s.blk b t ∧ Took b t 6 d (mvSteps d)) ∧
      (∀ code, moverCheck c t d = some code → ∃ b, Runs (.moverDescriptor t e) s b ∧ SameOthers s.blk b t ∧ SeqHalted s.blk b t 6 code)) ∧
    (∀ d b', s.blk.takeHead t 7 e = .ready d b' →
      (receiverCheck t d = none → ∃ b, Runs (.receiverDescriptor t e) s b ∧ SameOthers s.blk b t ∧ Took b t 7 d (rvSteps d)) ∧
      (∀ code, receiverCheck t d = some code → ∃ b, Runs (.receiverDescriptor t e) s b ∧ SameOthers s.blk b t ∧ SeqHalted s.blk b t 7 code)) ∧
    (∀ d, s.blk.current t 6 = some d → c.tokensReady t d.hdr = true → x.tracked.length < 1024 →
      let xb := if d.void then 0 else xbOf d
      let dests := mvDests c d
      let miss := missingGrants x dests (creditUnits xb)
      (mvClass d ≠ 0 → miss ≠ [] → ∃ b, Runs (.moverTransferSend t n m e) s b ∧ SameOthers s.blk b t ∧ (b.tile t).sp = x.sp ∧
        (b.tile t).tracked = x.tracked ∧ (b.tile t).asked = x.asked ++ miss.filter (fun u => !x.asked.contains u) ∧
        b.ctl.net = c.net ++ (miss.filter fun u => !x.asked.contains u).map fun u =>
          msgOf t { type := 0xA, dest := u, value := creditUnits xb }) ∧
      (mvClass d ≠ 0 → miss = [] → ∃ b, Runs (.moverTransferSend t n m e) s b ∧ SameOthers s.blk b t ∧ (b.tile t).sp.mem = x.sp.mem ∧
        (b.tile t).asked = [] ∧ (b.tile t).grants = spendGrants x.grants dests (creditUnits xb) ∧
        (b.tile t).tracked = x.tracked ++ [{ ser := d.ser, step := d.issued, stream := mvStream d, seq := mvSeq d d.issued, dests := dests }] ∧
        b.ctl.net = c.net ++ [pktOf t
          { kind := 0, cls := mvClass d, void := d.void, dmode := mvDmode d, dest := dests.headD (mvDest d), seq := mvSeq d d.issued
            stream := mvStream d, rsen := mvRsen d, rslate := mvRslate d, mcLast := mvLast d, bytes := xb
            run := if d.void then {} else (s.blk.mvData t d d.issued e).1 }]) ∧
      (mvClass d = 0 → d.void = true → ∃ b, Runs (.moverTransferSend t n m e) s b ∧ SameOthers s.blk b t ∧ b.ctl.net = c.net ∧
        (b.tile t).mix = x.mix ∧ (b.tile t).tracked = x.tracked ∧ (b.tile t).sp = x.sp) ∧
      (mvClass d = 0 → d.void = false → x.mix.inj.length + (xbOf d + 63) / 64 ≤ 256 → ∃ b l, Runs (.moverTransferSend t n m e) s b ∧ SameOthers s.blk b t ∧
        b.ctl.net = c.net ∧ (b.tile t).mix.inj = x.mix.inj ++ l ∧ l.length = (xbOf d + 63) / 64 ∧
        l = chunksOf (s.blk.mvData t d d.issued e).1 (xbOf d) (t.val, d.ser, d.issued) ∧ ∀ h ∈ l, h.from_ = [(t.val, d.ser, d.issued)]) ∧
      (mvClass d = 0 → d.void = false → 256 < x.mix.inj.length + (xbOf d + 63) / 64 →
        ∃ b, Runs (.moverTransferSend t n m e) s b ∧ SameStore s.blk b)) ∧
    (∀ (u : Nat) (g : Msg), c.atTile i = some (u, .msg g) →
      (g.type = 0xA → s.blk.live u = true → (s.blk.tile u).creditReqs = [] →
        ((s.blk.tile u).granted + g.value ≤ 256 → ∃ b, Runs (.creditRequest i) s b ∧ SameOthers s.blk b u ∧
          b.tile u = { s.blk.tile u with granted := (s.blk.tile u).granted + g.value } ∧
          b.ctl.net = c.net.eraseIdx i ++ [msgOf u { type := 0xB, dest := g.src, value := g.value }]) ∧
        (256 < (s.blk.tile u).granted + g.value → ∃ b, Runs (.creditRequest i) s b ∧ SameOthers s.blk b u ∧
          b.tile u = { s.blk.tile u with creditReqs := [⟨g.src, g.value⟩] } ∧ b.ctl = c.takeNet i)) ∧
      (g.type = 0xA → s.blk.live u = false → ∃ b, Runs (.creditRequest i) s b ∧ SameStore s.blk b ∧
        b.ctl.net = c.net.eraseIdx i ++ [msgOf u { type := 0xB, dest := g.src, value := g.value }]) ∧
      (g.type = 0xB → s.blk.live u = true → (∀ h ∈ (s.blk.tile u).grants, h.1 ≠ g.src) → ∃ b, Runs (.creditGrant i) s b ∧
        SameOthers s.blk b u ∧ b.ctl = c.takeNet i ∧ (b.tile u).grants = (s.blk.tile u).grants ++ [(g.src, g.value)] ∧
        g.src ∉ (b.tile u).asked))) ∧
  (∀ (s : State) (t i : Nat),
    let x := s.blk.tile t
    let c := s.blk.ctl
    (∀ p, c.atTile i = some (t, .pkt p) → p.kind = 0 → p.src ≠ 2047 →
      (s.blk.live t = true → ∃ b, Runs (.transferArrive i) s b ∧ SameOthers s.blk b t ∧ b.ctl = c.takeNet i ∧ (b.tile t).sp = x.sp ∧
        ∃ f, (b.tile t).recvQ = x.recvQ ++ [f] ∧ f.src = p.src ∧ f.stream = p.stream ∧ f.seq = p.seq ∧ f.void = p.void ∧ f.run = p.run) ∧
      (s.blk.live t = false → p.src < 1920 → ∃ b, Runs (.transferArrive i) s b ∧ SameStore s.blk b ∧ b.ctl.net = c.net.eraseIdx i ++
        [msgOf t { type := 9, dest := p.src, arg := p.stream * 2 ^ 16 + p.seq, value := 1 }])) ∧
    (∀ (u : TileId) d f k (e : List Ecc), u.val = t → s.blk.live t = true → x.recvHead = some d → ((x.queue 7).find d.ser) = some d →
      (x.recvQ.find? fun f => (rvMatch d f).isSome && (!x.spill || f.refill)) = some f → rvMatch d f = some k → d.done ≤ k → k ∉ d.ahead →
      k < d.issued → f.eject = false → f.src < 1920 → x.creditReqs = [] →
      ∃ b, Runs (.receiverWrite u e) s b ∧ SameOthers s.blk b t ∧ (b.tile t).recvQ = x.recvQ.erase f ∧
        (b.tile t).granted = x.granted - creditUnits f.run.bytes.length ∧
        (b.tile t).sp.mem = (if d.void || f.void then x.sp.mem else ((s.blk.writeXfer t d k f e).tile t).sp.mem) ∧
        b.ctl.net = c.net ++ [msgOf t { type := 9, dest := f.src, arg := f.stream * 2 ^ 16 + f.seq }] ∧
        (f.rsen = true → f.rslate < 16 → hSen d.hdr = false → c.SlateAdded b.ctl t f.rslate 1)) ∧
    (∀ (g : Msg), c.atTile i = some (t, .msg g) → g.type = 9 → s.blk.live t = true →
      (∀ r, g.arg < 2 ^ 20 → (x.tracked.find? fun r => ackArg r.stream r.seq == g.arg && r.dests.contains g.src) = some r →
        (g.value % 2 = 1 → ∃ b, Runs (.transferAck i) s b ∧ SameOthers s.blk b t ∧ (b.tile t).tracked = x.tracked.erase r ∧
          c.Counts b.ctl (seqPage t) F.SEQ_XFER_ERR ∧ ((6 : Nat) < x.queues.length → SeqHalted s.blk b t 6 0x0A)) ∧
        (g.value % 2 = 0 → (∀ u ∈ r.dests, u = g.src) → ∃ b, Runs (.transferAck i) s b ∧ SameOthers s.blk b t ∧
          (b.tile t).tracked = x.tracked.erase r ∧ (b.tile t).sp = x.sp) ∧
        (g.value % 2 = 0 → (∃ u ∈ r.dests, u ≠ g.src) → ∃ b, Runs (.transferAck i) s b ∧ SameOthers s.blk b t ∧ b.ctl = c.takeNet i ∧
          (b.tile t).tracked.length = x.tracked.length ∧ ∃ q ∈ (b.tile t).tracked, q.ser = r.ser ∧ q.dests = r.dests.filter (· != g.src))) ∧
      (∀ w, 2 ^ 20 ≤ g.arg → (g.arg - 2 ^ 20) % 4 < 2 →
        ((x.core ((g.arg - 2 ^ 20) % 4)).awaits.find? fun w => w.tag == (g.arg - 2 ^ 20) / 4 && w.store == true) = some w → g.value % 2 = 0 →
        ∃ b, Runs (.transferAck i) s b ∧ SameOthers s.blk b t ∧ b.ctl = c.takeNet i ∧
          ((b.tile t).core ((g.arg - 2 ^ 20) % 4)).awaits = (x.core ((g.arg - 2 ^ 20) % 4)).awaits.erase w)))

/-- 07 R183 to R187, 10 R262: deadlock recovery. A tile whose mover waits for credit probes with the destinations it lacks; the detector
keeps the probe, queries the tiles of a cycle, and a cycle whose every tile answered stalled goes into spill mode; a timeout drops it. A
spilling tile's oldest transfer becomes a record of its stage's ring, and a record that its receiver matches comes back. -/
def Obligations.CreditCyclesAreFoundAndSpilled : Prop :=
  ∀ (s : State) (t : TileId) (i : Nat) (st : StageId) (e : List Ecc),
    let x := s.blk.tile t
    let c := s.blk.ctl
    let net := c.net.eraseIdx i
    (s.blk.live t = true → s.blk.creditWait t ≠ [] → x.tc0Sent < 4 → x.tc0Held = [] → ∃ b m, Runs (.stallProbe t) s b ∧ SameOthers s.blk b t ∧
      (b.tile t).probing = true ∧ (b.tile t).edges = (s.blk.creditWait t).take 8 ∧ c.Counts b.ctl (seqPage t) F.SEQ_PROBES_COUNT ∧
      b.ctl.net = c.net ++ [msgOf t m] ∧ m.type = 4 ∧ m.rim = true ∧ m.arg = (if x.probing then 1 else 0) ∧
      m.value = edgesNat ((s.blk.creditWait t).take 8)) ∧
    (s.blk.creditWait t = [] → Runs (.stallProbe t) s s.blk) ∧
    (∀ (q k : Nat) (m : Msg), c.atRim i = some (q, k, .msg m) → m.type = 4 →
      let d := c.detector q
      let d' := { d with probes := SMap.put (s.blk.currentProbes d) m.src (edgesOf 9 m.value) }
      let found := cycleFrom (s.blk.currentProbes d') m.src ((s.blk.currentProbes d').length + 1) [m.src] [[m.src]]
      (found = none → ∃ b, Runs (.probeArrive i) s b ∧ SameStore s.blk b ∧ b.ctl.net = net ∧ (b.ctl.detector q).probes = d'.probes) ∧
      (∀ l, found = some l → d.cycle = [] → d.waiting = [] → ∃ b, Runs (.probeArrive i) s b ∧ SameStore s.blk b ∧
        (∀ u, u ∈ (b.ctl.detector q).cycle ↔ u ∈ l) ∧
        ∀ u ∈ l, ∃ f ∈ b.ctl.net, ∃ g, f.item = .msg g ∧ g.type = 5 ∧ g.dest = u)) ∧
    (∀ (m : Msg), c.atTile i = some (t.val, .msg m) → m.type = 5 → s.blk.live t = true → x.tc0Sent < 4 → x.tc0Held = [] →
      ∃ b g, Runs (.confirmQuery i) s b ∧ SameOthers s.blk b t ∧ b.ctl.net = net ++ [msgOf t g] ∧ g.type = 6 ∧ g.rim = true ∧
        g.value = (if x.probing = true ∧ s.blk.creditWait t ≠ [] then 1 else 0)) ∧
    (∀ (q k : Nat) (m : Msg), c.atRim i = some (q, k, .msg m) → m.type = 6 → m.value % 2 = 1 → m.src ∈ (c.detector q).cycle →
      let d := c.detector q
      (insertNat m.src d.answers ≠ d.cycle → ∃ b, Runs (.confirmAnswer i) s b ∧ SameStore s.blk b ∧ b.ctl.net = net ∧
        (b.ctl.detector q).answers = insertNat m.src d.answers) ∧
      (insertNat m.src d.answers = d.cycle → d.waiting = [] → ∃ b, Runs (.confirmAnswer i) s b ∧ (∀ u ∈ d.cycle, (b.tile u).spill = true) ∧
        (∀ u, u ∉ d.cycle → b.tile u = s.blk.tile u) ∧ (b.ctl.detector q).cycle = [])) ∧
    ((c.detector st).cycle ≠ [] → (c.detector st).waiting = [] → ∃ b, Runs (.confirmTimeout st) s b ∧ SameStore s.blk b ∧ b.ctl.regs = c.regs ∧
      (b.ctl.detector st).cycle = [] ∧ (b.ctl.detector st).probes = (c.detector st).probes) ∧
    (∀ q, c.tileStage t = some q → (SMap.find? (s.blk.currentProbes (c.detector q)) t).isSome = true → t.val ∉ (c.detector q).counted →
      t.val ∉ (c.detector q).cycle → (∀ l ∈ (c.detector q).waiting, t.val ∉ l) → ∃ b, Runs (.probeNoCycle t) s b ∧ SameStore s.blk b ∧
        t.val ∈ (b.ctl.detector q).counted ∧ c.Counts b.ctl (stagePage q) F.STAGE_DL_NOCYCLE_COUNT) ∧
    (∀ q f, s.blk.live t = true → x.spill = true → c.tileStage t = some q → (x.recvQ.find? fun f => !f.refill) = some f →
      let n := 64 + (f.run.bytes.length + 63) / 64 * 64
      (c.outBytes q < (c.ringOf q).used + n → c.stState q = 2 → ∃ b, Runs (.spillRecordWrite t) s b ∧ (b.tile t).recvQ = x.recvQ.erase f ∧
        b.ctl.stState q = 4 ∧ b.hbm = s.blk.hbm ∧ b.ctl.outtakes = c.outtakes) ∧
      ((c.ringOf q).used + n ≤ c.outBytes q → ∃ b r, Runs (.spillRecordWrite t) s b ∧ (b.tile t).recvQ = x.recvQ.erase f ∧
        (b.ctl.ringOf q).recs = (c.ringOf q).recs ++ [r] ∧ r.off = (c.ringOf q).tail ∧ r.len = n ∧ r.tile = t.val ∧
        (b.ctl.ringOf q).tail = ((c.ringOf q).tail + n) % c.outBytes q ∧ c.Counts b.ctl (stagePage q) F.STAGE_SPILL_RECORDS_COUNT)) ∧
    (∀ q d r, s.blk.live t = true → x.spill = true → c.tileStage t = some q → x.recvHead = some d → (c.ringOf q).recs = [r] → r.tile = t.val →
      r.done = false → (rvMatch d (s.blk.recordXfer q r)).isSome = true →
      x.granted + creditUnits (s.blk.recordXfer q r).run.bytes.length ≤ 256 →
      ∃ b f, Runs (.outtakesRefill t e) s b ∧ (b.tile t).recvQ = x.recvQ ++ [f] ∧ f.refill = true ∧ (b.tile t).spill = false ∧
        (b.ctl.ringOf q).recs = [])

/-- 10 R240, R241, R245 to R253, R255, R261: routing. What is at its target is delivered; what is not leaves by the port its route entry
names, through an open wall, with one hop more; what is bound for the rim leaves its entry tile for the rim's gate, which lets it through
where the tile's stage owns its endpoint. Each goes when its output's arbiter gives it its turn, and waits until then, and while its tile's
clock is stopped. An unreadable header, no route, 127 hops, a closed wall and a foreign endpoint drop it, each counted. 10 R246, R255, R261:
at an output a response goes before a request of its class, and messages take the slots of the frame. 10 R256 to R260, R262: mixdown and the
limit on TC0. A flit is held for the slot three further on, if that takes its port; the slot that comes next, if its inputs and its output
are ready, sends one flit or ejects it, else it is deferred and counted; a slot whose turn it is not does nothing; a credit comes back once;
the chunks of an acknowledged eject leave their movers' tracking; a frequency change stops the schedule at the end of a period; a held TC0
message leaves when the limit allows. -/
def Obligations.PacketsAndMixdownFlitsMove : Prop :=
  (∀ (s : State) (i t port k : Nat) (h : Ecc) (bad : List Nat) (p : Pkt) (m : Msg),
    let c := s.blk.ctl
    let net := c.net.eraseIdx i
    let q := { p with run := p.run.poisonWords bad }
    let at_ (it : Item) : Prop := c.net[i]? = some ⟨.router t port, it⟩
    let sends (a : Arbs) (f : List Flight) : Prop :=
      ∃ b, Runs (.packetRoute i h k bad) s b ∧ SameStore s.blk b ∧ b.ctl.net = net ++ f ∧ b.ctl.arbs = a
    let goes (f : List Flight) : Prop := ∀ o a, c.pktOut t p = some o → c.pktTurn i t port o p = some a → sends a f
    let goesM (f : List Flight) : Prop := ∀ o a, c.msgOut t m = some o → c.msgTurn t o m = some a → sends a f
    let drops (f : Fld) : Prop := ∃ b, Runs (.packetRoute i h k bad) s b ∧ SameStore s.blk b ∧ b.ctl.net = net ∧ c.Counts b.ctl (rtrPage t) f
    (∀ it, at_ it → c.linkStopped t = true → Runs (.packetRoute i h k bad) s s.blk) ∧
    (c.linkStopped t = false →
    (at_ (.pkt p) → (h = .uncorr ∨ p.kind = 7) → drops F.RTR_HDR_DROP_COUNT) ∧
    (at_ (.pkt p) → h ≠ .uncorr → p.kind ≠ 7 →
      (∀ o, c.pktOut t p = some o → c.pktTurn i t port o p = none → Runs (.packetRoute i h k bad) s s.blk) ∧
      (p.dest = t → p.rim = false → p.dmode = 0 → goes [⟨.tile t, .pkt q⟩]) ∧
      (p.dest = t → p.rim = false → p.dmode ≠ 0 → goes (⟨.tile t, .pkt q⟩ ::
        match nextOfRun c q t with | some u => [⟨.router t 0, .pkt { q with dest := u }⟩] | none => [])) ∧
      (p.dest = t → p.rim = true → c.wallClosed t (edgePort t) = false → neighbour t (edgePort t) = none → goes [⟨.gate t, .pkt q⟩]) ∧
      (p.dest ≠ t → (c.routeEntry t p.dest = 0 ∨ p.hops = 127) → drops F.RTR_ROUTE_DROP_COUNT) ∧
      (p.dest ≠ t → c.routeEntry t p.dest ≠ 0 → p.hops ≠ 127 →
        (c.wallClosed t (c.routeEntry t p.dest) = true → drops F.RTR_WALL_DROP_COUNT) ∧
        (c.wallClosed t (c.routeEntry t p.dest) = false → ∀ u, neighbour t (c.routeEntry t p.dest) = some u →
          goes [⟨.router u (opposite (c.routeEntry t p.dest)), .pkt { q with hops := p.hops + 1 }⟩])) ∧
      (∀ (j v o : Nat) (y : Pkt), c.net[j]? = some ⟨.router t v, .pkt y⟩ → y.rsp = true → y.cls = p.cls → p.rsp = false →
        c.pktOut t y = some o → c.pktOut t p = some o → c.vcRoom t o y = true →
        (∀ (l w : Nat) (z : Pkt), l < j → c.net[l]? = some ⟨.router t w, .pkt z⟩ → w ≠ v ∨ z.sameVc y = false) →
        Runs (.packetRoute i h k bad) s s.blk)) ∧
    (at_ (.msg m) → (h = .uncorr ∨ m.type = 0 ∨ 0xB < m.type) → drops F.RTR_HDR_DROP_COUNT) ∧
    (at_ (.msg m) → h ≠ .uncorr → m.type ≠ 0 → m.type ≤ 0xB →
      (∀ o, c.msgOut t m = some o → c.msgTurn t o m = none → Runs (.packetRoute i h k bad) s s.blk) ∧
      (m.dest = t → m.toRim = false → goesM [⟨.tile t, .msg m⟩]) ∧
      (m.dest = t → m.toRim = true → c.wallClosed t (edgePort t) = false → neighbour t (edgePort t) = none → goesM [⟨.gate t, .msg m⟩]) ∧
      (m.dest ≠ t → (c.routeEntry t m.dest = 0 ∨ m.hops = 127) → drops F.RTR_ROUTE_DROP_COUNT) ∧
      (m.dest ≠ t → c.routeEntry t m.dest ≠ 0 → m.hops ≠ 127 → c.wallClosed t (c.routeEntry t m.dest) = true → drops F.RTR_WALL_DROP_COUNT) ∧
      (m.dest ≠ t → c.routeEntry t m.dest ≠ 0 → m.hops ≠ 127 → c.wallClosed t (c.routeEntry t m.dest) = false →
        ∀ u, neighbour t (c.routeEntry t m.dest) = some u →
          goesM [⟨.router u (opposite (c.routeEntry t m.dest)), .msg { m with hops := m.hops + 1 }⟩]))) ∧
    (∀ it : Item, c.net[i]? = some ⟨.gate t, it⟩ →
      (c.tileStage t = none → ∃ b, Runs (.rimPacketAccept i) s b ∧ SameStore s.blk b ∧ b.ctl = c.takeNet i) ∧
      (∀ st, c.tileStage t = some st → c.ownsEndpoint st it = false → ∃ b, Runs (.rimPacketAccept i) s b ∧ SameStore s.blk b ∧ b.ctl.net = net ∧
        c.Counts b.ctl (stagePage st) F.STAGE_RIM_DROP_COUNT) ∧
      (∀ st y, c.tileStage t = some st → it = .pkt y → c.ownsEndpoint st it = true →
        let side := if tileY t = 0 then 0 else 1
        (∀ d, (c.takeNet i).rimRoom st y.endpoint y = true → c.rimPick side st = some d → ∃ b, Runs (.rimPacketAccept i) s b ∧
          SameStore s.blk b ∧ b.ctl.regs = c.regs ∧ b.ctl.net = net ++ [⟨.rim st y.endpoint, it⟩] ∧
          b.ctl.arbs = { c.arbs with rim := SMap.set {} c.arbs.rim side d }) ∧
        ((c.takeNet i).rimRoom st y.endpoint y = false ∨ c.rimPick side st = none → Runs (.rimPacketAccept i) s s.blk)) ∧
      (∀ st y, c.tileStage t = some st → it = .msg y → c.ownsEndpoint st it = true → ∃ b, Runs (.rimPacketAccept i) s b ∧ SameStore s.blk b ∧
        b.ctl.regs = c.regs ∧ b.ctl.net = net ++ [⟨.rim st (msgEndpoint y), it⟩]))) ∧
  (∀ (s : State) (t : TileId) (i n : Nat) (lo hi : Ecc) (slot : Fin 256) (out : Fin 5),
    let x := s.blk.tile t
    let c := s.blk.ctl
    let p := rtrPage t
    (∀ port q ch, c.net[i]? = some ⟨.router t port, .flit q ch⟩ →
      let z := (q + 3) % (c.get p F.RTR_MIX_CTRL_PERIOD_M1 + 1)
      let takes := c.getN p F.RTR_MIX_SLOT_EN z = 1 ∧ (c.getN p F.RTR_MIX_SLOT_IN z).testBit (4 - port) = true
      let ch' : Chunk := { ch with badLo := ch.badLo || lo == .uncorr, badHi := ch.badHi || hi == .uncorr }
      (takes → ∃ b, Runs (.mixFlitArrive i lo hi) s b ∧ SameOthers s.blk b t ∧ b.ctl.net = c.net.eraseIdx i ∧
        b.ctl.get p F.RTR_LINK_CORR_COUNT =
          satAdd (fldTop F.RTR_LINK_CORR_COUNT) (c.get p F.RTR_LINK_CORR_COUNT) (ofBool (lo == .corr) + ofBool (hi == .corr)) ∧
        b.tile t = { x with mix := { x.mix with held := x.mix.held ++ [(port, z, ch')] } }) ∧
      (¬ takes → ∃ b, Runs (.mixFlitArrive i lo hi) s b ∧ SameStore s.blk b ∧ b.ctl.net = c.net.eraseIdx i ∧
        c.Counts b.ctl p F.RTR_MIX_DROP_COUNT)) ∧
    (s.blk.mixRuns t = false ∨ s.blk.slotDue t ≠ some slot.val → Runs (.mixSlotFire t slot) s s.blk) ∧
    (s.blk.mixRuns t = true → s.blk.slotDue t = some slot.val →
      let o := c.getN p F.RTR_MIX_SLOT_OUT slot
      let mask := c.getN p F.RTR_MIX_SLOT_IN slot
      let past : Mix := { x.mix with next := (slot.val + 1) % (c.get p F.RTR_MIX_CTRL_PERIOD_M1 + 1) }
      let got := takeInputs past mask slot [0, 1, 2, 3, 4]
      let e := c.getN p F.RTR_MIX_SLOT_EJ slot
      let size := c.getN p F.RTR_MIX_EJECT_CHUNKS_M1 e + 1
      let mixed (ch : Chunk) (l : List Chunk) : Chunk :=
        l.foldl (mixTwo (c.getN p F.RTR_MIX_SLOT_TYPE slot) (c.getN p F.RTR_MIX_SLOT_OP slot == 1)) ch
      (∀ ch l m ports, o = 5 → x.wrapped = false → got = some (ch :: l, m, ports) →
        ((x.mix.gather.getD e []).length + 1 < size → ∃ b, Runs (.mixSlotFire t slot) s b ∧ (b.tile t).mix.inj = m.inj ∧
          (b.tile t).mix.held = m.held ∧ (b.tile t).recvQ = x.recvQ ∧
          (b.tile t).mix.gather = x.mix.gather.set e (x.mix.gather.getD e [] ++ [mixed ch l])) ∧
        (size ≤ (x.mix.gather.getD e []).length + 1 → x.granted + ejectUnits size ≤ 256 → ∃ b f, Runs (.mixSlotFire t slot) s b ∧
          (b.tile t).mix.inj = m.inj ∧ (b.tile t).mix.held = m.held ∧ (b.tile t).recvQ = x.recvQ ++ [f] ∧ f.eject = true ∧
          f.stream = c.getN p F.RTR_MIX_EJECT_STREAM e ∧
          f.seq = (c.getN p F.RTR_MIX_EJECT_SEQ_BASE e + x.mix.ejected.getD e 0) % 2 ^ 16 ∧
          f.run.bytes = (x.mix.gather.getD e [] ++ [mixed ch l]).flatMap (·.bytes) ∧
          (b.tile t).mix.gather = x.mix.gather.set e [] ∧ (b.tile t).granted = x.granted + ejectUnits size)) ∧
      (o ≠ 5 → x.mix.spent.getD o 0 < 8 → o < x.mix.spent.length → x.wrapped = false → c.wallClosed t o = false →
        ∀ u, neighbour t o = some u → ∀ ch l m ports, got = some (ch :: l, m, ports) →
        ∃ b, Runs (.mixSlotFire t slot) s b ∧ (b.tile t).mix.inj = m.inj ∧ (b.tile t).mix.held = m.held ∧
          (b.tile t).mix.spent.getD o 0 = x.mix.spent.getD o 0 + 1 ∧ b.ctl.net = c.net ++ [⟨.router u (opposite o), .flit slot (mixed ch l)⟩]) ∧
      ((o ≠ 5 ∧ 8 ≤ x.mix.spent.getD o 0) ∨ (o = 5 ∧ s.blk.ejectRoom t e = false) ∨ got = none → ∃ b, Runs (.mixSlotFire t slot) s b ∧
        SameOthers s.blk b t ∧ b.tile t = { x with mix := past } ∧ c.Counts b.ctl p F.RTR_MIX_WAIT_COUNT)) ∧
    (x.mix.owed.getD out 0 ≠ 0 → out.val < x.mix.spent.length → ∃ b, Runs (.mixCreditReturn t out) s b ∧ SameOthers s.blk b t ∧ b.ctl = c ∧
      (b.tile t).mix.owed.getD out 0 = x.mix.owed.getD out 0 - 1 ∧ (b.tile t).mix.spent.getD out 0 = x.mix.spent.getD out 0 - 1) ∧
    (∀ u ser step r rest, c.mixAcks = (false, [(u, ser, step)]) :: rest → s.blk.live u = true →
      ((s.blk.tile u).tracked.find? fun r => r.ser == ser && r.step == step && r.chunks != 0) = some r →
      ∃ b, Runs .mixAck s b ∧ SameOthers s.blk b u ∧ b.ctl.mixAcks = rest ∧
        (r.chunks = 1 → (b.tile u).tracked = (s.blk.tile u).tracked.erase r) ∧
        (r.chunks ≠ 1 → { r with chunks := r.chunks - 1 } ∈ (b.tile u).tracked)) ∧
    (c.changing t = true → x.mix.next = 0 ∨ s.blk.slotsLeft t = [] → ∃ b, Runs (.mixScheduleStop t) s b ∧
      SameOthers s.blk b t ∧ b.ctl = c ∧ b.tile t = { x with mix := { x.mix with stopped := true, next := 0 } }) ∧
    (c.changing t = false ∨ (x.mix.next ≠ 0 ∧ s.blk.slotsLeft t ≠ []) → Runs (.mixScheduleStop t) s s.blk) ∧
    (∀ m k rest, x.tc0Held = (m, k) :: rest → x.tc0Sent - n < 4 → (k < 2 → (x.core k).stall = .tc0) → ∃ b, Runs (.tc0LimitRelease t n) s b ∧
      SameOthers s.blk b t ∧ (b.tile t).tc0Held = rest ∧ (b.tile t).tc0Sent = x.tc0Sent - n + 1 ∧
      b.ctl.net = c.net ++ [⟨.router t 0, .msg m⟩] ∧ (k < 2 → ((b.tile t).core k).stall = .none ∧ ((b.tile t).core k).pc = (x.core k).pc + 4)))

/-- 11 R270, R273, R280 to R283: requests at a controller. A read returns the bytes of its stack-local address, a write stores its bytes, an
add adds its gradient words, each with one reply; a burst found uncorrectable is poisoned, and after a write the halves of it that the write
did not wholly cover; a stack not READY, an address of another stack and a malformed add are refused with an
error reply, ADDR_ERR counting them, and store nothing. 11 R280, R282, R288 to R290, R295: the stacks' own work. The patrol scrubber reads
the next burst of a READY stack; zero-fill ends with every byte zero and the stack READY, or marks the stack failed; after a warm reset a
controller becomes READY again. A write of POISON_CONSUMED.CLEAR empties that counter and POISON_AT. -/
def Obligations.StacksServeScrubAndFill : Prop :=
  (∀ (s : State) (i st h : Nat) (p : Pkt) (n : Nat),
    let c := s.blk.ctl
    let answer (b : Blk) (err : Bool) (r : Run) : Prop := b.ctl.net = ((c.takeNet i).hbmReply h p err r).net
    let n1 := p.run.bytes.length
    (∀ l, c.hbmItem i 4 = some (st, h, p) → c.hbmCheck st h p.addr p.bytes = .inr l →
      (∃ b, Runs (.hbmReadRequest i [] n) s b ∧ SameStore s.blk b ∧ answer b false ((s.blk.stack h).read l p.bytes)) ∧
      (∀ j k, (burstsOf l p.bytes)[j]? = some k →
        (∃ b, Runs (.hbmReadRequest i (List.replicate j .ok ++ [.corr]) n) s b ∧ SameStore s.blk b ∧
          c.Counts b.ctl (hbmPage h) F.HBM_CORR_COUNT) ∧
        (∃ b, Runs (.hbmReadRequest i (List.replicate j .ok ++ [.uncorr]) n) s b ∧ b.tiles = s.blk.tiles ∧
          (∀ a, (b.stack h).byte a = (s.blk.stack h).byte a) ∧ (∀ w, (b.stack h).isBad w = ((s.blk.stack h).isBad w || w / 2 == k)) ∧
          c.Counts b.ctl (hbmPage h) F.HBM_UNCORR_COUNT))) ∧
    (∀ l, c.hbmItem i 5 = some (st, h, p) → c.hbmCheck st h p.addr n1 = .inr l → (∀ g, c.mirrored st g = false) →
      st < 12 → c.stackStage h = some st → (∃ b, Runs (.hbmWriteRequest i []) s b ∧ b.tiles = s.blk.tiles ∧ answer b false {} ∧
        b.stack h = (s.blk.stack h).store l p.run ∧ ∀ k, k ≠ h → b.stack k = s.blk.stack k) ∧
      (∀ k, (partBursts l n1).head? = some k → ∃ b, Runs (.hbmWriteRequest i [.uncorr]) s b ∧ b.tiles = s.blk.tiles ∧ answer b false {} ∧
        (∀ a, (b.stack h).byte a = ((s.blk.stack h).store l p.run).byte a) ∧
        ∀ w, w / 2 = k → ¬ (l ≤ 32 * w ∧ 32 * w + 32 ≤ l + n1) → (b.stack h).isBad w = true)) ∧
    (∀ l, c.hbmItem i 6 = some (st, h, p) → p.addr % 32 ≤ 1 → c.hbmCheck st h (p.addr - p.addr % 32) 32 = .inr l → n1 = 32 →
      p.run.anyBad = false → (∀ g, c.mirrored st g = false) → c.stackStage h = some st →
      ∃ b, Runs (.hbmAddRequest i []) s b ∧ b.tiles = s.blk.tiles ∧ answer b false {} ∧ c.Counts b.ctl (hbmPage h) F.HBM_ADDS_COUNT ∧
        (l % 32 = 0 → ∀ k < 32, (b.stack h).byte (l + k) =
          (addWord (p.addr % 32 == 1) ((s.blk.stack h).read l 32).bytes (p.run.slice 0 32).bytes).getD k 0) ∧
        ∀ a, a < l ∨ l + 32 ≤ a → (b.stack h).byte a = (s.blk.stack h).byte a) ∧
    (∀ code,
      (c.hbmItem i 4 = some (st, h, p) → c.hbmCheck st h p.addr p.bytes = .inl code → ∃ b, Runs (.hbmReadRequest i [] n) s b ∧ SameStore s.blk b ∧
        answer b true {} ∧ c.Counts b.ctl (hbmPage h) F.HBM_ADDR_ERR_COUNT) ∧
      (c.hbmItem i 5 = some (st, h, p) → c.hbmCheck st h p.addr n1 = .inl code → ∃ b, Runs (.hbmWriteRequest i []) s b ∧ SameStore s.blk b ∧
        answer b true {} ∧ c.Counts b.ctl (hbmPage h) F.HBM_ADDR_ERR_COUNT)) ∧
    (∀ l, c.hbmItem i 6 = some (st, h, p) → c.hbmCheck st h (p.addr - p.addr % 32) n1 = .inr l →
      (1 < p.addr % 32 ∨ n1 = 0 ∨ n1 % 32 ≠ 0 ∨ 1024 < n1) → ∃ b, Runs (.hbmAddRequest i []) s b ∧ SameStore s.blk b ∧ answer b true {} ∧
        c.Counts b.ctl (hbmPage h) F.HBM_ADDR_ERR_COUNT)) ∧
  (∀ (s : State) (fn : Fn) (h : StackId) (st : StageId) (n : Nat),
    let c := s.blk.ctl
    let p := hbmPage h
    (c.stackReady h = true → c.flag p F.HBM_CTRL_SCRUB_EN = true → ∃ b, Runs (.hbmPatrolScrub h [] n) s b ∧ SameStore s.blk b ∧
      SMap.get 0 b.ctl.hbmScrub h = (SMap.get 0 c.hbmScrub h + 64) % 48000000000) ∧
    (c.stackReady h = false ∨ c.flag p F.HBM_CTRL_SCRUB_EN = false → Runs (.hbmPatrolScrub h [] n) s s.blk) ∧
    (c.flag p F.HBM_STATUS_INIT_BUSY = true →
      (∃ b, Runs (.hbmZeroFillComplete h true) s b ∧ b.tiles = s.blk.tiles ∧ b.stack h = {} ∧ (∀ k, k ≠ h.val → b.stack k = s.blk.stack k) ∧
        b.ctl.stackReady h = true ∧ b.ctl.flag p F.HBM_STATUS_INIT_BUSY = false) ∧
      (∃ b, Runs (.hbmZeroFillComplete h false) s b ∧ SameStore s.blk b ∧ b.ctl.stackReady h = false ∧
        b.ctl.flag p F.HBM_STATUS_FAILED = true ∧ (b.ctl.get devPage F.DEV_HBM_FAIL_FAILED).testBit h = true)) ∧
    (c.flag p F.HBM_STATUS_INIT_BUSY = false → Runs (.hbmZeroFillComplete h true) s s.blk) ∧
    (h.val ∈ c.hbmWarm → ∃ b, Runs (.hbmWarmReady h) s b ∧ SameStore s.blk b ∧ b.ctl.stackReady h = true ∧ h.val ∉ b.ctl.hbmWarm) ∧
    (h.val ∉ c.hbmWarm → Runs (.hbmWarmReady h) s s.blk) ∧
    (c.reaches fn (stagePage st) → ∃ b, Runs (.poisonConsumedClear fn st) s b ∧
      OnlyRegsOf s.blk b (stagePage st) [stagePage st + 0xDC, stagePage st + 0xE0] ∧ b.ctl.rd (stagePage st + 0xDC) = 0 ∧
      b.ctl.rd (stagePage st + 0xE0) = 0))

/-- 09 R225, R226, R231, R233, R236: a gather descriptor that passes its checks stands at the head of queue 8 with a step for each bag, and
HC_INV empties the hit cache; the first check that fails halts the queue. A bag whose tokens are there opens, while fewer than nine are. A
write of HC_CTRL.INV, or of HC_CFG with the queue complete and a legal ENTRIES_LOG2, empties the hit cache. 09 R227, R229, R232, R234: the
distinct rows collected for a shard leave as one read request in ascending order, at most 1,024 and no more than fetch slots are free, and
with none free the wait counts; a row that arrives goes to every ID that waits for it; an acknowledged add is no longer awaited; a bag that has its rows is pooled, its row written, and an UPDATE bag with its adds acknowledged
completes and writes nothing. -/
def Obligations.GatherUnitsPoolTheirRows : Prop :=
  (∀ (s : State) (t : TileId), isSTile t = true →
    let g := (s.blk.tile t).gath
    (∀ e d b', s.blk.live t = true → s.blk.takeHead t 8 e = .ready d b' →
      (∀ code, gatherCheck b'.ctl t d = some code → ∃ b, Runs (.gatherDescriptor t e) s b ∧ SameOthers s.blk b t ∧
        ((b.tile t).queue 8).halted = true ∧ (s.blk.ctl.flag (seqPage t) F.SEQ_HALT_INFO_VALID = false →
          b.ctl.rd (seqPage t + 0x54) = BitVec.ofNat 32 (0x80000000 + code * 0x10000 + 0x8000 + 8))) ∧
      (gatherCheck b'.ctl t d = none → ∃ b, Runs (.gatherDescriptor t e) s b ∧ SameOthers s.blk b t ∧ Took b t 8 d (gdBags d) ∧
        (b.tile t).gath.tags = if gdHcInv d then [] else g.tags)) ∧
    (∀ e d, s.blk.live t = true → s.blk.current t 8 = some d → s.blk.ctl.tokensReady t d.hdr = true → (∀ x ∈ g.bags, x.todo = []) →
      g.bags.length < 9 →
      (d.void = true → ∃ b, Runs (.gatherBag t e) s b ∧ SameOthers s.blk b t ∧ (b.tile t).gath = g) ∧
      (d.void = false → gdUpdate d = false ∨ s.blk.ctl.txUsed = 0 → ∃ b x, Runs (.gatherBag t e) s b ∧ SameOthers s.blk b t ∧ (b.tile t).gath.bags.getLast? = some x ∧
        (b.tile t).gath.bags.length = g.bags.length + 1 ∧ x.ser = d.ser ∧ x.bag = d.issued ∧
        ((b.tile t).queue 8).cur = some { d with issued := d.issued + 1 })) ∧
    (∀ fn : Fn, s.blk.ctl.reaches fn (gathPage t) →
      (∃ b, Runs (.hitCacheInvalidate fn t) s b ∧ SameOthers s.blk b t ∧ (b.tile t).gath = { g with tags := [] } ∧
        b.ctl.regs = s.blk.ctl.regs) ∧
      (∀ w : Word, s.blk.ctl.unlocked (gathPage t) → ((s.blk.tile t).queue 8).complete = true → 2 ≤ bits w 21 18 → bits w 21 18 ≤ 12 →
        ∃ b, Runs (.hcCfgWrite fn t w) s b ∧ SameOthers s.blk b t ∧ (b.tile t).gath = { g with tags := [] } ∧
          b.ctl.get (gathPage t) F.GATH_HC_CFG_ENTRIES_LOG2 = bits w 21 18) ∧
      (∀ w : Word, s.blk.ctl.unlocked (gathPage t) →
        (((s.blk.tile t).queue 8).complete = false ∨ bits w 21 18 < 2 ∨ 12 < bits w 21 18) →
        Runs (.hcCfgWrite fn t w) s (s.blk.onCtl fun c => (c.unpair (gathPage t)).err (gathPage t) 0x13 fn.num (gathPage t + 0x140))))) ∧
  (∀ (s : State) (t : TileId), isSTile t = true → s.blk.live t = true →
    let c := s.blk.ctl
    let x := s.blk.tile t
    let g := x.gath
    (∀ (n : Fin 4) (k : Nat) (st : Nat) (f0 : Fetch) (rest : List Fetch),
      (g.fetches.filter fun f => f.remote && f.req.isNone && f.table == n.val && f.shard == k) = f0 :: rest → c.tileStage t = some st →
      (∀ y ∈ g.bags, y.todo = []) → c.txRoom = true →
      let locs := ((f0 :: rest).take (min 1024 (512 - g.outstanding))).foldl (fun l f => insertNat f.loc l) []
      (512 ≤ g.outstanding → ∃ b, Runs (.gatherRemoteRequest t n k) s b ∧ SameStore s.blk b ∧ b.ctl.uam = c.uam ∧
        c.Counts b.ctl (gathPage t) F.GATH_STALL_FETCH_CYCLES) ∧
      (g.outstanding < 512 → c.ownsCtx st f0.ctx = true → (c.ctx f0.ctx).st = 2 → ∃ b m, Runs (.gatherRemoteRequest t n k) s b ∧ SameOthers s.blk b t ∧ b.ctl.uam.tx = c.uam.tx ++ [m] ∧ m.op = 2 ∧ m.stage = st ∧
        m.ctx = f0.ctx ∧ m.win = f0.win ∧ m.rows = locs.flatMap (leBytes 8) ∧ m.len = locs.length * c.tblRowBytes t n ∧
        (b.tile t).gath.fetches = g.fetches.map fun f =>
          if f.remote ∧ f.req.isNone ∧ f.table = n.val ∧ f.shard = k ∧ locs.contains f.loc then { f with req := some g.tag } else f)) ∧
    (∀ (i : Nat) (p : Pkt) (e : List Ecc), c.atTile i = some (t.val, .pkt p) → p.kind = 3 → p.err = false →
      let got (tag : Nat) (r : Run) : List Bag :=
        g.bags.map fun y => { y with ids := y.ids.map fun d => if d.got.isNone ∧ d.tag = tag then { d with got := some r } else d }
      (p.tag % 4 = 3 → ∃ b, Runs (.gatherRowArrive i e) s b ∧ SameOthers s.blk b t ∧ b.ctl = c.takeNet i ∧
        (b.tile t).gath = { g with bags := g.bags.map fun y => if (y.ser * 2 ^ 16 + y.bag) % 2 ^ 22 = p.tag / 4 then { y with adds := y.adds - 1 } else y }) ∧
      (∀ f, p.tag % 4 = 2 → (g.fetches.find? fun f => f.tag == p.tag / 4 && !f.remote) = some f → f.left = 1 → f.parts = [] → f.err = false →
        (∀ q ∈ g.tags, q.fill ≠ some f.tag) → ∃ b, Runs (.gatherRowArrive i e) s b ∧ SameOthers s.blk b t ∧ b.ctl = c.takeNet i ∧
          (b.tile t).gath = { g with fetches := g.fetches.filter fun q => q.tag != f.tag, bags := got f.tag p.run }) ∧
      (∀ f, p.tag % 4 = 2 → (g.fetches.find? fun f => f.tag == p.tag / 4 && !f.remote) = none →
        (g.fetches.filter fun f => f.req == some (p.tag / 4)) = [f] → (∀ q ∈ g.tags, q.fill ≠ some f.tag) →
        ∃ b, Runs (.gatherRowArrive i e) s b ∧ SameOthers s.blk b t ∧ b.ctl = c.takeNet i ∧
          (b.tile t).gath.bags = got f.tag (p.run.slice 0 (c.tblRowBytes t f.table)))) ∧
    (∀ (y : Bag) (rest : List Bag) (d : Desc) (e : List Ecc), g.bags = y :: rest → (x.queue 8).find y.ser = some d → y.ready = true →
      let left := g.bags.filter fun z => !(z.ser == y.ser && z.bag == y.bag)
      (gdUpdate d = true → ∃ b, Runs (.gatherBagComplete t e) s b ∧ SameOthers s.blk b t ∧ (b.tile t).gath.bags = left ∧
        (b.tile t).sp = x.sp) ∧
      (gdUpdate d = false → (∀ j ∈ y.ids, j.got ≠ none) → (∀ z ∈ rest, ((x.queue 8).find z.ser).any gdUpdate = false) →
        let r := packRow (gdBf16 d) (c.poolRow t d y)
        ∃ b, Runs (.gatherBagComplete t e) s b ∧ SameOthers s.blk b t ∧ (b.tile t).gath.bags = left ∧
          (b.tile t).sp.mem = ((s.blk.spStore t (gdRow d y.bag) r e).tile t).sp.mem ∧
          (NoLoss e → (b.tile t).sp.mem = x.sp.mem.write (gdRow d y.bag) r))))

/-- 08 R209, R210, 11 R276 to R278, R296: FETCH_CMD.GO sends LEN bytes of the scratchpad to the row fetcher and sets BUSY; while the tags are
being cleared it waits for that (06 R149); while BUSY, or past the scratchpad, it counts 0x01 or 0x02. The row fetcher accepts a list or a start while its program has fewer than two passes, and
clears the sender's BUSY. A pass whose record is not valid faults its stage; one that starts delivers every block of both branches, part by
part. -/
def Obligations.FetchPassesAreTakenAndDelivered : Prop :=
  ∀ (s : State),
    let c := s.blk.ctl
    (∀ (fn : Fn) (t : TileId) (n : Fin 512) (e : List Ecc), c.reaches fn (tilePage t 0) → c.unlocked (tilePage t 0) → (s.blk.tile t).wrapped = false →
      let p := tilePage t 0
      let a := c.get p F.TILE_FETCH_SRC_ADDR16 * 16
      let len := (n.val + 1) * 16
      (c.flag p F.TILE_FETCH_CMD_BUSY = true → Runs (.fetchCmdGo fn t n e) s (s.blk.onCtl fun c => (c.unpair p).err p 0x01 fn.num (p + 0x64))) ∧
      (c.flag p F.TILE_FETCH_CMD_BUSY = false → spBytes t < a + len →
        Runs (.fetchCmdGo fn t n e) s (s.blk.onCtl fun c => (c.unpair p).err p 0x02 fn.num (p + 0x64))) ∧
      (c.flag p F.TILE_FETCH_CMD_BUSY = false → a + len ≤ spBytes t →
        ((s.blk.tile t).init = true → ∃ b, Runs (.fetchCmdGo fn t n e) s b ∧ SameOthers s.blk b t ∧
          b.ctl.flag p F.TILE_FETCH_CMD_BUSY = true ∧ b.ctl.net = c.net ∧ (b.tile t).sp.submit = some (a, len)) ∧
        ((s.blk.tile t).init = false → ∃ b q, Runs (.fetchCmdGo fn t n e) s b ∧ SameOthers s.blk b t ∧
          b.ctl.flag p F.TILE_FETCH_CMD_BUSY = true ∧ b.ctl.net = c.net ++ [⟨.router t 0, .pkt q⟩] ∧ q.rim = true ∧ q.endpoint = 0x32 ∧
          q.src = t.val ∧ q.run.bytes = ((s.blk.tile t).sp.mem.read a len).bytes))) ∧
    (∀ (i q : Nat) (p : Pkt), c.atRim i = some (q, 0x32, .pkt p) → p.kind = 0 →
      let x : Pass := { bytes := p.run.bytes, bad := p.run.anyBad }
      let n := bits (x.w 0) 23 16
      let taken (cmd : Instr) : Prop := ∃ b, Runs cmd s b ∧ SameStore s.blk b ∧ b.ctl.net = c.net.eraseIdx i ∧
        b.ctl.prog n = { c.prog n with passes := (c.prog n).passes ++ [x] } ∧
        (p.src < 1920 → b.ctl.flag (tilePage p.src 0) F.TILE_FETCH_CMD_BUSY = false)
      (c.prog n).passes.length < 2 → (bits (x.w 0) 31 24 ≠ 0x5D → taken (.scoutList i)) ∧ (bits (x.w 0) 31 24 = 0x5D → taken (.fetchStart i))) ∧
    (∀ (p : Fin 256) (e : List Ecc) (st : StageId) (x : Pass) (rest : List Pass), (c.prog p).passes = x :: rest → c.valid st = true →
      c.inRange st F.STAGE_FETCH_RANGE_FIRST F.STAGE_FETCH_RANGE_COUNT p = true →
      (∀ u, u < st.val → (c.valid u && c.inRange u F.STAGE_FETCH_RANGE_FIRST F.STAGE_FETCH_RANGE_COUNT p) = false) →
      let pg := stagePage st
      let r := (s.blk.stgRead st (c.get64 pg F.STAGE_FETCH_TABLE_LO_ADDR_LO + (p.val - c.get pg F.STAGE_FETCH_RANGE_FIRST) * 256) 256 e).1
      let parts := (frBytes r + 8191) / 8192
      let sends (k : Nat) : Prop := ∃ b, Runs (.fetchPassStart p e) s b ∧ (b.ctl.prog p).passes = rest ∧ b.tiles = s.blk.tiles ∧
        b.ctl.net.length = c.net.length + k * parts
      (r.anyBad = false → c.recordOk st r = false → c.stState st ∈ [1, 2, 3] →
        ∃ b, Runs (.fetchPassStart p e) s b ∧ (b.ctl.prog p).passes = rest ∧ b.ctl.stState st = 4 ∧ b.ctl.net = c.net) ∧
      (r.anyBad = false → c.recordOk st r = true → x.isStart = true → sends (frBlocks r + (if frSparse r = 0 then 0 else x.slots))) ∧
      (r.anyBad = false → c.recordOk st r = true → x.isStart = false → x.wellFormed = true → bit (x.w 2) 0 = false →
        x.entries.length ≤ x.slots → sends (bits (x.w 1) 15 0 + 1 + (if frSparse r = 0 then 0 else x.slots))))

/-- 12 R299, R300, R304, R336, R337: a link that falls is counted, and when it comes up the frames held for its port leave, those that go first
before the others. A received frame is dropped and counted by the first check its bytes fail: FCS, a form the port does not accept, corrupt, no
open context of its peer. Miryn answers an address request while it runs and has answered fewer than 1,000 in the second, else the port counts
it. 12 R316, R319 to R321: a one-frame message into an accepting ring fills the next buffer and ends with one completion record; a message or
an announcement for a stage in FAULT or a ring that is not enabled draws a NAK with reason 4 or 2; an announced streamed message is queued, a
part of it that came eager given up, and granted buffers one by one while FREE exceeds RESERVE, a bad post entry consumed without one; the
grant timer tells the sender, and a GRANT raises what the sender may send. 12 R302, R304: a header as it is laid out passes step 3 and gives
its fields back. -/
def Obligations.PortsDropCountAndFillRings : Prop :=
  (∀ (s : State) (p : PortId),
    let c := s.blk.ctl
    let pg := portPage p
    (c.linkUp p = true → ∃ b, Runs (.linkDown p) s b ∧ SameStore s.blk b ∧ b.ctl.linkUp p = false ∧ b.ctl.uam = c.uam ∧
      c.Counts b.ctl pg F.PORT_LINK_DOWN_COUNT) ∧
    (c.linkUp p = false → c.flag pg F.PORT_STATUS_OPT_DIS = false → c.flag pg F.PORT_CFG_LINK_EN = true →
      (∀ g ∈ c.uam.held, g.port = p.val → g.first = true ∨ g.stage ≤ 12) →
      ∃ (b : Blk) (l r : List Egress), Runs (.linkUp p) s b ∧ SameStore s.blk b ∧ b.ctl.linkUp p = true ∧
        (l ++ r).Perm (c.uam.held.filter fun g => g.port == p.val) ∧ (∀ g ∈ l, g.first = true) ∧ (∀ g ∈ r, g.first = false) ∧
        b.ctl.out = c.out ++ (l ++ r).map (fun g => .frame p g.bytes) ∧
        b.ctl.uam = { c.uam with held := c.uam.held.filter fun g => g.port != p.val }) ∧
    (∀ (w : List Byte) (k : RxInfo),
      let drops (cmd : Instr) (x : Fld) : Prop := ∃ b, Runs cmd s b ∧ SameStore s.blk b ∧ b.ctl.uam = c.uam ∧
        c.Counts b.ctl pg F.PORT_RX_FRAMES_COUNT ∧ c.Counts b.ctl pg x
      (c.arrival p w = .badFcs → drops (.otherFrame p w k) F.PORT_RX_FCS_COUNT) ∧
      (c.arrival p w = .other → drops (.otherFrame p w k) F.PORT_RX_OTHER_COUNT) ∧
      (c.arrival p w = .corrupt → drops (.otherFrame p w k) F.PORT_RX_CORRUPT_COUNT) ∧
      (c.arrival p w ≠ .badFcs → c.arrival p w ≠ .other → c.arrival p w ≠ .corrupt → Runs (.otherFrame p w k) s s.blk) ∧
      (c.arrival p w = .address →
        let sec := c.reel / 1000000000
        let used := if SMap.get 0 c.mgmt.rate 16 = sec then SMap.get 0 c.mgmt.rate (32 + p) else 0
        (c.mirynUp = true → used < 1000 → ∃ b, Runs (.addressRequest p w k) s b ∧ SameStore s.blk b ∧
          c.Counts b.ctl pg F.PORT_RX_FRAMES_COUNT ∧ c.Counts b.ctl pg F.PORT_TX_FRAMES_COUNT ∧ b.ctl.out = c.out ++ [.addressReply p]) ∧
        (c.mirynUp = false ∨ 1000 ≤ used → ∃ b, Runs (.addressRequest p w k) s b ∧ SameStore s.blk b ∧
          c.Counts b.ctl pg F.PORT_RX_FRAMES_COUNT ∧ c.Counts b.ctl pg F.PORT_RX_OTHER_COUNT ∧ b.ctl.out = c.out)) ∧
      (∀ (h g : Bool) (e : List Ecc) (ty : Nat) (cmd : Instr), (ty, cmd) ∈ [(1, Instr.dataFrame p w k e), (4, .rtsFrame p w k e),
          (2, .ackFrame p w k h g e), (3, .nakFrame p w k), (5, .grantFrame p w k), (6, .wreadFrame p w k e), (7, .rrespFrame p w k e),
          (8, .wwriteFrame p w k e), (9, .waddFrame p w k e), (0xA, .markFrame p w k e), (0xB, .openFrame p w k), (0xC, .openAckFrame p w k)] →
        (c.arrival p w = .badFcs → drops cmd F.PORT_RX_FCS_COUNT) ∧
        (c.arrival p w = .other → drops cmd F.PORT_RX_OTHER_COUNT) ∧
        (c.arrival p w = .corrupt → drops cmd F.PORT_RX_CORRUPT_COUNT) ∧
        (∀ x f, c.arrival p w = .frame x f → f.ty = ty → c.rxContext p x f = none → drops cmd F.PORT_RX_NOCTX_COUNT) ∧
        (∀ x f, c.arrival p w = .frame x f → f.ty ≠ ty → Runs cmd s s.blk)))) ∧
  (∀ (s : State) (p : PortId) (w : List Byte) (k : RxInfo) (e : List Ecc),
    (∀ b' st f data, s.blk.receive p 1 w k = .go b' st f data →
      let n := f.dstCtx
      let x := b'.ctl.ring f.ring
      let r := runOf data f.poison
      let m : RxMsg := { ctx := n, msn := f.msn, psn := f.psn, ring := f.ring, len := f.lenM1 + 1, user := BitVec.ofNat 32 f.aux }
      let b1 := b'.onCtl fun c => { c with uam := { c.uam with rx := c.uam.rx ++ [m] } }
      let accepts : Prop := b'.inFault st = false ∧ b'.ctl.ringOk st f.ring = true ∧ b'.ctl.rxRoom n f.msn = true
      (accepts → f.streamed = false → b'.ctl.rxMsg n f.msn = none → f.off = 0 → data ≠ [] → data.length = f.lenM1 + 1 →
        data.length ≤ x.bsize → ∀ buf, (b1.takePost st x e 65537).buf = some buf →
        ∃ b, Runs (.dataFrame p w k e) s b ∧ b.ctl.uam.rx = b'.ctl.uam.rx ∧
          b.ctl.ring f.ring = { (b1.takePost st x e 65537).ring with recs := x.recs + 1 } ∧
          b'.ctl.Counts b.ctl (stagePage st) F.STAGE_RX_MSGS_COUNT ∧
          (∀ t, x.where_ = some t →
            let a := x.base 1 + buf * x.bsize
            let q := x.base 5 + 16 * (x.recs % x.count)
            let rc := runOf (cqRecord buf 0 true r.anyBad false n data.length f.msn 0 m.user) false
            b.hbm = b'.hbm ∧
            (NoLoss e → (b'.tile t).init = false → (b.tile t).sp.mem = ((b'.tile t).sp.mem.write a r).write q rc) ∧
            ((b'.tile t).init = true → (b.tile t).sp.mem = (b'.tile t).sp.mem ∧
              (b.tile t).sp.late = (b'.tile t).sp.late ++ [(a, r), (q, rc)]))) ∧
      (accepts → f.streamed = true → b'.ctl.rxMsg n f.msn = none → data ≠ [] →
        ∃ b, Runs (.dataFrame p w k e) s b ∧ SameStore s.blk b ∧ b.ctl.uam = b'.ctl.uam ∧ b'.ctl.Counts b.ctl (stagePage st) F.STAGE_RX_DROP_COUNT)) ∧
    (∀ cmd ty, (ty, cmd) ∈ [(1, Instr.dataFrame p w k e), (4, .rtsFrame p w k e)] →
      ∀ b' st f data, s.blk.receive p ty w k = .go b' st f data → b'.ctl.linkUp (b'.ctl.ctx f.dstCtx).port = true →
      let nak (why : Nat) : Prop := ∃ b, Runs cmd s b ∧ b.ctl.out.getLast? = some (.frame (b'.ctl.ctx f.dstCtx).port
        (b'.ctl.ctxWire f.dstCtx { ty := 3, psn := f.psn, msn := f.msn, aux := why }))
      (b'.inFault st = true → nak 4) ∧ (b'.inFault st = false → b'.ctl.ringOk st f.ring = false → nak 2)) ∧
    (∀ b' st f data, s.blk.receive p 4 w k = .go b' st f data → b'.inFault st = false → b'.ctl.ringOk st f.ring = true →
      b'.ctl.rxRoom f.dstCtx f.msn = true →
      let queued (b : Blk) (l : List RxMsg) : Prop := ∃ m, b.ctl.uam.rx = l ++ [m] ∧ m.ctx = f.dstCtx ∧ m.msn = f.msn ∧
        m.ring = f.ring ∧ m.len = f.lenM1 + 1 ∧ m.streamed = true ∧ m.granted = 0 ∧ m.parts = []
      (b'.ctl.rxMsg f.dstCtx f.msn = none → ∃ b, Runs (.rtsFrame p w k e) s b ∧ SameStore s.blk b ∧ queued b b'.ctl.uam.rx) ∧
      (∀ o, b'.ctl.rxMsg f.dstCtx f.msn = some o → o.streamed = false → ∃ b, Runs (.rtsFrame p w k e) s b ∧
        queued b (b'.ctl.uam.rx.filter fun q => !(q.ctx == f.dstCtx && q.msn == f.msn)))) ∧
    (∀ b' st f data, s.blk.receive p 5 w k = .go b' st f data →
      ∀ m, (b'.ctl.uam.tx.find? fun m => m.ctx == f.dstCtx && m.msn == f.msn && m.streamed) = some m →
      ∃ b, Runs (.grantFrame p w k) s b ∧ SameStore s.blk b ∧ { m with granted := max m.granted f.off } ∈ b.ctl.uam.tx) ∧
    (∀ (rn : Fin 256) (st : Nat) (m : RxMsg),
      let c := s.blk.ctl
      let x := c.ring rn
      let g := s.blk.takePost st x e 1
      c.ringStage rn = some st → (c.uam.rx.find? fun m => m.ring == rn.val && m.streamed && decide (m.granted < m.len)) = some m → x.on = true →
      x.reserve < c.ringFree x → ∃ b, Runs (.ringGrant rn e) s b ∧ b.tiles = g.blk.tiles ∧ b.hbm = g.blk.hbm ∧ b.ctl.ring rn = g.ring ∧
        (g.buf = none → b.ctl.uam.rx = c.uam.rx) ∧
        (∀ buf, g.buf = some buf → ∃ m' ∈ b.ctl.uam.rx, m'.ctx = m.ctx ∧ m'.msn = m.msn ∧
          m'.granted = min m.len (m.granted + x.bsize) ∧ m'.parts = m.parts ++ [{ part := m.granted / x.bsize, buf := buf }])) ∧
    (∀ (n : Fin 4096) (m : RxMsg),
      let c := s.blk.ctl
      (c.uam.rx.filter fun m => m.ctx == n.val && decide (m.told < m.granted)) = [m] → c.linkUp (c.ctx n).port = true →
      ∃ b, Runs (.grantTimer n) s b ∧ SameStore s.blk b ∧ (b.ctl.uam.rx.filter fun m => m.ctx == n.val && decide (m.told < m.granted)) = [] ∧
        b.ctl.out = c.out ++ [.frame (c.ctx n).port (c.ctxWire n { ty := 5, msn := m.msn, off := m.granted, ring := m.ring })])) ∧
  (∀ f : Frame, 1 ≤ f.ty → f.ty ≤ 0xD → f.enc < 16 → f.dstCtx < 4096 → f.srcCtx < 4096 → f.ring < 256 → f.psn < 2 ^ 32 → f.msn < 2 ^ 20 →
    f.elem < 2 → f.lenM1 < 2 ^ 24 → f.off < 2 ^ 25 → f.aux < 2 ^ 64 → f.payload.length ≤ 8192 → frameCheck false (frameBytes f) = some f)

/-- 12 R312 to R316, R320: an ACK takes the frames it covers out of the window, moves CWND and completes a message with nothing left; a NAK
backs its message off for NO_BUF and fails it for any other reason; the timers send the ACK owed, send the oldest frame again with CWND
halved, and start a message again after its backoff. 12 R322 to R324, 09 R232: a peer's read of a window that admits it queues its reply, one
with row indices the rows it names; a peer's write or add reaches the window's memory; an operation the window does not admit draws a NAK with
reason 3 and is counted once, and any frame with a PSN for a stage in FAULT one with reason 4; a reply's bytes are placed where the read asked,
and with the last byte the read is done. -/
def Obligations.WindowsMoveAndReachTheirMemory : Prop :=
  (∀ (s : State) (p : PortId) (w : List Byte) (k : RxInfo) (n : Fin 4096),
    let c := s.blk.ctl
    let x := c.ctx n
    (∀ (halve gap : Bool) (e : List Ecc) b' st f data, s.blk.receive p 2 w k = .go b' st f data → (gap = false ∨ f.aux = 0) →
      let z := b'.ctl.ctx f.dstCtx
      let gone (u : TxFrame) : Bool := isAcked f.psn f.aux u.psn
      ∃ b, Runs (.ackFrame p w k halve gap e) s b ∧
        (b.ctl.ctx f.dstCtx).unacked.map (·.psn) = (z.unacked.filter fun u => !gone u).map (·.psn) ∧
        (b.ctl.ctx f.dstCtx).cwnd = (if f.ece then (if halve then max 1 (z.cwnd / 2) else z.cwnd)
          else (growCwnd 1024 z.cwnd (z.grown + (z.unacked.filter gone).length)).1) ∧
        ∀ u ∈ z.unacked, gone u = true → ∀ m, (b'.ctl.uam.tx.find? fun m => m.id == u.msg) = some m →
          (∀ v ∈ z.unacked, v.msg = m.id → gone v = true) → m.ctx = f.dstCtx → m.op ≠ 2 → m.op ≠ 5 → m.len ≤ m.next → m.backoff = false →
          m.id < b'.ctl.uam.nextId → ∀ q ∈ b.ctl.uam.tx, q.id ≠ m.id) ∧
    (∀ b' st f data, s.blk.receive p 3 w k = .go b' st f data →
      let z := b'.ctl.ctx f.dstCtx
      ∀ m, (match z.unacked.find? fun u => u.psn == f.psn with
        | some u => b'.ctl.uam.tx.find? fun m => m.id == u.msg
        | none => b'.ctl.uam.tx.find? fun m => m.ctx == f.dstCtx && m.msn == f.msn && m.op != 7) = some m →
      (f.aux % 256 = 1 → m.backoff = false → ∃ b, Runs (.nakFrame p w k) s b ∧ SameStore s.blk b ∧
        { m with backoff := true, nobuf := m.nobuf + 1 } ∈ b.ctl.uam.tx ∧
        (b.ctl.ctx f.dstCtx).unacked = z.unacked.filter fun q => q.psn != f.psn) ∧
      (f.aux % 256 ≠ 1 → ∃ b, Runs (.nakFrame p w k) s b ∧ (∀ q ∈ b.ctl.uam.tx, q.id ≠ m.id) ∧
        (m.who = .request → (b.ctl.ctx m.ctx).failMsn = m.msn ∧
          (b.ctl.ctx m.ctx).failWhy = if f.aux % 256 = 2 then 2 else if f.aux % 256 = 3 then 3 else 4))) ∧
    (x.rxOwed ≠ 0 → c.linkUp x.port = true → ∃ b, Runs (.ackTimer n) s b ∧ SameStore s.blk b ∧
      b.ctl.ctx n = { x with rxOwed := 0, ece := false } ∧
      b.ctl.out = c.out ++ [.frame x.port (c.ctxWire n { ty := 2, psn := x.rxPsn, aux := x.sack, ece := x.ece })]) ∧
    (∀ (e : List Ecc) u rest m, x.st = 2 → x.unacked = u :: rest → ∃ b, Runs (.retxTimeout n e) s b ∧
      (b.ctl.ctx n).cwnd = max 1 (x.cwnd / 2) ∧ (b.ctl.ctx n).expiries = min 6 (x.expiries + 1) ∧
      ((∀ v ∈ rest, v.missing = false) → c.msgOf u.msg = some m → u.tries + 1 < x.retryMax →
        (b.ctl.ctx n).st = 2 ∧ c.Counts b.ctl (stagePage m.stage) F.STAGE_RETX_COUNT ∧
        (b.ctl.ctx n).unacked = x.unacked.map fun q => if q.psn = u.psn then { q with tries := q.tries + 1 } else q)) ∧
    (∀ m, (c.uam.tx.find? fun m => m.ctx == n.val && m.backoff) = some m → ∃ b, Runs (.rnrBackoffExpire n) s b ∧ SameStore s.blk b ∧
      { m with backoff := false, next := 0, streamed := m.streamed || decide (3 ≤ m.nobuf) } ∈ b.ctl.uam.tx)) ∧
  (∀ (s : State) (p : PortId) (w : List Byte) (k : RxInfo) (e : List Ecc),
    let nak (cmd : Instr) (b' : Blk) (f : Frame) (why : Nat) (b : Blk) : Prop := Runs cmd s b ∧
      b.ctl.out.getLast? = some (.frame (b'.ctl.ctx f.dstCtx).port
        (b'.ctl.ctxWire f.dstCtx { ty := 3, psn := f.psn, msn := f.msn, aux := why }))
    (∀ ty cmd, (ty, cmd) ∈ [(6, Instr.wreadFrame p w k e), (7, .rrespFrame p w k e), (8, .wwriteFrame p w k e), (9, .waddFrame p w k e),
        (0xA, .markFrame p w k e)] → ∀ b' st f data, s.blk.receive p ty w k = .go b' st f data → b'.inFault st = true →
      b'.ctl.linkUp (b'.ctl.ctx f.dstCtx).port = true → ∃ b, nak cmd b' f 4 b) ∧
    (∀ ty right cmd, (ty, right, cmd) ∈ [(8, 29, Instr.wwriteFrame p w k e), (9, 28, .waddFrame p w k e), (6, 30, .wreadFrame p w k e)] →
      ∀ b' st f data, s.blk.receive p ty w k = .go b' st f data → b'.inFault st = false →
      let wn := f.ring % 16
      let len := f.lenM1 + 1
      let ids := if ty = 6 then toWords 8 data else []
      let row := len / ids.length
      let served (b : Blk) : Prop := Runs cmd s b ∧ b.tiles = s.blk.tiles ∧
        (f.off = 0 → b'.ctl.Counts b.ctl (stagePage st) F.STAGE_WIN_SERVED_COUNT)
      let reply (b : Blk) : Prop := ∃ m, b.ctl.uam.tx = b'.ctl.uam.tx ++ [m] ∧ m.op = 7 ∧ m.ctx = f.dstCtx ∧ m.msn = f.msn ∧ m.len = len ∧
        m.who = .serve ∧
        (if ids = [] then m.srcKind = 1 ∧ m.src = b'.ctl.windowBase st wn + f.aux
          else m.srcKind = 0 ∧ m.inline = (b'.readRows st (b'.ctl.windowBase st wn) row e ids).1)
      ((if ids = [] then b'.ctl.windowOk st wn right f.aux len else ids.all fun i => b'.ctl.windowOk st wn right (i * row) row) = false →
        b'.ctl.linkUp (b'.ctl.ctx f.dstCtx).port = true →
        ∃ b, nak cmd b' f 3 b ∧ (f.off = 0 → b'.ctl.Counts b.ctl (stagePage st) F.STAGE_WIN_REFUSED_COUNT)) ∧
      ((if ids = [] then b'.ctl.windowOk st wn right f.aux len else ids.all fun i => b'.ctl.windowOk st wn right (i * row) row) = true →
        let a := b'.ctl.windowBase st wn + f.aux + f.off
        ∃ b, served b ∧
          (ty = 8 → b.hbm = (b'.stgWrite st a (runOf data f.poison) e).hbm) ∧
          (ty = 9 → b.hbm = (b'.addPieces st a (f.elem == 1) (runOf data f.poison) e 300 0).hbm) ∧
          (ty = 6 → reply b ∧ (ids = [] → b.hbm = s.blk.hbm)))) ∧
    (∀ b' st f data m, s.blk.receive p 7 w k = .go b' st f data → b'.inFault st = false →
      (b'.ctl.uam.tx.find? fun m => m.op == 2 && m.ctx == f.dstCtx && m.msn == f.msn) = some m →
      let r := runOf data f.poison
      let b1 := b'.onCtl fun c => c.takePsn f.dstCtx f.psn
      (m.who = .request → ∃ b, Runs (.rrespFrame p w k e) s b ∧
        (m.dstKind = 2 → b.hbm = s.blk.hbm ∧
          (NoLoss e → (s.blk.tile m.dstTile).init = false →
            (b.tile m.dstTile).sp.mem = (s.blk.tile m.dstTile).sp.mem.write (m.dst + f.off) r) ∧
          ((s.blk.tile m.dstTile).init = true → (b.tile m.dstTile).sp.late = (s.blk.tile m.dstTile).sp.late ++ [(m.dst + f.off, r)])) ∧
        (m.dstKind ≠ 2 → b.hbm = (b1.stgWrite m.stage (m.dst + f.off) r e).hbm) ∧
        (m.placed + data.length < m.len → { m with placed := m.placed + data.length } ∈ b.ctl.uam.tx) ∧
        (m.len ≤ m.placed + data.length → (∀ q ∈ b.ctl.uam.tx, q.id ≠ m.id) ∧
          b'.ctl.Counts b.ctl (stagePage m.stage) F.STAGE_TX_MSGS_COUNT)) ∧
      (∀ t tag, m.who = .gatherRead t tag → m.placed + data.length < m.len → ∃ b, Runs (.rrespFrame p w k e) s b ∧ SameStore s.blk b ∧
        { m with inline := ((m.inline.slice 0 f.off).append r).append (m.inline.slice (f.off + data.length) m.len),
                 placed := m.placed + data.length } ∈ b.ctl.uam.tx)))

/-- 12 R306, R307, R317, R322, R325: UCFG. A command that fails a check counts the check's code; READ copies the selected record, WRITE
stores its writable bits, OPEN starts a closed context anew in OPENING, CLOSE ends it; BUSY holds until the command completes. OPENING
repeats its OPEN frame; an OPEN or OPEN_ACK opens it; an OPEN for a context that is OPEN starts it anew and fails its messages. -/
def Obligations.ContextsOpenAndClose : Prop :=
  ∀ (s : State) (st : StageId),
    let c := s.blk.ctl
    let pg := stagePage st
    let kind := c.get pg F.STAGE_UCFG_SEL_KIND
    let n := c.get pg F.STAGE_UCFG_SEL_INDEX
    let busy (b : Blk) : Prop := b.ctl.flag pg F.STAGE_UCFG_CMD_BUSY = true
    (∀ fn : Fn, c.reaches fn pg →
      (∀ cmd k code, (cmd, k) ∈ [(Instr.ucfgRead fn st, 1), (.ucfgWrite fn st, 2), (.contextOpen fn st, 3), (.contextClose fn st, 4)] →
        c.ucfgCheck st k = some code → Runs cmd s (s.blk.onCtl fun c => (c.unpair pg).err pg code fn.num (pg + 0x10C))) ∧
      (c.ucfgCheck st 1 = none → ∃ b, Runs (.ucfgRead fn st) s b ∧ SameStore s.blk b ∧ b.ctl.uam = c.uam ∧ busy b ∧
        ∀ i < 16, b.ctl.rd (pg + 0x140 + 4 * i) = (c.ucfgRecord st kind n).getD i 0) ∧
      (c.ucfgCheck st 2 = none → ∃ b, Runs (.ucfgWrite fn st) s b ∧ SameStore s.blk b ∧ busy b ∧
        (kind = 0 → (b.ctl.ctx n).w 0 = (c.ucfgData st).getD 0 0 &&& 0xFFFF0FFF ∧ (b.ctl.ctx n).w 8 = (c.ucfgData st).getD 8 0 &&& 0xFF00FFFF ∧
          (b.ctl.ctx n).st = (c.ctx n).st) ∧
        (kind = 1 → (b.ctl.ring n).w 0 = (c.ucfgData st).getD 0 0 ∧ (b.ctl.ring n).w 7 = (c.ucfgData st).getD 7 0 &&& 0xFFFF03FF ∧
          b.ctl.uam.rx = c.uam.rx.filter fun m => m.ring != n) ∧
        (kind = 2 → ∀ i < 5, (b.ctl.window st n).getD i 0 = (c.ucfgData st).getD i 0 &&& (if i = 0 then 0xF0000000 else 0xFFFFFFFF)) ∧
        (kind = 3 → ∀ i < 7, (b.ctl.region st n).getD i 0 = (c.ucfgData st).getD i 0 &&& (if i = 0 then 0x8000000F else 0xFFFFFFFF))) ∧
      (c.ucfgCheck st 3 = none → ∃ b, Runs (.contextOpen fn st) s b ∧ SameStore s.blk b ∧ busy b ∧ b.ctl.ctx n = (c.ctx n).restart 1 ∧
        (c.linkUp (c.ctx n).port = true → b.ctl.out = c.out ++ [.frame (c.ctx n).port (c.ctxWire n { ty := 0xB })])) ∧
      (c.ucfgCheck st 4 = none → ∃ b, Runs (.contextClose fn st) s b ∧ busy b ∧ (b.ctl.ctx n).st = 0 ∧ (b.ctl.ctx n).unacked = [] ∧
        ∀ q ∈ b.ctl.uam.tx, q.ctx ≠ n)) ∧
    (∃ b, Runs (.ucfgCmdComplete st) s b ∧ OnlyRegs s.blk b [pg + 0x10C] ∧ ¬ busy b) ∧
    (∀ m : Fin 4096, (c.ctx m).st = 1 → c.linkUp (c.ctx m).port = true → ∃ b, Runs (.openResend m) s b ∧ SameStore s.blk b ∧ b.ctl.uam = c.uam ∧
      b.ctl.out = c.out ++ [.frame (c.ctx m).port (c.ctxWire m { ty := 0xB })]) ∧
    (∀ (p : PortId) (w : List Byte) (k : RxInfo) b' u f data, s.blk.receive p 0xB w k = .go b' u f data →
      let x := b'.ctl.ctx f.dstCtx
      ∃ b, Runs (.openFrame p w k) s b ∧ (b.ctl.ctx f.dstCtx).st = 2 ∧
        (x.st = 2 → (b.ctl.ctx f.dstCtx).txPsn = 0 ∧ (b.ctl.ctx f.dstCtx).rxPsn = 0 ∧ (b.ctl.ctx f.dstCtx).unacked = [] ∧
          ∀ q ∈ b.ctl.uam.tx, q.ctx ≠ f.dstCtx) ∧
        (b'.ctl.linkUp x.port = true → b.ctl.out.getLast? = some (.frame x.port (b'.ctl.ctxWire f.dstCtx { ty := 0xC })))) ∧
    (∀ (p : PortId) (w : List Byte) (k : RxInfo) b' u f data, s.blk.receive p 0xC w k = .go b' u f data →
      (b'.ctl.ctx f.dstCtx).st = 1 → ∃ b, Runs (.openAckFrame p w k) s b ∧ (b.ctl.ctx f.dstCtx).st = 2)

/-- 12 R309 to R313: a request that a mover's transfer brought to a port's endpoint is taken by the command of its OP, one of no known OP as a
SEND: one that passes the checks is queued on its open context and acknowledged; one that fails them is counted and acknowledged with an error;
on a context that is not OPEN it fails with reason 1; a void transfer asks for nothing; with 65,536 messages in flight, or four marks pending,
it waits. A context whose window has room and whose turn it is at its port sends the next frame of its messages under the next PSN; a context
that alone has something to send has its turn. 12 R326 to R329: setting MIRROR_CTRL.EN on a stream that passes its checks marks every granule
of its regions dirty; one that fails counts 0x1C. The engine sends the next dirty granule as a write to the peer's window and clears its bit. A
mark is queued behind the marks before it, and leaves at once where nothing is dirty or on its way; a fifth is refused with 0x1D by register; a
peer's mark is kept in RX_MARK. -/
def Obligations.SendRequestsAndMirrorStreams : Prop :=
  (∀ (s : State),
    let c := s.blk.ctl
    (∀ (i st p : Nat) (q : Pkt), c.portItem i = some (st, p, q) →
      let op := reqOp q.run
      let m := requestMsg c st q.run
      let acked (b : Blk) (v : Nat) : Prop := ∃ g, b.ctl.net = c.net.eraseIdx i ++ [g] ∧
        g.item = .msg { type := 9, dest := q.src, rim := true, src := 2047, arg := ackArg q.stream q.seq, value := v }
      ∀ cmd mine room, (cmd, mine, room) ∈ [(Instr.sendRequest i, decide (op = 0 ∨ op = 1 ∨ 5 < op), c.txRoom),
        (.wreadRequest i, decide (op = 2), c.txRoom), (.wwriteRequest i, decide (op = 3), c.txRoom), (.waddRequest i, decide (op = 4), c.txRoom),
        (.markRequest i, decide (op = 5), c.txRoom && decide ((c.marks st).length < 4))] →
      ((mine = false ∨ room = false) → Runs cmd s s.blk) ∧
      (mine = true → room = true → q.void = true → ∃ b, Runs cmd s b ∧ SameStore s.blk b ∧ b.ctl.uam = c.uam ∧ acked b 0) ∧
      (mine = true → room = true → q.void = false → c.requestOk st p q.run = false → ∃ b, Runs cmd s b ∧ SameStore s.blk b ∧
        b.ctl.uam = c.uam ∧ acked b 1 ∧ c.Counts b.ctl (stagePage st) F.STAGE_UAM_REFUSED_COUNT) ∧
      (mine = true → room = true → q.void = false → c.requestOk st p q.run = true → (c.ctx m.ctx).st = 2 → ∃ b, Runs cmd s b ∧
        SameStore s.blk b ∧ acked b 0 ∧
        (op ≠ 5 → b.ctl.uam.tx = c.uam.tx ++ [{ m with id := c.uam.nextId, msn := (c.ctx m.ctx).txMsn }] ∧
          (b.ctl.ctx m.ctx).txMsn = ((c.ctx m.ctx).txMsn + 1) % 2 ^ 20) ∧
        (op = 5 → (b.ctl.marks st).map (·.num) = (c.marks st).map (·.num) ++ [m.user])) ∧
      (mine = true → room = true → q.void = false → c.requestOk st p q.run = true → (c.ctx m.ctx).st ≠ 2 → ∃ b, Runs cmd s b ∧ acked b 0 ∧
        (b.ctl.ctx m.ctx).failWhy = 1 ∧ c.Counts b.ctl (stagePage st) F.STAGE_MSG_FAILS_COUNT)) ∧
    (∀ (n : Fin 4096) (e : List Ecc) (m : TxMsg) (ty off len : Nat),
      let x := c.ctx n
      let turn : Prop := (s.blk.sendTurn n e).isSome = true
      x.st = 2 → x.unacked.length < min 1024 x.cwnd →
      ((c.uam.tx.filter fun m => m.ctx == n.val).findSome? fun m => (m.nextFrame x.payload).map fun q => (m, q)) = some (m, ty, off, len) →
      (¬ turn → Runs (.frameSend n e) s s.blk) ∧
      (c.linkUp x.port = true → (∃ st, c.ctxStage n = some st) →
        (∀ z ∈ c.uam.ctxs, z.1 ≠ n.val → z.2.port = x.port → c.sendable z.1 = none) → turn) ∧
      (turn → ∃ b, Runs (.frameSend n e) s b ∧ (b.ctl.ctx n).txPsn = (x.txPsn + 1) % 2 ^ 32 ∧
        (b.ctl.ctx n).unacked = x.unacked ++ [{ psn := x.txPsn, msg := m.id, ty := ty, off := off, len := len }] ∧
        (if ty = 4 ∨ ty = 6 ∨ ty = 0xA then { m with rts := true } else { m with next := off + len }) ∈ b.ctl.uam.tx ∧
        (c.linkUp x.port = true → ∃ f, b.ctl.out.getLast? = some (.frame x.port (c.ctxWire n f)) ∧ f.ty = ty ∧ f.psn = x.txPsn ∧
          f.msn = m.msn ∧ f.off = off ∧ f.retx = false)))) ∧
  (∀ (s : State) (st : StageId),
    let c := s.blk.ctl
    let pg := stagePage st
    (∀ (fn : Fn) (w : Word), c.reaches fn pg → c.unlocked pg →
      (c.mirrorBad st (bits w 11 0) = true →
        Runs (.mirrorEnable fn st w) s (s.blk.onCtl fun c => (c.unpair pg).err pg 0x1C fn.num (pg + 0x110))) ∧
      (c.mirrorBad st (bits w 11 0) = false → ∃ b, Runs (.mirrorEnable fn st w) s b ∧ b.tiles = s.blk.tiles ∧
        b.ctl.flag pg F.STAGE_MIRROR_CTRL_EN = true ∧ b.ctl.mirrorCtx st = bits w 11 0 ∧
        (c.flag pg F.STAGE_MIRROR_CTRL_EN = false → ∀ g ∈ c.mirrorGranules st, (c.dirtyAt st g).isSome → b.isDirty st g = true))) ∧
    (∀ (fn : Fn) (w : Word), c.reaches fn pg →
      ((c.marks st).length < 4 → ∃ b, Runs (.mirrorMark fn st w) s b ∧ SameStore s.blk b ∧
        (b.ctl.marks st).map (·.num) = (c.marks st).map (·.num) ++ [w] ∧
        (c.marks st = [] → s.blk.dirtyList st = [] → (∀ m ∈ c.uam.tx, ∀ g, m.who = .mirror g → m.stage ≠ st) → c.txRoom = true →
          ∃ m, b.ctl.uam.tx = c.uam.tx ++ [m] ∧ m.op = 5 ∧ m.user = w ∧ m.ctx = c.mirrorCtx st)) ∧
      (4 ≤ (c.marks st).length → Runs (.mirrorMark fn st w) s (s.blk.onCtl fun c => (c.unpair pg).err pg 0x1D fn.num (pg + 0x11C)))) ∧
    (c.flag pg F.STAGE_MIRROR_CTRL_EN = false ∨ (c.ctx (c.mirrorCtx st)).st ≠ 2 ∨ c.txRoom = false → Runs (.mirrorGranuleSend st) s s.blk) ∧
    (c.flag pg F.STAGE_MIRROR_CTRL_EN = true → (c.ctx (c.mirrorCtx st)).st = 2 → c.txRoom = true →
      let l := s.blk.dirtyList st
      let at_ := SMap.get 0 c.uam.scan st
      (l = [] → ∃ b, Runs (.mirrorGranuleSend st) s b ∧ SameStore s.blk b ∧ b.ctl.uam.resync = c.uam.resync.filter (· != st.val)) ∧
      (∀ g i, (l.find? fun g => decide (at_ ≤ g)).or l.head? = some g →
        ((List.range 64).find? fun i =>
          let r := c.region st i
          bit (r.getD 0 0) 31 && decide (rec64 r 1 ≤ g * 4096) && decide (g * 4096 < rec64 r 1 + rec64 r 3)) = some i →
        ∃ b m, Runs (.mirrorGranuleSend st) s b ∧ b.tiles = s.blk.tiles ∧ b.isDirty st g = false ∧ b.ctl.uam.tx = c.uam.tx ++ [m] ∧
          m.op = 3 ∧ m.ctx = c.mirrorCtx st ∧ m.len = 4096 ∧ m.srcKind = 1 ∧ m.src = g * 4096 ∧ m.who = .mirror g ∧
          m.roff = rec64 (c.region st i) 5 + (g * 4096 - rec64 (c.region st i) 1))) ∧
    (∀ (p : PortId) (w : List Byte) (k : RxInfo) (e : List Ecc) b' u f data, s.blk.receive p 0xA w k = .go b' u f data → b'.inFault u = false →
      ∃ b, Runs (.markFrame p w k e) s b ∧ SameStore s.blk b ∧ (b.ctl.ctx f.dstCtx).rxMark = BitVec.ofNat 32 f.aux))

/-- 13 R342 to R346, R349: a BAR2 access that is served reads or writes the stage's or the stack's memory; one that is not is counted and a
read of it answered with Unsupported Request. A tile's read or write of the host leaves as TLPs and gets its reply, an error where its
function may not master the bus, or its completion fails or does not come. -/
def Obligations.HostTrafficIsServedOrRefused : Prop :=
  ∀ (s : State),
    let c := s.blk.ctl
    (∀ (fn : Fn) (off : BitVec 36), c.fnExists fn.num = true →
      let t := c.bar2 fn.num off.toNat
      let counted (b : Blk) : Prop := match fn with
        | .pf => c.Counts b.ctl pciePage F.PCIE_BAR2_ERR_COUNT
        | .vf st => c.Counts b.ctl (stagePage st) F.STAGE_BAR2_ERR_COUNT
      (∀ (len : Fin 4097) (e : List Ecc),
        (c.bar2Ok len t = false → ∃ b, Runs (.bar2Read fn off len e) s b ∧ SameStore s.blk b ∧ counted b ∧
          b.ctl.out = c.out ++ [.bar2Data fn.num false false []]) ∧
        (c.bar2Ok len t = true →
          let r := match t with | .stage st a => (s.blk.stgRead st a len e).1 | .stack h a => (s.blk.stackRead h a len e).1
          ∃ b, Runs (.bar2Read fn off len e) s b ∧ b.tiles = s.blk.tiles ∧
            b.ctl.out.getLast? = some (.bar2Data fn.num true r.anyBad r.bytes))) ∧
      (∀ (data : List Byte) (ep : Bool) (e : List Ecc),
        (c.bar2Ok data.length t = false → ∃ b, Runs (.bar2Write fn off data ep e) s b ∧ SameStore s.blk b ∧ counted b ∧ b.ctl.out = c.out) ∧
        (c.bar2Ok data.length t = true → Runs (.bar2Write fn off data ep e) s (match t with
          | .stage st a => s.blk.stgWrite st a (runOf data ep) e
          | .stack h a => s.blk.stackWrite h a (runOf data ep) e)))) ∧
    (∀ (fn : Fn) (st : StageId), c.reaches fn (stagePage st) →
      (∃ b, Runs (.bar2ErrClear fn st) s b ∧ OnlyRegsOf s.blk b (stagePage st) [stagePage st + 0x1C4] ∧ b.ctl.rd (stagePage st + 0x1C4) = 0) ∧
      (∃ b, Runs (.dmaErrClear fn st) s b ∧ OnlyRegsOf s.blk b (stagePage st) [stagePage st + 0x1C8] ∧ b.ctl.rd (stagePage st + 0x1C8) = 0)) ∧
    (∀ (i st : Nat) (p : Pkt) (bme : Bool) (mrrs : Fin 6) (mps : Fin 3),
      let replied (b : Blk) (err : Bool) : Prop := ∃ g q, b.ctl.net = c.net.eraseIdx i ++ [g] ∧ g.item = .pkt q ∧ q.dest = p.src ∧
        q.tag = p.tag ∧ q.rsp = true ∧ q.err = err
      let pieces := tlpPieces (128 * 2 ^ mps.val) (p.run.bytes.length / 128 + 1) 0 p.run.bytes.length
      (c.hostItem i 1 = some (st, p) →
        (c.mayMaster st bme = false → ∃ b, Runs (.hostReadRequest i bme mrrs) s b ∧ SameStore s.blk b ∧ replied b true ∧ b.ctl.out = c.out ∧
          c.Counts b.ctl (stagePage st) F.STAGE_DMA_ERR_COUNT) ∧
        (c.mayMaster st bme = true → ∃ b r, Runs (.hostReadRequest i bme mrrs) s b ∧ SameStore s.blk b ∧ b.ctl.net = c.net.eraseIdx i ∧
          b.ctl.mgmt.reads = c.mgmt.reads ++ [r] ∧ r.stage = st ∧ r.tile = p.src ∧ r.tag = p.tag ∧ r.addr = p.addr ∧ r.bytes = p.bytes ∧
          r.left = tlpPieces (128 * 2 ^ mrrs.val) (p.bytes / 128 + 1) 0 p.bytes ∧
          b.ctl.out = c.out ++ r.left.map fun e => .hostRead st c.mgmt.nextRead (p.addr + e.1) e.2)) ∧
      (c.hostItem i 2 = some (st, p) →
        (c.mayMaster st bme = false → ∃ b, Runs (.hostWriteRequest i bme mps) s b ∧ SameStore s.blk b ∧ replied b true ∧ b.ctl.out = c.out ∧
          c.Counts b.ctl (stagePage st) F.STAGE_DMA_ERR_COUNT) ∧
        (c.mayMaster st bme = true → ∃ b, Runs (.hostWriteRequest i bme mps) s b ∧ SameStore s.blk b ∧ replied b false ∧
          (p.run.anyBad = false → b.ctl.out = c.out ++ pieces.map fun e => .hostWrite st (p.addr + e.1) false ((p.run.bytes.drop e.1).take e.2))))) ∧
    (∀ (id off : Nat) (ep : Bool) (data : List Byte) (r : HostRead), (c.mgmt.reads.find? fun r => r.id == id) = some r →
      let replied (cmd : Instr) (err : Bool) (d : Run) : Prop := ∃ b g q, Runs cmd s b ∧ SameStore s.blk b ∧
        b.ctl.mgmt.reads = c.mgmt.reads.erase r ∧ b.ctl.net = c.net ++ [g] ∧ g.item = .pkt q ∧ q.dest = r.tile ∧ q.tag = r.tag ∧ q.rsp = true ∧
        q.err = err ∧ q.run = d ∧ (err = true → c.Counts b.ctl (stagePage r.stage) F.STAGE_DMA_ERR_COUNT)
      replied (.hostCompletion id off false ep data) true {} ∧ replied (.hostCompletionTimeout id) true {} ∧
      (r.left = [(off, data.length)] → data ≠ [] → replied (.hostCompletion id off true ep data) false
        (((r.got.slice 0 off).append (runOf data ep)).append (r.got.slice (off + data.length) r.bytes))))

/-- 02 R49, 13 R339 to R341, R346 to R348, 16 R417, R423: what a function's configuration space says it is; a function's MSI-X Enable, masked
vectors and table are as set, within the vectors it has, and an interrupt that waited leaves once it can, with the address and data of its
entry; VF Enable and NumVFs are as set where the option block leaves the SR-IOV capability; a function-level reset of a virtual function clears
BAR2_BASE, its interrupts' enable and table and its reads and restarts its stage; the link comes up at a rate and width the option block
allows. -/
def Obligations.FunctionsAndTheLinkAreSet : Prop :=
  ∀ (s : State),
    let c := s.blk.ctl
    (∃ x, c.ident 0 = some x ∧ x.vendor = 0x1D6E ∧ x.device = 0x6A19 ∧ x.cls = 0x120000 ∧ x.rev = 0x01 ∧
      x.totalVfs = if bit (c.option 2) 9 then some 12 else none) ∧
    (∀ fn, fn ≠ 0 → if c.fnExists fn then ∃ x, c.ident fn = some x ∧ x.vendor = 0x1D6E ∧ x.device = 0x6A1A ∧ x.totalVfs = none
      else c.ident fn = none) ∧
    (∀ (en : Bool) (n : Fin 13),
      (bit (c.option 2) 9 = true → ∃ b, Runs (.vfEnable en n) s b ∧ SameStore s.blk b ∧ b.ctl.regs = c.regs ∧ b.ctl.host.vfEnable = en ∧
        b.ctl.host.numVfs = n.val) ∧
      (bit (c.option 2) 9 = false → Runs (.vfEnable en n) s s.blk)) ∧
    (∀ (fn : Fn) (en : Bool) (masked : List (Fin 2048)) (table : List MsixEntry), c.fnExists fn.num = true →
      ∃ b, Runs (.msiXEnable fn en masked table) s b ∧ SameStore s.blk b ∧ b.ctl.regs = c.regs ∧ (b.ctl.host.msixEn.contains fn.num = en) ∧
        (∀ v : Fin 2048, (fn.num, v.val) ∈ b.ctl.host.masked ↔ v ∈ masked ∧ v.val < vectorsOf fn.num) ∧
        (∀ x, (fn.num, x) ∈ b.ctl.host.table ↔ x ∈ table ∧ x.vec < vectorsOf fn.num) ∧
        (∀ p, c.host.waiting = [p] → c.pageOwner p = fn.num → en = true →
          let v := bits (c.rd (p + 0x10)) 30 20
          (∀ u ∈ masked, u.val ≠ v) →
          (∃ m, b.ctl.out = c.out ++ [m] ∧
            ∀ x, table.find? (fun x => x.vec == v) = some x → v < vectorsOf fn.num → m = .msix fn.num v x.addr x.data) ∧
          b.ctl.host.waiting = [])) ∧
    (∀ st : StageId, c.fnExists (st.val + 1) = true → c.boot.running = .none → ∃ b, Runs (.vfFlr st) s b ∧
      b.ctl.get (stagePage st) F.STAGE_BAR2_BASE_GIB = 0 ∧ b.ctl.stState st = 5 ∧ b.ctl.host.msixEn.contains (st.val + 1) = false ∧
      (∀ x ∈ b.ctl.host.table, x.1 ≠ st.val + 1) ∧ ∀ r ∈ b.ctl.mgmt.reads, r.stage ≠ st.val) ∧
    (∀ (speed : Fin 6) (width : Fin 5) (flit : Bool),
      let o := c.option 2
      let top := if bits o 2 0 = 0 ∨ bits o 2 0 = 7 then 6 else bits o 2 0
      let wide := if bits o 8 4 ∈ [1, 2, 4, 8, 16] then bits o 8 4 else 16
      c.boot.perstLow = false → c.boot.resetLow = false → c.boot.held = false → (2 ≤ c.phase ∨ c.ready = true) →
      c.flag pciePage F.PCIE_STATUS_DL_UP = false →
      (speed.val + 1 ≤ top → 2 ^ width.val ≤ wide → ∃ b, Runs (.pcieLinkUp speed width flit) s b ∧ SameStore s.blk b ∧
        b.ctl.flag pciePage F.PCIE_STATUS_DL_UP = true ∧ b.ctl.get pciePage F.PCIE_STATUS_SPEED = speed.val + 1 ∧
        b.ctl.get pciePage F.PCIE_STATUS_WIDTH = 2 ^ width.val) ∧
      ((top < speed.val + 1 ∨ wide < 2 ^ width.val) → Runs (.pcieLinkUp speed width flit) s s.blk)) ∧
    (∃ b, Runs .perstNDeassert s b ∧ SameStore s.blk b ∧ b.ctl = { c with boot := { c.boot with perstLow := false } })

/-- 13 R350 to R355, 16 R421, 17 R467: an SMBus read at the target's address is answered while the always-on supply is up, one that Miryn serves
NACKed while Miryn is down; one of another length, one of a reserved code, and a write whose PEC, length or range is wrong are discarded and
counted. The UART buffers 256 bytes while the console is enabled; a JTAG instruction that disrupts the part is BYPASS unless RESET_N is low or
the option block permits it, and the data register it selects is loaded; an SPI command without an answer is counted, and the image that was
being read does not verify; MGMT requests are answered by Miryn, at most a hundred in a second. -/
def Obligations.ManagementInterfacesAnswer : Prop :=
  ∀ (s : State),
    let c := s.blk.ctl
    let me := c.mgmt.smbAddr
    let answers (cmd : Instr) (l : List Byte) : Prop := ∃ b, Runs cmd s b ∧ SameStore s.blk b ∧ b.ctl.out = c.out ++ [.smb l] ∧
      b.ctl.regs = c.regs
    let nacks (cmd : Instr) : Prop := ∃ b, Runs cmd s b ∧ SameStore s.blk b ∧ b.ctl = { c with out := c.out ++ [.smbNack] }
    let drops (cmd : Instr) (f : Fld) : Prop := ∃ b, Runs cmd s b ∧ SameStore s.blk b ∧ b.ctl.out = c.out ∧ c.Counts b.ctl devPage f
    let serves (cmd : SmbRead → Instr) (code len : Nat) (miryn : Bool) (l : List Byte) : Prop :=
      (c.boot.aon = true → (miryn = true → c.mirynUp = true) → answers (cmd ⟨me, code, len⟩) l ∧
        ∀ n, n ≠ len → drops (cmd ⟨me, code, n⟩) F.DEV_MGMT_ERR_SMB) ∧
      (c.boot.aon = true → miryn = true → c.mirynUp = false → ∀ n, nacks (cmd ⟨me, code, n⟩)) ∧
      (∀ r, (c.boot.aon = false ∨ r.addr ≠ me) → Runs (cmd r) s s.blk) ∧
      (∀ r, r.code ∈ smbCodes → r.code ≠ code → Runs (cmd r) s s.blk)
    serves .smbIdent 0x01 24 false ([0x4C, 0x5A, 0x36, 0x00, 0x41, 0x00, 0x00, 0x00] ++ (List.range 16).map Config.serial) ∧
    (∀ code len, code ∉ smbCodes → c.boot.aon = true → drops (.smbIdent ⟨me, code, len⟩) F.DEV_MGMT_ERR_SMB) ∧
    serves .smbStatus 0x02 2 false (leBytes 2 (ofBool c.ready * 2 ^ 15 + ofBool (c.flag devPage F.DEV_RATING_BELOW_RATING) * 2 ^ 14 +
      ofBool (bit (c.keepWord 101) 0) * 2 ^ 13 + ofBool c.mirynUp * 2 ^ 12 + maskOf 12 fun n => c.stState n == 4)) ∧
    serves .smbFaultCode 0x03 1 false (leBytes 1 c.boot.frame) ∧
    serves .smbTemp 0x10 2 true (leBytes 2 (c.get thermPage F.THERM_HOT_C16)) ∧
    serves .smbPower 0x11 2 true (leBytes 2 (c.get pwrPage F.PWR_POWER_W)) ∧
    serves .smbEnergy 0x12 8 true (leBytes 8 (microJ c.pwr.nrg 0)) ∧
    serves .smbTodGet 0x21 10 true (leBytes 6 (c.reel / 1000000000) ++ leBytes 4 (c.reel % 1000000000)) ∧
    serves .smbDigest 0x40 8 true (leBytes 8 (c.get64 rasPage F.RAS_DIGEST_LO_CRC)) ∧
    (∀ ack : Bool, match c.log.all.find? fun e => decide (c.log.smb ≤ e.seq) with
      | none => serves (Instr.smbLogNext · ack) 0x50 32 true (List.replicate 32 0)
      | some e => serves (Instr.smbLogNext · ack) 0x50 32 true (wordBytes (e.words (decide (c.log.smb < e.seq)))) ∧
          (c.boot.aon = true → c.mirynUp = true → ∃ b, Runs (.smbLogNext ⟨me, 0x50, 32⟩ ack) s b ∧
            b.ctl.log = { c.log with smb := if ack then e.seq + 1 else c.log.smb })) ∧
    (∀ (l : List Byte) (pec : Bool), c.boot.aon = true → c.mirynUp = true →
      (pec = true → l.length = 2 → 900 ≤ leNat l → leNat l ≤ 4400 → ∃ b, Runs (.smbCapSet ⟨me, l, pec⟩) s b ∧
        OnlyRegs s.blk b [pwrPage + F.PWR_BMC_CAP_W.off] ∧ b.ctl.get pwrPage F.PWR_BMC_CAP_W = leNat l) ∧
      ((pec = false ∨ l.length ≠ 2 ∨ leNat l < 900 ∨ 4400 < leNat l) → drops (.smbCapSet ⟨me, l, pec⟩) F.DEV_MGMT_ERR_SMB) ∧
      (pec = true → l.length = 10 → leNat ((l.drop 6).take 4) < 1000000000 →
        Runs (.smbTodSet ⟨me, l, pec⟩) s (s.blk.onCtl fun c => c.todSet (leNat (l.take 6) * 1000000000 + leNat ((l.drop 6).take 4)))) ∧
      ((pec = false ∨ l.length ≠ 10 ∨ 1000000000 ≤ leNat ((l.drop 6).take 4)) → drops (.smbTodSet ⟨me, l, pec⟩) F.DEV_MGMT_ERR_SMB)) ∧
    (∀ w : SmbWrite,
      (c.boot.aon = true → w.addr = me → c.mirynUp = false → nacks (.smbCapSet w) ∧ nacks (.smbTodSet w)) ∧
      ((c.boot.aon = false ∨ w.addr ≠ me) → Runs (.smbCapSet w) s s.blk ∧ Runs (.smbTodSet w) s s.blk)) ∧
    (c.boot.aon = true → drops .smbSclTimeout F.DEV_MGMT_ERR_SMB) ∧
    (∀ (v : Byte) (stop : Bool),
      (stop = true → bit (c.option 5) 2 = true → c.mgmt.uart.length < 256 → ∃ b, Runs (.uartRxByte v stop) s b ∧ SameStore s.blk b ∧
        b.ctl = { c with mgmt := { c.mgmt with uart := c.mgmt.uart ++ [v] } }) ∧
      ((stop = false ∨ bit (c.option 5) 2 = false ∨ 256 ≤ c.mgmt.uart.length) → drops (.uartRxByte v stop) F.DEV_MGMT_ERR_UART)) ∧
    (∀ i : JtagInstr,
      let refused := jtagDisruptive i = true ∧ c.boot.resetLow = false ∧ bit (c.option 5) 0 = false
      let j := if i = .mirynDebug ∧ bit (c.option 5) 1 = false then .bypass else i
      (refused → ∃ b, Runs (.jtagInstruction i) s b ∧ SameStore s.blk b ∧ b.ctl.mgmt = { c.mgmt with jtag := .bypass, dr := some 0 } ∧
        c.Counts b.ctl devPage F.DEV_MGMT_ERR_JTAG) ∧
      (¬ refused → ∃ b, Runs (.jtagInstruction i) s b ∧ SameStore s.blk b ∧
        b.ctl = { c with mgmt := { c.mgmt with jtag := j, dr := jtagDr j } })) ∧
    (∃ b, Runs .jtagTrst s b ∧ SameStore s.blk b ∧ b.ctl = { c with mgmt := { c.mgmt with jtag := .idcode, dr := some 0x1A616A4F } }) ∧
    drops (.spiTimeout none) F.DEV_MGMT_ERR_SPI ∧
    (∀ k : Fin 2, ∃ b, Runs (.spiTimeout (some k)) s b ∧ SameStore s.blk b ∧ c.Counts b.ctl devPage F.DEV_MGMT_ERR_SPI ∧
      (c.boot.running ≠ .none → c.phase = 2 → k.val ∈ b.ctl.boot.spiBad)) ∧
    (∀ (p : PortId) (w : List Byte) (k : RxInfo),
      let counts (x : Fld) : Prop := ∃ b, Runs (.mgmtFrame p w k) s b ∧ SameStore s.blk b ∧ c.Counts b.ctl (portPage p) F.PORT_RX_FRAMES_COUNT ∧
        c.Counts b.ctl (portPage p) x
      (c.arrival p w = .badFcs → counts F.PORT_RX_FCS_COUNT) ∧ (c.arrival p w = .other → counts F.PORT_RX_OTHER_COUNT) ∧
      (c.arrival p w = .corrupt → counts F.PORT_RX_CORRUPT_COUNT) ∧
      (∀ x f, c.arrival p w = .frame x f →
        let op := leNat (f.payload.take 4)
        let used := if SMap.get 0 c.mgmt.rate 16 = c.reel / 1000000000 then SMap.get 0 c.mgmt.rate p else 0
        (f.ty ≠ 0xD → Runs (.mgmtFrame p w k) s s.blk) ∧
        (f.ty = 0xD → c.mirynUp = true → used < 100 → f.payload.length = 16 → (op = 1 ∨ op = 2) → c.linkUp p = true →
          ∃ b v, Runs (.mgmtFrame p w k) s b ∧ SameStore s.blk b ∧ b.ctl.out = c.out ++ [.frame p ((c.mgmtEncap p x).wire
            (frameBytes { ty := 0xD, lenM1 := 63, payload := c.mgmtReply op (leNat ((f.payload.drop 4).take 4)) v }))]) ∧
        (f.ty = 0xD → (c.mirynUp = false ∨ f.payload.length ≠ 16 ∨ (op ≠ 1 ∧ op ≠ 2) ∨ 100 ≤ used) → counts F.PORT_RX_OTHER_COUNT)))

/-- 14 R357 to R361, R374, R378: a power tick measures every rail and adds the device's and each cluster's power to its energy, and takes a
snapshot whose instant has come, with the counters of that instant; a telemetry reading within its window is taken, another is a miss;
calibration asks every regulator for its readings and, in blended mode, fits the rails that are not frozen; a track window's end counts the
window, and a miss where it meets the conditions and lies outside the tolerance. 14 R372, R375, R376, R379, R383, 18 R494: BALLAST and the
energy commands: a snapshot is taken at the next whole microsecond; an armed window opens at its start and publishes the differences at its end;
arming is refused while armed, with no length, or with a start not ahead. A predicted step above its rail's threshold is held; its notice
asserts once the regulator has its write, which carries its size; the step is released, and with it a START it held where nothing else holds the
stage, and the notice ends; the board's alert. -/
def Obligations.PowerEnergyAndRailNotices : Prop :=
  (∀ (s : State),
    let c := s.blk.ctl
    let p := pwrPage
    (∀ (est bursts frames cls : List Nat) (steps : List LoadStep) (falls : List (Fin 26 × Int)), c.boot.aon = true →
      let rails := c.pwr.rails.zipIdx.map fun (e : Rail × Nat) => e.1.measure c.lz4 (est.getD e.2 0)
      let c1 : Ctl := { c with pwr := { c.pwr with rails := rails } }
      ∃ b, Runs (.powerTick est bursts frames cls steps falls) s b ∧ SameStore s.blk b ∧ b.ctl.pwr.rails = rails ∧
        SMap.get 0 b.ctl.pwr.nrg 0 = SMap.get 0 c.pwr.nrg 0 + c1.devPower ∧
        (∀ cl < 24, SMap.get 0 b.ctl.pwr.nrg (30 + cl) = SMap.get 0 c.pwr.nrg (30 + cl) + c1.railPower cl) ∧
        b.ctl.pwr.ticks = (if c.pwr.ticks + 1 = 100 then 0 else c.pwr.ticks + 1) ∧
        (∀ ns, c.pwr.snapAt = some ns → ns ≤ c.reel → b.ctl.pwr.snap = c.pwr.nrg ∧ b.ctl.pwr.snapAt = none ∧
          b.ctl.get64 p F.PWR_SNAP_TIME_LO_NS = ns % 2 ^ 64) ∧
        (∀ x ∈ steps, c.getN p F.PWR_RN_THRESH_A x.rail < x.amps.natAbs →
          (⟨x.rail, x.amps, .held, x.cause⟩ : Notice) ∈ b.ctl.pwr.notices) ∧
        b.ctl.cues = (if c.mirynUp then c.cues.advance else c.cues)) ∧
    (∀ (n : Fin 32) (ok : Bool) (mv ma : Nat), c.pwr.rails.length = 32 →
      let inside := c.getN p F.PWR_RAIL_WIN_MIN_A n * 1000 ≤ ma ∧ ma ≤ c.getN p F.PWR_RAIL_WIN_MAX_A n * 1000
      let missed (cmd : Instr) (why : Nat) : Prop := ∃ b, Runs cmd s b ∧ SameStore s.blk b ∧ (b.ctl.rail n).misses = (c.rail n).misses + 1 ∧
        c.Counts b.ctl p F.PWR_TELEM_MISS_COUNT ∧ (c.flag p F.PWR_TELEM_FIRST_VALID = false →
          b.ctl.rd (p + F.PWR_TELEM_FIRST.off) = BitVec.ofNat 32 (0x80000000 + n * 0x10000 + why))
      (ok = true → inside → ∃ b, Runs (.telemetryReading n ok mv ma) s b ∧ SameStore s.blk b ∧ b.ctl.regs = c.regs ∧
        (b.ctl.rail n).reading = some (mv * ma) ∧ (b.ctl.rail n).misses = 0 ∧ (b.ctl.rail n).frozen = false ∧
        (b.ctl.rail n).samples.getLast? = some ((c.rail n).est, mv * ma)) ∧
      (ok = false → missed (.telemetryReading n ok mv ma) 1) ∧ (ok = true → ¬ inside → missed (.telemetryReading n ok mv ma) 2) ∧
      missed (.telemetryTimeout n) 0) ∧
    (c.mirynUp = true → c.lz4 = false → c.pwr.rails.length = 32 → ∃ b, Runs .calibrationTick s b ∧ SameStore s.blk b ∧
      b.ctl.out = c.out ++ (List.range 32).map (fun n => .regulator (railBus n) .readings) ∧ b.ctl.pwr.calMs = c.pwr.calMs + 1 ∧ ∀ n < 32, ((c.rail n).frozen = true → b.ctl.rail n = c.rail n) ∧
        ((c.rail n).frozen = false → ∃ f g, b.ctl.rail n = (c.rail n).fit f g)) ∧
    (c.mirynUp = true → c.lz4 = true → Runs .calibrationTick s (s.blk.onCtl fun c =>
      { c with out := c.out ++ (List.range 32).map fun n => .regulator (railBus n) .readings })) ∧
    (c.mirynUp = false → Runs .calibrationTick s s.blk) ∧
    (0 < c.pwr.winN →
      let w := c.pwr
      let miss := c.lz4 = false ∧ 64 ≤ w.calMs ∧ w.winOk = true ∧ w.winN + 5000 ≤ w.calm ∧
        trackTol false (w.winS / w.winN) * w.winN < ((w.winP : Int) - w.winS).natAbs
      ∃ b, Runs .trackWindowEnd s b ∧ SameStore s.blk b ∧ c.Counts b.ctl p F.PWR_TRACK_WINDOWS_COUNT ∧ b.ctl.pwr.winN = 0 ∧
        (miss → c.Counts b.ctl p F.PWR_TRACK_MISS_COUNT) ∧
        (¬ miss → b.ctl.get p F.PWR_TRACK_MISS_COUNT = c.get p F.PWR_TRACK_MISS_COUNT))) ∧
  (∀ (s : State),
    let c := s.blk.ctl
    let p := pwrPage
    (∀ fn : Fn, c.reaches fn p → c.mirynUp = true →
      (∀ w : Word, c.unlocked p → bits w 27 24 < 12 → c.valid (bits w 27 24) = true → ∃ b, Runs (.ballastWrite fn w) s b ∧
        OnlyRegsOf s.blk b p [p + 0x54] ∧ b.ctl.get p F.PWR_BALLAST_STAGE = bits w 27 24 ∧ b.ctl.flag p F.PWR_BALLAST_EN = bit w 31) ∧
      (∃ b, Runs (.energySnapshot fn) s b ∧ SameStore s.blk b ∧ b.ctl.pwr = { c.pwr with snapAt := some ((c.reelUs + 1) * 1000) }) ∧
      (c.flag p F.PWR_SNAP_CTRL_ARMED = false → c.get p F.PWR_WIN_LEN_MS ≠ 0 → c.reelUs < c.get64 p F.PWR_WIN_START_LO_US →
        ∃ b, Runs (.windowArm fn) s b ∧ OnlyRegs ((s.blk.onCtl fun c => c.unpair p).onCtl fun c => { c with pwr := b.ctl.pwr }) b [p + 0x60] ∧
          b.ctl.pwr = { c.pwr with winOpen := false } ∧ b.ctl.flag p F.PWR_SNAP_CTRL_ARMED = true ∧
          b.ctl.flag p F.PWR_SNAP_CTRL_WIN_DONE = false) ∧
      ((c.flag p F.PWR_SNAP_CTRL_ARMED = true ∨ c.get p F.PWR_WIN_LEN_MS = 0 ∨ c.get64 p F.PWR_WIN_START_LO_US ≤ c.reelUs) →
        Runs (.windowArm fn) s (s.blk.onCtl fun c => (c.unpair p).err p 0x03 fn.num (p + 0x60)))) ∧
    (c.flag p F.PWR_SNAP_CTRL_ARMED = true →
      (c.pwr.winOpen = false → c.get64 p F.PWR_WIN_START_LO_US ≤ c.reelUs → ∃ b, Runs .windowEdge s b ∧ SameStore s.blk b ∧
        b.ctl = { c with pwr := { c.pwr with winOpen := true, winBase := c.pwr.nrg } }) ∧
      (c.pwr.winOpen = true → c.get64 p F.PWR_WIN_START_LO_US + c.get p F.PWR_WIN_LEN_MS * 1000 ≤ c.reelUs → ∃ b, Runs .windowEdge s b ∧
        SameStore s.blk b ∧ b.ctl.pwr = { c.pwr with winOpen := false, win := nrgDiff c.pwr.nrg c.pwr.winBase } ∧
        b.ctl.flag p F.PWR_SNAP_CTRL_ARMED = false ∧ b.ctl.flag p F.PWR_SNAP_CTRL_WIN_DONE = true)) ∧
    (∀ (r : Fin 26) (n : Notice) (rest : List Notice), c.pwr.notices = n :: rest → n.rail = r.val →
      let now (cmd : Instr) (l : List Notice) (o : List Out) : Prop := ∃ b, Runs cmd s b ∧ SameStore s.blk b ∧
        b.ctl = { c with pwr := { c.pwr with notices := l }, out := c.out ++ o }
      let freed : Notice := { n with phase := .released }
      (n.phase = .held → now (.railNoticeWriteDone r) ({ n with phase := .noticed } :: rest) [.regulator (railBus r) (.step n.amps)]) ∧
      (n.phase = .noticed → c.pwr.heldCmds = [] → now (.loadStepRelease r) (freed :: rest) []) ∧
      (∀ st : StageId, n.phase = .noticed → c.pwr.heldCmds = [(st.val, 2)] → c.stState st = 1 → c.flag (stagePage st) F.STAGE_RUNSTATE_LOADED = true →
        (rest.any (fun m => m.phase != .released && m.cause == .stage st) = true →
          ∃ b, Runs (.loadStepRelease r) s b ∧ SameStore s.blk b ∧ b.ctl = { c with pwr := { c.pwr with notices := freed :: rest } }) ∧
        (rest.any (fun m => m.phase != .released && m.cause == .stage st) = false → c.boot.retention = false →
          ∃ b, Runs (.loadStepRelease r) s b ∧ b.ctl.stState st = 2 ∧ b.ctl.pwr.heldCmds = [] ∧
            ∀ t ∈ c.stageTiles st, (b.tile t).wrapped = false)) ∧
      (n.phase = .released → now (.rnDeassert r) rest []) ∧
      (n.phase = .held → ∃ b, Runs (.railNoticeRetry r) s b ∧ SameStore s.blk b ∧ b.ctl.pwr = c.pwr ∧ c.Counts b.ctl p F.PWR_RN_HOLDS_COUNT)) ∧
    (∃ b, Runs .boardAlert s b ∧ SameStore s.blk b ∧ b.ctl = { c with pwr := { c.pwr with boardLow := true } }) ∧
    (∃ b, Runs .boardAlertRelease s b ∧ SameStore s.blk b ∧ b.ctl = { c with pwr := { c.pwr with boardLow := false } }))

/-- 14 R366 to R371: CUE.PUSH checks the staged entry in order and counts what it rejects; an entry later than the last is queued, one of
the same time takes its place; FLUSH empties the list; at its effective time the head becomes the active cue while Miryn runs. The safe cap
joins once Miryn has been away for 2 s, and Miryn's return ends it. -/
def Obligations.CuesAreCheckedQueuedAndApplied : Prop :=
  ∀ (s : State),
    let c := s.blk.ctl
    let p := cuePage
    let q := c.cues.queue
    let e : Cue := { time := c.get64 p F.CUE_TIME_LO_US, mode := c.get p F.CUE_TARGET_MODE, watts := c.get p F.CUE_TARGET_WATTS
                     ramp := c.get p F.CUE_TARGET_RAMP, dither := c.get p F.CUE_DITHER_MS, pushed := c.reelUs }
    (∀ fn : Fn, c.reaches fn p → c.mirynUp = true →
      let rejects (code : Nat) : Prop := Runs (.cuePush fn) s (s.blk.onCtl fun c =>
        (((c.unpair p).bump p F.CUE_REJECTED_COUNT).err p code fn.num (p + 0x50)).raise p 2)
      let fine : Prop := e.mode ≤ 1 ∧ 900 ≤ e.watts ∧ e.watts ≤ 4400 ∧ e.ramp ≤ 2000 ∧ e.dither ≤ 60000
      let takes (l : List Cue) : Prop := ∃ b, Runs (.cuePush fn) s b ∧ SameStore s.blk b ∧ b.ctl.cues = { c.cues with queue := l } ∧
        c.Counts b.ctl p F.CUE_PUSHED_COUNT
      (1 < e.mode → rejects 0x01) ∧
      (e.mode ≤ 1 → (e.watts < 900 ∨ 4400 < e.watts) → rejects 0x02) ∧
      (e.mode ≤ 1 → 900 ≤ e.watts → e.watts ≤ 4400 → 2000 < e.ramp → rejects 0x03) ∧
      (e.mode ≤ 1 → 900 ≤ e.watts → e.watts ≤ 4400 → e.ramp ≤ 2000 → 60000 < e.dither → rejects 0x04) ∧
      (fine → q = [] → takes [e]) ∧
      (∀ l, fine → q.getLast? = some l → e.time < l.time → rejects 0x06) ∧
      (∀ l, fine → q.getLast? = some l → l.time < e.time → 256 ≤ q.length → rejects 0x05) ∧
      (∀ l, fine → q.getLast? = some l → l.time < e.time → q.length < 256 → takes (q ++ [e])) ∧
      (∀ l, fine → q.getLast? = some l → e.time = l.time → takes (q.dropLast ++ [e])) ∧
      (∃ b, Runs (.cueFlush fn) s b ∧ SameStore s.blk b ∧ b.ctl = { c.unpair p with cues := { c.cues with queue := [] } })) ∧
    (∀ h rest, q = h :: rest → c.mirynUp = true → c.cueEff h ≤ c.reelUs → ∃ b, Runs .cueApply s b ∧ SameStore s.blk b ∧
      b.ctl.cues.queue = rest ∧ b.ctl.cues.mode = h.mode ∧ b.ctl.cues.watts = h.watts ∧ b.ctl.cues.ramp = h.ramp ∧
      (h.ramp = 0 → b.ctl.cues.value = h.watts * 1000000) ∧ c.Counts b.ctl p F.CUE_APPLIED_COUNT) ∧
    (c.mirynUp = false → c.pwr.safe = false → c.ready = true → ∃ b, Runs .safeCapTimeout s b ∧ SameStore s.blk b ∧ b.ctl.pwr.safe = true) ∧
    (c.boot.running = .none → c.mirynUp = false → c.boot.aon = true → ∃ b, Runs .mirynReturn s b ∧ SameStore s.blk b ∧ b.ctl.mirynUp = true ∧
      b.ctl.pwr.safe = false ∧ ∀ h rest, q = h :: rest → c.reelUs ≤ c.cueEff h → b.ctl.cues.queue = q)

/-- 14 R363, R380 to R382, R386, 15 R392 to R399: every sensor takes its reading; a hot scope loses 25 MHz of its ceiling and counts the
fall, a cool one regains it; a request the plan allows is stored; a change of frequency goes through its phases, the rails commanded first where
it rises, or is abandoned; a report beyond the limits of STIN.WARN is counted and stretches a clock that may stretch, which returns, and in a
strict stress corner marks the test; one within them changes nothing; Miryn samples the stand-ins and plans the guards anew. -/
def Obligations.FrequenciesFollowHeatAndRequests : Prop :=
  ∀ (s : State),
    let c := s.blk.ctl
    (∀ readings : List Int, c.boot.aon = true → c.boot.resetLow = false → c.boot.held = false → (∀ n < 104, (c.sensor n).trips < 2) →
      ∃ b, Runs (.sensorRead readings) s b ∧ SameStore s.blk b ∧ ∀ n < 104, (96 ≤ n ∨ c.fenced.contains (n / 4) = false) →
        b.ctl.sensor n = (c.sensor n).take (decide (96 ≤ n)) (readings.getD n 0) (if n < 96 then c.railPower (n / 4) else 0)) ∧
    (∀ sc : Fin 36, c.scopeOk sc = true →
      let hot := (c.scopeClusters sc).any fun cl => (c.goodSensors (clusterSensors cl)).any fun x => decide (1600 ≤ x.last)
      let ceil := SMap.get 1350 c.therm.ceil sc
      (hot = true → ∃ b, Runs (.throttleStep sc) s b ∧ SameStore s.blk b ∧
        SMap.get 1350 b.ctl.therm.ceil sc = (if min ceil (c.targetMhz sc) ≤ 500 then ceil else max 500 (min ceil (c.targetMhz sc) - 25)) ∧
        (500 < min ceil (c.targetMhz sc) → c.Counts b.ctl thermPage F.THERM_THROTTLE_EVENTS_COUNT)) ∧
      (hot = false → (∀ cl ∈ c.scopeClusters sc, (c.get thermPage F.THERM_THROTTLED_CLUSTERS).testBit cl = false) →
        ∃ b, Runs (.throttleStep sc) s b ∧ SameStore s.blk b ∧ b.ctl.regs = c.regs ∧ SMap.get 1350 b.ctl.therm.ceil sc = min 1350 (ceil + 25))) ∧
    (∀ (fn : Fn) (cl : ClusterId) (w : Word), c.reaches fn (freqPage cl) → c.unlocked (freqPage cl) →
      let m := bits w 10 0
      (500 ≤ m → m ≤ 1350 → m % 25 = 0 → ∃ b, Runs (.freqReqWrite fn cl w) s b ∧ OnlyRegsOf s.blk b (freqPage cl) [freqPage cl + 0x40] ∧
        b.ctl.reqMhz cl = m) ∧
      ((m < 500 ∨ 1350 < m ∨ m % 25 ≠ 0) → Runs (.freqReqWrite fn cl w) s
        (s.blk.onCtl fun c => (c.unpair (freqPage cl)).err (freqPage cl) 0x01 fn.num (freqPage cl + 0x40)))) ∧
    (∀ (sc : Fin 36) (steps : List (Fin 26 × Int)), c.scopeOk sc = true → c.changeOf sc = none → c.targetMhz sc ≠ c.scopeMhz sc →
      c.flag clkPage F.CLK_STATUS_REFCLK_OK = true → c.ready = true →
      ∃ b, Runs (.freqChange sc steps) s b ∧ SameStore s.blk b ∧ b.ctl.regs = c.regs ∧
        (c.scopeMhz sc < c.targetMhz sc → SMap.find? b.ctl.pwr.volts 24 = some (c.vddmMv (c.targetMhz sc)) ∧
          ∀ cl ∈ c.scopeClusters sc, cl ≠ 24 → SMap.find? b.ctl.pwr.volts cl = some (c.mvAt cl (c.targetMhz sc))) ∧
        b.ctl.changeOf sc = some
        { scope := sc, mhz := c.targetMhz sc, old := c.scopeMhz sc, phase := if c.scopeMhz sc < c.targetMhz sc then .raising else .ready }) ∧
    (∀ (sc : Fin 36) (x : FreqChange), c.changeOf sc = some x →
      (x.phase = .raising → (∃ b, Runs (.voltageSettled sc) s b ∧ SameStore s.blk b ∧ b.ctl.changeOf sc = some { x with phase := .ready } ∧
          ∀ cl ∈ c.scopeClusters sc, b.ctl.get (voltPage cl) F.VOLT_STATUS_V_MV = c.mvAt cl x.mhz % 2 ^ 10) ∧
        ∃ b, Runs (.freqChangeAbandon sc) s b ∧ b.hbm = s.blk.hbm ∧ b.ctl.changeOf sc = none ∧
          ∀ cl ∈ c.scopeClusters sc, b.ctl.get (freqPage cl) F.FREQ_CUR_MHZ = c.get (freqPage cl) F.FREQ_CUR_MHZ) ∧
      (x.phase = .lowering → ∃ b, Runs (.voltageSettled sc) s b ∧ SameStore s.blk b ∧ b.ctl.changeOf sc = none) ∧
      (x.phase = .ready → c.pwr.notices = [] → (∀ t ∈ c.scopeTiles sc, s.blk.mixRuns t = false) → ∃ b, Runs (.freqStopBegin sc) s b ∧
        SameStore s.blk b ∧ b.ctl.regs = c.regs ∧ b.ctl.changeOf sc = some { x with phase := .stopped }) ∧
      (∀ ns : Nat, x.phase = .stopped → x.mhz < 2048 → ∃ b, Runs (.freqRestart sc ns) s b ∧ b.hbm = s.blk.hbm ∧
        (b.ctl.changeOf sc = if x.old < x.mhz then none else some { x with phase := .lowering }) ∧
        ∀ cl ∈ c.scopeClusters sc, b.ctl.get (freqPage cl) F.FREQ_CUR_MHZ = x.mhz)) ∧
    (∀ (cl : ClusterId) (m : Margin),
      let warns : Prop := match m with
        | .slack _ ps => ps < c.get (stinPage cl) F.STIN_WARN_SLACK_PS
        | .jitter ps => c.get (stinPage cl) F.STIN_WARN_JIT_PS < ps
        | .duty v => v < 450 ∨ 550 < v
      ((c.clockStopped cl = true ∨ ¬ warns) → Runs (.marginWarning cl m) s s.blk) ∧
      (c.clockStopped cl = false → warns → ∃ b, Runs (.marginWarning cl m) s b ∧ SameStore s.blk b ∧
      c.Counts b.ctl (stinPage cl) (match m with | .slack _ _ => F.STIN_SLACK_WARN_COUNT | _ => F.STIN_CLOCK_WARN_COUNT) ∧
      (∀ t, c.ras.test = some t → t.kind = 3 → t.index = cl.val → t.corners.headD 4 < 2 →
        b.ctl.ras.test = some { t with warned := true } ∧ b.ctl.clk.stretched = c.clk.stretched) ∧
      (c.strictCorner cl = false → c.flag (stinPage cl) F.STIN_CTRL_STRETCH_EN = true → c.clk.stretched.contains cl.val = false →
        b.ctl.clk.stretched.contains cl.val = true ∧ c.Counts b.ctl (stinPage cl) F.STIN_STRETCH_EVENTS_COUNT))) ∧
    (∀ (cl : ClusterId) (cycles : Nat), c.clk.stretched.contains cl.val = true → ∃ b, Runs (.stretchReturn cl cycles) s b ∧ SameStore s.blk b ∧
      b.ctl.clk.stretched.contains cl.val = false) ∧
    (∀ (cl : ClusterId) (slack : List Int), c.mirynUp = true → c.fenced.contains cl.val = false →
      ∃ b, Runs (.standinSample cl slack) s b ∧ SameStore s.blk b ∧
        (SMap.get [] b.ctl.clk.drift cl).getLast? = some (((List.range 8).map fun n => slack.getD n 0).foldl (· + ·) 0) ∧
        ∀ n < 8, b.ctl.getN (stinPage cl) F.STIN_SLACK_NOW_PS n = codeOf 16 (slack.getD n 0)) ∧
    (c.mirynUp = true → ∃ b, Runs .ageingReplan s b ∧ SameStore s.blk b ∧ b.ctl.clk.episodes = [] ∧
      ∀ cl < 24, b.ctl.guardMv cl = newGuard (c.guardMv cl) (signedOf 16 (c.get (voltPage cl) F.VOLT_DRIFT_PS_PS)) (SMap.get 0 c.clk.episodes cl)) ∧
    (c.mirynUp = false → Runs .ageingReplan s s.blk)

/-- 15 R400 to R402, R409: every microsecond the rim sends the reel time to every good tile of every valid stage; a tile that takes one sets
its copy to the tick's time and the delay of its hops, and its copy never goes back; a slew ends at its offset. 12 R332, R333, 15 R404,
R407, R409: PTP. A Sync of the selected master is timestamped, within 3 ns, and awaits its Follow_Up; a matching Follow_Up measures the
offset, and one more than 1,000 ns from the filtered offset is discarded unless it is the eighth in a row; a Delay_Resp gives the path
delay, where it is from 0 to 100 microseconds. A message of another domain or master, or with a correction out of range, is discarded and
counted. PTP qualifies after its Syncs, takes over, and on its loss the next best reference or holdover does. -/
def Obligations.ReelTimeReachesTilesAndFollowsPtp : Prop :=
  (∀ (s : State),
    let c := s.blk.ctl
    (c.ready = true → ∃ b l, Runs .syncTickSend s b ∧ SameStore s.blk b ∧ b.ctl.net = c.net ++ l ∧
      l.length = ((List.range 12).filter c.valid).foldl (fun n st => n + (c.stageTiles st).length) 0 ∧
      ∀ g ∈ l, ∃ m, g.item = .msg m ∧ m.type = 7 ∧ m.value = c.reel) ∧
    (∀ (i t : Nat) (m : Msg), c.atTile i = some (t, .msg m) → m.type = 7 → s.blk.live t = true →
      let d := m.hops * 1000 / max 1 (c.get (freqPage (tileCluster t)) F.FREQ_CUR_MHZ)
      ∃ b k, Runs (.syncTick i) s b ∧ SameOthers s.blk b t ∧ b.ctl.net = c.net.eraseIdx i ∧ d ≤ k ∧ k ≤ d + 1 ∧
        (b.tile t).reel = some (s.blk.tileReel t, m.value + k, c.time.mono) ∧ s.blk.tileReel t ≤ b.tileReel t) ∧
    (c.slewing = true → (c.bestRef = 0 ∨ (c.src ≠ 0 ∧ c.src ≤ c.bestRef)) → ∃ b, Runs .slewEnd s b ∧ SameStore s.blk b ∧
      b.ctl.slewing = false ∧ b.ctl.time.slew = 0 ∧ b.ctl.src = c.src)) ∧
  (∀ (s : State) (p : PortId) (domain master seq : Nat) (corr : Int),
    let c := s.blk.ctl
    let pg := timePage
    let good := domain = c.ptpDomain ∧ c.time.master = some master ∧ 0 ≤ corr ∧ corr ≤ corrMax
    let discards (cmd : Instr) : Prop := ∃ b, Runs cmd s b ∧ SameStore s.blk b ∧ b.ctl.time = c.time ∧ c.Counts b.ctl pg F.TIME_PTP_DISCARD_COUNT
    (c.ptpPort p = true →
      (∀ (li : Int) (t1 : Option Int) (fine : Bool), good → -7 ≤ li → li ≤ 1 → ∃ b, Runs (.ptpSync p domain master seq corr li t1 fine) s b ∧
        SameStore s.blk b ∧ c.Counts b.ctl (portPage p) F.PORT_PTP_RX_COUNT ∧ c.Counts b.ctl (portPage p) F.PORT_RX_FRAMES_COUNT ∧
        (t1 = none → ∃ y, b.ctl.time = { c.time with sync := some y } ∧ y.master = master ∧ y.seq = seq ∧ y.corr = corr ∧
          y.t2 % 16 = 0 ∧ (y.t2 - (16 * (c.reel : Int) + signedOf 16 (c.get (portPage p) F.PORT_TS_ADJ_RX_ADJ))).natAbs ≤ 48) ∧
        (t1 ≠ none → c.time.delay = none → b.ctl.time.syncs = c.time.syncs + 1)) ∧
      (∀ (li : Int) (t1 : Option Int) (fine : Bool), (¬ good ∨ li < -7 ∨ 1 < li) → discards (.ptpSync p domain master seq corr li t1 fine)) ∧
      (∀ (t1 : Int) (y : PtpSync) (fine : Bool), good → c.time.sync = some y → y.master = master → y.seq = seq → c.time.mono ≤ y.mono + 100000000 →
        let fwd := y.t2 - t1 - y.corr - corr
        ∃ b, Runs (.ptpFollowUp p domain master seq corr t1 fine) s b ∧ SameStore s.blk b ∧ b.ctl.time.sync = none ∧ b.ctl.time.fwd = some fwd ∧
          (c.time.delay = none → b.ctl.time.syncs = c.time.syncs + 1) ∧
          (∀ d f, c.time.delay = some d → c.time.filt = some f →
            let off := -(fwd - d - 16 * signedOf 16 (c.get pg F.TIME_PTP_CFG_ASYM_NS))
            (16000 < (off - f).natAbs → c.time.outliers < 7 → b.ctl.time.outliers = c.time.outliers + 1 ∧ b.ctl.time.syncs = c.time.syncs ∧
              b.ctl.time.filt = some f ∧ c.Counts b.ctl pg F.TIME_PTP_DISCARD_COUNT) ∧
            (16000 < (off - f).natAbs → 7 ≤ c.time.outliers → b.ctl.time.outliers = 0 ∧ b.ctl.time.filt = some off) ∧
            ((off - f).natAbs ≤ 16000 → b.ctl.time.outliers = 0 ∧ b.ctl.time.syncs = c.time.syncs + 1))) ∧
      (∀ (t1 : Int) (fine : Bool), (¬ good ∨ c.time.sync = none) → discards (.ptpFollowUp p domain master seq corr t1 fine)) ∧
      (∀ (t4 t3 fwd : Int) (n : Nat), good → c.time.req = some (n, t3) → c.time.fwd = some fwd →
        let d := fwd + (t4 - t3 - corr)
        (n ≠ seq → discards (.ptpDelayResp p domain master seq corr t4)) ∧
        (n = seq → 0 ≤ d → d ≤ 3200000 → ∃ b k, Runs (.ptpDelayResp p domain master seq corr t4) s b ∧ SameStore s.blk b ∧ b.ctl.time.req = none ∧
          b.ctl.time.delay = some k ∧ d / 2 ≤ k ∧ k ≤ d / 2 + 1) ∧
        (n = seq → (d < -1 ∨ 3200001 < d) → ∃ b, Runs (.ptpDelayResp p domain master seq corr t4) s b ∧ SameStore s.blk b ∧
          b.ctl.time.delay = c.time.delay ∧ c.Counts b.ctl pg F.TIME_PTP_DISCARD_COUNT)) ∧
      (∀ best : Bool, domain = c.ptpDomain → (c.time.master = none ∨ (best = true ∧ c.time.master ≠ some master)) →
        ∃ b, Runs (.ptpAnnounce p domain master best) s b ∧ SameStore s.blk b ∧ b.ctl.time.master = some master) ∧
      (∀ best : Bool, domain = c.ptpDomain → (c.time.master = some master ∨ (best = false ∧ c.time.master ≠ none)) →
        ∃ b, Runs (.ptpAnnounce p domain master best) s b ∧ SameStore s.blk b ∧ b.ctl.time = c.time) ∧
      (∀ best : Bool, domain ≠ c.ptpDomain → discards (.ptpAnnounce p domain master best))) ∧
    (∀ q, q = c.get pg F.TIME_STATUS_PTP_PORT → c.time.master ≠ none → c.ptpPort q = true → ∃ b t3, Runs .delayReqSend s b ∧ SameStore s.blk b ∧
        c.Counts b.ctl (portPage q) F.PORT_TX_FRAMES_COUNT ∧ b.ctl.out = c.out ++ [.delayReq q c.time.reqSeq] ∧ b.ctl.time.req = some (c.time.reqSeq, t3) ∧
        b.ctl.time.reqSeq = (c.time.reqSeq + 1) % 65536) ∧
    ((c.time.syncs ≠ 0 ∨ c.time.master ≠ none) → ∃ b, Runs .ptpLoss s b ∧ SameStore s.blk b ∧ b.ctl.time.master = none ∧ b.ctl.time.syncs = 0 ∧
      b.ctl.flag pg F.TIME_STATUS_PTP_QUAL = false ∧
      b.ctl.src = (if c.src = 1 then (if c.flag pg F.TIME_STATUS_PPS_QUAL then 2 else 3) else c.src)) ∧
    (c.time.syncs ≠ 0 → c.time.filt ≠ none → c.slewing = false → c.flag pg F.TIME_CTRL_PTP_EN = true → ∃ b, Runs .ptpQualify s b ∧
      SameStore s.blk b ∧ b.ctl.flag pg F.TIME_STATUS_PTP_QUAL = true ∧ b.ctl.src = 1))

/-- 15 R406, R408, R409: PPS and REFCLK. An edge within 1 ms of its predicted time is accepted, others are counted; the sixteenth in a row
with a time of day qualifies PPS; its loss hands over to PTP or holdover. A REFCLK that is lost is counted, and its return ends the fault. -/
def Obligations.PpsEdgesAndTheReferenceClock : Prop :=
  ∀ (s : State),
    let c := s.blk.ctl
    let pg := timePage
    let ts : Int := (c.reel : Int) + signedOf 16 (c.get pg F.TIME_PPS_CFG_ADJ_NS)
    let near := ∀ e, c.time.edge = some e → (ts - (e + 1000000000)).natAbs ≤ 1000000
    (∀ fine : Bool, c.flag pg F.TIME_CTRL_PPS_EN = true → c.boot.aon = true →
      (¬ near → ∃ b, Runs (.ppsEdge fine) s b ∧ SameStore s.blk b ∧ b.ctl.time = c.time ∧ c.Counts b.ctl pg F.TIME_PPS_BAD_COUNT) ∧
      (near → c.time.tod = none → ∃ b, Runs (.ppsEdge fine) s b ∧ SameStore s.blk b ∧ b.ctl.time = { c.time with edge := some ts } ∧ b.ctl.regs = c.regs) ∧
      (∀ v, near → c.time.tod = some v → ∃ b, Runs (.ppsEdge fine) s b ∧ SameStore s.blk b ∧ b.ctl.time.edge = some ts ∧
        b.ctl.time.tod = some (v + 1000000000) ∧ b.ctl.time.edges = c.time.edges + 1 ∧ b.ctl.time.ppsOff = (v : Int) - ts ∧
        (15 ≤ c.time.edges → c.slewing = false → b.ctl.flag pg F.TIME_STATUS_PPS_QUAL = true))) ∧
    (c.time.edge ≠ none → ∃ b, Runs .ppsLoss s b ∧ SameStore s.blk b ∧ b.ctl.time.edge = none ∧ b.ctl.time.tod = none ∧ b.ctl.time.edges = 0 ∧
      b.ctl.flag pg F.TIME_STATUS_PPS_QUAL = false ∧
      b.ctl.src = (if c.src = 2 then (if c.flag pg F.TIME_STATUS_PTP_QUAL then 1 else 3) else c.src)) ∧
    (c.flag clkPage F.CLK_STATUS_REFCLK_OK = true → ∃ b, Runs .refclkLoss s b ∧ SameStore s.blk b ∧
      b.ctl.flag clkPage F.CLK_STATUS_REFCLK_OK = false ∧ c.Counts b.ctl clkPage F.CLK_REFCLK_LOSS_COUNT) ∧
    (c.flag clkPage F.CLK_STATUS_REFCLK_OK = false → Runs .refclkLoss s s.blk) ∧
    (c.boot.aon = true → ∃ b, Runs .refclkReturn s b ∧ SameStore s.blk b ∧ b.ctl.flag clkPage F.CLK_STATUS_REFCLK_OK = true ∧
      0x02 ∉ b.ctl.boot.faults)

/-- 16 R413, R415, R416, R424, R431, R432, R436, R437, 14 R381: each reset that reaches everything, from its own source. -/
def Obligations.FullResetsReachEverything : Prop :=
  ∀ (s : State),
    let c := s.blk.ctl
    let o := c.boot
    let full (i : Instr) (n : Nat) : Prop := ∃ b, Runs i s b ∧ FullReset s.blk b n
    (o.aon = false → full .powerOn 0) ∧ (o.aon = true → Runs .powerOn s s.blk) ∧
    (o.aon = true → o.pwrOk = true → full .pwrOkLoss 1) ∧
    (o.aon = true → o.resetLow = false → full .resetNAssert 2) ∧ (o.resetLow = true → Runs .resetNAssert s s.blk) ∧
    full (.softwareFullReset .pf) 4 ∧
    (∀ n : Fin 32, o.aon = true → o.releasing = false → n.val ∈ o.rails → n.val ∈ o.good → full (.powerGoodLoss n) 6) ∧
    (c.phase = 9 → c.flag mirynPage F.MIRYN_RECOV_CTRL_BUSY = true → o.recovLeft = 0 → full (.recoveryVerify true) 4) ∧
    (∀ (readings : List Int) (n : Nat), o.aon = true → o.resetLow = false → o.held = false → n < 104 →
      (96 ≤ n ∨ c.fenced.contains (n / 4) = false) →
      let x := (c.sensor n).take (decide (96 ≤ n)) (readings.getD n 0) (if n < 96 then c.railPower (n / 4) else 0)
      x.bad = false → 3 ≤ x.trips → full (.sensorRead readings) 7)

/-- 16 R413, R415, R416, R427, R435, 13 R347: the warm resets, which nothing of the same or a wider reach lets in while it runs, their
release, and the reset of Miryn alone. -/
def Obligations.WarmResetsAndMirynsOwn : Prop :=
  ∀ (s : State),
    let c := s.blk.ctl
    let o := c.boot
    let warm (i : Instr) : Prop := ∃ b, Runs i s b ∧ WarmReset s.blk b
    (o.running = .none → o.aon = true →
      warm (.warmReset .pf) ∧ warm .pfFlr ∧
      (c.flag pciePage F.PCIE_STATUS_DL_UP = true →
        (∃ b, Runs .hotReset s b ∧ WarmReset s.blk b ∧ b.ctl.flag pciePage F.PCIE_STATUS_DL_UP = false) ∧
        (∃ b, Runs .pcieLinkDown s b ∧ WarmReset s.blk b ∧ b.ctl.flag pciePage F.PCIE_STATUS_DL_UP = false)) ∧
      (o.perstLow = false → ∃ b, Runs .perstNAssert s b ∧ WarmReset s.blk b ∧ b.ctl.boot.perstLow = true)) ∧
    (o.running ≠ .none → Runs .pfFlr s s.blk) ∧
    (c.flag pciePage F.PCIE_STATUS_DL_UP = false → Runs .hotReset s s.blk ∧ Runs .pcieLinkDown s s.blk) ∧
    (o.perstLow = true → Runs .perstNAssert s s.blk) ∧
    (o.running = .warm → c.phase = 0 → ∃ b, Runs .warmResetRelease s b ∧ OnlyRegs s.blk b [rstPage + 0x14] ∧ b.ctl.phase = 2) ∧
    (o.running = .none → c.mirynUp = true → ∃ b, Runs .mirynWatchdog s b ∧ SameStore s.blk b ∧ b.ctl.mirynUp = false ∧ b.ctl.suspects = [] ∧
      b.ctl.ras.wanted = [] ∧ b.ctl.ras.runs = [] ∧ b.ctl.ras.test = none ∧ b.ctl.keep = c.keep ∧
      b.ctl.getN rstPage F.RST_VB_COUNT_COUNT 3 = satAdd 0xFFFF (c.getN rstPage F.RST_VB_COUNT_COUNT 3) 1 ∧
      b.ctl.rd (rstPage + 0x44) = c.rd (rstPage + 0x44)) ∧
    (o.running ≠ .none → Runs .mirynWatchdog s s.blk)

/-- 16 R419, R436, R438, 17 R461, R469, 18 R480, R495, R496: the backup domain's counters are cleared by VB_CLEAR and by the loss of VBAK;
the loss of all power leaves MRAM, the SPI NOR and the backup domain; FAULT_N's frames carry the active codes in turn. -/
def Obligations.PowerRemovalAndTheBackupDomain : Prop :=
  ∀ (s : State),
    let c := s.blk.ctl
    let l := regsAll rstPage [(0x14, 0x14), (0x44, 0x44), (0x50, 0x6C)]
    let emptied (b : Blk) (lost : Bool) : Prop := (∀ n < 8, b.ctl.getN rstPage F.RST_VB_COUNT_COUNT n = 0) ∧
      b.ctl.get rstPage F.RST_LAST_CAUSE_CAUSE = 0 ∧ b.ctl.flag rstPage F.RST_STATUS_VBAK_LOST = lost ∧ b.ctl.ready = c.ready ∧
      b.ctl.phase = c.phase
    (∃ b, Runs (.vbClear .pf) s b ∧ OnlyRegsOf s.blk b rstPage l ∧ emptied b false) ∧
    (∃ b, Runs .vbakLoss s b ∧ OnlyRegs s.blk b l ∧ emptied b true) ∧
    (∃ b, Runs .vddAonLoss s b ∧ b.tiles = [] ∧ b.hbm = [] ∧ b.ctl.boot.aon = false ∧ b.ctl.keep.mram = c.keep.mram ∧
      b.ctl.keep.wear = c.keep.wear ∧ b.ctl.keep.queue = [] ∧ b.ctl.daily.spi = c.daily.spi ∧ b.ctl.boot.faults = [] ∧
      b.ctl.flag rstPage F.RST_STATUS_VBAK_LOST = c.flag rstPage F.RST_STATUS_VBAK_LOST ∧
      b.ctl.rd (rstPage + 0x44) = c.rd (rstPage + 0x44) ∧ ∀ r, rstPage + 0x50 ≤ r → r < rstPage + 0x70 → b.ctl.rd r = c.rd r) ∧
    (c.boot.aon = true → ∃ b, Runs .faultNFrame s b ∧ b = s.blk.onCtl (fun c => { c with boot := { c.boot with frame := b.ctl.boot.frame } }) ∧
      (c.boot.faults = [] → b.ctl.boot.frame = 0) ∧ (∀ a, c.boot.faults = [a] → b.ctl.boot.frame = a) ∧
      ∀ a z r, c.boot.faults = a :: z :: r → b.ctl.boot.frame = if c.boot.frame = a then z else a)

/-- 13 R350, 16 R417, R420, R423, R431 to R433, 18 R477, R481 to R483, R492: bring-up begins once PWR_OK is high and nothing holds RESET_N; the
SMBus address is sampled and the option block loaded; the rails follow group by group, their targets written first, each retried as the spec says,
and are released in the reverse order. -/
def Obligations.RailsComeUpInTheirOrder : Prop :=
  ∀ (s : State),
    let c := s.blk.ctl
    let o := c.boot
    let begins (i : Instr) (failed : List (Fin 256)) : Prop := ∃ b, Runs i s b ∧ SameStore s.blk b ∧ b.ctl.boot.start = .none ∧
      b.ctl.boot.pwrOk = true ∧ b.ctl.boot.resetLow = false ∧ b.ctl.phase = (if o.start = .railsOn then 2 else 1) ∧
      (c.keep.queue = [] → ∀ i ∈ failed, b.ctl.keepWord i = 0) ∧
      (failed = [] →
        let ws := (List.range 16).map c.keepWord
        let good : Prop := bits (ws.getD 0 0) 31 16 = 0x6F70 ∧ ws.getD 15 0 = optCheck ws
        (good → ∀ n < 16, b.ctl.option n = ws.getD n 0) ∧
        (¬ good → b.ctl.flag rstPage F.RST_STATUS_OPT_DEFAULT = true ∧
          ∀ n < 16, b.ctl.option n = (optDefaults ++ [optCheck optDefaults]).getD n 0))
    (∀ failed : List (Fin 256), o.aon = true → o.running = .full → o.start ≠ .none → o.held = false →
      (∀ strap : Fin 4, o.pwrOk = false → o.resetLow = false → begins (.pwrOkRise strap failed) failed ∧
        ∀ b, Runs (.pwrOkRise strap failed) s b → b.ctl.mgmt.smbAddr = 0x60 + strap) ∧
      (o.pwrOk = true → o.resetLow = true → begins (.resetNRelease failed) failed) ∧
      (o.pwrOk = false → o.resetLow = true → Runs (.resetNRelease failed) s
        (s.blk.onCtl fun c => { c with boot := { c.boot with resetLow := false } }))) ∧
    (c.sequencing = true →
      (c.phase = 1 → o.group < 5 → c.railsGood = true → ∃ b, Runs .railGroupEnable s b ∧ SameStore s.blk b ∧
        b.ctl.boot.group = o.group + 1 ∧
        (∀ n < 31, railGroup n = o.group + 1 → ¬ (n < 24 ∧ n ∈ c.fenced) →
          SMap.find? b.ctl.pwr.volts n = some (if n < 24 then c.mvAt n (c.reqMhz n) else c.railNominal n)) ∧
        ∀ n < 32, n ∈ b.ctl.boot.rails ↔ n ∈ o.rails ∨ (railGroup n = o.group + 1 ∧ ¬ (n < 24 ∧ n ∈ c.fenced))) ∧
      (c.railsGood = false → Runs .railGroupEnable s s.blk) ∧
      (∀ n : Fin 32, n.val ∈ o.rails → ∃ b, Runs (.vrPgRise n) s b ∧ SameStore s.blk b ∧ n.val ∈ b.ctl.boot.good ∧
        (c.phase = 1 → o.group = 5 → (∀ r ∈ o.rails, r = n.val ∨ r ∈ o.good) → b.ctl.phase = 2)) ∧
      (∀ n : Fin 32, n.val ∉ o.rails → Runs (.vrPgRise n) s s.blk) ∧
      (∀ n : Fin 32, n.val ∈ o.rails → n.val ∉ o.good → ∃ b, Runs (.vrPgTimeout n) s b ∧ SameStore s.blk b ∧
        (n.val < 24 → n.val ∉ b.ctl.boot.rails ∧
          (SMap.get 0 o.railTries n < 3 → n.val ∈ b.ctl.boot.retry ∧ SMap.get 0 b.ctl.boot.railTries n = SMap.get 0 o.railTries n + 1) ∧
          (3 ≤ SMap.get 0 o.railTries n → n.val ∈ b.ctl.fenced)) ∧
        (24 ≤ n.val → o.seqTries < 3 → b.ctl.boot.releasing = true ∧ b.ctl.boot.retrySeq = true ∧ b.ctl.boot.group = 0 ∧
          b.ctl.boot.seqTries = o.seqTries + 1) ∧
        (24 ≤ n.val → 3 ≤ o.seqTries → b.ctl.boot.held = true ∧ b.ctl.phase = 8 ∧ 1 ∈ b.ctl.boot.faults ∧
          b.ctl.rd (rstPage + 0x48) = BitVec.ofNat 32 (0x80000100 + n))) ∧
      (∀ cl : ClusterId, cl.val ∈ o.retry → ∃ b, Runs (.railRetry (some cl)) s b ∧ SameStore s.blk b ∧ cl.val ∈ b.ctl.boot.rails ∧
        cl.val ∉ b.ctl.boot.retry)) ∧
    (o.aon = true → o.releasing = false → o.resetLow = false → ∃ b, Runs (.railRetry none) s b ∧
      b = s.blk.onCtl fun c => { c with boot := { c.boot with retrySeq := false } }) ∧
    (o.releasing = true → ∃ b, Runs .railRelease s b ∧ SameStore s.blk b ∧
      (∀ n, n ∈ b.ctl.boot.rails ↔ n ∈ o.rails ∧ ∃ r ∈ o.rails, railGroup n < railGroup r) ∧
      (b.ctl.boot.releasing = true ↔ b.ctl.boot.rails ≠ [])) ∧
    (o.releasing = false → Runs .railRelease s s.blk)

/-- 01 R9, R17, R18, 11 R288, R289, 13 R355, 15 R408, 16 R421, R423, R425 to R427, R433, R434: bring-up goes step by step: the image that verifies runs, or the part
is held or in recovery; clusters that do not lock are tried lower and then fenced; stacks that do not train fail; REFCLK absent is reported; the tiles listed in the
continuity list are disabled; the resident tile image is written and READY is set. -/
def Obligations.BringUpGoesStepByStep : Prop :=
  ∀ (s : State),
    let c := s.blk.ctl
    let o := c.boot
    let room : Prop := ∀ i, c.keep.worn i + (c.keep.queue.filter fun e => e.1 == i).length < 110000
    let sorted (b : Blk) : Prop := (b.ctl.phase = 6 ∨ (b.ctl.boot.held = true ∧ b.ctl.phase = 8)) ∧
      b.ctl.offTiles = (List.range 1920).filter b.ctl.continuity
    (o.running ≠ .none → o.held = false →
      (∀ (sfdp : Bool) (ok : Bool × Bool) (ver : Fin 256 × Fin 256) (logOk spiOk : Bool), o.aon = true → c.phase = 2 →
        let v (k : Nat) : Nat := if k = 0 then ver.1.val else ver.2.val
        let good (k : Nat) : Bool :=
          sfdp && !o.spiBad.contains k && (if k = 0 then ok.1 else ok.2) && decide (bits (c.option 5) 15 8 ≤ v k)
        ∃ b, Runs (.imageVerify sfdp ok ver logOk spiOk) s b ∧ SameStore s.blk b ∧
          b.ctl.getN devPage F.DEV_MGMT_ERR_SPI 0 = satAdd 0xFF (c.getN devPage F.DEV_MGMT_ERR_SPI 0)
            ((imageOrder (c.option 1)).takeWhile fun k => !good k).length ∧
          (logOk = false → o.running = .full → b.ctl.log.failed = true) ∧
          (∀ k, (imageOrder (c.option 1)).find? good = some k → b.ctl.phase = 3 ∧ b.ctl.mirynUp = true ∧
            b.ctl.rd (mirynPage + 0x40) = BitVec.ofNat 32 (k * 2 ^ 31 + v k)) ∧
          ((imageOrder (c.option 1)).find? good = none → b.ctl.rd (rstPage + 0x48) = 0x80000300 ∧ 3 ∈ b.ctl.boot.faults ∧
            (bit (c.option 1) 2 = true → b.ctl.phase = 9) ∧ (bit (c.option 1) 2 = false → b.ctl.phase = 8 ∧ b.ctl.boot.held = true))) ∧
      (∀ cl : ClusterId, c.phase = 3 → cl.val ∉ c.fenced →
        let t := SMap.get 0 o.lockTries cl + 1
        ∃ b, Runs (.oscillatorLockTimeout cl) s b ∧ SameStore s.blk b ∧ b.ctl.regs = c.regs ∧ SMap.get 0 b.ctl.boot.lockTries cl = t ∧
          (t ≤ 3 → b.ctl.fenced = c.fenced ∧ SMap.find? b.ctl.clk.lockCap cl = some (c.reqMhz cl - 100 * t)) ∧
          (3 < t → cl.val ∈ b.ctl.fenced)) ∧
      (∀ (seam : List SeamLink) (untrained : List StackId), c.phase = 3 →
        (∃ b, Runs (.oscillatorsLocked false seam untrained) s b ∧ SameStore s.blk b ∧ b.ctl.flag clkPage F.CLK_STATUS_REFCLK_OK = false ∧
          b.ctl.rd (rstPage + 0x48) = 0x80000200 ∧ 2 ∈ b.ctl.boot.faults ∧ b.ctl.phase = 3) ∧
        ∃ b, Runs (.oscillatorsLocked true seam untrained) s b ∧ SameStore s.blk b ∧ b.ctl.flag clkPage F.CLK_STATUS_REFCLK_OK = true ∧
          2 ∉ b.ctl.boot.faults ∧ (∀ l : SeamLink, (∀ i, c.keep.worn i + (c.keep.queue.filter fun e => e.1 == i).length + 1 < 110000) → seam = [l] →
            ∀ t ∈ l.ends, b.ctl.continuity t = true) ∧
          (o.running = .full → b.ctl.phase = 5 ∧ (∀ h : StackId, b.ctl.flag (hbmPage h) F.HBM_STATUS_INIT_BUSY = decide (h ∉ untrained) ∧
              (h ∈ untrained → b.ctl.flag (hbmPage h) F.HBM_STATUS_FAILED = true)) ∧
            ∀ cl < 24, (b.ctl.get clkPage F.CLK_STATUS_LOCKED).testBit cl = true ↔ cl ∉ c.fenced) ∧
          (o.running = .warm → sorted b)) ∧
      (∀ failing : List TileId, o.running = .full → c.phase = 5 → o.retry = [] → c.railsGood = true →
        ∃ b, Runs (.atStartTestComplete failing) s b ∧ SameStore s.blk b ∧ sorted b ∧
          ∀ t : TileId, room → tileCluster t ∉ c.fenced → failing = [t] → b.ctl.continuity t = true) ∧
      (∀ (m n : List (Nat × List Byte)) (regs : List (Nat × Word)) (ms : Nat), c.phase = 6 →
        (∀ h < 12, c.flag (hbmPage h) F.HBM_STATUS_INIT_BUSY = false) →
        ∃ b, Runs (.residentCallSheet m n regs ms) s b ∧ b.hbm = s.blk.hbm ∧ b.ctl.ready = true ∧ b.ctl.phase = 7 ∧
          b.ctl.boot.running = .none ∧ b.ctl.boot.image = { m := m, s := n, regs := regs } ∧
          (∀ t ∈ c.residents, (b.tile t).wrapped = false) ∧ ∀ t, t ∉ c.residents → b.tile t = s.blk.tile t)) ∧
    (o.running = .none → Runs .warmResetRelease s s.blk ∧ ∀ failing, Runs (.atStartTestComplete failing) s s.blk)

/-- 16 R414, R439, 18 R478: a tile's reset empties the tile and puts it behind its wrapper, its schedule's flits stay; its release opens the
wrapper and starts its cores at their entries; where VDDM is in retention it is raised first. With every good tile behind
its wrapper VDDM may go to retention, 550 mV. -/
def Obligations.TilesAreHeldAndReleased : Prop :=
  ∀ (s : State) (fn : Fn) (t : TileId),
    let c := s.blk.ctl
    let x := s.blk.tile t
    let opened (b : Blk) (u : Nat) : Prop := (b.tile u).wrapped = false ∧
      ((s.blk.tile u).wrapped = true → (b.tile u).core0.run = true ∧ (b.tile u).core0.pc = c.rd (seqPage u + 0x4C) ∧
        (isSTile u = true → (b.tile u).core1.run = true ∧ (b.tile u).core1.pc = c.rd (seqPage u + 0x50)))
    (c.reaches fn (tilePage t 0) →
      (∃ b, Runs (.tileResetAssert fn t) s b ∧ SameOthers s.blk b t ∧ b.tile t = { mix := { x.mix with inj := [] } } ∧
        ∀ r, addrTile r = some t.val → tileKept r = 0 → b.ctl.rd r = rstOf r) ∧
      (x.wrapped = true → c.boot.retention = false → ∃ b, Runs (.tileResetRelease fn t) s b ∧ SameOthers s.blk b t ∧ opened b t ∧
        (b.tile t).sp = x.sp ∧ b.ctl = c.unpair (tilePage t 0)) ∧
      (x.wrapped = true → c.boot.retention = true → ∃ b, Runs (.tileResetRelease fn t) s b ∧ SameStore s.blk b ∧
        b.ctl.boot.raising = true ∧ t.val ∈ b.ctl.boot.waitTiles ∧ SMap.find? b.ctl.pwr.volts 24 = some (c.vddmMv 0)) ∧
      (x.wrapped = false → Runs (.tileResetRelease fn t) s (s.blk.onCtl fun c => c.unpair (tilePage t 0)))) ∧
    (c.boot.raising = false →
      (c.ready = true → c.ras.test = none → (∀ u < 1920, c.tileOff u = true ∨ (s.blk.tile u).wrapped = true) →
        ∃ b, Runs .vddmRetention s b ∧ SameStore s.blk b ∧ b.ctl.boot = { c.boot with retention := true } ∧ b.ctl.regs = c.regs ∧
          SMap.find? b.ctl.pwr.volts 24 = some 550 ∧
          (SMap.find? c.pwr.volts 24 ≠ some 550 → b.ctl.out = c.out ++ [.regulator (railBus 24) (.volts 550)])) ∧
      (c.ready = false → Runs .vddmRetention s s.blk) ∧ Runs .vddmRaiseDone s s.blk) ∧
    (c.boot.raising = true → ∃ b, Runs .vddmRaiseDone s b ∧ b.ctl.boot.retention = false ∧ b.ctl.boot.raising = false ∧
      b.ctl.boot.waitTiles = [] ∧ (∀ u ∈ c.boot.waitTiles, c.tileGood u = true → (b.tile u).wrapped = false) ∧
      (c.boot.waitStages = [] → ∀ u ∈ c.boot.waitTiles, c.tileGood u = true → opened b u))

/-- 16 R418, R419, R437, 17 R468, R471, R474: a write of a keep word is refused, dropped where it changes nothing, or queued, and reads back
at once; a queued write that reaches MRAM leaves what is read as it was; a recovery image is taken word by word; a signed change writes keep
word 5. -/
def Obligations.KeepWordsRecoveryAndSignedChanges : Prop :=
  ∀ (s : State),
    let c := s.blk.ctl
    let p := keepPage
    let i := c.get p F.KEEP_SEL_INDEX
    let room (i : Nat) : Prop := c.keep.worn i + (c.keep.queue.filter fun e => e.1 == i).length < 110000
    (∀ w : Word, c.unlocked p →
      (mirynWord i = true → Runs (.keepWrite .pf w) s (s.blk.onCtl fun c => (c.unpair p).err p 0x01 0 (p + 0x44))) ∧
      (mirynWord i = false →
        (c.keepWord i = w → Runs (.keepWrite .pf w) s (s.blk.onCtl fun c => c.unpair p)) ∧
        (c.keepWord i ≠ w → 8 ≤ c.keep.queue.length →
          Runs (.keepWrite .pf w) s (s.blk.onCtl fun c => (c.unpair p).err p 0x03 0 (p + 0x44))) ∧
        (c.keepWord i ≠ w → c.keep.queue.length < 8 → ¬ room i → ∃ b, Runs (.keepWrite .pf w) s b ∧ SameStore s.blk b ∧
          b.ctl.keep = c.keep ∧ c.Counts b.ctl p F.KEEP_REFUSED_COUNT) ∧
        (c.keepWord i ≠ w → c.keep.queue.length < 8 → room i → ∃ b, Runs (.keepWrite .pf w) s b ∧ b.ctl.keepWord i = w ∧
          (∀ j, j ≠ i → b.ctl.keepWord j = c.keepWord j) ∧
          b = s.blk.onCtl fun c => { c.unpair p with keep := { c.keep with queue := c.keep.queue ++ [(i, w)] } }))) ∧
    (c.keep.queue = [] → Runs .keepPersist s s.blk) ∧
    (∀ j w rest, c.keep.queue = (j, w) :: rest → ∃ b, Runs .keepPersist s b ∧ SameStore s.blk b ∧ b.ctl.keep.queue = rest ∧
      b.ctl.keep.stored j = w ∧ b.ctl.keep.worn j = c.keep.worn j + 1 ∧ ∀ k, b.ctl.keepWord k = c.keepWord k) ∧
    (c.phase = 9 →
      let q := mirynPage
      (∀ n : Fin 536870912, c.unlocked q → ∃ b, Runs (.recoveryStart .pf n) s b ∧ SameStore s.blk b ∧
        b.ctl.flag q F.MIRYN_RECOV_CTRL_BUSY = true ∧ b.ctl.boot = { c.boot with recov := [], recovLeft := n }) ∧
      (∀ w : Word, 0 < c.boot.recovLeft → Runs (.recoveryData .pf w) s (s.blk.onCtl fun c => { c.unpair q with
        boot := { c.boot with recov := c.boot.recov ++ wordBytes [w], recovLeft := c.boot.recovLeft - 1 } })) ∧
      (c.flag q F.MIRYN_RECOV_CTRL_BUSY = true → c.boot.recovLeft = 0 → ∃ b, Runs (.recoveryVerify false) s b ∧ OnlyRegs s.blk b [q + 0x44] ∧
        b.ctl.flag q F.MIRYN_RECOV_CTRL_FAIL = true ∧ b.ctl.flag q F.MIRYN_RECOV_CTRL_BUSY = false) ∧
      (c.flag q F.MIRYN_RECOV_CTRL_BUSY = true → c.boot.recovLeft = 0 → ∃ b, Runs (.recoveryVerify true) s b ∧ FullReset s.blk b 4 ∧
        ∀ k < c.boot.recov.length, (SMap.find? b.ctl.nor ((imageOrder (c.option 1)).headD 0 * 2 ^ 24 + k)).getD 0xFF = c.boot.recov.getD k 0)) ∧
    (∀ fn : Fn, c.reaches fn secPage →
      (c.mirynUp = true → c.flag secPage F.SEC_STATUS_BUSY = false → ∃ b, Runs (.secGo fn) s b ∧ SameStore s.blk b ∧
        b.ctl.flag secPage F.SEC_STATUS_BUSY = true ∧ b.ctl.get secPage F.SEC_STATUS_RESULT = 0 ∧
        b.ctl.ras.sec = c.rd (secPage + F.SEC_VALUE_WORD5.off) ∧
        b.ctl.get64 secPage F.SEC_NONCE_LO_NONCE = Config.value c.free % 2 ^ 64) ∧
      (c.mirynUp = false ∨ c.flag secPage F.SEC_STATUS_BUSY = true →
        Runs (.secGo fn) s (s.blk.onCtl fun c => (c.unpair secPage).err secPage 0x01 fn.num (secPage + 0xE0)))) ∧
    (c.flag secPage F.SEC_STATUS_BUSY = false → ∀ v, Runs (.secVerifyDone v) s s.blk) ∧
    (c.flag secPage F.SEC_STATUS_BUSY = true → ∀ v, ∃ b, Runs (.secVerifyDone v) s b ∧ SameStore s.blk b ∧
      b.ctl.flag secPage F.SEC_STATUS_BUSY = false ∧
      (v = false → b.ctl.get secPage F.SEC_STATUS_RESULT = 2 ∧ b.ctl.keep = c.keep) ∧
      (v = true → c.keepWord 5 = c.ras.sec ∨ room 5 → b.ctl.get secPage F.SEC_STATUS_RESULT = 1 ∧ b.ctl.keepWord 5 = c.ras.sec) ∧
      (v = true → c.keepWord 5 ≠ c.ras.sec → ¬ room 5 → b.ctl.get secPage F.SEC_STATUS_RESULT = 3 ∧ b.ctl.keep = c.keep))

/-- 10 R244, R245, 16 R429, R430, 17 R466, R467: a stage call sheet goes record by record: a record that breaks no rule is written to its
tiles, the last sets LOADED; one that does ends the sheet with the stage in FAULT and the record named. A call-sheet control message is
taken. The digest is published, with the mark that a field changed in its pass. -/
def Obligations.CallSheetsAndTheDigest : Prop :=
  ∀ (s : State) (st : StageId) (k : Nat),
    let c := s.blk.ctl
    let p := stagePage st
    (∀ (x : Sheet), SMap.find? c.sheets st = some x → c.stState st = 1 →
      let r : SheetRec := ⟨(s.blk.stgRead st (c.sheetBase st + 16 + 32 * x.next) 32 []).1⟩
      let d := (s.blk.stgRead st r.src r.len []).1
      let bad : Prop := r.run.anyBad = true ∨ c.sheetBad st r = true ∨ d.anyBad = true ∨ crc32c.of d.bytes ≠ (r.w 5).toNat
      let fails (n : Nat) : Prop := ∃ b, Runs (.callSheetRecord st []) s b ∧ SameStore s.blk b ∧ b.ctl.stState st = 4 ∧
        b.ctl.get p F.STAGE_SHEET_STAT_FAIL_REC = n % 2 ^ 16 ∧ SMap.find? b.ctl.sheets st = none
      (∀ code, x.records = 0 → (s.blk.sheetHeader st []).1 = .inr code → fails 0) ∧
      (x.records ≠ 0 → bad → fails x.next) ∧
      (x.records ≠ 0 → ¬ bad → r.kind = 1 → ∃ b, Runs (.callSheetRecord st []) s b ∧ b.hbm = s.blk.hbm ∧
        b.ctl.get p F.STAGE_SHEET_STAT_DONE = (x.next + 1) % 2 ^ 16 ∧
        (∀ t ∈ c.sheetTiles st r, (b.tile t).sp.mem = (s.blk.tile t).sp.mem.write (r.dst * 16) d) ∧
        (∀ t, t ∉ c.sheetTiles st r → b.tile t = s.blk.tile t) ∧
        (x.next + 1 = x.records → b.ctl.flag p F.STAGE_RUNSTATE_LOADED = true ∧ SMap.find? b.ctl.sheets st = none) ∧
        (x.next + 1 ≠ x.records → SMap.find? b.ctl.sheets st = some { x with next := x.next + 1 }))) ∧
    (SMap.find? c.sheets st = none → ∀ e, Runs (.callSheetRecord st e) s s.blk) ∧
    (∀ t m, c.atTile k = some (t, .msg m) → m.type = 8 → Runs (.callSheetControl k) s (s.blk.onCtl fun c => c.takeNet k)) ∧
    (∀ (fw img : List Byte) (mixed : Bool),
      (c.mirynUp = true → ∃ b, Runs (.digestCompute fw img mixed) s b ∧ SameStore s.blk b ∧
        (mixed = false → b.ctl.get64 rasPage F.RAS_DIGEST_LO_CRC = s.blk.digest fw img % 2 ^ 64) ∧
        b.ctl.get64 rasPage F.RAS_DIGEST_TIME_LO_NS = c.reel % 2 ^ 64 ∧ b.ctl.flag rasPage F.RAS_STATUS_DIGEST_MIXED = mixed) ∧
      (c.mirynUp = false → Runs (.digestCompute fw img mixed) s s.blk))

/-- 17 R443 to R447, R449 to R451, R470: steps count, and make tiles due; a suspect tile is taken from its queue; a known-answer shot runs
on its tile, a mismatch makes a second run, which finds a transient or confirms a fault; FLAGS_CLR clears what it names. -/
def Obligations.KnownAnswerShotsFindFaults : Prop :=
  ∀ (s : State) (fn : Fn) (st : StageId) (t : TileId),
    let c := s.blk.ctl
    let p := rasPage
    let n := c.get (stagePage st) F.STAGE_STEPS_COUNT
    let stepped (b : Blk) : Prop := SameStore s.blk b ∧ b.ctl.get (stagePage st) F.STAGE_STEPS_COUNT = (n + 1) % 2 ^ 32 ∧
      (c.stState st = 2 → (∃ k ∈ c.ras.wanted ++ c.ras.runs, k.how = .cadence ∧ k.second = false ∧ k.step = n ∧
        c.tileStage k.tile = some st.val) → c.Counts b.ctl p F.RAS_KA_LATE_COUNT) ∧
      (c.stState st = 2 → st.val ∈ c.ras.kaOn → ∀ u ∈ c.stageTiles st,
        let m := max 1 (c.get p F.RAS_KA_CFG_CADENCE)
        u % m = (n + 1) % 2 ^ 32 % m → ∃ k ∈ b.ctl.ras.wanted, k.tile = u ∧ k.how = .cadence ∧ k.second = false)
    (c.reaches fn (stagePage st) → ∃ b, Runs (.stepMark fn st) s b ∧ stepped b) ∧
    (c.mirynUp = true → c.stState st = 2 → ∃ b, Runs (.stepTimeout st) s b ∧ stepped b) ∧
    (c.stState st ≠ 2 → Runs (.stepTimeout st) s s.blk) ∧
    (∀ u rest, c.mirynUp = true → c.suspects = u :: rest → Runs .suspectQueueTake s (s.blk.onCtl fun c =>
      { c with suspects := rest, ras := { c.ras with wanted := c.ras.wanted ++ [{ tile := u, how := .guard }] } })) ∧
    (c.suspects = [] → Runs .suspectQueueTake s s.blk) ∧
    (∀ k, c.tileStage t = some st.val → c.stState st = 2 → (c.ras.wanted.find? fun k => k.tile == t.val) = some k → c.mirynUp = true →
      c.tileGood t = true → c.kasRuns t = false → (s.blk.tile t).shotRun = false → (s.blk.tile t).init = false →
      ∃ b, Runs (.kasRun t) s b ∧ SameOthers s.blk b t ∧ b.ctl.ras.wanted = c.ras.wanted.erase k ∧
        b.ctl.ras.runs = c.ras.runs ++ [{ k with num := some (k.num.getD c.ras.next) }] ∧ (b.tile t).wbufs = [{}, {}] ∧
        (∀ r, 448 ≤ r → r < 512 → SMap.find? (b.tile t).acc r = none)) ∧
    (∀ k (same : Bool), (c.ras.runs.find? fun k => k.tile == t.val) = some k → c.mirynUp = true → ∃ b, Runs (.kasComplete t same) s b ∧
      b.ctl.ras.runs = c.ras.runs.erase k ∧ c.Counts b.ctl p F.RAS_KA_RUNS_COUNT ∧
      (same = false → c.Counts b.ctl p F.RAS_KA_MISMATCH_COUNT) ∧
      (k.second = false → SameOthers s.blk b t) ∧
      (k.second = false → same = false → b.ctl.ras.wanted = { k with second := true } :: c.ras.wanted) ∧
      (k.second = true → same = true → c.Counts b.ctl p F.RAS_TRANSIENT_COUNT) ∧
      (k.second = true → same = false → c.Counts b.ctl p F.RAS_CONFIRMED_COUNT ∧ b.ctl.flag p F.RAS_STATUS_SUSPECT = true)) ∧
    (∀ m : Fin 16, c.reaches fn p → ∃ b, Runs (.flagsClr fn m) s b ∧ SameStore s.blk b ∧
      (c.keep.worn 101 + (c.keep.queue.filter fun e => e.1 == 101).length < 110000 →
        b.ctl.keepWord 101 = c.keepWord 101 &&& ~~~(BitVec.ofNat 32 (m % 8))) ∧
      (m.val % 2 = 1 → 0x11 ∉ b.ctl.boot.faults) ∧
      (8 ≤ m.val → b.ctl.flag p F.RAS_STATUS_SUSPECT = false ∧ 0x10 ∉ b.ctl.boot.faults) ∧
      (m.val < 8 → b.ctl.flag p F.RAS_STATUS_SUSPECT = c.flag p F.RAS_STATUS_SUSPECT))

/-- 17 R453 to R455, R458 to R461: a test starts where none runs and its condition holds; it ends passed, failed, aborted, or incomplete; a
corner of a stress test ends, its time running only while the cluster's gate is open. The log writes repeated events at the end of a second; Miryn snapshots the dailies. -/
def Obligations.TestsLogSecondsAndSnapshots : Prop :=
  ∀ (s : State),
    let c := s.blk.ctl
    let p := rasPage
    (∀ (fn : Fn) (w : Word), c.reaches fn p →
      let kind := bits w 27 24
      let n := bits w 10 0
      let mode := bits w 23 16
      (c.ras.test = none → s.blk.testOk kind n mode = true → ∃ b, Runs (.testGo fn w) s b ∧ b.hbm = s.blk.hbm ∧
        (kind ≠ 3 → b.tiles = s.blk.tiles) ∧ b.ctl.flag p F.RAS_TEST_STATUS_BUSY = true ∧
        ∃ k, b.ctl.ras.test = some k ∧ k.kind = kind ∧ k.index = n ∧ k.mode = mode) ∧
      (c.ras.test.isSome = true → Runs (.testGo fn w) s (s.blk.onCtl fun c => (c.unpair p).err p 0x02 fn.num (p + 0x4C))) ∧
      (c.ras.test = none → s.blk.testOk kind n mode = false →
        Runs (.testGo fn w) s (s.blk.onCtl fun c => (c.unpair p).err p 0x03 fn.num (p + 0x4C))) ∧
      (∀ k, c.ras.test = some k → ∃ b, Runs (.testAbort fn w) s b ∧ b.ctl.ras.test = none ∧ b.ctl.get p F.RAS_TEST_STATUS_RESULT = 4 ∧
        b.ctl.flag p F.RAS_TEST_STATUS_BUSY = false) ∧
      (c.ras.test = none → ∃ b, Runs (.testAbort fn w) s b ∧ OnlyRegsOf s.blk b p [p + 0x4C])) ∧
    (∀ (k : TestRun) (pass : Bool) (count : Nat), c.ras.test = some k →
      let met : Prop := (k.kind = 7 ∨ s.blk.testOk k.kind k.index k.mode = true) ∧ k.lost = false
      let ends (result : Nat) (b : Blk) : Prop := Runs (.testComplete pass count) s b ∧ b.ctl.ras.test = none ∧
        b.ctl.get p F.RAS_TEST_STATUS_RESULT = result ∧ b.ctl.flag p F.RAS_TEST_STATUS_BUSY = false
      (¬ met → ∃ b, ends 3 b) ∧
      (met → k.kind ≠ 2 → k.kind ≠ 3 → k.corners = [] →
        ∃ b, ends (if pass then 1 else 2) b ∧ b.ctl.get p F.RAS_TEST_STATUS_FAIL_COUNT = min 0xFFFF count) ∧
      (met → k.kind = 3 → k.corners = [] → ∃ b, ends (if c.get p F.RAS_TEST_STATUS_CORNERS_FAILED = 0 then 1 else 2) b) ∧
      (met → k.kind = 2 ∨ k.corners ≠ [] → Runs (.testComplete pass count) s s.blk)) ∧
    (c.ras.test = none → ∀ pass count, Runs (.testComplete pass count) s s.blk) ∧
    (∀ (k : TestRun) (j : Nat) (rest : List Nat) (map : List (Fin 80)) (hot : Bool), c.ras.test = some k → k.corners = j :: rest →
      (k.gate = 0 → Runs (.stressCornerEnd map hot) s s.blk) ∧ (k.gate ≠ 0 →
      ∃ b, Runs (.stressCornerEnd map hot) s b ∧ SameStore s.blk b ∧
        b.ctl.ras.test = some { k with corners := rest, warned := false, lost := k.lost || (hot && j == 3) } ∧
        (j < 4 → (map ≠ [] ∨ k.warned = true) → (b.ctl.get p F.RAS_TEST_STATUS_CORNERS_FAILED).testBit j = true) ∧
        ∀ l ∈ map, bit (b.ctl.rd (p + 0x54 + 4 * (l.val / 32))) (l.val % 32) = true)) ∧
    (∀ ok : Bool, ∃ b, Runs (.logCoalesceFlush ok) s b ∧ SameStore s.blk b ∧
      (ok = true → b.ctl.log.marks = []) ∧ (ok = false → b.ctl.log.failed = true) ∧
      (∀ m, ok = true → c.log.marks = [m] → m.n ≠ 0 → c.log.failed = false → c.log.ring.length < 2048 →
        ∃ e, b.ctl.log.ring = c.log.ring ++ [e] ∧ e.seq = (c.log.seq + 1) % 2 ^ 32 ∧ e.typ = m.typ ∧ e.inst = m.inst ∧
          e.code = m.code % 256 ∧ e.sev = m.sev ∧ e.rep = min m.n 4095)) ∧
    (c.mirynUp = true → ∃ b, Runs .dailySnapshot s b ∧ SameStore s.blk b ∧ b.ctl.daily.spi = some b.ctl.daily.items ∧
      b.ctl.dailyItem 83 = (c.dailyItem 83 + 1) % 2 ^ 64 ∧ b.ctl.get64 dailyPage F.DAILY_LAST_SNAP_LO_NS = c.reel % 2 ^ 64) ∧
    (c.mirynUp = false → Runs .dailySnapshot s s.blk)

/-- 17 R462 to R465, R472: an engine of the host's takes a job whose parameters are valid, one more while it runs, and refuses others; ABORT
ends the running job and starts the pending one; a job that completes publishes its result; engine 3 is not the host's. -/
def Obligations.CheckValueEnginesRunJobs : Prop :=
  ∀ (s : State) (fn : Fn) (n : Fin 4),
    let c := s.blk.ctl
    let p := cvePage n
    let at_ (c : Ctl) : Cve := SMap.get {} c.cves n
    let j := c.cveParams n
    let errs (i : Instr) (code : Nat) : Prop := Runs i s (s.blk.onCtl fun c => (c.unpair p).err p code fn.num (p + 0x78))
    (c.reaches fn p → n.val < 3 →
      (c.cveValid j = false → errs (.cveGo fn n) 0x01) ∧
      (c.cveValid j = true →
        ((at_ c).job = none → ∃ b, Runs (.cveGo fn n) s b ∧ SameStore s.blk b ∧ b.ctl.regs = c.regs ∧ at_ b.ctl = { job := some j }) ∧
        (∀ k, (at_ c).job = some k → (at_ c).next = none → ∃ b, Runs (.cveGo fn n) s b ∧ SameStore s.blk b ∧ b.ctl.regs = c.regs ∧
          (at_ b.ctl).job = some k ∧ (at_ b.ctl).next = some j) ∧
        ((at_ c).job ≠ none → (at_ c).next ≠ none → errs (.cveGo fn n) 0x02)) ∧
      ((at_ c).job = none → Runs (.cveAbort fn n) s (s.blk.onCtl fun c => c.unpair p)) ∧
      ((at_ c).job ≠ none → ∃ b, Runs (.cveAbort fn n) s b ∧ SameStore s.blk b ∧ b.ctl.flag p F.CVE_STATUS_DONE = false ∧
        ((at_ c).next = none → at_ b.ctl = {}) ∧ ∀ k, (at_ c).next = some k → at_ b.ctl = { job := some k })) ∧
    (c.reaches fn p → n.val = 3 → ∀ i : Instr, i = .cveGo fn n ∨ i = .cveAbort fn n →
      Runs i s (s.blk.onCtl fun c => (c.unpair p).err p 0x04 fn.num (p + 0x78))) ∧
    (∀ (spi : List (List Byte)) (e : List Ecc),
      ((at_ c).job = none → Runs (.cveJobComplete n spi e) s s.blk) ∧
      (∀ k, (at_ c).job = some k → ∃ b, Runs (.cveJobComplete n spi e) s b ∧
        let v := (Blk.scan k spi e k.blocks 0 ({ reg := k.crc.init }, s.blk)).1
        b.ctl.get p F.CVE_DONE_BLOCKS_COUNT = v.done % 2 ^ 32 ∧ b.ctl.flag p F.CVE_STATUS_POISON_SEEN = v.bad.isSome ∧
        b.ctl.flag p F.CVE_STATUS_DONE = v.ok ∧
        (v.ok = true → b.ctl.get64 p F.CVE_RESULT_LO_CRC = k.crc.result v.reg % 2 ^ 64) ∧
        ((at_ c).next = none → at_ b.ctl = {}) ∧ ∀ m, (at_ c).next = some m → at_ b.ctl = { job := some m }))

/-- The queue of commands (log 1, log 2): a step takes the command at the front of the queue and runs it with the rest; on an empty queue a
microsecond passes. -/
def Obligations.StepRunsTheFrontCommand : Prop :=
  (∀ (i : Instr) (rest : List Instr) (b : Blk), step { pending := i :: rest, blk := b } = exec i { pending := rest, blk := b }) ∧
  (∀ b : Blk, step { pending := [], blk := b } = .next { pending := [], blk := b.tick })

/-- Log 1: no command touches the queue of the commands waiting, and none is refused; only a command to a unit that is not there stops. -/
def Obligations.CommandsLeaveTheQueue : Prop :=
  ∀ (i : Instr) (s : State),
    (∀ t, exec i s = .next t → t.pending = s.pending) ∧ (∀ f, exec i s = .fault f → f = .noSuchUnit) ∧ ∀ r, exec i s ≠ .refused r

/-- 02 R31, R45, R49: the frame of every command of the control plane that no tile and no HBM stack takes part in: each completes and leaves
every tile and every HBM stack as they were, and so every byte of memory. -/
def Obligations.ControlPlaneCommandsKeepTilesAndHbm : Prop :=
  ∀ (i : Instr) (s : State), onlyControl i = true → ∃ b, Runs i s b ∧ SameStore s.blk b ∧
    (∀ t a, (b.tile t).sp.mem.byte a = (s.blk.tile t).sp.mem.byte a) ∧ ∀ h a, (b.stack h).byte a = (s.blk.stack h).byte a

/-- 00 R6, 01 R28, 16 R413, R414, R423, R424, R436: just after power-on every register of the register map holds its reset value, no command
waits, the device is not READY with bring-up at its first step, no stage is defined and every stage is IDLE, every tile is behind its
wrapper, nothing is in the fabric. -/
def Obligations.ResetLeavesTheResetValues : Prop :=
  State.reset.pending = [] ∧
    let b := State.reset.blk
    let c := b.ctl
    (∀ a, c.rd a = rstOf a) ∧ c.ready = false ∧ c.mirynUp = false ∧ c.phase = 0 ∧ c.get rstPage F.RST_LAST_CAUSE_CAUSE = 0 ∧
    (∀ st < 12, c.valid st = false ∧ c.stState st = 0) ∧ (∀ t, (b.tile t).wrapped = true ∧ (b.tile t).init = true) ∧ c.net = [] ∧
    c.boot.running = .full ∧
    (∀ st < 12, c.rd (stagePage st + 0x4C) = 100)

/-- Log 1: the invariants hold just after power-on: every memory in its canonical form, every tile in its shape. -/
def Obligations.TheInvariantsHoldAtReset : Prop :=
  State.reset.blk.MemWf ∧ State.reset.blk.Shaped

/-- 06 R149 to R151, 11 R281, R288: every step keeps every memory in its canonical form: in each scratchpad and each HBM stack the listed
addresses rise strictly and no listed byte is the one an unlisted address reads as, so that equal contents are equal data. -/
def Obligations.MemoriesStayCanonical : Prop :=
  ∀ s t : State, s.blk.MemWf → step s = .next t → t.blk.MemWf

/-- 07 R159, R181: every step keeps the shape of every tile: nine queues, and two control cores of 32 registers. -/
def Obligations.TilesKeepTheirShape : Prop :=
  ∀ s t : State, s.blk.Shaped → step s = .next t → t.blk.Shaped
end

