-- ==== Sys2Proof/Laws/Word.lean ====
section
/-!
SUPPORT. What the sparse maps and the bit fields of a word do: a read after a write, and the canonical form kept.
-/
namespace Sys2Proof

variable {α : Type}

@[simp] theorem SMap.find?_nil (k : Nat) : SMap.find? ([] : SMap α) k = none := rfl

theorem SMap.find?_put (m : SMap α) (k j : Nat) (v : α) :
    SMap.find? (SMap.put m k v) j = if j = k then some v else SMap.find? m j := by
  induction m with
  | nil => simp only [SMap.put, SMap.find?, eq_comm]
  | cons e r ih =>
    obtain ⟨i, w⟩ := e
    by_cases h1 : i = k
    · subst h1; by_cases g : j = i
      · simp [SMap.put, SMap.find?, g]
      · simp [SMap.put, SMap.find?, g, Ne.symm g]
    · by_cases h2 : k < i
      · by_cases g : j = k
        · subst g; simp [SMap.put, SMap.find?, h1, h2]
        · simp [SMap.put, SMap.find?, h1, h2, g, Ne.symm g]
      · by_cases g : i = j
        · subst g; simp [SMap.put, SMap.find?, h1, h2]
        · simp [SMap.put, SMap.find?, h1, h2, g, ih]

theorem SMap.find?_erase (m : SMap α) (k j : Nat) :
    SMap.find? (SMap.erase m k) j = if j = k then none else SMap.find? m j := by
  induction m with
  | nil => simp [SMap.erase, SMap.find?]
  | cons e r ih =>
    obtain ⟨i, w⟩ := e
    simp only [SMap.erase, List.filter] at ih ⊢
    by_cases h : i = k
    · subst h
      simp only [bne_self_eq_false, ih]
      by_cases g : j = i <;> simp [SMap.find?, g]
      intro h; exact absurd h.symm g
    · have : (i != k) = true := by simp [h]
      simp only [this, SMap.find?, ih]
      split_ifs <;> simp_all

/-- A read after a write: the value written at its key, the value before at every other key. -/
@[simp] theorem SMap.get_set [DecidableEq α] (d : α) (m : SMap α) (k j : Nat) (v : α) :
    SMap.get d (SMap.set d m k v) j = if j = k then v else SMap.get d m j := by
  by_cases h : v = d <;> by_cases g : j = k <;> simp [SMap.set, SMap.get, h, g, SMap.find?_put, SMap.find?_erase]

/-- The keys of the map rise strictly above `b`. -/
theorem SMap.sortedFrom_cons (b : Option Nat) (k : Nat) (v : α) (r : SMap α) :
    SMap.sortedFrom b ((k, v) :: r) = true ↔ (∀ x, b = some x → x < k) ∧ SMap.sortedFrom (some k) r = true := by
  cases b <;> simp [SMap.sortedFrom]

theorem SMap.sortedFrom_mono {b c : Option Nat} {m : SMap α} (h : SMap.sortedFrom b m = true)
    (hbc : ∀ x, c = some x → ∃ y, b = some y ∧ x ≤ y) : SMap.sortedFrom c m = true := by
  cases m with
  | nil => rfl
  | cons e r =>
    obtain ⟨k, v⟩ := e
    rw [SMap.sortedFrom_cons] at h ⊢
    refine ⟨fun x hx => ?_, h.2⟩
    obtain ⟨y, hy, hxy⟩ := hbc x hx
    exact lt_of_le_of_lt hxy (h.1 y hy)

theorem SMap.sortedFrom_put {m : SMap α} {b : Option Nat} (h : SMap.sortedFrom b m = true) (k : Nat) (v : α)
    (hk : ∀ x, b = some x → x < k) : SMap.sortedFrom b (SMap.put m k v) = true := by
  induction m generalizing b with
  | nil => exact (SMap.sortedFrom_cons _ _ _ _).2 ⟨hk, rfl⟩
  | cons e r ih =>
    obtain ⟨j, w⟩ := e
    rw [SMap.sortedFrom_cons] at h
    simp only [SMap.put]
    split_ifs with h1 h2
    · subst h1; exact (SMap.sortedFrom_cons _ _ _ _).2 h
    · rw [SMap.sortedFrom_cons, SMap.sortedFrom_cons]
      exact ⟨hk, by simpa using h2, h.2⟩
    · rw [SMap.sortedFrom_cons]
      exact ⟨h.1, ih h.2 (by intro x hx; cases hx; omega)⟩

theorem SMap.sortedFrom_erase {m : SMap α} {b : Option Nat} (h : SMap.sortedFrom b m = true) (k : Nat) :
    SMap.sortedFrom b (SMap.erase m k) = true := by
  induction m generalizing b with
  | nil => rfl
  | cons e r ih =>
    obtain ⟨j, w⟩ := e
    rw [SMap.sortedFrom_cons] at h
    simp only [SMap.erase, List.filter] at ih ⊢
    by_cases hj : j = k
    · subst hj
      simp only [bne_self_eq_false]
      exact SMap.sortedFrom_mono (ih h.2) fun x hx => ⟨j, rfl, (h.1 x hx).le⟩
    · have : (j != k) = true := by simp [hj]
      simp only [this]
      exact (SMap.sortedFrom_cons _ _ _ _).2 ⟨h.1, ih h.2⟩

theorem SMap.mem_put {m : SMap α} {k : Nat} {v : α} {e : Nat × α} (h : e ∈ SMap.put m k v) : e = (k, v) ∨ e ∈ m := by
  induction m with
  | nil => simpa [SMap.put] using h
  | cons f r ih =>
    obtain ⟨j, w⟩ := f
    simp only [SMap.put] at h
    split_ifs at h <;> simp only [List.mem_cons] at h ⊢ <;> tauto

/-- Writing a key keeps the canonical form. -/
theorem SMap.wf_set [DecidableEq α] {d : α} {m : SMap α} (h : SMap.wf d m = true) (k : Nat) (v : α) :
    SMap.wf d (SMap.set d m k v) = true := by
  simp only [SMap.wf, Bool.and_eq_true, List.all_eq_true, decide_eq_true_eq] at h ⊢
  unfold SMap.set
  split_ifs with hv
  · exact ⟨SMap.sortedFrom_erase h.1 k, fun e he => h.2 e (List.mem_of_mem_filter he)⟩
  · refine ⟨SMap.sortedFrom_put h.1 k v (by simp), fun e he => ?_⟩
    rcases SMap.mem_put he with rfl | he
    · exact hv
    · exact h.2 e he

/-! ### Fields of a word -/

theorem testBit_bits (w : Word) (hi lo i : Nat) :
    (bits w hi lo).testBit i = (decide (i < hi + 1 - lo) && w.toNat.testBit (lo + i)) := by
  simp [bits, Nat.testBit_mod_two_pow, Nat.testBit_shiftRight]

theorem testBit_putBits (w : Word) (hi lo v i : Nat) :
    (putBits w hi lo v).toNat.testBit i =
      if lo ≤ i ∧ i ≤ hi then (decide (i < 32) && v.testBit (i - lo)) else w.toNat.testBit i := by
  have hw : w.toNat.testBit i = (decide (i < 32) && w.toNat.testBit i) := by
    by_cases h : i < 32
    · simp [h]
    · simp [h, BitVec.testBit_toNat, BitVec.getLsbD_of_ge w i (by omega)]
  rw [putBits]
  simp only [BitVec.toNat_or, BitVec.toNat_and, Nat.testBit_or, Nat.testBit_and, BitVec.testBit_toNat, BitVec.getLsbD_not,
    BitVec.getLsbD_ofNat, Nat.testBit_shiftLeft, Nat.testBit_two_pow_sub_one, Nat.testBit_mod_two_pow]
  simp only [BitVec.testBit_toNat] at hw
  split_ifs with h
  · have h1 : i - lo < hi + 1 - lo := by omega
    by_cases h32 : i < 32 <;> simp [h.1, h1, h32]
  · by_cases h1 : lo ≤ i
    · have h2 : ¬ (i - lo < hi + 1 - lo) := by omega
      rw [hw]
      by_cases h32 : i < 32 <;> simp [h1, h2, h32]
    · rw [hw]
      by_cases h32 : i < 32 <;> simp [h1, h32]

/-- A field reads as it was written. -/
@[simp] theorem bits_putBits_same (w : Word) {hi lo : Nat} (v : Nat) (h : hi < 32) :
    bits (putBits w hi lo v) hi lo = v % 2 ^ (hi + 1 - lo) := by
  apply Nat.eq_of_testBit_eq
  intro i
  rw [testBit_bits, testBit_putBits, Nat.testBit_mod_two_pow]
  by_cases h1 : i < hi + 1 - lo
  · have : lo ≤ lo + i ∧ lo + i ≤ hi := by omega
    simp [h1, this, show lo + i < 32 by omega]
  · simp [h1]

/-- A field apart from the one written reads as before. -/
theorem bits_putBits_apart (w : Word) {hi lo h l : Nat} (v : Nat) (ha : h < lo ∨ hi < l) :
    bits (putBits w hi lo v) h l = bits w h l := by
  apply Nat.eq_of_testBit_eq
  intro i
  rw [testBit_bits, testBit_bits, testBit_putBits]
  by_cases h1 : i < h + 1 - l
  · have : ¬ (lo ≤ l + i ∧ l + i ≤ hi) := by omega
    simp [this]
  · simp [h1]

theorem bits_lt (w : Word) (hi lo : Nat) : bits w hi lo < 2 ^ (hi + 1 - lo) := Nat.mod_lt _ (by positivity)

@[simp] theorem bits_zero (hi lo : Nat) : bits 0 hi lo = 0 := by simp [bits]

theorem mem_insertNat {k j : Nat} {l : List Nat} : j ∈ insertNat k l ↔ j = k ∨ j ∈ l := by
  induction l with
  | nil => simp [insertNat]
  | cons i r ih =>
    simp only [insertNat]
    split_ifs with h1 h2
    · subst h1; simp; 
    · simp
    · simp only [List.mem_cons, ih]; tauto

end Sys2Proof
end

