-- ==== Sys2Proof/Laws/State.lean ====
section
/-!
SUPPORT. One lemma per field per update of the state, and the outcomes of the shapes of a meaning: later proofs unfold no record update.
-/
namespace Sys2Proof.Machine

/-! ### The fields of the control plane after `wr` -/

@[simp] theorem Ctl.wr_latch (c : Ctl) (a : Nat) (w : Word) : (c.wr a w).latch = c.latch := rfl
@[simp] theorem Ctl.wr_hold (c : Ctl) (a : Nat) (w : Word) : (c.wr a w).hold = c.hold := rfl
@[simp] theorem Ctl.wr_out (c : Ctl) (a : Nat) (w : Word) : (c.wr a w).out = c.out := rfl
@[simp] theorem Ctl.wr_free (c : Ctl) (a : Nat) (w : Word) : (c.wr a w).free = c.free := rfl
@[simp] theorem Ctl.wr_offTiles (c : Ctl) (a : Nat) (w : Word) : (c.wr a w).offTiles = c.offTiles := rfl
@[simp] theorem Ctl.wr_fenced (c : Ctl) (a : Nat) (w : Word) : (c.wr a w).fenced = c.fenced := rfl
@[simp] theorem Ctl.wr_net (c : Ctl) (a : Nat) (w : Word) : (c.wr a w).net = c.net := rfl
@[simp] theorem Ctl.wr_rsl (c : Ctl) (a : Nat) (w : Word) : (c.wr a w).rsl = c.rsl := rfl
@[simp] theorem Ctl.wr_suspects (c : Ctl) (a : Nat) (w : Word) : (c.wr a w).suspects = c.suspects := rfl
@[simp] theorem Ctl.wr_mixAcks (c : Ctl) (a : Nat) (w : Word) : (c.wr a w).mixAcks = c.mixAcks := rfl
@[simp] theorem Ctl.wr_host (c : Ctl) (a : Nat) (w : Word) : (c.wr a w).host = c.host := rfl
@[simp] theorem Ctl.wr_reel (c : Ctl) (a : Nat) (w : Word) : (c.wr a w).reel = c.reel := rfl
@[simp] theorem Ctl.wr_hbmScrub (c : Ctl) (a : Nat) (w : Word) : (c.wr a w).hbmScrub = c.hbmScrub := rfl
@[simp] theorem Ctl.wr_hbmWarm (c : Ctl) (a : Nat) (w : Word) : (c.wr a w).hbmWarm = c.hbmWarm := rfl
@[simp] theorem Ctl.wr_uam (c : Ctl) (a : Nat) (w : Word) : (c.wr a w).uam = c.uam := rfl
@[simp] theorem Ctl.wr_detect (c : Ctl) (a : Nat) (w : Word) : (c.wr a w).detect = c.detect := rfl
@[simp] theorem Ctl.wr_outtakes (c : Ctl) (a : Nat) (w : Word) : (c.wr a w).outtakes = c.outtakes := rfl
@[simp] theorem Ctl.wr_progs (c : Ctl) (a : Nat) (w : Word) : (c.wr a w).progs = c.progs := rfl
@[simp] theorem Ctl.wr_keep (c : Ctl) (a : Nat) (w : Word) : (c.wr a w).keep = c.keep := rfl
@[simp] theorem Ctl.wr_boot (c : Ctl) (a : Nat) (w : Word) : (c.wr a w).boot = c.boot := rfl
@[simp] theorem Ctl.wr_pwr (c : Ctl) (a : Nat) (w : Word) : (c.wr a w).pwr = c.pwr := rfl
@[simp] theorem Ctl.wr_cues (c : Ctl) (a : Nat) (w : Word) : (c.wr a w).cues = c.cues := rfl
@[simp] theorem Ctl.wr_therm (c : Ctl) (a : Nat) (w : Word) : (c.wr a w).therm = c.therm := rfl
@[simp] theorem Ctl.wr_clk (c : Ctl) (a : Nat) (w : Word) : (c.wr a w).clk = c.clk := rfl
@[simp] theorem Ctl.wr_time (c : Ctl) (a : Nat) (w : Word) : (c.wr a w).time = c.time := rfl
@[simp] theorem Ctl.wr_log (c : Ctl) (a : Nat) (w : Word) : (c.wr a w).log = c.log := rfl
@[simp] theorem Ctl.wr_ras (c : Ctl) (a : Nat) (w : Word) : (c.wr a w).ras = c.ras := rfl
@[simp] theorem Ctl.wr_daily (c : Ctl) (a : Nat) (w : Word) : (c.wr a w).daily = c.daily := rfl
@[simp] theorem Ctl.wr_cves (c : Ctl) (a : Nat) (w : Word) : (c.wr a w).cves = c.cves := rfl
@[simp] theorem Ctl.wr_mgmt (c : Ctl) (a : Nat) (w : Word) : (c.wr a w).mgmt = c.mgmt := rfl
@[simp] theorem Ctl.wr_sheets (c : Ctl) (a : Nat) (w : Word) : (c.wr a w).sheets = c.sheets := rfl
@[simp] theorem Ctl.wr_arbs (c : Ctl) (a : Nat) (w : Word) : (c.wr a w).arbs = c.arbs := rfl
@[simp] theorem Ctl.wr_nor (c : Ctl) (a : Nat) (w : Word) : (c.wr a w).nor = c.nor := rfl

/-! ### The fields of the control plane after `putN` -/

@[simp] theorem Ctl.putN_latch (c : Ctl) (p : Nat) (f : Fld) (n v : Nat) : (c.putN p f n v).latch = c.latch := rfl
@[simp] theorem Ctl.putN_hold (c : Ctl) (p : Nat) (f : Fld) (n v : Nat) : (c.putN p f n v).hold = c.hold := rfl
@[simp] theorem Ctl.putN_out (c : Ctl) (p : Nat) (f : Fld) (n v : Nat) : (c.putN p f n v).out = c.out := rfl
@[simp] theorem Ctl.putN_free (c : Ctl) (p : Nat) (f : Fld) (n v : Nat) : (c.putN p f n v).free = c.free := rfl
@[simp] theorem Ctl.putN_offTiles (c : Ctl) (p : Nat) (f : Fld) (n v : Nat) : (c.putN p f n v).offTiles = c.offTiles := rfl
@[simp] theorem Ctl.putN_fenced (c : Ctl) (p : Nat) (f : Fld) (n v : Nat) : (c.putN p f n v).fenced = c.fenced := rfl
@[simp] theorem Ctl.putN_net (c : Ctl) (p : Nat) (f : Fld) (n v : Nat) : (c.putN p f n v).net = c.net := rfl
@[simp] theorem Ctl.putN_rsl (c : Ctl) (p : Nat) (f : Fld) (n v : Nat) : (c.putN p f n v).rsl = c.rsl := rfl
@[simp] theorem Ctl.putN_suspects (c : Ctl) (p : Nat) (f : Fld) (n v : Nat) : (c.putN p f n v).suspects = c.suspects := rfl
@[simp] theorem Ctl.putN_mixAcks (c : Ctl) (p : Nat) (f : Fld) (n v : Nat) : (c.putN p f n v).mixAcks = c.mixAcks := rfl
@[simp] theorem Ctl.putN_host (c : Ctl) (p : Nat) (f : Fld) (n v : Nat) : (c.putN p f n v).host = c.host := rfl
@[simp] theorem Ctl.putN_reel (c : Ctl) (p : Nat) (f : Fld) (n v : Nat) : (c.putN p f n v).reel = c.reel := rfl
@[simp] theorem Ctl.putN_hbmScrub (c : Ctl) (p : Nat) (f : Fld) (n v : Nat) : (c.putN p f n v).hbmScrub = c.hbmScrub := rfl
@[simp] theorem Ctl.putN_hbmWarm (c : Ctl) (p : Nat) (f : Fld) (n v : Nat) : (c.putN p f n v).hbmWarm = c.hbmWarm := rfl
@[simp] theorem Ctl.putN_uam (c : Ctl) (p : Nat) (f : Fld) (n v : Nat) : (c.putN p f n v).uam = c.uam := rfl
@[simp] theorem Ctl.putN_detect (c : Ctl) (p : Nat) (f : Fld) (n v : Nat) : (c.putN p f n v).detect = c.detect := rfl
@[simp] theorem Ctl.putN_outtakes (c : Ctl) (p : Nat) (f : Fld) (n v : Nat) : (c.putN p f n v).outtakes = c.outtakes := rfl
@[simp] theorem Ctl.putN_progs (c : Ctl) (p : Nat) (f : Fld) (n v : Nat) : (c.putN p f n v).progs = c.progs := rfl
@[simp] theorem Ctl.putN_keep (c : Ctl) (p : Nat) (f : Fld) (n v : Nat) : (c.putN p f n v).keep = c.keep := rfl
@[simp] theorem Ctl.putN_boot (c : Ctl) (p : Nat) (f : Fld) (n v : Nat) : (c.putN p f n v).boot = c.boot := rfl
@[simp] theorem Ctl.putN_pwr (c : Ctl) (p : Nat) (f : Fld) (n v : Nat) : (c.putN p f n v).pwr = c.pwr := rfl
@[simp] theorem Ctl.putN_cues (c : Ctl) (p : Nat) (f : Fld) (n v : Nat) : (c.putN p f n v).cues = c.cues := rfl
@[simp] theorem Ctl.putN_therm (c : Ctl) (p : Nat) (f : Fld) (n v : Nat) : (c.putN p f n v).therm = c.therm := rfl
@[simp] theorem Ctl.putN_clk (c : Ctl) (p : Nat) (f : Fld) (n v : Nat) : (c.putN p f n v).clk = c.clk := rfl
@[simp] theorem Ctl.putN_time (c : Ctl) (p : Nat) (f : Fld) (n v : Nat) : (c.putN p f n v).time = c.time := rfl
@[simp] theorem Ctl.putN_log (c : Ctl) (p : Nat) (f : Fld) (n v : Nat) : (c.putN p f n v).log = c.log := rfl
@[simp] theorem Ctl.putN_ras (c : Ctl) (p : Nat) (f : Fld) (n v : Nat) : (c.putN p f n v).ras = c.ras := rfl
@[simp] theorem Ctl.putN_daily (c : Ctl) (p : Nat) (f : Fld) (n v : Nat) : (c.putN p f n v).daily = c.daily := rfl
@[simp] theorem Ctl.putN_cves (c : Ctl) (p : Nat) (f : Fld) (n v : Nat) : (c.putN p f n v).cves = c.cves := rfl
@[simp] theorem Ctl.putN_mgmt (c : Ctl) (p : Nat) (f : Fld) (n v : Nat) : (c.putN p f n v).mgmt = c.mgmt := rfl
@[simp] theorem Ctl.putN_sheets (c : Ctl) (p : Nat) (f : Fld) (n v : Nat) : (c.putN p f n v).sheets = c.sheets := rfl
@[simp] theorem Ctl.putN_arbs (c : Ctl) (p : Nat) (f : Fld) (n v : Nat) : (c.putN p f n v).arbs = c.arbs := rfl
@[simp] theorem Ctl.putN_nor (c : Ctl) (p : Nat) (f : Fld) (n v : Nat) : (c.putN p f n v).nor = c.nor := rfl

/-! ### The fields of the control plane after `put` -/

@[simp] theorem Ctl.put_latch (c : Ctl) (p : Nat) (f : Fld) (v : Nat) : (c.put p f v).latch = c.latch := rfl
@[simp] theorem Ctl.put_hold (c : Ctl) (p : Nat) (f : Fld) (v : Nat) : (c.put p f v).hold = c.hold := rfl
@[simp] theorem Ctl.put_out (c : Ctl) (p : Nat) (f : Fld) (v : Nat) : (c.put p f v).out = c.out := rfl
@[simp] theorem Ctl.put_free (c : Ctl) (p : Nat) (f : Fld) (v : Nat) : (c.put p f v).free = c.free := rfl
@[simp] theorem Ctl.put_offTiles (c : Ctl) (p : Nat) (f : Fld) (v : Nat) : (c.put p f v).offTiles = c.offTiles := rfl
@[simp] theorem Ctl.put_fenced (c : Ctl) (p : Nat) (f : Fld) (v : Nat) : (c.put p f v).fenced = c.fenced := rfl
@[simp] theorem Ctl.put_net (c : Ctl) (p : Nat) (f : Fld) (v : Nat) : (c.put p f v).net = c.net := rfl
@[simp] theorem Ctl.put_rsl (c : Ctl) (p : Nat) (f : Fld) (v : Nat) : (c.put p f v).rsl = c.rsl := rfl
@[simp] theorem Ctl.put_suspects (c : Ctl) (p : Nat) (f : Fld) (v : Nat) : (c.put p f v).suspects = c.suspects := rfl
@[simp] theorem Ctl.put_mixAcks (c : Ctl) (p : Nat) (f : Fld) (v : Nat) : (c.put p f v).mixAcks = c.mixAcks := rfl
@[simp] theorem Ctl.put_host (c : Ctl) (p : Nat) (f : Fld) (v : Nat) : (c.put p f v).host = c.host := rfl
@[simp] theorem Ctl.put_reel (c : Ctl) (p : Nat) (f : Fld) (v : Nat) : (c.put p f v).reel = c.reel := rfl
@[simp] theorem Ctl.put_hbmScrub (c : Ctl) (p : Nat) (f : Fld) (v : Nat) : (c.put p f v).hbmScrub = c.hbmScrub := rfl
@[simp] theorem Ctl.put_hbmWarm (c : Ctl) (p : Nat) (f : Fld) (v : Nat) : (c.put p f v).hbmWarm = c.hbmWarm := rfl
@[simp] theorem Ctl.put_uam (c : Ctl) (p : Nat) (f : Fld) (v : Nat) : (c.put p f v).uam = c.uam := rfl
@[simp] theorem Ctl.put_detect (c : Ctl) (p : Nat) (f : Fld) (v : Nat) : (c.put p f v).detect = c.detect := rfl
@[simp] theorem Ctl.put_outtakes (c : Ctl) (p : Nat) (f : Fld) (v : Nat) : (c.put p f v).outtakes = c.outtakes := rfl
@[simp] theorem Ctl.put_progs (c : Ctl) (p : Nat) (f : Fld) (v : Nat) : (c.put p f v).progs = c.progs := rfl
@[simp] theorem Ctl.put_keep (c : Ctl) (p : Nat) (f : Fld) (v : Nat) : (c.put p f v).keep = c.keep := rfl
@[simp] theorem Ctl.put_boot (c : Ctl) (p : Nat) (f : Fld) (v : Nat) : (c.put p f v).boot = c.boot := rfl
@[simp] theorem Ctl.put_pwr (c : Ctl) (p : Nat) (f : Fld) (v : Nat) : (c.put p f v).pwr = c.pwr := rfl
@[simp] theorem Ctl.put_cues (c : Ctl) (p : Nat) (f : Fld) (v : Nat) : (c.put p f v).cues = c.cues := rfl
@[simp] theorem Ctl.put_therm (c : Ctl) (p : Nat) (f : Fld) (v : Nat) : (c.put p f v).therm = c.therm := rfl
@[simp] theorem Ctl.put_clk (c : Ctl) (p : Nat) (f : Fld) (v : Nat) : (c.put p f v).clk = c.clk := rfl
@[simp] theorem Ctl.put_time (c : Ctl) (p : Nat) (f : Fld) (v : Nat) : (c.put p f v).time = c.time := rfl
@[simp] theorem Ctl.put_log (c : Ctl) (p : Nat) (f : Fld) (v : Nat) : (c.put p f v).log = c.log := rfl
@[simp] theorem Ctl.put_ras (c : Ctl) (p : Nat) (f : Fld) (v : Nat) : (c.put p f v).ras = c.ras := rfl
@[simp] theorem Ctl.put_daily (c : Ctl) (p : Nat) (f : Fld) (v : Nat) : (c.put p f v).daily = c.daily := rfl
@[simp] theorem Ctl.put_cves (c : Ctl) (p : Nat) (f : Fld) (v : Nat) : (c.put p f v).cves = c.cves := rfl
@[simp] theorem Ctl.put_mgmt (c : Ctl) (p : Nat) (f : Fld) (v : Nat) : (c.put p f v).mgmt = c.mgmt := rfl
@[simp] theorem Ctl.put_sheets (c : Ctl) (p : Nat) (f : Fld) (v : Nat) : (c.put p f v).sheets = c.sheets := rfl
@[simp] theorem Ctl.put_arbs (c : Ctl) (p : Nat) (f : Fld) (v : Nat) : (c.put p f v).arbs = c.arbs := rfl
@[simp] theorem Ctl.put_nor (c : Ctl) (p : Nat) (f : Fld) (v : Nat) : (c.put p f v).nor = c.nor := rfl

/-! ### The fields of the control plane after `bumpN` -/

@[simp] theorem Ctl.bumpN_latch (c : Ctl) (p : Nat) (f : Fld) (i n : Nat) : (c.bumpN p f i n).latch = c.latch := rfl
@[simp] theorem Ctl.bumpN_hold (c : Ctl) (p : Nat) (f : Fld) (i n : Nat) : (c.bumpN p f i n).hold = c.hold := rfl
@[simp] theorem Ctl.bumpN_out (c : Ctl) (p : Nat) (f : Fld) (i n : Nat) : (c.bumpN p f i n).out = c.out := rfl
@[simp] theorem Ctl.bumpN_free (c : Ctl) (p : Nat) (f : Fld) (i n : Nat) : (c.bumpN p f i n).free = c.free := rfl
@[simp] theorem Ctl.bumpN_offTiles (c : Ctl) (p : Nat) (f : Fld) (i n : Nat) : (c.bumpN p f i n).offTiles = c.offTiles := rfl
@[simp] theorem Ctl.bumpN_fenced (c : Ctl) (p : Nat) (f : Fld) (i n : Nat) : (c.bumpN p f i n).fenced = c.fenced := rfl
@[simp] theorem Ctl.bumpN_net (c : Ctl) (p : Nat) (f : Fld) (i n : Nat) : (c.bumpN p f i n).net = c.net := rfl
@[simp] theorem Ctl.bumpN_rsl (c : Ctl) (p : Nat) (f : Fld) (i n : Nat) : (c.bumpN p f i n).rsl = c.rsl := rfl
@[simp] theorem Ctl.bumpN_suspects (c : Ctl) (p : Nat) (f : Fld) (i n : Nat) : (c.bumpN p f i n).suspects = c.suspects := rfl
@[simp] theorem Ctl.bumpN_mixAcks (c : Ctl) (p : Nat) (f : Fld) (i n : Nat) : (c.bumpN p f i n).mixAcks = c.mixAcks := rfl
@[simp] theorem Ctl.bumpN_host (c : Ctl) (p : Nat) (f : Fld) (i n : Nat) : (c.bumpN p f i n).host = c.host := rfl
@[simp] theorem Ctl.bumpN_reel (c : Ctl) (p : Nat) (f : Fld) (i n : Nat) : (c.bumpN p f i n).reel = c.reel := rfl
@[simp] theorem Ctl.bumpN_hbmScrub (c : Ctl) (p : Nat) (f : Fld) (i n : Nat) : (c.bumpN p f i n).hbmScrub = c.hbmScrub := rfl
@[simp] theorem Ctl.bumpN_hbmWarm (c : Ctl) (p : Nat) (f : Fld) (i n : Nat) : (c.bumpN p f i n).hbmWarm = c.hbmWarm := rfl
@[simp] theorem Ctl.bumpN_uam (c : Ctl) (p : Nat) (f : Fld) (i n : Nat) : (c.bumpN p f i n).uam = c.uam := rfl
@[simp] theorem Ctl.bumpN_detect (c : Ctl) (p : Nat) (f : Fld) (i n : Nat) : (c.bumpN p f i n).detect = c.detect := rfl
@[simp] theorem Ctl.bumpN_outtakes (c : Ctl) (p : Nat) (f : Fld) (i n : Nat) : (c.bumpN p f i n).outtakes = c.outtakes := rfl
@[simp] theorem Ctl.bumpN_progs (c : Ctl) (p : Nat) (f : Fld) (i n : Nat) : (c.bumpN p f i n).progs = c.progs := rfl
@[simp] theorem Ctl.bumpN_keep (c : Ctl) (p : Nat) (f : Fld) (i n : Nat) : (c.bumpN p f i n).keep = c.keep := rfl
@[simp] theorem Ctl.bumpN_boot (c : Ctl) (p : Nat) (f : Fld) (i n : Nat) : (c.bumpN p f i n).boot = c.boot := rfl
@[simp] theorem Ctl.bumpN_pwr (c : Ctl) (p : Nat) (f : Fld) (i n : Nat) : (c.bumpN p f i n).pwr = c.pwr := rfl
@[simp] theorem Ctl.bumpN_cues (c : Ctl) (p : Nat) (f : Fld) (i n : Nat) : (c.bumpN p f i n).cues = c.cues := rfl
@[simp] theorem Ctl.bumpN_therm (c : Ctl) (p : Nat) (f : Fld) (i n : Nat) : (c.bumpN p f i n).therm = c.therm := rfl
@[simp] theorem Ctl.bumpN_clk (c : Ctl) (p : Nat) (f : Fld) (i n : Nat) : (c.bumpN p f i n).clk = c.clk := rfl
@[simp] theorem Ctl.bumpN_time (c : Ctl) (p : Nat) (f : Fld) (i n : Nat) : (c.bumpN p f i n).time = c.time := rfl
@[simp] theorem Ctl.bumpN_log (c : Ctl) (p : Nat) (f : Fld) (i n : Nat) : (c.bumpN p f i n).log = c.log := rfl
@[simp] theorem Ctl.bumpN_ras (c : Ctl) (p : Nat) (f : Fld) (i n : Nat) : (c.bumpN p f i n).ras = c.ras := rfl
@[simp] theorem Ctl.bumpN_daily (c : Ctl) (p : Nat) (f : Fld) (i n : Nat) : (c.bumpN p f i n).daily = c.daily := rfl
@[simp] theorem Ctl.bumpN_cves (c : Ctl) (p : Nat) (f : Fld) (i n : Nat) : (c.bumpN p f i n).cves = c.cves := rfl
@[simp] theorem Ctl.bumpN_mgmt (c : Ctl) (p : Nat) (f : Fld) (i n : Nat) : (c.bumpN p f i n).mgmt = c.mgmt := rfl
@[simp] theorem Ctl.bumpN_sheets (c : Ctl) (p : Nat) (f : Fld) (i n : Nat) : (c.bumpN p f i n).sheets = c.sheets := rfl
@[simp] theorem Ctl.bumpN_arbs (c : Ctl) (p : Nat) (f : Fld) (i n : Nat) : (c.bumpN p f i n).arbs = c.arbs := rfl
@[simp] theorem Ctl.bumpN_nor (c : Ctl) (p : Nat) (f : Fld) (i n : Nat) : (c.bumpN p f i n).nor = c.nor := rfl

/-! ### The fields of the control plane after `bump` -/

@[simp] theorem Ctl.bump_latch (c : Ctl) (p : Nat) (f : Fld) (n : Nat) : (c.bump p f n).latch = c.latch := rfl
@[simp] theorem Ctl.bump_hold (c : Ctl) (p : Nat) (f : Fld) (n : Nat) : (c.bump p f n).hold = c.hold := rfl
@[simp] theorem Ctl.bump_out (c : Ctl) (p : Nat) (f : Fld) (n : Nat) : (c.bump p f n).out = c.out := rfl
@[simp] theorem Ctl.bump_free (c : Ctl) (p : Nat) (f : Fld) (n : Nat) : (c.bump p f n).free = c.free := rfl
@[simp] theorem Ctl.bump_offTiles (c : Ctl) (p : Nat) (f : Fld) (n : Nat) : (c.bump p f n).offTiles = c.offTiles := rfl
@[simp] theorem Ctl.bump_fenced (c : Ctl) (p : Nat) (f : Fld) (n : Nat) : (c.bump p f n).fenced = c.fenced := rfl
@[simp] theorem Ctl.bump_net (c : Ctl) (p : Nat) (f : Fld) (n : Nat) : (c.bump p f n).net = c.net := rfl
@[simp] theorem Ctl.bump_rsl (c : Ctl) (p : Nat) (f : Fld) (n : Nat) : (c.bump p f n).rsl = c.rsl := rfl
@[simp] theorem Ctl.bump_suspects (c : Ctl) (p : Nat) (f : Fld) (n : Nat) : (c.bump p f n).suspects = c.suspects := rfl
@[simp] theorem Ctl.bump_mixAcks (c : Ctl) (p : Nat) (f : Fld) (n : Nat) : (c.bump p f n).mixAcks = c.mixAcks := rfl
@[simp] theorem Ctl.bump_host (c : Ctl) (p : Nat) (f : Fld) (n : Nat) : (c.bump p f n).host = c.host := rfl
@[simp] theorem Ctl.bump_reel (c : Ctl) (p : Nat) (f : Fld) (n : Nat) : (c.bump p f n).reel = c.reel := rfl
@[simp] theorem Ctl.bump_hbmScrub (c : Ctl) (p : Nat) (f : Fld) (n : Nat) : (c.bump p f n).hbmScrub = c.hbmScrub := rfl
@[simp] theorem Ctl.bump_hbmWarm (c : Ctl) (p : Nat) (f : Fld) (n : Nat) : (c.bump p f n).hbmWarm = c.hbmWarm := rfl
@[simp] theorem Ctl.bump_uam (c : Ctl) (p : Nat) (f : Fld) (n : Nat) : (c.bump p f n).uam = c.uam := rfl
@[simp] theorem Ctl.bump_detect (c : Ctl) (p : Nat) (f : Fld) (n : Nat) : (c.bump p f n).detect = c.detect := rfl
@[simp] theorem Ctl.bump_outtakes (c : Ctl) (p : Nat) (f : Fld) (n : Nat) : (c.bump p f n).outtakes = c.outtakes := rfl
@[simp] theorem Ctl.bump_progs (c : Ctl) (p : Nat) (f : Fld) (n : Nat) : (c.bump p f n).progs = c.progs := rfl
@[simp] theorem Ctl.bump_keep (c : Ctl) (p : Nat) (f : Fld) (n : Nat) : (c.bump p f n).keep = c.keep := rfl
@[simp] theorem Ctl.bump_boot (c : Ctl) (p : Nat) (f : Fld) (n : Nat) : (c.bump p f n).boot = c.boot := rfl
@[simp] theorem Ctl.bump_pwr (c : Ctl) (p : Nat) (f : Fld) (n : Nat) : (c.bump p f n).pwr = c.pwr := rfl
@[simp] theorem Ctl.bump_cues (c : Ctl) (p : Nat) (f : Fld) (n : Nat) : (c.bump p f n).cues = c.cues := rfl
@[simp] theorem Ctl.bump_therm (c : Ctl) (p : Nat) (f : Fld) (n : Nat) : (c.bump p f n).therm = c.therm := rfl
@[simp] theorem Ctl.bump_clk (c : Ctl) (p : Nat) (f : Fld) (n : Nat) : (c.bump p f n).clk = c.clk := rfl
@[simp] theorem Ctl.bump_time (c : Ctl) (p : Nat) (f : Fld) (n : Nat) : (c.bump p f n).time = c.time := rfl
@[simp] theorem Ctl.bump_log (c : Ctl) (p : Nat) (f : Fld) (n : Nat) : (c.bump p f n).log = c.log := rfl
@[simp] theorem Ctl.bump_ras (c : Ctl) (p : Nat) (f : Fld) (n : Nat) : (c.bump p f n).ras = c.ras := rfl
@[simp] theorem Ctl.bump_daily (c : Ctl) (p : Nat) (f : Fld) (n : Nat) : (c.bump p f n).daily = c.daily := rfl
@[simp] theorem Ctl.bump_cves (c : Ctl) (p : Nat) (f : Fld) (n : Nat) : (c.bump p f n).cves = c.cves := rfl
@[simp] theorem Ctl.bump_mgmt (c : Ctl) (p : Nat) (f : Fld) (n : Nat) : (c.bump p f n).mgmt = c.mgmt := rfl
@[simp] theorem Ctl.bump_sheets (c : Ctl) (p : Nat) (f : Fld) (n : Nat) : (c.bump p f n).sheets = c.sheets := rfl
@[simp] theorem Ctl.bump_arbs (c : Ctl) (p : Nat) (f : Fld) (n : Nat) : (c.bump p f n).arbs = c.arbs := rfl
@[simp] theorem Ctl.bump_nor (c : Ctl) (p : Nat) (f : Fld) (n : Nat) : (c.bump p f n).nor = c.nor := rfl

/-! ### The fields of the control plane after `wr64` -/

@[simp] theorem Ctl.wr64_latch (c : Ctl) (a v : Nat) : (c.wr64 a v).latch = c.latch := rfl
@[simp] theorem Ctl.wr64_hold (c : Ctl) (a v : Nat) : (c.wr64 a v).hold = c.hold := rfl
@[simp] theorem Ctl.wr64_out (c : Ctl) (a v : Nat) : (c.wr64 a v).out = c.out := rfl
@[simp] theorem Ctl.wr64_free (c : Ctl) (a v : Nat) : (c.wr64 a v).free = c.free := rfl
@[simp] theorem Ctl.wr64_offTiles (c : Ctl) (a v : Nat) : (c.wr64 a v).offTiles = c.offTiles := rfl
@[simp] theorem Ctl.wr64_fenced (c : Ctl) (a v : Nat) : (c.wr64 a v).fenced = c.fenced := rfl
@[simp] theorem Ctl.wr64_net (c : Ctl) (a v : Nat) : (c.wr64 a v).net = c.net := rfl
@[simp] theorem Ctl.wr64_rsl (c : Ctl) (a v : Nat) : (c.wr64 a v).rsl = c.rsl := rfl
@[simp] theorem Ctl.wr64_suspects (c : Ctl) (a v : Nat) : (c.wr64 a v).suspects = c.suspects := rfl
@[simp] theorem Ctl.wr64_mixAcks (c : Ctl) (a v : Nat) : (c.wr64 a v).mixAcks = c.mixAcks := rfl
@[simp] theorem Ctl.wr64_host (c : Ctl) (a v : Nat) : (c.wr64 a v).host = c.host := rfl
@[simp] theorem Ctl.wr64_reel (c : Ctl) (a v : Nat) : (c.wr64 a v).reel = c.reel := rfl
@[simp] theorem Ctl.wr64_hbmScrub (c : Ctl) (a v : Nat) : (c.wr64 a v).hbmScrub = c.hbmScrub := rfl
@[simp] theorem Ctl.wr64_hbmWarm (c : Ctl) (a v : Nat) : (c.wr64 a v).hbmWarm = c.hbmWarm := rfl
@[simp] theorem Ctl.wr64_uam (c : Ctl) (a v : Nat) : (c.wr64 a v).uam = c.uam := rfl
@[simp] theorem Ctl.wr64_detect (c : Ctl) (a v : Nat) : (c.wr64 a v).detect = c.detect := rfl
@[simp] theorem Ctl.wr64_outtakes (c : Ctl) (a v : Nat) : (c.wr64 a v).outtakes = c.outtakes := rfl
@[simp] theorem Ctl.wr64_progs (c : Ctl) (a v : Nat) : (c.wr64 a v).progs = c.progs := rfl
@[simp] theorem Ctl.wr64_keep (c : Ctl) (a v : Nat) : (c.wr64 a v).keep = c.keep := rfl
@[simp] theorem Ctl.wr64_boot (c : Ctl) (a v : Nat) : (c.wr64 a v).boot = c.boot := rfl
@[simp] theorem Ctl.wr64_pwr (c : Ctl) (a v : Nat) : (c.wr64 a v).pwr = c.pwr := rfl
@[simp] theorem Ctl.wr64_cues (c : Ctl) (a v : Nat) : (c.wr64 a v).cues = c.cues := rfl
@[simp] theorem Ctl.wr64_therm (c : Ctl) (a v : Nat) : (c.wr64 a v).therm = c.therm := rfl
@[simp] theorem Ctl.wr64_clk (c : Ctl) (a v : Nat) : (c.wr64 a v).clk = c.clk := rfl
@[simp] theorem Ctl.wr64_time (c : Ctl) (a v : Nat) : (c.wr64 a v).time = c.time := rfl
@[simp] theorem Ctl.wr64_log (c : Ctl) (a v : Nat) : (c.wr64 a v).log = c.log := rfl
@[simp] theorem Ctl.wr64_ras (c : Ctl) (a v : Nat) : (c.wr64 a v).ras = c.ras := rfl
@[simp] theorem Ctl.wr64_daily (c : Ctl) (a v : Nat) : (c.wr64 a v).daily = c.daily := rfl
@[simp] theorem Ctl.wr64_cves (c : Ctl) (a v : Nat) : (c.wr64 a v).cves = c.cves := rfl
@[simp] theorem Ctl.wr64_mgmt (c : Ctl) (a v : Nat) : (c.wr64 a v).mgmt = c.mgmt := rfl
@[simp] theorem Ctl.wr64_sheets (c : Ctl) (a v : Nat) : (c.wr64 a v).sheets = c.sheets := rfl
@[simp] theorem Ctl.wr64_arbs (c : Ctl) (a v : Nat) : (c.wr64 a v).arbs = c.arbs := rfl
@[simp] theorem Ctl.wr64_nor (c : Ctl) (a v : Nat) : (c.wr64 a v).nor = c.nor := rfl

/-! ### The fields of the control plane after `put64` -/

@[simp] theorem Ctl.put64_latch (c : Ctl) (p : Nat) (f : Fld) (v n : Nat) : (c.put64 p f v n).latch = c.latch := rfl
@[simp] theorem Ctl.put64_hold (c : Ctl) (p : Nat) (f : Fld) (v n : Nat) : (c.put64 p f v n).hold = c.hold := rfl
@[simp] theorem Ctl.put64_out (c : Ctl) (p : Nat) (f : Fld) (v n : Nat) : (c.put64 p f v n).out = c.out := rfl
@[simp] theorem Ctl.put64_free (c : Ctl) (p : Nat) (f : Fld) (v n : Nat) : (c.put64 p f v n).free = c.free := rfl
@[simp] theorem Ctl.put64_offTiles (c : Ctl) (p : Nat) (f : Fld) (v n : Nat) : (c.put64 p f v n).offTiles = c.offTiles := rfl
@[simp] theorem Ctl.put64_fenced (c : Ctl) (p : Nat) (f : Fld) (v n : Nat) : (c.put64 p f v n).fenced = c.fenced := rfl
@[simp] theorem Ctl.put64_net (c : Ctl) (p : Nat) (f : Fld) (v n : Nat) : (c.put64 p f v n).net = c.net := rfl
@[simp] theorem Ctl.put64_rsl (c : Ctl) (p : Nat) (f : Fld) (v n : Nat) : (c.put64 p f v n).rsl = c.rsl := rfl
@[simp] theorem Ctl.put64_suspects (c : Ctl) (p : Nat) (f : Fld) (v n : Nat) : (c.put64 p f v n).suspects = c.suspects := rfl
@[simp] theorem Ctl.put64_mixAcks (c : Ctl) (p : Nat) (f : Fld) (v n : Nat) : (c.put64 p f v n).mixAcks = c.mixAcks := rfl
@[simp] theorem Ctl.put64_host (c : Ctl) (p : Nat) (f : Fld) (v n : Nat) : (c.put64 p f v n).host = c.host := rfl
@[simp] theorem Ctl.put64_reel (c : Ctl) (p : Nat) (f : Fld) (v n : Nat) : (c.put64 p f v n).reel = c.reel := rfl
@[simp] theorem Ctl.put64_hbmScrub (c : Ctl) (p : Nat) (f : Fld) (v n : Nat) : (c.put64 p f v n).hbmScrub = c.hbmScrub := rfl
@[simp] theorem Ctl.put64_hbmWarm (c : Ctl) (p : Nat) (f : Fld) (v n : Nat) : (c.put64 p f v n).hbmWarm = c.hbmWarm := rfl
@[simp] theorem Ctl.put64_uam (c : Ctl) (p : Nat) (f : Fld) (v n : Nat) : (c.put64 p f v n).uam = c.uam := rfl
@[simp] theorem Ctl.put64_detect (c : Ctl) (p : Nat) (f : Fld) (v n : Nat) : (c.put64 p f v n).detect = c.detect := rfl
@[simp] theorem Ctl.put64_outtakes (c : Ctl) (p : Nat) (f : Fld) (v n : Nat) : (c.put64 p f v n).outtakes = c.outtakes := rfl
@[simp] theorem Ctl.put64_progs (c : Ctl) (p : Nat) (f : Fld) (v n : Nat) : (c.put64 p f v n).progs = c.progs := rfl
@[simp] theorem Ctl.put64_keep (c : Ctl) (p : Nat) (f : Fld) (v n : Nat) : (c.put64 p f v n).keep = c.keep := rfl
@[simp] theorem Ctl.put64_boot (c : Ctl) (p : Nat) (f : Fld) (v n : Nat) : (c.put64 p f v n).boot = c.boot := rfl
@[simp] theorem Ctl.put64_pwr (c : Ctl) (p : Nat) (f : Fld) (v n : Nat) : (c.put64 p f v n).pwr = c.pwr := rfl
@[simp] theorem Ctl.put64_cues (c : Ctl) (p : Nat) (f : Fld) (v n : Nat) : (c.put64 p f v n).cues = c.cues := rfl
@[simp] theorem Ctl.put64_therm (c : Ctl) (p : Nat) (f : Fld) (v n : Nat) : (c.put64 p f v n).therm = c.therm := rfl
@[simp] theorem Ctl.put64_clk (c : Ctl) (p : Nat) (f : Fld) (v n : Nat) : (c.put64 p f v n).clk = c.clk := rfl
@[simp] theorem Ctl.put64_time (c : Ctl) (p : Nat) (f : Fld) (v n : Nat) : (c.put64 p f v n).time = c.time := rfl
@[simp] theorem Ctl.put64_log (c : Ctl) (p : Nat) (f : Fld) (v n : Nat) : (c.put64 p f v n).log = c.log := rfl
@[simp] theorem Ctl.put64_ras (c : Ctl) (p : Nat) (f : Fld) (v n : Nat) : (c.put64 p f v n).ras = c.ras := rfl
@[simp] theorem Ctl.put64_daily (c : Ctl) (p : Nat) (f : Fld) (v n : Nat) : (c.put64 p f v n).daily = c.daily := rfl
@[simp] theorem Ctl.put64_cves (c : Ctl) (p : Nat) (f : Fld) (v n : Nat) : (c.put64 p f v n).cves = c.cves := rfl
@[simp] theorem Ctl.put64_mgmt (c : Ctl) (p : Nat) (f : Fld) (v n : Nat) : (c.put64 p f v n).mgmt = c.mgmt := rfl
@[simp] theorem Ctl.put64_sheets (c : Ctl) (p : Nat) (f : Fld) (v n : Nat) : (c.put64 p f v n).sheets = c.sheets := rfl
@[simp] theorem Ctl.put64_arbs (c : Ctl) (p : Nat) (f : Fld) (v n : Nat) : (c.put64 p f v n).arbs = c.arbs := rfl
@[simp] theorem Ctl.put64_nor (c : Ctl) (p : Nat) (f : Fld) (v n : Nat) : (c.put64 p f v n).nor = c.nor := rfl

/-! ### The fields of the control plane after `toReset` -/

@[simp] theorem Ctl.toReset_latch (c : Ctl) (a : Nat) : (c.toReset a).latch = c.latch := rfl
@[simp] theorem Ctl.toReset_hold (c : Ctl) (a : Nat) : (c.toReset a).hold = c.hold := rfl
@[simp] theorem Ctl.toReset_out (c : Ctl) (a : Nat) : (c.toReset a).out = c.out := rfl
@[simp] theorem Ctl.toReset_free (c : Ctl) (a : Nat) : (c.toReset a).free = c.free := rfl
@[simp] theorem Ctl.toReset_offTiles (c : Ctl) (a : Nat) : (c.toReset a).offTiles = c.offTiles := rfl
@[simp] theorem Ctl.toReset_fenced (c : Ctl) (a : Nat) : (c.toReset a).fenced = c.fenced := rfl
@[simp] theorem Ctl.toReset_net (c : Ctl) (a : Nat) : (c.toReset a).net = c.net := rfl
@[simp] theorem Ctl.toReset_rsl (c : Ctl) (a : Nat) : (c.toReset a).rsl = c.rsl := rfl
@[simp] theorem Ctl.toReset_suspects (c : Ctl) (a : Nat) : (c.toReset a).suspects = c.suspects := rfl
@[simp] theorem Ctl.toReset_mixAcks (c : Ctl) (a : Nat) : (c.toReset a).mixAcks = c.mixAcks := rfl
@[simp] theorem Ctl.toReset_host (c : Ctl) (a : Nat) : (c.toReset a).host = c.host := rfl
@[simp] theorem Ctl.toReset_reel (c : Ctl) (a : Nat) : (c.toReset a).reel = c.reel := rfl
@[simp] theorem Ctl.toReset_hbmScrub (c : Ctl) (a : Nat) : (c.toReset a).hbmScrub = c.hbmScrub := rfl
@[simp] theorem Ctl.toReset_hbmWarm (c : Ctl) (a : Nat) : (c.toReset a).hbmWarm = c.hbmWarm := rfl
@[simp] theorem Ctl.toReset_uam (c : Ctl) (a : Nat) : (c.toReset a).uam = c.uam := rfl
@[simp] theorem Ctl.toReset_detect (c : Ctl) (a : Nat) : (c.toReset a).detect = c.detect := rfl
@[simp] theorem Ctl.toReset_outtakes (c : Ctl) (a : Nat) : (c.toReset a).outtakes = c.outtakes := rfl
@[simp] theorem Ctl.toReset_progs (c : Ctl) (a : Nat) : (c.toReset a).progs = c.progs := rfl
@[simp] theorem Ctl.toReset_keep (c : Ctl) (a : Nat) : (c.toReset a).keep = c.keep := rfl
@[simp] theorem Ctl.toReset_boot (c : Ctl) (a : Nat) : (c.toReset a).boot = c.boot := rfl
@[simp] theorem Ctl.toReset_pwr (c : Ctl) (a : Nat) : (c.toReset a).pwr = c.pwr := rfl
@[simp] theorem Ctl.toReset_cues (c : Ctl) (a : Nat) : (c.toReset a).cues = c.cues := rfl
@[simp] theorem Ctl.toReset_therm (c : Ctl) (a : Nat) : (c.toReset a).therm = c.therm := rfl
@[simp] theorem Ctl.toReset_clk (c : Ctl) (a : Nat) : (c.toReset a).clk = c.clk := rfl
@[simp] theorem Ctl.toReset_time (c : Ctl) (a : Nat) : (c.toReset a).time = c.time := rfl
@[simp] theorem Ctl.toReset_log (c : Ctl) (a : Nat) : (c.toReset a).log = c.log := rfl
@[simp] theorem Ctl.toReset_ras (c : Ctl) (a : Nat) : (c.toReset a).ras = c.ras := rfl
@[simp] theorem Ctl.toReset_daily (c : Ctl) (a : Nat) : (c.toReset a).daily = c.daily := rfl
@[simp] theorem Ctl.toReset_cves (c : Ctl) (a : Nat) : (c.toReset a).cves = c.cves := rfl
@[simp] theorem Ctl.toReset_mgmt (c : Ctl) (a : Nat) : (c.toReset a).mgmt = c.mgmt := rfl
@[simp] theorem Ctl.toReset_sheets (c : Ctl) (a : Nat) : (c.toReset a).sheets = c.sheets := rfl
@[simp] theorem Ctl.toReset_arbs (c : Ctl) (a : Nat) : (c.toReset a).arbs = c.arbs := rfl
@[simp] theorem Ctl.toReset_nor (c : Ctl) (a : Nat) : (c.toReset a).nor = c.nor := rfl

/-! ### The parts of the block -/

@[simp] theorem Blk.onCtl_ctl (b : Blk) (f : Ctl → Ctl) : (b.onCtl f).ctl = f b.ctl := rfl
@[simp] theorem Blk.onCtl_tiles (b : Blk) (f : Ctl → Ctl) : (b.onCtl f).tiles = b.tiles := rfl
@[simp] theorem Blk.onCtl_hbm (b : Blk) (f : Ctl → Ctl) : (b.onCtl f).hbm = b.hbm := rfl
@[simp] theorem Blk.onCtl_tile (b : Blk) (f : Ctl → Ctl) (t : Nat) : (b.onCtl f).tile t = b.tile t := rfl
@[simp] theorem Blk.setTile_ctl (b : Blk) (t : Nat) (x : Tile) : (b.setTile t x).ctl = b.ctl := rfl
@[simp] theorem Blk.setTile_hbm (b : Blk) (t : Nat) (x : Tile) : (b.setTile t x).hbm = b.hbm := rfl
@[simp] theorem Blk.onTile_ctl (b : Blk) (t : Nat) (f : Tile → Tile) : (b.onTile t f).ctl = b.ctl := rfl
@[simp] theorem Blk.onTile_hbm (b : Blk) (t : Nat) (f : Tile → Tile) : (b.onTile t f).hbm = b.hbm := rfl

/-- Replacing a tile changes that tile only. -/
@[simp] theorem Blk.setTile_tile (b : Blk) (t u : Nat) (x : Tile) :
    (b.setTile t x).tile u = if u = t then x else b.tile u := by
  simp only [Blk.tile, Blk.setTile, SMap.get_set]

@[simp] theorem Blk.onTile_tile (b : Blk) (t u : Nat) (f : Tile → Tile) :
    (b.onTile t f).tile u = if u = t then f (b.tile t) else b.tile u := by
  simp only [Blk.onTile, Blk.setTile_tile]

/-! ### The shapes of a meaning -/

theorem State.on_eq (s : State) (f : Blk → Blk) : s.on f = .next { s with blk := f s.blk } := rfl
theorem State.onCtl_eq (s : State) (f : Ctl → Ctl) :
    s.onCtl f = .next { s with blk := { s.blk with ctl := f s.blk.ctl } } := rfl

end Sys2Proof.Machine
end

