-- ==== Sys2Proof/Laws/Regs.lean ====
section
/-!
SUPPORT. The register file: what a register and a field read after a write of another, and the canonical form of the file.
-/
namespace Sys2Proof.Machine

/-- A register reads what was written to it; every other register reads as before. -/
@[simp] theorem Ctl.rd_wr (c : Ctl) (a b : Nat) (w : Word) : (c.wr a w).rd b = if b = a then w else c.rd b := by
  by_cases h : w = rstOf a <;> by_cases g : b = a <;>
    simp [Ctl.rd, Ctl.wr, SMap.set, h, g, SMap.find?_put, SMap.find?_erase]

@[simp] theorem Ctl.rd_toReset (c : Ctl) (a b : Nat) : (c.toReset a).rd b = if b = a then rstOf a else c.rd b := by
  by_cases g : b = a <;> simp [Ctl.rd, Ctl.toReset, SMap.find?_erase, g]

/-- A register read depends on the register file alone. -/
theorem Ctl.rd_congr {c d : Ctl} (h : c.regs = d.regs) (a : Nat) : c.rd a = d.rd a := by simp only [Ctl.rd, h]

theorem Ctl.rd_putN (c : Ctl) (p : Nat) (f : Fld) (n v b : Nat) :
    (c.putN p f n v).rd b =
      if b = p + f.off + n * f.stride then putBits (c.rd (p + f.off + n * f.stride)) f.hi f.lo v else c.rd b := by
  simp [Ctl.putN]

theorem Ctl.rd_put (c : Ctl) (p : Nat) (f : Fld) (v b : Nat) :
    (c.put p f v).rd b = if b = p + f.off then putBits (c.rd (p + f.off)) f.hi f.lo v else c.rd b := by
  simp [Ctl.put, Ctl.rd_putN]

/-- A field reads what was written to it, modulo its width. -/
theorem Ctl.getN_putN_same (c : Ctl) (p : Nat) (f : Fld) (n v : Nat) (h : f.hi < 32) :
    (c.putN p f n v).getN p f n = v % 2 ^ (f.hi + 1 - f.lo) := by
  simp [Ctl.getN, Ctl.rd_putN, h]

theorem Ctl.get_put_same (c : Ctl) (p : Nat) (f : Fld) (v : Nat) (h : f.hi < 32) :
    (c.put p f v).get p f = v % 2 ^ (f.hi + 1 - f.lo) := Ctl.getN_putN_same c p f 0 v h

/-- A field of another register reads as before. -/
theorem Ctl.getN_putN_other (c : Ctl) (p q : Nat) (f g : Fld) (n m v : Nat)
    (h : q + g.off + m * g.stride ≠ p + f.off + n * f.stride) : (c.putN p f n v).getN q g m = c.getN q g m := by
  simp [Ctl.getN, Ctl.rd_putN, h]

/-- A field apart from the one written, of the same register, reads as before. -/
theorem Ctl.getN_putN_apart (c : Ctl) (p q : Nat) (f g : Fld) (n m v : Nat) (h : g.hi < f.lo ∨ f.hi < g.lo) :
    (c.putN p f n v).getN q g m = c.getN q g m := by
  simp only [Ctl.getN, Ctl.rd_putN]
  split_ifs with e
  · rw [bits_putBits_apart _ _ h, e]
  · rfl

/-- The registers from `lo` to `hi` of a page set to 0, and no other. -/
theorem Ctl.rd_zeroRange (c : Ctl) (p lo hi b : Nat) :
    (c.zeroRange p lo hi).rd b =
      if (∃ i, i < (hi - lo) / 4 + 1 ∧ b = p + lo + 4 * i) then 0 else c.rd b := by
  unfold Ctl.zeroRange
  generalize (hi - lo) / 4 + 1 = n
  induction n generalizing c with
  | zero => simp
  | succ n ih =>
    rw [List.range_succ, List.foldl_append, List.foldl_cons, List.foldl_nil, Ctl.rd_wr, ih]
    by_cases h : b = p + lo + 4 * n
    · subst h
      have : ∃ i, i < n + 1 ∧ p + lo + 4 * n = p + lo + 4 * i := ⟨n, by omega, rfl⟩
      simp [this]
    · have : (∃ i, i < n + 1 ∧ b = p + lo + 4 * i) ↔ ∃ i, i < n ∧ b = p + lo + 4 * i := by
        constructor
        · rintro ⟨i, hi, rfl⟩
          exact ⟨i, by omega, rfl⟩
        · rintro ⟨i, hi, rfl⟩
          exact ⟨i, by omega, rfl⟩
      simp only [h, if_false, this]

theorem Ctl.zeroRange_eq (c : Ctl) (p lo hi : Nat) : ∃ r, c.zeroRange p lo hi = { c with regs := r } := by
  unfold Ctl.zeroRange
  generalize List.range ((hi - lo) / 4 + 1) = l
  induction l generalizing c with
  | nil => exact ⟨c.regs, rfl⟩
  | cons i l ih =>
    obtain ⟨r, hr⟩ := ih (c.wr (p + lo + 4 * i) 0)
    exact ⟨r, hr⟩

/-- The canonical form of the register file: keys rise, and no register at its reset value is listed. -/
def regsWf (m : SMap Word) : Bool := SMap.sortedFrom none m && m.all fun e => decide (e.2 ≠ rstOf e.1)

theorem Ctl.wr_wf {c : Ctl} (h : regsWf c.regs = true) (a : Nat) (w : Word) : regsWf (c.wr a w).regs = true := by
  simp only [regsWf, Bool.and_eq_true, List.all_eq_true, decide_eq_true_eq] at h ⊢
  simp only [Ctl.wr, SMap.set]
  split_ifs with hv
  · exact ⟨SMap.sortedFrom_erase h.1 a, fun e he => h.2 e (List.mem_of_mem_filter he)⟩
  · refine ⟨SMap.sortedFrom_put h.1 a w (by simp), fun e he => ?_⟩
    rcases SMap.mem_put he with rfl | he
    · exact hv
    · exact h.2 e he

theorem Ctl.toReset_wf {c : Ctl} (h : regsWf c.regs = true) (a : Nat) : regsWf (c.toReset a).regs = true := by
  simp only [regsWf, Bool.and_eq_true, List.all_eq_true, decide_eq_true_eq] at h ⊢
  exact ⟨SMap.sortedFrom_erase h.1 a, fun e he => h.2 e (List.mem_of_mem_filter he)⟩

end Sys2Proof.Machine
end

