-- ==== Sys2Proof/Laws/Events.lean ====
section
/-!
SUPPORT. What counting an error, raising an interrupt cause, logging an event, a stage fault and a reset of registers do to the register
file and to the rest of the control plane.
-/
namespace Sys2Proof.Machine

/-! ### Interrupts (02 R49, R50) -/

@[simp] theorem Ctl.rd_sendMsg (c : Ctl) (p a : Nat) : (c.sendMsg p).rd a = c.rd a := by
  simp only [Ctl.sendMsg]; split_ifs <;> rfl

/-- The register file is that of the change made; only what waits and what leaves may follow. -/
@[simp] theorem Ctl.rd_withIrq (c : Ctl) (p a : Nat) (w : Bool) (f : Ctl → Ctl) : (c.withIrq p w f).rd a = (f c).rd a := by
  simp only [Ctl.withIrq]
  split_ifs <;> first | rfl | simp

@[simp] theorem Ctl.rd_raise (c : Ctl) (p n a : Nat) :
    (c.raise p n).rd a = if a = p + 0x18 then c.rd (p + 0x18) ||| BitVec.ofNat 32 (2 ^ n) else c.rd a := by
  simp only [Ctl.raise, Ctl.rd_withIrq, Ctl.rd_wr]

/-- Sending a message changes what leaves and what waits only. -/
theorem Ctl.sendMsg_eq (c : Ctl) (p : Nat) : ∃ o h, c.sendMsg p = { c with out := o, host := h } := by
  simp only [Ctl.sendMsg]; split_ifs
  · exact ⟨_, c.host, rfl⟩
  · exact ⟨c.out, _, rfl⟩

theorem Ctl.withIrq_eq (c : Ctl) (p : Nat) (w : Bool) (f : Ctl → Ctl) :
    ∃ o h, c.withIrq p w f = { f c with out := o, host := h } := by
  simp only [Ctl.withIrq]; split_ifs
  · exact Ctl.sendMsg_eq _ _
  · exact ⟨(f c).out, (f c).host, rfl⟩
  · exact ⟨(f c).out, _, rfl⟩

/-- Raising a cause changes a page's IRQ_STATUS, what leaves and what waits only. -/
theorem Ctl.raise_eq (c : Ctl) (p n : Nat) : ∃ r o h, c.raise p n = { c with regs := r, out := o, host := h } := by
  obtain ⟨o, h, e⟩ := Ctl.withIrq_eq c p false fun c => c.wr (p + 0x18) (c.rd (p + 0x18) ||| BitVec.ofNat 32 (2 ^ n))
  exact ⟨_, o, h, e⟩

/-! ### The log (17 R458, R459) -/

/-- The counters of the LOG page that writing an entry may change. -/
def logRegs : List Nat := [logPage + 0x68, logPage + 0x6C]

theorem Ctl.rd_logWrite (c : Ctl) (t i k v n : Nat) {a : Nat} (h : a ∉ logRegs) : (c.logWrite t i k v n).rd a = c.rd a := by
  simp only [logRegs, List.mem_cons, List.not_mem_nil, or_false, not_or] at h
  simp only [Ctl.logWrite]
  split_ifs
  · exact (Ctl.rd_put _ _ _ _ _).trans (if_neg h.2)
  · rfl
  · exact (Ctl.rd_put _ _ _ _ _).trans (if_neg h.1)
  · rfl

theorem Ctl.rd_logEvent (c : Ctl) (p k v : Nat) {a : Nat} (h : a ∉ logRegs) : (c.logEvent p k v).rd a = c.rd a := by
  simp only [Ctl.logEvent]
  split_ifs
  · rfl
  · exact (Ctl.rd_logWrite c _ _ _ _ _ h)
  · exact (Ctl.rd_logWrite c _ _ _ _ _ h)

theorem Ctl.logWrite_eq (c : Ctl) (t i k v n : Nat) : ∃ r l, c.logWrite t i k v n = { c with regs := r, log := l } := by
  simp only [Ctl.logWrite]
  split_ifs
  · exact ⟨_, c.log, rfl⟩
  · exact ⟨c.regs, _, rfl⟩
  · exact ⟨(c.bump logPage F.LOG_OVERWRITTEN_COUNT).regs, _, rfl⟩
  · exact ⟨c.regs, _, rfl⟩

/-- Logging an event changes the LOG page's counters and the log only. -/
theorem Ctl.logEvent_eq (c : Ctl) (p k v : Nat) : ∃ r l, c.logEvent p k v = { c with regs := r, log := l } := by
  simp only [Ctl.logEvent]
  split_ifs
  · exact ⟨c.regs, _, rfl⟩
  · obtain ⟨r, l, e⟩ := Ctl.logWrite_eq c (pageTag p).1 (pageTag p).2 k v 0
    exact ⟨r, _, by rw [e]⟩
  · exact Ctl.logWrite_eq c _ _ _ _ _

/-! ### Errors (02 R43) -/

theorem Ctl.Quiet.refl (c : Ctl) : c.Quiet c := ⟨c.regs, c.out, c.host, c.log, rfl⟩
theorem Ctl.Quiet.trans {c d e : Ctl} (h : c.Quiet d) (g : d.Quiet e) : c.Quiet e := by
  obtain ⟨r, o, x, l, rfl⟩ := h
  obtain ⟨r', o', x', l', rfl⟩ := g
  exact ⟨r', o', x', l', rfl⟩
theorem Ctl.Quiet.wr (c : Ctl) (a : Nat) (w : Word) : c.Quiet (c.wr a w) := ⟨_, c.out, c.host, c.log, rfl⟩
theorem Ctl.Quiet.putN (c : Ctl) (p : Nat) (f : Fld) (n v : Nat) : c.Quiet (c.putN p f n v) := ⟨_, c.out, c.host, c.log, rfl⟩
theorem Ctl.Quiet.put (c : Ctl) (p : Nat) (f : Fld) (v : Nat) : c.Quiet (c.put p f v) := ⟨_, c.out, c.host, c.log, rfl⟩
theorem Ctl.Quiet.bump (c : Ctl) (p : Nat) (f : Fld) (n : Nat) : c.Quiet (c.bump p f n) := ⟨_, c.out, c.host, c.log, rfl⟩
theorem Ctl.Quiet.logEvent (c : Ctl) (p k v : Nat) : c.Quiet (c.logEvent p k v) := by
  obtain ⟨r, l, e⟩ := Ctl.logEvent_eq c p k v
  exact ⟨r, c.out, c.host, l, e⟩
theorem Ctl.Quiet.raise (c : Ctl) (p n : Nat) : c.Quiet (c.raise p n) := by
  obtain ⟨r, o, h, e⟩ := Ctl.raise_eq c p n
  exact ⟨r, o, h, c.log, e⟩
theorem Ctl.Quiet.withIrq {c : Ctl} {f : Ctl → Ctl} (h : c.Quiet (f c)) (p : Nat) (w : Bool) : c.Quiet (c.withIrq p w f) := by
  obtain ⟨o, x, e⟩ := Ctl.withIrq_eq c p w f
  obtain ⟨r, o', x', l, g⟩ := h
  exact ⟨r, o, x, l, by rw [e, g]⟩

/-- Counting an error changes registers, what leaves, what waits and the log only. -/
theorem Ctl.Quiet.errSev (c : Ctl) (p k f a v : Nat) : c.Quiet (c.errSev p k f a v) := by
  simp only [Ctl.errSev]
  split_ifs
  · exact .refl c
  · exact ((Ctl.Quiet.wr c _ _).trans (.logEvent _ _ _ _)).trans (.raise _ _ _)
  · exact (((((Ctl.Quiet.wr c _ _).trans (.wr _ _ _)).trans (.wr _ _ _)).trans (.logEvent _ _ _ _))).trans (.raise _ _ _)
  · exact ((((Ctl.Quiet.wr c _ _).trans (.wr _ _ _)).trans (.logEvent _ _ _ _))).trans (.raise _ _ _)
  · exact (Ctl.Quiet.wr c _ _).trans (.logEvent _ _ _ _)
  · exact (((Ctl.Quiet.wr c _ _).trans (.wr _ _ _)).trans (.wr _ _ _)).trans (.logEvent _ _ _ _)
  · exact ((Ctl.Quiet.wr c _ _).trans (.wr _ _ _)).trans (.logEvent _ _ _ _)

theorem Ctl.Quiet.err (c : Ctl) (p k f a : Nat) : c.Quiet (c.err p k f a) := .errSev c p k f a 0
theorem Ctl.Quiet.errHw (c : Ctl) (p k : Nat) : c.Quiet (c.errHw p k) := .errSev c p k 0 0 0

/-- Registers an error does not concern read as before. -/
theorem Ctl.rd_errSev (c : Ctl) (p k f a v : Nat) {x : Nat} (h : x ∉ errRegs p) : (c.errSev p k f a v).rd x = c.rd x := by
  simp only [errRegs, List.mem_cons, List.not_mem_nil, or_false, not_or] at h
  obtain ⟨h1, h2, h3, h4, h5, h6⟩ := h
  have hl : x ∉ logRegs := by simp [logRegs, h5, h6]
  simp only [Ctl.errSev]
  split_ifs <;> simp [Ctl.rd_logEvent, hl, h1, h2, h3, h4]

theorem Ctl.rd_errHw (c : Ctl) (p k : Nat) {x : Nat} (h : x ∉ errRegs p) : (c.errHw p k).rd x = c.rd x := Ctl.rd_errSev c p k 0 0 0 h

/-! ### Registers reset (00 R6) -/

theorem SMap.find?_filterMap {f : Nat → Option Word} (m : SMap Word) (a : Nat) :
    SMap.find? (m.filterMap fun e => (f e.1).map fun w => (e.1, w)) a = if (SMap.find? m a).isSome then f a else none := by
  induction m with
  | nil => rfl
  | cons e r ih =>
    obtain ⟨k, v⟩ := e
    rw [List.filterMap_cons]
    by_cases h : k = a
    · subst h
      cases hf : f k with
      | none => simp [hf, SMap.find?, ih]
      | some w => simp [hf, SMap.find?]
    · cases hf : f k with
      | none => simp [hf, SMap.find?, h, ih]
      | some w => simp [hf, SMap.find?, h, ih]

/-- After a reset of registers each keeps its kept bits; its others are those of its reset value. -/
theorem Ctl.rd_resetRegs (c : Ctl) (keep : Nat → Nat) (a : Nat) :
    (c.resetRegs keep).rd a = (c.rd a &&& BitVec.ofNat 32 (keep a)) ||| (rstOf a &&& ~~~(BitVec.ofNat 32 (keep a))) := by
  let f (k : Nat) : Option Word :=
    let w := (c.rd k &&& BitVec.ofNat 32 (keep k)) ||| (rstOf k &&& ~~~(BitVec.ofNat 32 (keep k)))
    if w = rstOf k then none else some w
  have hf : (c.resetRegs keep).regs = c.regs.filterMap fun e => (f e.1).map fun w => (e.1, w) := by
    simp only [Ctl.resetRegs]
    congr 1
    funext e
    simp only [f]
    split_ifs <;> rfl
  rw [Ctl.rd, hf, SMap.find?_filterMap]
  by_cases h : (SMap.find? c.regs a).isSome
  · simp only [h, if_true, f]
    split_ifs with g
    · rw [g]; rfl
    · rfl
  · have h' : SMap.find? c.regs a = none := by simpa using h
    have : c.rd a = rstOf a := by simp [Ctl.rd, h']
    simp only [h, this, Bool.false_eq_true, if_false, Option.getD_none]
    ext i
    simp
    cases (rstOf a)[i] <;> simp

@[simp] theorem Ctl.resetRegs_boot (c : Ctl) (k : Nat → Nat) : (c.resetRegs k).boot = c.boot := rfl
@[simp] theorem Ctl.resetRegs_host (c : Ctl) (k : Nat → Nat) : (c.resetRegs k).host = c.host := rfl

end Sys2Proof.Machine
end

