-- ==== Sys2Proof/Laws/Bus.lean ====
section
/-!
SUPPORT. Writes of BAR0: which page an address names, when a write reaches its page, and what it does there.
-/
namespace Sys2Proof.Machine

/-! ### The page an address names (02 R32, R33) -/

/-- An offset of a page names that page. -/
theorem place_add {p off : Nat} (hp : p % 0x1000 = 0) (h : off < 0x1000) : place (p + off) = placeAt p off := by
  have h1 : (p + off) % 0x1000 = off := by omega
  rw [place, h1, Nat.add_sub_cancel]

theorem place_rim {n off : Nat} (hn : n < 18) (h : off < 0x1000) :
    place (n * 0x1000 + off) = .page (rimKind n) (if 11 ≤ n ∧ n ≤ 14 then n - 11 else 0) (n * 0x1000) off := by
  have h3 : n * 0x1000 / 0x1000 = n := by omega
  have h4 : n * 0x1000 < 0x12000 := by omega
  rw [place_add (by omega) h]
  simp only [placeAt, h3, h4, if_true]

theorem place_stage {s off : Nat} (hs : s < 12) (h : off < 0x1000) :
    place (stagePage s + off) = .page .stage s (stagePage s) off := by
  have h3 : (stagePage s - 0x100000) / 0x1000 = s := by simp only [stagePage]; omega
  have h4 : ¬ stagePage s < 0x12000 := by simp only [stagePage]; omega
  have h5 : 0x100000 ≤ stagePage s ∧ stagePage s < 0x10C000 := by simp only [stagePage]; omega
  rw [place_add (by simp only [stagePage]; omega) h]
  simp only [placeAt, h3, h4, h5, if_false, and_self, if_true]

theorem place_clu {c k off : Nat} {q : PageKind} (hc : c < 24) (hk : k < 16) (hq : cluKind k = some q) (h : off < 0x1000) :
    place (cluPage c k + off) = .page q c (cluPage c k) off := by
  have h3 : (cluPage c k - 0x200000) / 0x10000 = c := by simp only [cluPage]; omega
  have h6 : cluPage c k % 0x10000 / 0x1000 = k := by simp only [cluPage]; omega
  have h4 : ¬ cluPage c k < 0x12000 := by simp only [cluPage]; omega
  have h5 : ¬ (0x100000 ≤ cluPage c k ∧ cluPage c k < 0x10C000) := by simp only [cluPage]; omega
  have h7 : 0x200000 ≤ cluPage c k ∧ cluPage c k < 0x380000 := by simp only [cluPage]; omega
  rw [place_add (by simp only [cluPage]; omega) h]
  simp only [placeAt, h3, h4, h5, h6, h7, hq, if_false, and_self, if_true]

theorem place_hbm {c off : Nat} (hc : c < 12) (h : off < 0x1000) :
    place (hbmPage c + off) = .page .hbm c (hbmPage c) off := by
  have h3 : (hbmPage c - 0x400000) / 0x10000 = c := by simp only [hbmPage]; omega
  have h6 : hbmPage c % 0x10000 < 0x1000 := by simp only [hbmPage]; omega
  have h4 : ¬ hbmPage c < 0x12000 := by simp only [hbmPage]; omega
  have h5 : ¬ (0x100000 ≤ hbmPage c ∧ hbmPage c < 0x10C000) := by simp only [hbmPage]; omega
  have h7 : ¬ (0x200000 ≤ hbmPage c ∧ hbmPage c < 0x380000) := by simp only [hbmPage]; omega
  have h8 : 0x400000 ≤ hbmPage c ∧ hbmPage c < 0x4C0000 := by simp only [hbmPage]; omega
  rw [place_add (by simp only [hbmPage]; omega) h]
  simp only [placeAt, h3, h4, h5, h6, h7, h8, if_false, and_self, if_true]

theorem place_port {c off : Nat} (hc : c < 16) (h : off < 0x1000) :
    place (portPage c + off) = .page .port c (portPage c) off := by
  have h3 : (portPage c - 0x600000) / 0x10000 = c := by simp only [portPage]; omega
  have h6 : portPage c % 0x10000 < 0x1000 := by simp only [portPage]; omega
  have h4 : ¬ portPage c < 0x12000 := by simp only [portPage]; omega
  have h5 : ¬ (0x100000 ≤ portPage c ∧ portPage c < 0x10C000) := by simp only [portPage]; omega
  have h7 : ¬ (0x200000 ≤ portPage c ∧ portPage c < 0x380000) := by simp only [portPage]; omega
  have h8 : ¬ (0x400000 ≤ portPage c ∧ portPage c < 0x4C0000) := by simp only [portPage]; omega
  have h9 : 0x600000 ≤ portPage c ∧ portPage c < 0x700000 := by simp only [portPage]; omega
  rw [place_add (by simp only [portPage]; omega) h]
  simp only [placeAt, h3, h4, h5, h6, h7, h8, h9, if_false, and_self, if_true]

theorem place_pcie {off : Nat} (h : off < 0x1000) : place (pciePage + off) = .page .pcie 0 pciePage off := by
  rw [place_add (by decide) h]
  rfl

theorem place_tile {t k off : Nat} {q : PageKind} (ht : t < 1920) (hk : k < 16) (hq : tileKind (isSTile t) k = some q) (h : off < 0x1000) :
    place (tilePage t k + off) = .page q t (tilePage t k) off := by
  have h3 : (tilePage t k - 0x8000000) / 0x10000 = t := by simp only [tilePage]; omega
  have h6 : tilePage t k % 0x10000 / 0x1000 = k := by simp only [tilePage]; omega
  have h4 : ¬ tilePage t k < 0x12000 := by simp only [tilePage]; omega
  have h5 : ¬ (0x100000 ≤ tilePage t k ∧ tilePage t k < 0x10C000) := by simp only [tilePage]; omega
  have h7 : ¬ (0x200000 ≤ tilePage t k ∧ tilePage t k < 0x380000) := by simp only [tilePage]; omega
  have h8 : ¬ (0x400000 ≤ tilePage t k ∧ tilePage t k < 0x4C0000) := by simp only [tilePage]; omega
  have h9 : ¬ (0x600000 ≤ tilePage t k ∧ tilePage t k < 0x700000) := by simp only [tilePage]; omega
  have ha : ¬ (0x700000 ≤ tilePage t k ∧ tilePage t k < 0x701000) := by simp only [tilePage]; omega
  have hb : ¬ (0x780000 ≤ tilePage t k ∧ tilePage t k < 0x781000) := by simp only [tilePage]; omega
  have hc : 0x8000000 ≤ tilePage t k ∧ tilePage t k < 0xF800000 := by simp only [tilePage]; omega
  rw [place_add (by simp only [tilePage]; omega) h]
  simp only [placeAt, h3, h4, h5, h6, h7, h8, h9, ha, hb, hc, hq, if_false, and_self, if_true]

/-- The page of an address: the tile it belongs to is the page's. -/
theorem addrTile_add {base off : Nat} (hb : base % 0x1000 = 0) (h : off < 0x1000) : addrTile (base + off) = addrTile base := by
  simp only [addrTile]
  by_cases g : 0x8000000 ≤ base ∧ base < 0xF800000
  · have : 0x8000000 ≤ base + off ∧ base + off < 0xF800000 := by omega
    rw [if_pos g, if_pos this, show (base + off - 0x8000000) / 0x10000 = (base - 0x8000000) / 0x10000 by omega]
  · have : ¬ (0x8000000 ≤ base + off ∧ base + off < 0xF800000) := by omega
    rw [if_neg g, if_neg this]

theorem placeAt_base {p q i off o : Nat} {k : PageKind} (h : placeAt p off = .page k i q o) : q = p ∧ o = off := by
  simp only [placeAt] at h
  split_ifs at h <;> (try split at h) <;> simp_all

theorem placeAt_off {p i off o : Nat} {k : PageKind} (h : placeAt p o = .page k i p o) : placeAt p off = .page k i p off := by
  simp only [placeAt] at h ⊢
  split_ifs at h ⊢ <;> (try split at h) <;> simp_all

theorem place_base {p i o q : Nat} {k : PageKind} (h : place p = .page k i q o) : q = p - p % 0x1000 ∧ o = p % 0x1000 := placeAt_base h

/-- Every register of a page is in that page. -/
theorem place_off {p off i : Nat} {k : PageKind} (h : place p = .page k i p 0) (ho : off < 0x1000) :
    place (p + off) = .page k i p off := by
  have hb : p % 0x1000 = 0 := (place_base h).2.symm
  rw [place_add hb ho]
  have h' : placeAt p 0 = .page k i p 0 := by rw [← place_add hb (by omega)]; exact h
  exact placeAt_off h'

/-- Step 1 refuses no register of a page's header. -/
theorem reachCode_header {a : Acc} {k : PageKind} {i off : Nat} (h : off < 0x40) : reachCode a k i off = 0 := by
  cases k <;> simp only [reachCode] <;> (try split_ifs) <;> first | rfl | (exfalso; omega) | (rename_i g; simp [pfOnly] at g; omega)

/-! ### A write that reaches its page (02 R45) -/

/-- A write by a function that reaches the page passes the checks of who reaches what. -/
theorem Blk.busWrite_page {b : Blk} {fn : Fn} {base off i : Nat} {k : PageKind} (h : b.ctl.reaches fn base)
    (hp : place (base + off) = .page k i base off) (hb : base % 0x1000 = 0) (ho : off < 0x1000)
    (hr : reachCode { who := fn.num, addr := base + off } k i off = 0) (be : Bool) (w : Word) (e : List Ecc) :
    b.busWrite fn.num (base + off) be w e = b.pageWrite k i base off { who := fn.num, addr := base + off } be w e := by
  have hg : b.ctl.gateOf { who := fn.num, addr := base + off } true = .pass k i base off := by
    obtain ⟨h1, h2, h3⟩ := h
    have hoff : (match addrTile (base + off) with | some t => b.ctl.tileOff t | none => false) = false := by
      rw [addrTile_add hb ho]
      split
      · rename_i t ht
        have := h2 t ht
        simpa [Ctl.tileGood] using this
      · rfl
    cases fn with
    | pf =>
      simp only [Fn.num] at hr ⊢
      simp [Ctl.gateOf, Acc.isVf, h1, hp, hr]
      exact hoff
    | vf s =>
      have hs := s.isLt
      have hw : (Fn.vf s).num = s.val + 1 := rfl
      rw [hw] at hr ⊢
      have hvf : Acc.isVf { who := s.val + 1, addr := base + off } = true := by
        simp only [Acc.isVf, Bool.and_eq_true, decide_eq_true_eq]; omega
      simp [Ctl.gateOf, hvf, h1, hp, hr, h3.1, h3.2]
      exact hoff
  simp only [Blk.busWrite, hg]

/-- What `pageWrite` does to a register that no lock and no check stands before. -/
theorem Blk.pageWrite_free {b : Blk} {k : PageKind} {i base off : Nat} {a : Acc} {d : RegDef} (hd : regDef k off = some d)
    (hm : b.ctl.mirynGone k = false) (hv : b.ctl.recovOff k off = false) (hr : reservedOff off = false) (ha : regAllRO d = false)
    (hl : off ≠ 0x28) (hk : d.lk = 0 ∨ b.ctl.unlocked base) (w : Word) (e : List Ecc) :
    b.pageWrite k i base off a true w e =
      (b.onCtl fun c => c.unpair base).apply k i base off a d w (SMap.find? b.ctl.hold base) e := by
  have h1 : (b.onCtl fun c => c.unpair base).ctl.mirynGone k = false := hm
  have h2 : (b.onCtl fun c => c.unpair base).ctl.recovOff k off = false := hv
  have h3 : (bit ((b.onCtl fun c => c.unpair base).ctl.rd (base + 0x28)) 0 && d.lk != 0) = false := by
    rcases hk with h | h
    · simp [h]
    · have : bit ((b.ctl.unpair base).rd (base + 0x28)) 0 = false := h
      simp [this]
  simp only [Blk.pageWrite, h1, h2, hd, hr, ha, hl, h3, Bool.not_true, if_false, Bool.false_eq_true]

/-- A command that is a write of a register: it runs, and does what `apply` says. -/
theorem write_runs {i : Instr} {s : State} {fn : Fn} {k : PageKind} {n base off : Nat} {d : RegDef} {w : Word} {e : List Ecc}
    (hi : exec i s = s.write fn (base + off) w e) (h : s.blk.ctl.reaches fn base)
    (hp : place (base + off) = .page k n base off) (hb : base % 0x1000 = 0) (ho : off < 0x1000)
    (hr : reachCode { who := fn.num, addr := base + off } k n off = 0) (hd : regDef k off = some d)
    (hm : s.blk.ctl.mirynGone k = false) (hv : s.blk.ctl.recovOff k off = false) (hres : reservedOff off = false)
    (ha : regAllRO d = false) (hl : off ≠ 0x28) (hk : d.lk = 0 ∨ s.blk.ctl.unlocked base) :
    Runs i s ((s.blk.onCtl fun c => c.unpair base).apply k n base off { who := fn.num, addr := base + off } d w
      (SMap.find? s.blk.ctl.hold base) e) := by
  rw [Runs, hi, State.write, State.on_eq, Blk.busWrite_page h hp hb ho hr, Blk.pageWrite_free hd hm hv hres ha hl hk]

/-! ### Clear registers -/

theorem mem_regsIn {base : Nat} {r : Nat × Nat} {a : Nat} :
    a ∈ regsIn base r ↔ ∃ i, i < (r.2 - r.1) / 4 + 1 ∧ a = base + r.1 + 4 * i := by
  simp [regsIn, eq_comm]

/-- Registers of several ranges set to 0, and no other. -/
theorem Ctl.rd_zeroRanges (l : List (Nat × Nat)) (c : Ctl) (base a : Nat) :
    (l.foldl (fun c (r : Nat × Nat) => c.zeroRange base r.1 r.2) c).rd a = if a ∈ regsAll base l then 0 else c.rd a := by
  induction l generalizing c with
  | nil => simp [regsAll]
  | cons r l ih =>
    rw [List.foldl_cons, ih, Ctl.rd_zeroRange]
    have hm : a ∈ regsAll base (r :: l) ↔ (∃ i, i < (r.2 - r.1) / 4 + 1 ∧ a = base + r.1 + 4 * i) ∨ a ∈ regsAll base l := by
      simp [regsAll, mem_regsIn]
    rw [if_congr hm rfl rfl]
    by_cases h2 : a ∈ regsAll base l
    · rw [if_pos h2, if_pos (.inr h2)]
    · rw [if_neg h2]
      split_ifs with h1 h3 h3
      · rfl
      · exact absurd (.inl h1) h3
      · exact absurd (h3.resolve_right h2) h1
      · rfl

theorem Ctl.zeroRanges_eq (l : List (Nat × Nat)) (c : Ctl) (base : Nat) :
    ∃ r, l.foldl (fun c (r : Nat × Nat) => c.zeroRange base r.1 r.2) c = { c with regs := r } := by
  induction l generalizing c with
  | nil => exact ⟨c.regs, rfl⟩
  | cons r l ih =>
    obtain ⟨x, hx⟩ := Ctl.zeroRange_eq c base r.1 r.2
    obtain ⟨y, hy⟩ := ih (c.zeroRange base r.1 r.2)
    exact ⟨y, by rw [List.foldl_cons, hy, hx]⟩

/-- A write of 1 to a clear register clears its counters and changes nothing else. -/
theorem clear_write {i : Instr} {s : State} {fn : Fn} {k : PageKind} {n base off : Nat} {d : RegDef} {l : List (Nat × Nat)}
    (hi : exec i s = s.write fn (base + off) 1) (h : s.blk.ctl.reaches fn base)
    (hp : place (base + off) = .page k n base off) (hb : base % 0x1000 = 0) (ho : off < 0x1000)
    (hr : reachCode { who := fn.num, addr := base + off } k n off = 0) (hd : regDef k off = some d)
    (hm : s.blk.ctl.mirynGone k = false) (hv : k ≠ .miryn) (hw : d.wo = 1 ∧ d.lk = 0) (ho2 : 0x40 ≤ off)
    (hl : clearRanges k off = l) (hne : l ≠ []) : Clears i s base l := by
  have hrec : s.blk.ctl.recovOff k off = false := by simp [Ctl.recovOff, hv]
  have hres : reservedOff off = false := by simp [reservedOff]; omega
  have hro : regAllRO d = false := by simp [regAllRO, hw.1]
  have hap : ∀ (b : Blk) a held e, b.apply k n base off a d 1 held e = b.onCtl fun c => c.clearCounts k base off := by
    intro b a held e
    have hx : (clearRanges k off).isEmpty = false := by rw [hl]; cases l with | nil => exact absurd rfl hne | cons _ _ => rfl
    have h1 : bit (1#32) 0 = true := by decide
    unfold Blk.apply
    split <;> first | (exfalso; omega) | simp [hx, h1]
  have he : exec i s = .next { s with blk := (s.blk.onCtl fun c => c.unpair base).onCtl fun c => c.clearCounts k base off } := by
    rw [hi, State.write, State.on_eq, Blk.busWrite_page h hp hb ho hr, Blk.pageWrite_free hd hm hrec hres hro (by omega) (.inl hw.2), hap]
  refine ⟨_, he, ⟨?_, ?_⟩, ?_⟩
  · obtain ⟨x, hx⟩ := Ctl.zeroRanges_eq l (s.blk.ctl.unpair base) base
    simp only [Ctl.clearCounts, hl, Blk.onCtl, hx, Ctl.withRegs]
  · intro r hr'
    simp only [Blk.onCtl_ctl, Ctl.clearCounts, hl, Ctl.rd_zeroRanges, if_neg hr']
  · intro r hr'
    simp only [Blk.onCtl_ctl, Ctl.clearCounts, hl, Ctl.rd_zeroRanges, if_pos hr']

end Sys2Proof.Machine
end

