-- ==== Sys2Proof/Laws/Memory.lean ====
section
/-!
SUPPORT. Byte memories: what each operation does to a byte and to a mark, and that each keeps the canonical form.
-/
namespace Sys2Proof.Machine

/-! ### Sorted lists of word numbers -/

theorem sortedNats_cons {a : Nat} {l : List Nat} : sortedNats (a :: l) = true ↔ (∀ b ∈ l.head?, a < b) ∧ sortedNats l = true := by
  cases l with
  | nil => simp [sortedNats]
  | cons b r => simp [sortedNats]

theorem sortedNats_iff (l : List Nat) : sortedNats l = true ↔ l.Pairwise (· < ·) := by
  induction l with
  | nil => simp [sortedNats]
  | cons a r ih =>
    rw [sortedNats_cons, ih, List.pairwise_cons]
    constructor
    · rintro ⟨h, hp⟩
      refine ⟨?_, hp⟩
      cases r with
      | nil => simp
      | cons b t =>
        intro c hc
        have hb : a < b := h b rfl
        rcases List.mem_cons.mp hc with rfl | hc
        · exact hb
        · exact lt_trans hb ((List.pairwise_cons.mp hp).1 c hc)
    · rintro ⟨h, hp⟩
      refine ⟨?_, hp⟩
      intro b hb
      exact h b (List.mem_of_mem_head? hb)

theorem sortedNats_insert {l : List Nat} (h : sortedNats l = true) (k : Nat) : sortedNats (insertNat k l) = true := by
  rw [sortedNats_iff] at *
  induction l with
  | nil => simp [insertNat]
  | cons a r ih =>
    obtain ⟨ha, hr⟩ := List.pairwise_cons.mp h
    simp only [insertNat]
    split_ifs with e g
    · exact h
    · exact List.pairwise_cons.mpr ⟨fun b hb => (List.mem_cons.mp hb).elim (fun e => e ▸ g) (fun hb => lt_trans g (ha b hb)), h⟩
    · refine List.pairwise_cons.mpr ⟨fun b hb => ?_, ih hr⟩
      rcases mem_insertNat.mp hb with rfl | hb
      · omega
      · exact ha b hb

theorem sortedNats_filter {l : List Nat} (h : sortedNats l = true) (f : Nat → Bool) : sortedNats (l.filter f) = true := by
  rw [sortedNats_iff] at *
  exact h.filter f

/-! ### Bytes and marks -/

@[simp] theorem Mem.byte_setByte (m : Mem) (a : Nat) (v : Byte) (x : Nat) :
    (m.setByte a v).byte x = if x = a then v else m.byte x := SMap.get_set 0 m.cells a x v

/-- A byte outside those stored reads as before. -/
theorem Mem.byte_setBytes_off (l : List Byte) (m : Mem) (a x : Nat) (h : x < a ∨ a + l.length ≤ x) :
    (m.setBytes a l).byte x = m.byte x := by
  induction l generalizing m a with
  | nil => rfl
  | cons b r ih =>
    simp only [List.length_cons] at h
    rw [Mem.setBytes, ih (m.setByte a b) (a + 1) (by omega), Mem.byte_setByte, if_neg (by omega)]

/-- A byte stored reads as it was stored. -/
theorem Mem.byte_setBytes (l : List Byte) (m : Mem) (a i : Nat) (h : i < l.length) :
    (m.setBytes a l).byte (a + i) = l.getD i 0 := by
  induction l generalizing m a i with
  | nil => simp at h
  | cons b r ih =>
    rw [Mem.setBytes]
    cases i with
    | zero => rw [Mem.byte_setBytes_off r _ (a + 1) (a + 0) (by omega), Mem.byte_setByte]; simp
    | succ n =>
      rw [List.length_cons] at h
      have e : a + (n + 1) = a + 1 + n := by omega
      rw [e, ih (m.setByte a b) (a + 1) n (by omega)]
      simp

@[simp] theorem Mem.byte_setBad (m : Mem) (w : Nat) (b : Bool) (x : Nat) : (m.setBad w b).byte x = m.byte x := rfl
@[simp] theorem Mem.byte_setWritten (m : Mem) (w x : Nat) : (m.setWritten w).byte x = m.byte x := rfl

@[simp] theorem Mem.isBad_setBad (m : Mem) (w : Nat) (b : Bool) (x : Nat) :
    (m.setBad w b).isBad x = if x = w then b else m.isBad x := by
  cases b <;> by_cases h : x = w <;> simp [Mem.isBad, Mem.setBad, h, mem_insertNat]

/-- What a write of a run does to a byte (06 R149). -/
theorem Mem.byte_write (m : Mem) (a : Nat) (r : Run) (x : Nat) : (m.write a r).byte x = (m.setBytes a r.bytes).byte x := by
  have key : ∀ (l : List (Nat × Bool)) (k : Mem), (l.foldl (fun m e => (m.setWritten e.1).setBad e.1 e.2) k).byte x = k.byte x := by
    intro l
    induction l with
    | nil => intro k; rfl
    | cons e l ih => intro k; rw [List.foldl_cons, ih]; simp
  exact key _ _

/-- What a store of a run into an HBM stack does to a byte (11 R281). -/
theorem Mem.byte_store (m : Mem) (a : Nat) (r : Run) (x : Nat) : (m.store a r).byte x = (m.setBytes a r.bytes).byte x := by
  have key : ∀ (l : List (Nat × Bool)) (k : Mem), (l.foldl (fun m e => m.setBad e.1 e.2) k).byte x = k.byte x := by
    intro l
    induction l with
    | nil => intro k; rfl
    | cons e l ih => intro k; rw [List.foldl_cons, ih]; simp
  exact key _ _

/-! ### The canonical form -/

theorem Mem.wf_iff (m : Mem) : m.wf = true ↔
    SMap.wf (0 : Byte) m.cells = true ∧ sortedNats m.written = true ∧ sortedNats m.poison = true := by
  simp [Mem.wf, and_assoc]

theorem Mem.wf_empty : ({} : Mem).wf = true := rfl

theorem Mem.wf_setByte {m : Mem} (h : m.wf = true) (a : Nat) (v : Byte) : (m.setByte a v).wf = true := by
  rw [Mem.wf_iff] at *
  exact ⟨SMap.wf_set h.1 a v, h.2⟩

theorem Mem.wf_setBytes (l : List Byte) {m : Mem} (h : m.wf = true) (a : Nat) : (m.setBytes a l).wf = true := by
  induction l generalizing m a with
  | nil => exact h
  | cons b r ih => exact ih (Mem.wf_setByte h a b) (a + 1)

theorem Mem.wf_setBad {m : Mem} (h : m.wf = true) (w : Nat) (b : Bool) : (m.setBad w b).wf = true := by
  rw [Mem.wf_iff] at *
  refine ⟨h.1, h.2.1, ?_⟩
  cases b
  · exact sortedNats_filter h.2.2 _
  · exact sortedNats_insert h.2.2 w

theorem Mem.wf_setWritten {m : Mem} (h : m.wf = true) (w : Nat) : (m.setWritten w).wf = true := by
  rw [Mem.wf_iff] at *
  exact ⟨h.1, sortedNats_insert h.2.1 w, h.2.2⟩

theorem Mem.wf_write {m : Mem} (h : m.wf = true) (a : Nat) (r : Run) : (m.write a r).wf = true := by
  have key : ∀ (l : List (Nat × Bool)) (k : Mem), k.wf = true → (l.foldl (fun m e => (m.setWritten e.1).setBad e.1 e.2) k).wf = true := by
    intro l
    induction l with
    | nil => exact fun _ h => h
    | cons e l ih => exact fun k hk => ih _ (Mem.wf_setBad (Mem.wf_setWritten hk e.1) e.1 e.2)
  exact key _ _ (Mem.wf_setBytes r.bytes h a)

theorem Mem.wf_store {m : Mem} (h : m.wf = true) (a : Nat) (r : Run) : (m.store a r).wf = true := by
  have key : ∀ (l : List (Nat × Bool)) (k : Mem), k.wf = true → (l.foldl (fun m e => m.setBad e.1 e.2) k).wf = true := by
    intro l
    induction l with
    | nil => exact fun _ h => h
    | cons e l ih => exact fun k hk => ih _ (Mem.wf_setBad hk e.1 e.2)
  exact key _ _ (Mem.wf_setBytes r.bytes h a)

/-- A unit's write keeps its scratchpad in the canonical form. -/
theorem Tile.wf_spWrite {x : Tile} (h : x.sp.mem.wf = true) (a : Nat) (r : Run) : (x.spWrite a r).sp.mem.wf = true := Mem.wf_write h a r

/-- A stack replaced by one in the canonical form leaves every stack in it. -/
theorem Blk.wf_setStack {b : Blk} (h : ∀ k, (b.stack k).wf = true) {m : Mem} (hm : m.wf = true) (n : Nat) :
    ∀ k, ((b.setStack n m).stack k).wf = true := by
  intro k
  have e : (b.setStack n m).stack k = if k = n then m else b.stack k := SMap.get_set ({} : Mem) b.hbm n k m
  rw [e]
  split_ifs
  · exact hm
  · exact h k

end Sys2Proof.Machine
end

