-- ==== Sys2Proof/Laws/Tile.lean ====
section
/-!
SUPPORT. Tiles and cores: what setting a core or a register does, what holding and opening a tile does, what a write of a keep
word answers.
-/
namespace Sys2Proof.Machine

/-! ### Cores -/

/-- Register 0 reads 0; another reads as written (07 R181). -/
theorem Core.reg_setReg (c : Core) (hx : c.x.length = 32) (r q : Reg) (v : Word) :
    (c.setReg r v).reg q = if q = r ∧ q ≠ 0 then v else c.reg q := by
  have hq := q.isLt
  have hr := r.isLt
  by_cases h0 : r = 0
  · subst h0
    by_cases h : q = 0 <;> simp [Core.setReg, h]
  · have hr0 : (r : Nat) ≠ 0 := fun e => h0 (Fin.ext e)
    by_cases h : q = 0
    · subst h; simp [Core.reg]
    · have hq0 : (q : Nat) ≠ 0 := fun e => h (Fin.ext e)
      by_cases e : q = r
      · subst e; simp [Core.reg, Core.setReg, hq0, h, hx, hq]
      · have ne : (r : Nat) ≠ q := fun g => e (Fin.ext g.symm)
        simp [Core.reg, Core.setReg, hr0, hq0, e, List.getElem?_set_ne ne]

theorem Core.setReg_length (c : Core) (r : Nat) (v : Word) : (c.setReg r v).x.length = c.x.length := by
  simp only [Core.setReg]; split_ifs <;> simp

@[simp] theorem Tile.core_setCore (x : Tile) (k : Nat) (c : Core) : (x.setCore k c).core k = c := by
  by_cases h : k = 0 <;> simp [Tile.setCore, Tile.core, h]

/-! ### Holding and opening a tile (16 R414, R439) -/

/-- A tile held: it is empty behind its wrapper but for what its schedule carries; no other tile and no stack changes. -/
theorem Blk.tile_holdTile (b : Blk) (t u : Nat) :
    (b.holdTile t).tile u = if u = t then { mix := { (b.tile t).mix with inj := [] } } else b.tile u := by
  simp only [Blk.holdTile, Blk.setTile_tile]
  split_ifs <;> rfl

theorem Blk.holdTile_hbm (b : Blk) (t : Nat) : (b.holdTile t).hbm = b.hbm := rfl

/-- Opening a tile changes that tile alone, and nothing of it but its wrapper and its cores. -/
theorem Blk.openTile_cases (b : Blk) (t : Nat) :
    ((b.tile t).wrapped = false ∨ b.ctl.tileOff t = true) ∧ b.openTile t = b ∨
    ((b.tile t).wrapped = true ∧ b.ctl.tileOff t = false) ∧ ∃ c d,
      b.openTile t = b.setTile t { b.tile t with wrapped := false, core0 := c, core1 := d } ∧ c.run = true ∧ c.pc = b.ctl.rd (seqPage t + F.SEQ_CORE_ENTRY0.off) := by
  cases h : (b.tile t).wrapped
  · exact .inl ⟨.inl rfl, by simp [Blk.openTile, h]⟩
  · cases g : b.ctl.tileOff t
    · exact .inr ⟨⟨rfl, rfl⟩, _, _, by simp [Blk.openTile, h, g]; rfl, rfl, rfl⟩
    · exact .inl ⟨.inr rfl, by simp [Blk.openTile, g]⟩

/-! ### The keep array (16 R418, R419) -/

/-- A write of a keep word that is queued: the word reads as written, the others as before. -/
theorem Keep.read_append (k : Keep) (i j : Nat) (w : Word) :
    ({ k with queue := k.queue ++ [(i, w)] } : Keep).read j = if j = i then w else k.read j := by
  by_cases h : j = i
  · subst h; simp [Keep.read]
  · have e : (i == j) = false := by simpa using fun g => h g.symm
    simp [Keep.read, h, e, Keep.stored]

/-- Everything a write of a keep word can do: nothing (refused, or the value it has), or to queue it. -/
theorem Ctl.keepWrite_cases (c : Ctl) (m : Bool) (fn addr i : Nat) (w : Word) :
    (c.keepWrite m fn addr i w).1.keep = c.keep ∧ ((c.keepWrite m fn addr i w).2 = true → c.keepWord i = w) ∨
    c.keepWrite m fn addr i w = ({ c with keep := { c.keep with queue := c.keep.queue ++ [(i, w)] } }, true) := by
  have err (p k f a : Nat) (c : Ctl) : (c.err p k f a).keep = c.keep := by
    obtain ⟨r, o, h, l, e⟩ := Ctl.Quiet.err c p k f a
    rw [e]
  have raise (p n : Nat) (c : Ctl) : (c.raise p n).keep = c.keep := by
    obtain ⟨r, o, h, e⟩ := Ctl.raise_eq c p n
    rw [e]
  simp only [Ctl.keepWrite]
  split_ifs with h1 h2 h3 h4
  · exact .inl ⟨err _ _ _ _ c, by simp⟩
  · exact .inl ⟨rfl, fun _ => h2⟩
  · exact .inl ⟨err _ _ _ _ c, by simp⟩
  · exact .inl ⟨(raise _ _ _).trans ((err _ _ _ _ _).trans rfl), by simp⟩
  · exact .inr rfl

end Sys2Proof.Machine
end

