-- ==== Sys2Proof/WellFormed.lean ====
section
/-!
DEFINITION. Well-formed commands: those a sender of the LZ6 can give (log 7). The meanings are total: only the first check, a unit
the tile lacks, stops a command; the others say which operands mean something.
-/
namespace Sys2Proof
open Sys2Proof.Machine

/-- The unit a command names is in its tile: arrays in M-tiles, the gather engine and control core 1 in S-tiles (01 R11, 03 R57, 07 R181, 09 R219). -/
def Instr.unitThere : Instr → Bool
  | .matrixInstruction t _ | .arrayRowEnter t _ _ _ | .accRowWrite t | .weightLoaderDescriptor t _ | .weightBufferFree t
  | .weightBlockUsable t _ | .feederRowRequest t _ _ | .feederDescriptorCross t _ _ | .arrCntClear _ t
  | .sparseCtrlClear _ t _ => !isSTile t
  | .gatherDescriptor t _ | .gatherBag t _ | .gatherBagComplete t _ | .gatherRemoteRequest t _ _ | .hitCacheInvalidate _ t
  | .gathCntClear _ t => isSTile t
  | .fenceI t k | .shotStart t k _ _ | .slAdd t k _ _ | .slWait t k _ | .slRead t k _ _ | .slSig t k _ _ | .sumTake t k _
  | .predSet t k _ _ | .slArm t k _ _ | .slPoll t k _ _ | .sumFlags t k _ | .predClr t k _ | .coreLoadStore t k _ _ _ _ _ => k == 0 || isSTile t
  | _ => true

/-- A command that names a whole page names its first offset, a register access a 32-bit register (02 R34, R35). -/
def Instr.aligned : Instr → Bool
  | .registerWrite _ a _ _ _ => a.toNat % 4 == 0
  | .lockPage _ p _ | .unlockPage _ p | .errCountClear _ p | .irqStatusWrite _ p _ | .irqEnableWrite _ p _ => p.toNat % 4096 == 0
  | _ => true

/-- Operands that come in a fixed number are that many: a value for each rail, sensor and stand-in (14 R357, R381, 15 R397). -/
def Instr.counted : Instr → Bool
  | .powerTick est _ _ _ _ _ => est.length == 32
  | .sensorRead l => l.length == 104
  | .standinSample _ l => l.length == 8
  | _ => true

/-- Operands that have a range keep to it: bytes of a TLP (13 R343), the fields of a request (12 R309, R310), an image inside its tile (16 R426),
codes of a telemetry reading (14 R358). -/
def Instr.inRange : Instr → Bool
  | .pairLowRead _ _ n => decide (1 ≤ n.val)
  | .bar2Read _ _ n _ => decide (1 ≤ n.val)
  | .bar2Write _ _ d _ _ => decide (1 ≤ d.length) && decide (d.length ≤ 4096)
  | .hostCompletion _ _ ok _ l => !ok || (decide (1 ≤ l.length) && decide (l.length ≤ 4096))
  | .telemetryReading _ _ mv ma => decide (mv < 2 ^ 16) && decide (ma < 2 ^ 32)
  | .freqRestart _ ns => decide (ns ≤ 2000)
  | .residentCallSheet m n regs _ =>
    m.all (fun e => decide (e.1 + e.2.length ≤ 0x200000)) && n.all (fun e => decide (e.1 + e.2.length ≤ 0x400000)) &&
      regs.all fun e => e.1 % 4 == 0 && decide (e.1 < 0x10000)
  | _ => true

/-- A well-formed command. -/
def Instr.wf (i : Instr) : Bool := i.unitThere && i.aligned && i.counted && i.inRange

end Sys2Proof
end

