-- ==== Sys2Proof/Tests/Slice0.lean ====
section
/-!
SUPPORT. The tests: ill-formed commands are refused; single steps against the spec's own words; for each statement a concrete state that
meets its premises, clause by clause.
-/
namespace Sys2Proof.Tests
open Sys2Proof.Machine
set_option Elab.async false

/-! ### Helpers -/

/-- `Ctl.reaches` as a test. -/
def reachesB (c : Ctl) (fn : Fn) (base : Nat) : Bool :=
  c.ready && (match addrTile base with | some t => c.tileGood t | none => true) &&
    match fn with
    | .pf => true
    | .vf s => c.fnExists (s.val + 1) && c.pageStage base == some s.val

theorem reaches_iff (c : Ctl) (fn : Fn) (base : Nat) : c.reaches fn base ↔ reachesB c fn base = true := by
  unfold Ctl.reaches reachesB
  cases addrTile base <;> cases fn <;> simp [and_assoc]

/-- READY with Miryn running, no reset in progress. -/
def base : Ctl :=
  ({ boot := { pwrOk := true, resetLow := false, perstLow := false, running := .none, start := .none } } : Ctl).wr (rstPage + 0x14) 0xC0000000

/-- Some registers set. -/
def Regs (c : Ctl) (l : List (Nat × Word)) : Ctl := l.foldl (fun c e => c.wr e.1 e.2) c

/-- A state with no command waiting. -/
def St (c : Ctl) (tiles : SMap Tile := []) (hbm : SMap Mem := []) : State := ⟨[], { ctl := c, tiles := tiles, hbm := hbm }⟩

/-- Stage 0 on cluster 0, in the state `n` of RUNSTATE, loaded. -/
def staged (n : Nat) : Ctl := Regs base [(stagePage 0 + 0x40, 0x80000000), (stagePage 0 + 0x44, BitVec.ofNat 32 (0x100 + n))]

/-- An open tile. -/
def open_ : Tile := { wrapped := false, init := false }

/-- Stage 0's virtual function exists. -/
def withVf (c : Ctl) : Ctl := { c with host := { c.host with vfEnable := true, numVfs := 1 } }

/-- What taking a queue's head makes ready passes a test. -/
def readyTest (x : Taken) (p : Desc → Blk → Bool) : Bool := match x with | .ready d b => p d b | .stay _ => false

/-- What the common checks of a frame let through passes a test. -/
def goTest (x : Rx) (p : Blk → Nat → Frame → List Byte → Bool) : Bool := match x with | .go b s f l => p b s f l | .stop _ => false

/-- The outcome is a next state that passes a test. -/
def nextTest (x : Host.Outcome State Fault Refusal) (p : Blk → Bool) : Bool := match x with | .next s => p s.blk | _ => false

/-! ### Ill-formed commands -/

theorem test_unit_absent : (Instr.accRowWrite 3).wf = false ∧ (Instr.gatherBag 0 []).wf = false ∧ (Instr.fenceI 0 1).wf = false ∧
    (Instr.accRowWrite 0).wf = true ∧ (Instr.fenceI 3 1).wf = true := by decide

theorem test_unaligned : (Instr.registerWrite .pf 0x42 true 0 []).wf = false ∧ (Instr.lockPage .pf 0x1004 true).wf = false ∧
    (Instr.registerWrite .pf 0x44 true 0 []).wf = true := by decide

theorem test_miscounted : (Instr.powerTick [] [] [] [] [] []).wf = false ∧ (Instr.standinSample 0 [0, 1]).wf = false := by decide

theorem test_out_of_range : (Instr.bar2Read .pf 0 0 []).wf = false ∧ (Instr.freqRestart 0 2001).wf = false ∧
    (Instr.residentCallSheet [(0x1FFFFF, [1, 2])] [] [] 0).wf = false ∧ (Instr.freqRestart 0 2000).wf = true := by decide

/-! ### Registers and stages (01, 02) -/

theorem witness_clearRegisters :
    (base.reaches .pf (perfPage 0) ∧ base.reaches .pf (arrPage 0) ∧ isSTile 0 = false ∧ base.reaches .pf (gathPage 3) ∧ isSTile 3 = true ∧
      base.reaches .pf (stagePage 11) ∧ base.reaches .pf pwrPage ∧ base.mirynUp = true) ∧
    ((withVf (staged 2)).reaches (.vf 0) (stagePage 0) ∧ (withVf (staged 2)).reaches (.vf 0) (seqPage 0)) := by
  simp only [reaches_iff]; decide +kernel

theorem witness_errors : devPage % 0x1000 = 0 ∧ bits ((Regs base [(0x20, 0xFFFF)]).rd 0x20) 15 0 = 0xFFFF ∧
    bits ((Regs base [(0x20, 0xFFFE)]).rd 0x20) 15 0 ≠ 0xFFFF ∧ bit (base.rd 0x24) 31 = false ∧
    place (pageOf 0x4000) = .page .clk 0 (pageOf 0x4000) 0 ∧ base.reaches .pf (pageOf 0x4000) ∧ base.mirynGone .clk = false := by
  simp only [reaches_iff]; decide +kernel

/-- The pages of the LOCK witness: not locked, locked by the physical function, held. -/
def lockRegs (w : Word) : Ctl := Regs base [(clkPage + 0x28, w)]

theorem witness_lock : place (pageOf 0x4000) = .page .clk 0 (pageOf 0x4000) 0 ∧ (lockRegs 0).reaches .pf (pageOf 0x4000) ∧
    (lockRegs 0).mirynGone .clk = false ∧ bit ((lockRegs 0).rd 0x4028) 0 = false ∧
    bit ((lockRegs 0x101).rd 0x4028) 0 = true ∧ bit ((lockRegs 0x101).rd 0x4028) 1 = false ∧ bits ((lockRegs 0x101).rd 0x4028) 11 8 ≠ Fn.pf.num ∧
    bit ((lockRegs 0x3).rd 0x4028) 0 = true ∧ bit ((lockRegs 0x3).rd 0x4028) 1 = true := by
  simp only [reaches_iff]; decide +kernel

theorem witness_interrupts : place (pageOf 0x4000) = .page .clk 0 (pageOf 0x4000) 0 ∧ base.reaches .pf (pageOf 0x4000) ∧
    base.mirynGone .clk = false ∧ (pageInfo .clk).irq ||| (pageInfo .clk).level ≠ 0 ∧
    (Regs base [(0x4018, 1), (0x401C, 1)]).pending (irqPage 0x4000) = true := by
  simp only [reaches_iff]; decide +kernel

theorem witness_pairs : place (pageOf 0x5000) = .page .time 0 (pageOf 0x5000) 0 ∧ base.reaches .pf (pageOf 0x5000) ∧
    base.mirynGone .time = false ∧ 0x40 ∈ pairLows .time ∧ 0x40 % 4 = 0 ∧ 0x40 + 4 < 0x1000 ∧ 0x40 + 4 ∉ pairLows .time ∧
    (base.withRegs [(rstPage + 0x14, 0x80000000)]).reaches .pf (pageOf 0x5000) := by
  simp only [reaches_iff]; decide +kernel

theorem witness_plainWrite : place (pageOf 0x8000) = .page .therm 0 (pageOf 0x8000) 0 ∧ base.reaches .pf (pageOf 0x8000) ∧
    base.unlocked (pageOf 0x8000) ∧
    (regDef .therm 0x40).any (fun d => !regAllRO d) = true ∧ clearRanges .therm 0x40 = [] ∧
    0x40 ∉ pairLows .therm ∧ 0x40 - 4 ∉ pairLows .therm ∧ reachCode { who := Fn.pf.num, addr := pageOf 0x8000 + 0x40 } .therm 0 0x40 = 0 ∧
    (St base).blk.writeCode .therm 0 0x40 (pageOf 0x8000) 0x500 = 0 := by
  simp only [reaches_iff, Ctl.unlocked]; decide +kernel

theorem witness_mixCtrl : base.reaches .pf (rtrPage 0) ∧ base.unlocked (rtrPage 0) ∧ (regDef .rtr 0x74).isSome = true ∧
    (St base).blk.writeCode .rtr 0 0x74 (rtrPage 0) 0x15 = 0 ∧ (0x08000074 : Addr).toNat % 4 = 0 ∧ (0x08000074 : Addr).toNat + 4 < 2 ^ 28 := by
  simp only [reaches_iff, Ctl.unlocked]; decide +kernel

/-- Two registers in one write, the low word of a pair and the high word. -/
theorem witness_spanningWrite : ∃ b c : Blk, Runs (.registerWrite .pf 0x5040 true 1 []) (St base) b ∧
    Runs (.registerWrite .pf (0x5040 + 4) true 2 []) { St base with blk := b } c :=
  ⟨_, _, rfl, rfl⟩

/-- Before READY; with VF1; with the page at 0x8000 locked. -/
theorem witness_refusedWrite : ({} : Ctl).ready = false ∧ earlyPage 0x8040 = false ∧ place (pageOf 0x8000) = .page .therm 0 (pageOf 0x8000) 0 ∧
    (withVf base).fnExists 1 = true ∧ base.ready = true ∧ base.pageStage (pageOf 0x8000) ≠ some 0 ∧ base.fnExists 1 = false ∧
    base.reaches .pf (pageOf 0x8000) ∧ base.mirynGone .therm = false ∧ base.recovOff .therm 0x40 = false ∧ regDef .therm 0xFFC = none ∧
    (regDef .therm 0x14).any regAllRO = true ∧ reservedOff 0x14 = false ∧
    bit ((Regs base [(0x8028, 1)]).rd (pageOf 0x8000 + 0x28)) 0 = true ∧
    (regDef .therm 0x40).any (fun d => !regAllRO d && d.lk != 0 &&
      ((regStored d ||| d.wo ||| d.w1c) &&& d.lk == (regStored d ||| d.wo ||| d.w1c))) = true := by
  simp only [reaches_iff]; decide +kernel

/-- Four other stages hold port 0. -/
def fourPorts : Ctl := Regs base ((List.range 4).flatMap fun u =>
  [(stagePage (u + 1) + 0x40, BitVec.ofNat 32 (0x80000000 + (u + 1) * 0x11)), (stagePage (u + 1) + 0x48, 1)])

theorem witness_stagesDefined : base.reaches .pf (stagePage 0) ∧ base.unlocked (stagePage 0) ∧ (staged 2).stState 0 ≠ 0 ∧ base.stState 0 = 0 ∧
    bit (0x80000001 : Word) 31 = true ∧ base.rectCode 0 0x80000001 ≠ 0 ∧ base.rectCode 0 0x80000000 = 0 ∧ base.rectCode 0 0x80003050 = 0 ∧
    (withVf (staged 0)).reaches (.vf 0) (stagePage 0) ∧
    (Regs base [(portPage 0 + 0x14, 0x20000000)]).flag (portPage 0) F.PORT_STATUS_OPT_DIS = true ∧
    ((Regs fourPorts [(stagePage 0 + 0x40, 0x80000000)]).valid 0 &&
      (Regs fourPorts [(stagePage 0 + 0x40, 0x80000000)]).fifthPort 0 1) = true ∧ ((staged 0).valid 0 && (staged 0).fifthPort 0 1) = false := by
  simp only [reaches_iff, Ctl.unlocked]; decide +kernel

/-- Stage 0 IDLE with an outtakes region of 64 MiB. -/
def loadable : Ctl := Regs (staged 0) [(stagePage 0 + 0x64, 64)]

theorem witness_stageCommands : loadable.reaches .pf (stagePage 0) ∧ loadable.loadCode 0 = 0 ∧ (staged 1).loadCode 0 ≠ 0 ∧
    (staged 1).stState 0 = 1 ∧ (staged 1).flag (stagePage 0) F.STAGE_RUNSTATE_LOADED = true ∧ (staged 1).boot.retention = false ∧
    (staged 2).stState 0 = 2 ∧ (staged 0).stState 0 = 0 ∧ 4 ≤ (staged 4).stState 0 ∧ (staged 5).stState 0 = 5 ∧ (staged 4).stState 0 ≠ 5 ∧
    (staged 1).stageHeld 0 = false ∧
    (let n : Notice := { rail := 3, amps := 9000, cause := .stage 0 }
     ({ staged 1 with pwr := { notices := [n] } } : Ctl).stageHeld 0 = true ∧ ({ staged 2 with pwr := { notices := [n] } } : Ctl).stageHeld 0 = true) ∧
    (staged 3).tileStage 0 = some 0 ∧ (staged 3).tileStage 47 ≠ some 0 ∧ (staged 4).valid 0 = true ∧ (staged 3).stState 0 = 3 ∧
    (St { staged 3 with fenced := [0] }).blk.drained 0 = true ∧
    (St { staged 3 with mgmt := { reads := [{ stage := 0 }] } }).blk.drained 0 = false := by
  simp only [reaches_iff]; decide +kernel

/-! ### Arrays (03, 08) -/

/-- A tile whose queue `u` holds, prefetched, the one descriptor of its list, which stands at byte 0 of the scratchpad. -/
def headTile (u : Nat) (ws : List Word) (x : Tile := open_) : Tile :=
  let h : Word := BitVec.ofNat 32 (u * 0x10000000 + 0xFF00000)
  { x with shotRun := true, sp := { mem := ({} : Mem).write 0 (runOf (wordBytes (h :: ws)) false) },
           queues := x.queues.set u { count := 1, next := 1, hdrs := [(h, false)] } }

/-- A tile whose queue `u` runs a descriptor with these words and steps. -/
def runTile (u : Nat) (ws : List Word) (steps issued done : Nat) (x : Tile := open_) : Tile :=
  let d : Desc := { hdr := BitVec.ofNat 32 (u * 0x10000000 + 0xFF00000), words := ws, steps := steps, issued := issued, done := done }
  { x with queues := x.queues.set u { cur := some d } }

/-- The head of queue `u` of a tile. -/
def head (x : Tile) (u : Nat) : Desc := ((x.queue u).cur).getD {}

/-- Tile 0 alone, or tile 3, an S-tile. -/
def one (x : Tile) : State := St base [(0, x)]
def oneS (x : Tile) : State := St base [(3, x)]

/-- INT8 weights from row 1, two blocks, 8 rows apart. -/
def loaderWords : List Word := [0x20000001, 0x00080001]

theorem witness_weights :
    (isSTile 0 = false ∧ (one (headTile 1 loaderWords)).blk.live 0 = true ∧ (one (headTile 1 loaderWords)).blk.arrHalted 0 = false ∧
      readyTest ((one (headTile 1 loaderWords)).blk.takeHead 0 1 []) (fun d _ => bits (d.w 2) 9 0 == 1) = true) ∧
    ([{ st := 1, block := { fmt := 2 } }, {}] : List WBuf).findIdx? (·.st == 1) = some 0 ∧
    (let x := { runTile 1 loaderWords 2 1 0 with wbufs := [{ st := 4 }, { st := 3 }] }
     let d := head x 1
     x.wbufs.findIdx? (·.st == 4) = some 0 ∧ (one x).blk.current 0 1 = some d ∧ (one x).blk.ctl.tokensReady 0 d.hdr = true ∧
      (∀ v ∈ x.wbufs, v.st ≠ 0 ∧ v.st ≠ 1) ∧ bits (d.w 1) 31 28 ≤ 0xB ∧
      (bits (d.w 1) 12 0 + d.issued * bits (d.w 2) 28 16 + blockRows (bits (d.w 1) 31 28) (bits (d.w 1) 27 26)) * 512 ≤ spBytes 0) ∧
    (one { open_ with wbufs := [{ st := 4 }, {}] }).blk.current 0 1 = none := by decide +kernel

/-- Two rows of 64 bytes from byte 512; with two scale bytes a row from byte 4. -/
def feederWords : List Word := [0x00400020, 0x00040001, 0]
def scaledWords : List Word := [0x40400020, 0x00040001, 1]

/-- One row of 32 bytes, half the stride the arrays take; it is none an instruction may cross into. -/
def shortWords : List Word := [0x00300020, 0x00040000, 0]

/-- A feeder at the end of its descriptor, another at the head of its queue, while an instruction's rows enter. -/
def crossTile (fd : List Word) : Tile := headTile 2 fd (runTile 4 [0x22040000, 0, 0] 1 0 0)

theorem witness_feeders :
    (let x := runTile 2 feederWords 2 0 0
     let d := head x 2
     isSTile 0 = false ∧ (one x).blk.live 0 = true ∧ (one x).blk.arrHalted 0 = false ∧ (x.queue 2).halted = false ∧ (x.queue 2).cur = some d ∧
      (x.feeder 0).data.length < 4 ∧ feederExtent 0 d = true ∧ nextAligned d (x.feeder 0).lastAl 64 (x.feeder 0).reqRow = some (0, 1) ∧
      (one x).blk.ctl.tokensReady 0 d.hdr = true) ∧
    (let x := runTile 2 scaledWords 2 2 1
     let d := head x 2
     (x.queue 2).oldest = some d ∧ fdScaleG d ≠ 0 ∧ feederExtent 0 d = true ∧ d.done < d.steps ∧ (x.feeder 0).scale = none) ∧
    readyTest ((one (headTile 2 feederWords)).blk.takeHead 0 2 [])
      (fun d _ => ((one (headTile 2 feederWords)).blk.entering 0).isNone && fdRows d == 2) = true ∧
    (let x := headTile 2 feederWords
     let y := { x with queues := x.queues.set 2 { x.queue 2 with drain := [{ words := feederWords, steps := 2, issued := 2 }] } }
     readyTest ((one y).blk.takeHead 0 2 []) (fun _ _ => (y.feederHead 0).isSome) = true) ∧
    readyTest ((one (crossTile shortWords)).blk.takeHead 0 2 []) (fun d _ =>
      ((crossTile shortWords).feederHead 0).isNone && ((one (crossTile shortWords)).blk.entering 0).any fun i =>
        (miFeeders i).contains 0 && feederCheck 0 d (miFmtA i) == some 0x05) = true := by decide +kernel

/-- An INT8 matrix instruction of one row on array A; one that keeps its block; one of an illegal format. -/
def miWords (w : Nat) : List Word := [BitVec.ofNat 32 (0x22040000 + w), 0, 0]

/-- A tile with that instruction at the head of queue 4, a block of format `fmt` and a feeder descriptor. -/
def miTile (w : Nat) (fmt sparse : Nat) (fd : List Word) : Tile :=
  { (headTile 4 (miWords w) (runTile 2 fd 2 0 0)) with wbufs := [{ st := 2, block := { fmt := fmt, sparse := sparse } }, {}] }

/-- The premises of the matrix instruction's statement up to its feeders. -/
def miReady (x : Tile) (p : Desc → Bool) : Bool :=
  readyTest ((one x).blk.takeHead 0 4 []) fun d _ => !isSTile 0 && (one x).blk.live 0 && !(one x).blk.arrHalted 0 && p d

/-- The first feeder check that fails, and whether every feeder has a descriptor. -/
def miFeedersOf (x : Tile) (d : Desc) : Bool × Option Nat :=
  let fds := (miFeeders d).map x.feederHead
  (fds.all Option.isSome, fds.findSome? fun q => q.bind fun q => feederCheck 0 q (miFmtA d))

theorem witness_matrixInstruction :
    miReady (miTile 0xC0000000 2 0 feederWords) (fun d => instrCheck d == some 0x01) = true ∧
    miReady (miTile 0x20000 2 0 feederWords) (fun d => (instrCheck d).isNone && miReuse d && open_.curBlk.isNone) = true ∧
    miReady (miTile 0 9 0 feederWords) (fun d => (instrCheck d).isNone &&
      ((miTile 0 9 0 feederWords).blockFor (miReuse d)).any fun e => e.2.fmt != miFmtW d) = true ∧
    miReady (miTile 0 2 1 feederWords) (fun d => (instrCheck d).isNone &&
      ((miTile 0 2 1 feederWords).blockFor (miReuse d)).any fun e => e.2.fmt == miFmtW d && e.2.sparse != miSparse d) = true ∧
    miReady (miTile 0 2 0 [0x00300020, 0x00040001, 0]) (fun d =>
      miFeedersOf (miTile 0 2 0 [0x00300020, 0x00040001, 0]) d == (true, some 0x05)) = true ∧
    miReady (miTile 0x1000 2 1 feederWords) (fun d =>
      miFeedersOf (miTile 0x1000 2 1 feederWords) d == (true, none) && sparseCheck d == some 0x0B) = true ∧
    miReady (miTile 0 2 0 feederWords) (fun d => (instrCheck d).isNone && miFeedersOf (miTile 0 2 0 feederWords) d == (true, none) &&
      (sparseCheck d).isNone) = true ∧ (miTile 0 2 0 feederWords).part = none ∧
    miReady { miTile 0 2 0 feederWords with part := some {} } (fun _ => true) = true := by decide +kernel

/-- A row of the instruction can enter: its block is taken and its activation row is here. -/
def enterTile : Tile :=
  { (runTile 4 (miWords 0) 1 0 0 (runTile 2 feederWords 2 1 0)) with
    curBlk := some { fmt := 2 }, feedA := { data := [{ ser := 0, row := 1, got := some (zeroRun 512) }] } }

theorem witness_arrayRows :
    (let d := head enterTile 4
     (one enterTile).blk.live 0 = true ∧ (one enterTile).blk.arrHalted 0 = false ∧ (one enterTile).blk.entering 0 = some d ∧
      enterTile.part = none ∧ (one enterTile).blk.ctl.mayIssue 0 = true ∧ miFeeders d = [0] ∧ nsubOf (miSparse d) (miUmask d) = 1 ∧
      enterTile.curBlk = some { fmt := 2 } ∧ (one enterTile).blk.ctl.tokensReady 0 d.hdr = true ∧ enterTile.ringOk d d.issued = true ∧
      (enterTile.feederHead 0).any (fun q => q.done == 0 && (feederCheck 0 q (miFmtA d)).isNone) = true ∧
      (enterTile.feederNext 0).any (fun q => decide (q.1.done < q.1.issued)) = true) ∧
    (∀ l ∈ [[{}], [{}, {}, {}]],
      let j : RowJob := { words := [0x22041000, 0, 0xFFFF], a := l }
      let x := { enterTile with part := some j }
      let d : Desc := { words := j.words }
      x.part = some j ∧ (one x).blk.entering 0 = some d ∧ (x.feederNext 0).isSome = true ∧ miFeeders d = [0] ∧
        decide (max (l.length + 1) 0 < nsubOf (miSparse d) (miUmask d)) = decide (l.length = 1)) ∧
    (let x := crossTile feederWords
     (x.feederHead 0).isNone = true ∧
      (((runTile 2 shortWords 1 1 0 (runTile 4 (miWords 0) 1 0 0)).feederHead 0).any fun q => q.done == 0 && feederCheck 0 q 2 == some 0x05) = true) ∧
    (let j : RowJob := { words := miWords 0 }
     miAccRow { words := j.words } j.row < miDepth { words := j.words } ∧
      miLong { words := j.words } = false ∧ miAccMode { words := miWords 0x4000 } = 1 ∧ miAccMode { words := j.words } = 0 ∧
      ({ open_ with acc := [(0, { tag := 1 })] }.accRow 0 0).tag ≠ 0 ∧
      ({ open_ with acc := [(0, { tag := 1 })] }.accRow 0 0).tag ≠ miAccType { words := j.words }) := by decide +kernel

theorem witness_tileRegisters :
    base.reaches .pf (arrPage 0) ∧ base.unlocked (arrPage 0) ∧ base.reaches .pf (vecPage 0) ∧ base.unlocked (vecPage 0) ∧
      base.reaches .pf (seqPage 0) ∧ base.unlocked (seqPage 0) ∧ (0 : Word).toNat + (1 : Word).toNat ≠ 0 ∧
      bits (base.rd (vecPage 0 + 0x20)) 15 0 ≠ 0xFFFF ∧ ((one open_).blk.tile 0).shotRun = false ∧
      ((one { open_ with shotRun := true }).blk.tile 0).shotRun = true := by
  simp only [reaches_iff, Ctl.unlocked]; decide +kernel

/-- The addition of two FP32 rows; an operation the table does not list; its summary into the FIFO. -/
def vdWords (op red : Nat) : List Word :=
  [BitVec.ofNat 32 (op * 0x1000000), 0x40000010, 0x40000030, 0, 0x40000050, BitVec.ofNat 32 red, 0, 0]

theorem witness_vector :
    readyTest ((one (headTile 5 (vdWords 2 0))).blk.takeHead 0 5 []) (fun d _ => (vectorCheck 0 d).isNone) = true ∧
    readyTest ((one (headTile 5 (vdWords 0x7F 0))).blk.takeHead 0 5 []) (fun d _ => vectorCheck 0 d == some 1) = true ∧
    (let x := runTile 5 (vdWords 2 0) 1 0 0
     let d := head x 5
     (one x).blk.live 0 = true ∧ (one x).blk.current 0 5 = some d ∧ (one x).blk.ctl.tokensReady 0 d.hdr = true ∧
      min 4 x.vec.rows.length < 4 ∧ x.vec.full = false ∧ (one x).blk.accWaits 0 d d.issued = []) ∧
    (let x := runTile 5 [0x02000100, 0x80000000, 0x40000030, 0, 0x40000050, 0, 0, 0] 1 0 0 (runTile 4 (miWords 0) 1 0 0)
     (one x).blk.accWaits 0 (head x 5) 0 ≠ [] ∧ (one x).blk.ctl.tokensReady 0 (head x 5).hdr = true) ∧
    ¬ min 4 ([{}, {}, {}, {}] : List VRow).length < 4 ∧ min 3 ([{}, {}, {}, {}] : List VRow).length < 4 ∧ ({ held := [{}] } : Vec).full = true ∧
    (let x := runTile 5 (vdWords 2 0x118) 1 1 0
     (x.queue 5).find 0 = some (head x 5) ∧ vdSumDst (head x 5) % 2 = 1 ∧ vdSumDst (head x 5) < 2 ∧
      (rowSummaries (head x 5) {} x.vec.red).1.length = 1 ∧ (([] : List Ecc).all fun z => decide (z ≠ .uncorr)) = true) ∧
    16 ≤ (List.replicate 16 ({} : Summary)).length := by decide +kernel

/-! ### Scratchpads (06) -/

/-- A wide and a narrow request, a write, and one that has waited 64 cycles. -/
def spReqs : List SpReq :=
  [{ wide := true, rank := 2, word := 16 }, { word := 3, waited := 64 }, { wr := true, word := 5, run := zeroRun 32 }]

theorem witness_portGrants :
    portGrant [] (candsOf { open_ with sp := { reqs := spReqs } } true) ≠ [] ∧
    (portGrant [4] (candsOf { open_ with sp := { reqs := spReqs.drop 1 } } true)).map (·.bank) = [3] ∧
    (∀ c ∈ candsOf { open_ with sp := { reqs := spReqs } } true, c.promo = none) ∧
    (∃ c ∈ candsOf { open_ with sp := { reqs := spReqs } } true, c.wide = true) := by decide +kernel

theorem witness_scratchpadRequests :
    (let x := { open_ with sp := { reqs := spReqs } }
     base.tileGood 0 = true ∧ x.init = false ∧ x.readGrants.map (·.idx) = [0] ∧ x.writeGrants.map (·.idx) = [2] ∧
      ({ x with sp := {} } : Tile).writeGrants.map (·.idx) = [] ∧ (PortReq.req { unit := .core0, word := 0 }).isUnit = true) ∧
    ({} : Tile).init = true ∧ (spReqs.getD 1 {}).promo = none ∧ 64 ≤ (spReqs.getD 1 {}).waited ∧
    (let l : List SpReq := [{ wide := true, waited := 64 }, { waited := 65 }]
     ∀ z ∈ l, z.rank < 16 ∧ z.promo = none ∧ 64 ≤ z.waited) := by decide +kernel

theorem witness_scratchpadReturns : base.tileGood 0 = true ∧
    (Regs base [(spdPage 0 + 0x10, 4)]).flag (spdPage 0) F.SPD_CTRL_SCRUB_EN = true ∧
    (({} : Mem).write 0 (zeroRun 32)).written ≠ [] ∧
    nextTest (Sys2Proof.Machine.exec (.readDataReturn 0 []) (one { open_ with sp := { rets := [{ who := .indirect, run := zeroRun 32 }] } }))
      (fun b => (b.tile 0).sp.rets == []) = true ∧
    nextTest (Sys2Proof.Machine.exec (.mergeWriteGrant 0 [.uncorr]) (one { open_ with sp := { mem := ({} : Mem).write 0 (zeroRun 32), merges := [{ wr := true, run := zeroRun 1 }] } }))
      (fun b => (b.tile 0).sp.mem.isBad 0) = true ∧
    (zeroRun 1).bytes.length = 1 ∧ ({ wbusy := [1] } : Spd).wbusy.contains (bankOf 16) = true ∧ ({} : Spd).wbusy.contains (bankOf 16) = false ∧
    (let x := { open_ with sp := { reqs := [writeback 7 true] } }
     (x.sp.reqs.zipIdx.find? fun q => q.1.isBack) = some (writeback 7 true, 0) ∧ (writeback 7 true).who = .writeback true ∧
      x.writeGrants.any (fun c => c.idx == 0) = true ∧
      nextTest (Sys2Proof.Machine.exec (.eccWriteback 0) (one x)) (fun b => (b.tile 0).sp.mem.isBad 7) = true) ∧
    (let x := { open_ with sp := { staged := [(5, { ser := 1, row := 2 })] } }
     SMap.find? x.sp.staged 5 = some { ser := 1, row := 2 } ∧ SMap.find? x.sp.staged 6 = none) ∧
    ({} : Tile).init = true ∧ open_.init = false ∧ ({} : Tile).sp.late = [] ∧ ({} : Tile).sp.submit = none := by
  decide +kernel

/-- Something delivered to tile 0. -/
def atTile0 (it : Item) (x : Tile := open_) (c : Ctl := base) : State := St { c with net := [⟨.tile 0, it⟩] } [(0, x)]

theorem witness_remoteAccess :
    (∀ k ∈ [1, 2], (atTile0 (.pkt { kind := k, src := 1 })).blk.ctl.atTile 0 = some (0, .pkt { kind := k, src := 1 })) ∧
    (one open_).blk.live 0 = true ∧ (one {}).blk.live 0 = false ∧
    (let w : CoreWait := { tag := 0, rd := 5 }
     let x : Tile := { open_ with core0 := { awaits := [w] } }
     ((x.core 0).awaits.find? fun w => w.tag == 0 / 4 && w.store == false) = some w ∧ w.rd < 32 ∧ x.Shaped) ∧
    base.reaches .pf (spdPage 0) ∧ base.flag (spdPage 0) F.SPD_STATUS_IND_BUSY = false ∧
    (Regs base [(spdPage 0 + 0x54, 0xFFFF)]).get (spdPage 0) F.SPD_IND_ADDR_WORD * 32 < spBytes 0 ∧
    spBytes 0 ≤ (Regs base [(spdPage 0 + 0x54, 0x10000)]).get (spdPage 0) F.SPD_IND_ADDR_WORD * 32 ∧
    (Regs base [(spdPage 0 + 0x14, 1)]).flag (spdPage 0) F.SPD_STATUS_IND_BUSY = true := by
  simp only [reaches_iff, Tile.Shaped]; decide +kernel

/-! ### Sequencers, slates and cores (07) -/

theorem witness_shots :
    (let q : Queue := { count := 2, next := 1, hdrs := [(0, false)] }
     let x := { open_ with shotRun := true, queues := open_.queues.set 1 q }
     (one x).blk.live 0 = true ∧ x.shotRun = true ∧ x.shotHalt = false ∧ q.halted = false ∧ q.next < q.count ∧ q.hdrs.length < 4) ∧
    base.reaches .pf (seqPage 0) ∧ open_.wrapped = false ∧ open_.Shaped ∧ open_.shotRun = false ∧ open_.init = false ∧
    (St base).blk.ctl.kasRuns 0 = false ∧ base.kasDue 0 = false ∧ base.shotHeld 0 = false ∧ open_.pendShot = none ∧ ShotOk 0 1 ((one open_).blk.shotHeader 0 1 []) ∧
    ¬ ShotOk 0 4096 ((one open_).blk.shotHeader 0 4096 []) ∧
    (let x := { open_ with shotRun := true, pendShot := some 1 }
     x.pendShot ≠ none ∧ x.shotRun = true ∧ x.shotHalt = false ∧ (∀ q ∈ x.queues, q.halted = false ∧ q.complete = true)) ∧
    (let x := { open_ with pendShot := some 1 }
     (one x).blk.live 0 = true ∧ x.pendShot = some 1 ∧ ShotOk 0 1 ((one x).blk.shotHeader 0 1 [])) := by
  simp only [reaches_iff, Tile.Shaped, ShotOk]; decide +kernel

theorem witness_pendingShotCores (k n : Nat) : (open_.core k).stall ≠ .shot n := by
  unfold Tile.core; split <;> intro h <;> cases h

theorem witness_slates : base.reaches .pf (slatePage 0) ∧ base.unlocked (slatePage 0) ∧ (3 : Nat) ∈ ({ fresh := [3], rearm := [3] } : Tile).fresh ∧
    (3 : Nat) ∈ ({ fresh := [3], rearm := [3] } : Tile).rearm ∧ (3 : Nat) ∉ open_.fresh ∧ ({ core0 := { stall := .slate 3 } } : Tile).core 0 = { stall := .slate 3 } ∧
    (let q : Queue := { hdrs := [(0x1FF004C0, false)], waiting := true }
     q.waiting = true ∧ hWen 0x1FF004C0 = true ∧ hWslate 0x1FF004C0 = 3) := by
  simp only [reaches_iff, Ctl.unlocked]; decide +kernel

/-- Stage 0 on cluster 0 with rim slates 0 to 9. -/
def rimStage : Ctl := Regs (staged 2) [(stagePage 0 + 0x80, 0x000A0000)]

/-- The same during the stop of a frequency change. -/
def rimStopped : Ctl := { rimStage with clk := { changes := [{ scope := 0, phase := .stopped }] } }

theorem witness_rimSlates : rimStage.reaches .pf (stagePage 0) ∧ rimStage.unlocked (stagePage 0) ∧ rimStage.rslIndex 0 = some 0 ∧
    (rimStage.rimSlateStage 0).any rimStage.stageStopped = false ∧ (rimStopped.rimSlateStage 0).any rimStopped.stageStopped = true ∧
    rimStopped.stageStopped 0 = true ∧ rimStopped.rslIndex 0 = some 0 ∧ (staged 2).rslIndex 0 = none ∧ rimStage.rimSlateStage 9 = some 0 ∧ rimStage.rimSlateStage 10 = none ∧
    ({ rimStage with rsl := [(9, { rearm := true, due := 1, target := 15 })] }.rimSlate 9) = { rearm := true, due := 1, target := 15 } ∧
    (atTile0 (.msg { type := 1 })).blk.ctl.atTile 0 = some (0, .msg { type := 1 }) ∧
    (atTile0 (.msg { type := 2 })).blk.live 0 = true ∧ (atTile0 (.msg { type := 2 }) {}).blk.live 0 = false ∧
    ({ rimStage with net := [⟨.rim 0 0x30, .msg { type := 1, arg := 9 }⟩] }.atRim 0) = some (0, 0x30, .msg { type := 1, arg := 9 }) := by
  simp only [reaches_iff, Ctl.unlocked]; decide +kernel

/-- A tile whose core 0 runs with register 1 at `v` and register 2 at `w`. -/
def coreTile (v w : Word) : Tile := { open_ with core0 := { run := true, x := (List.replicate 32 0).set 1 v |>.set 2 w } }

/-- Tile 0 of stage 0 in RUN with that core. -/
def inStage (x : Tile) : State := St (staged 2) [(0, x)]

theorem witness_coreInstructions :
    (coreTile 3 0).Shaped ∧ (∀ rs ∈ ([[], [1, 2], [1], [3, 1], [3]] : List (List Reg)), (inStage (coreTile 3 0)).blk.coreReady 0 0 rs = true) ∧
    isSTile 3 = true ∧ bit (((coreTile 3 0x80000000).core 0).reg 2) 31 = true ∧ (staged 2).reached 0 3 = false ∧
    (Regs (staged 2) [(slatePage 0 + 0x78, 1)]).reached 0 3 = true ∧
    bit (({ info := 1 } : Summary).info) 31 = false ∧ bit (({ info := 0x80000000 } : Summary).info) 31 = true ∧
    ShotOk 0 1 ((inStage (coreTile 512 0)).blk.shotHeader 0 1 []) ∧ (((coreTile 512 0).core 0).reg 1).toNat / 512 = 1 ∧
    (inStage (coreTile 512 0)).blk.storesOut 0 0 = false ∧ (staged 2).sameStage 0 7 = true ∧ (staged 2).sameStage 0 8 = false ∧
    bits (((coreTile 0x70003 0).core 0).reg 1) 26 16 = 7 ∧ bit (((coreTile 0x70003 0).core 0).reg 1) 31 = false ∧
    (coreTile 3 0).pendShot = none ∧ (staged 2).shotHeld 0 = false ∧ ({ pendShot := some 1 } : Tile).pendShot ≠ none ∧
    bit (((coreTile 0x80000009 0).core 0).reg 1) 31 = true ∧ rimStage.tileStage 0 = some 0 ∧
    rimStage.rimSlateStage (bits (((coreTile 0x80000009 0).core 0).reg 1) 9 0) = some 0 ∧
    rimStage.rimSlateStage (bits (((coreTile 0x8000000A 0).core 0).reg 1) 9 0) ≠ rimStage.tileStage 0 ∧
    (coreTile 3 0).tc0Sent < 4 ∧ (coreTile 3 0).tc0Held = [] ∧ 4 ≤ ({ tc0Sent := 4 } : Tile).tc0Sent ∧
    (inStage { coreTile 3 0 with core0 := { run := true, awaits := [{ store := true, tag := 9 }] } }).blk.storesOut 0 0 = true := by
  simp only [Tile.Shaped, ShotOk]; decide +kernel

/-- Window 0 of tile 0 leads to tile 1. -/
def windowed : Ctl := Regs (staged 2) [(spdPage 0 + 0x44, 0x80000001)]

theorem witness_loadsAndStores :
    (let s := inStage (coreTile 0x10000000 7)
     let v := spView (s.blk.tile 0).sp.mem (s.blk.ctl.flag (spdPage 0) F.SPD_CTRL_COLD_POISON) 0 4 []
     s.blk.coreReady 0 0 [2, 1] = true ∧ (((coreTile 0x10000000 7).core 0).reg 1 + (0 : BitVec 12).signExtend 32).toNat = 0x10000000 ∧ v.anyBad = false ∧
      (spView (({} : Mem).write 0 (runOf [1] true)) false 0 4 []).anyBad = true) ∧
    (((coreTile 0x10200000 7).core 0).reg 1 + (0xFFF : BitVec 12).signExtend 32).toNat < 0x10000000 + spBytes 0 ∧
    (let cfg := windowed.rd (spdPage 0 + 0x44)
     bit cfg 31 = true ∧ bits cfg 10 0 = 1 ∧ (windowed.tileStage 0).isSome = true ∧ windowed.tileStage 1 = windowed.tileStage 0 ∧
      windowed.tileOff 1 = false ∧ (0x1FFFFC : Nat) + 4 ≤ spBytes 1 ∧ (1 : Nat) ≠ 0 ∧ (0x201FFFFC / 0x400000 % 4 = 0)) ∧
    ({ coreTile 0x10000000 7 with init := true } : Tile).init = true ∧ (coreTile 0x10000000 7).init = false ∧
    ([Ecc.uncorr].head? = some .uncorr ∧ (({} : Mem).write 0 (zeroRun 32)).isWritten 0 = true) ∧
    (0x10200000 % 4 = 0 ∧ 0x10000000 + spBytes 0 ≤ (0x10200000 : Nat)) ∧
    bit ((staged 2).rd (spdPage 0 + 0x44)) 31 = false ∧ spBytes 1 < 0x1FFFFD + 4 ∧
    (bits ((Regs (staged 2) [(spdPage 0 + 0x44, 0x80000000)]).rd (spdPage 0 + 0x44)) 10 0 = 0 ∧ (staged 2).tileOff 0 = false) ∧
    (∃ w ∈ [({ target := 1 * 2 ^ 17 + 0x20 / 32 } : CoreWait)], w.target = 1 * 2 ^ 17 + 0x20 / 32) ∧
    (∀ e ∈ [(0x4044, false), (0xFFC, true)], (inStage (coreTile 0x30000000 7)).blk.coreDrops (tilePage 0 0 + e.1) true 7 [] = e.2) ∧
    ((0x10000001 : Nat) % 4 ≠ 0 ∧ (0x0FFFFFFC : Nat) < 0x10000000 ∧ 0x30010000 ≤ (0x30010000 : Nat)) := by decide +kernel

theorem witness_absentUnits : isSTile 3 = true ∧ isSTile 47 = true ∧ isSTile 0 = false ∧ isSTile 1918 = false := by decide

/-! ### Transfers and deadlock recovery (07) -/

/-- A mover descriptor of class 1 or 0: 512 bytes from byte 512 to `dest`, stream 2. -/
def mvWords (cls dest : Nat) : List Word :=
  [BitVec.ofNat 32 (cls * 0x40000000 + 0x20), 0x0020001F, BitVec.ofNat 32 (dest * 0x200000 + 0x1000), 0x00050000]

/-- Its mover at the step, with these grants. -/
def mover (cls : Nat) (g : List (Nat × Nat)) : Tile := { runTile 6 (mvWords cls 1) 1 0 0 with grants := g }

theorem witness_sending :
    readyTest ((inStage (headTile 6 (mvWords 1 1))).blk.takeHead 0 6 []) (fun d _ => (moverCheck (staged 2) 0 d).isNone) = true ∧
    readyTest ((inStage (headTile 6 (mvWords 1 8))).blk.takeHead 0 6 []) (fun d _ => moverCheck (staged 2) 0 d == some 5) = true ∧
    readyTest ((inStage (headTile 7 [0x20000020, 0x0020001F, 0x00050000])).blk.takeHead 0 7 []) (fun d _ => (receiverCheck 0 d).isNone) = true ∧
    readyTest ((inStage (headTile 7 [0x20000020, 0x0020001F, 0x00058000])).blk.takeHead 0 7 []) (fun d _ => receiverCheck 0 d == some 6) = true ∧
    (let s := inStage (mover 1 [])
     let d := head (mover 1 []) 6
     s.blk.live 0 = true ∧ s.blk.current 0 6 = some d ∧ s.blk.ctl.tokensReady 0 d.hdr = true ∧ mvClass d ≠ 0 ∧ mvColmaj d = false ∧
      missingGrants (mover 1 []) (mvDests s.blk.ctl d) (creditUnits (xbOf d)) = [1] ∧
      missingGrants (mover 1 [(1, 2)]) (mvDests s.blk.ctl d) (creditUnits (xbOf d)) = [] ∧
      mvClass (head (mover 0 []) 6) = 0 ∧ (head (mover 0 []) 6).void = false ∧ ({ head (mover 0 []) 6 with void := true } : Desc).void = true ∧
      256 < (List.replicate 250 ({} : Chunk)).length + (xbOf (head (mover 0 []) 6) + 63) / 64 ∧ (mover 0 []).mix.inj.length + (xbOf (head (mover 0 []) 6) + 63) / 64 ≤ 256) ∧
    (atTile0 (.msg { type := 0xA, src := 1, value := 256 })).blk.ctl.atTile 0 = some (0, .msg { type := 0xA, src := 1, value := 256 }) ∧
    open_.granted + 256 ≤ 256 ∧ 256 < ({ open_ with granted := 1 } : Tile).granted + 256 ∧ (atTile0 (.msg { type := 0xA }) {}).blk.live 0 = false ∧
    (∀ h ∈ open_.grants, h.1 ≠ 1) := by decide +kernel

/-- A receiver at step 0 of two, with a transfer of its stream in the queue. -/
def receiver : Tile := { runTile 7 [0x20000020, 0x0000001F, 0x00050001] 2 2 0 with recvQ := [{ src := 1, stream := 2, seq := 6, run := zeroRun 512 }] }

theorem witness_receiving :
    (atTile0 (.pkt { kind := 0, src := 1 })).blk.ctl.atTile 0 = some (0, .pkt { kind := 0, src := 1 }) ∧
    (atTile0 (.pkt { kind := 0, src := 1 }) {}).blk.live 0 = false ∧
    (let x := receiver
     let d := head x 7
     let f : Xfer := { src := 1, stream := 2, seq := 6, run := zeroRun 512 }
     (inStage x).blk.live 0 = true ∧ x.recvHead = some d ∧ (x.queue 7).find d.ser = some d ∧
      (x.recvQ.find? fun f => (rvMatch d f).isSome && (!x.spill || f.refill)) = some f ∧ rvMatch d f = some 1 ∧ d.done ≤ 1 ∧ 1 ∉ d.ahead ∧
      1 < d.issued ∧ f.eject = false ∧ f.src < 1920 ∧ x.creditReqs = []) ∧
    (let r : Track := { stream := 2, seq := 5, dests := [1, 2] }
     let x : Tile := { open_ with tracked := [r] }
     let g : Msg := { type := 9, src := 1, arg := 0x20005 }
     (x.tracked.find? fun r => ackArg r.stream r.seq == g.arg && r.dests.contains g.src) = some r ∧ g.arg < 2 ^ 20 ∧ (6 : Nat) < x.queues.length ∧
      (∃ u ∈ r.dests, u ≠ g.src) ∧ (∀ u ∈ ({ r with dests := [1] } : Track).dests, u = g.src) ∧ g.value % 2 = 0 ∧ (1 : Nat) % 2 = 1) ∧
    (let w : CoreWait := { tag := 3, store := true }
     let g : Msg := { type := 9, arg := 2 ^ 20 + 12 }
     2 ^ 20 ≤ g.arg ∧ (g.arg - 2 ^ 20) % 4 < 2 ∧
      (({ core0 := { awaits := [w] } } : Tile).core 0).awaits.find? (fun w => w.tag == (g.arg - 2 ^ 20) / 4 && w.store == true) = some w) := by
  decide +kernel

/-- Tiles 0 and 1 wait for each other. -/
def stuck : Ctl := { staged 2 with detect := [(0, { probes := [(1, [0])] })] }

theorem witness_deadlock :
    (let s := inStage (mover 1 [])
     s.blk.live 0 = true ∧ s.blk.creditWait 0 ≠ [] ∧ (mover 1 []).tc0Sent < 4 ∧ (mover 1 []).tc0Held = [] ∧ (inStage open_).blk.creditWait 0 = []) ∧
    (let m : Msg := { type := 4, src := 0, value := edgesNat [1] }
     let s := St { stuck with net := [⟨.rim 0 0x30, .msg m⟩] } [(0, { open_ with probing := true }), (1, { open_ with probing := true })]
     let d := s.blk.ctl.detector 0
     let d' := { d with probes := SMap.put (s.blk.currentProbes d) m.src (edgesOf 9 m.value) }
     s.blk.ctl.atRim 0 = some (0, 0x30, .msg m) ∧ d.cycle = [] ∧ d.waiting = [] ∧
      cycleFrom (s.blk.currentProbes d') m.src ((s.blk.currentProbes d').length + 1) [m.src] [[m.src]] = some [1, 0] ∧
      cycleFrom [(0, [1])] 0 2 [0] [[0]] = none) ∧
    (inStage (mover 1 [])).blk.ctl.tileStage 0 = some 0 ∧
    (let d : Detector := { cycle := [0, 1], answers := [0] }
     insertNat 1 d.answers = d.cycle ∧ insertNat 0 d.answers ≠ d.cycle ∧ 1 ∈ d.cycle ∧ d.waiting = []) ∧
    (let s := St { staged 2 with detect := [(0, { probes := [(0, [1])] })] } [(0, { open_ with probing := true })]
     (SMap.find? (s.blk.currentProbes (s.blk.ctl.detector 0)) 0).isSome = true ∧ 0 ∉ (s.blk.ctl.detector 0).counted) := by decide +kernel

/-- A spilled record of 512 bytes of stream 2 in HBM at the start of stage 0's outtakes region, and its receiver. -/
def spilled : State :=
  let h : Xfer := { src := 1, stream := 2, seq := 6, run := zeroRun 512 }
  let x : Tile := { receiver with spill := true, recvQ := [h] }
  St (Regs (staged 2) [(stagePage 0 + 0x64, 64), (hbmPage 0 + 0x14, 0x40000000)]) [(0, x)]

theorem witness_spill :
    (spilled.blk.live 0 = true ∧ (spilled.blk.tile 0).spill = true ∧ spilled.blk.ctl.tileStage 0 = some 0 ∧
      ((spilled.blk.tile 0).recvQ.find? fun f => !f.refill).isSome = true ∧ (spilled.blk.ctl.ringOf 0).used + 576 ≤ spilled.blk.ctl.outBytes 0 ∧
      (Regs (staged 2) [(stagePage 0 + 0x64, 0)]).outBytes 0 < ((staged 2).ringOf 0).used + 576 ∧ (staged 2).stState 0 = 2) ∧
    nextTest (Sys2Proof.Machine.exec (.spillRecordWrite 0) spilled) (fun b =>
      match (b.ctl.ringOf 0).recs with
      | [r] => r.tile == 0 && !r.done && (rvMatch (head receiver 7) (b.recordXfer 0 r)).isSome &&
          decide ((b.tile 0).granted + creditUnits (b.recordXfer 0 r).run.bytes.length ≤ 256) && (b.tile 0).recvHead == some (head receiver 7)
      | _ => false) = true := by decide +kernel

/-! ### The mesh (10) -/

/-- Stage 0 with routes from tile 0 to the east, tile 8 to the west. -/
def routed : Ctl := Regs (staged 2) [(rtrPage 0 + 0x40, 0x33333330)]

/-- An item at router 0. -/
def atRouter0 (it : Item) : Ctl := { routed with net := [⟨.router 0 0, it⟩] }

theorem witness_routing :
    (atRouter0 (.pkt { dest := 1 })).net[0]? = some ⟨.router 0 0, .pkt { dest := 1 }⟩ ∧
    (routed.wallClosed 0 (edgePort 0) = false ∧ neighbour 0 (edgePort 0) = none) ∧
    ((staged 2).routeEntry 0 1 = 0 ∧ routed.routeEntry 0 1 = 3 ∧ routed.wallClosed 0 3 = false ∧ neighbour 0 3 = some 1 ∧
      (Regs routed [(rtrPage 7 + 0x40, 0x33333333), (rtrPage 7 + 0x44, 0x33333333)]).wallClosed 7 3 = true ∧
      (Regs routed [(rtrPage 7 + 0x40, 0x33333333), (rtrPage 7 + 0x44, 0x33333333)]).routeEntry 7 8 = 3) ∧
    (routed.tileStage 8 = none ∧ routed.tileStage 0 = some 0 ∧ routed.ownsEndpoint 0 (.pkt { endpoint := 0 }) = true ∧
      routed.ownsEndpoint 0 (.pkt { endpoint := 1 }) = false) ∧
    (let p : Pkt := { dest := 1 }
     let y : Pkt := { dest := 1, rsp := true }
     let m : Msg := { dest := 1, type := 1 }
     let c : Ctl := { routed with net := [⟨.router 0 0, .pkt p⟩, ⟨.router 0 1, .pkt y⟩] }
     routed.linkStopped 0 = false ∧ ({ routed with clk := { changes := [{ scope := 0, phase := .stopped }] } } : Ctl).linkStopped 0 = true ∧
      (atRouter0 (.pkt p)).pktOut 0 p = some 3 ∧ ((atRouter0 (.pkt p)).pktTurn 0 0 0 3 p).isSome = true ∧ c.pktTurn 0 0 0 3 p = none ∧
      c.net[1]? = some ⟨.router 0 1, .pkt y⟩ ∧ y.cls = p.cls ∧ c.pktOut 0 y = some 3 ∧ c.vcRoom 0 3 y = true ∧ p.sameVc y = false ∧
      (atRouter0 (.msg m)).msgOut 0 m = some 3 ∧ ((atRouter0 (.msg m)).msgTurn 0 3 m).isSome = true ∧ m.toRim = false ∧
      ({ m with rim := true } : Msg).toRim = true ∧
      (let q : Msg := { dest := 1, type := 0xA }
       let d : Ctl := { routed with net := [⟨.router 0 0, .msg q⟩, ⟨.router 0 0, .msg m⟩] }
       d.msgTurn 0 3 q = none ∨ d.msgTurn 0 3 m = none)) ∧
    (let c : Ctl := { Regs (staged 2) [(stagePage 1 + 0x40, 0x80000011)] with
       net := [⟨.gate 0, .pkt { endpoint := 0x20 }⟩, ⟨.gate 8, .pkt { endpoint := 0x20 }⟩] }
     c.tileStage 8 = some 1 ∧ c.ownsEndpoint 1 (.pkt { endpoint := 0x20 }) = true ∧ (c.takeNet 1).rimRoom 1 0x20 { endpoint := 0x20 } = true ∧
      (c.rimPick 0 1).isSome = true ∧ c.tileStage 0 = some 0 ∧ c.ownsEndpoint 0 (.pkt { endpoint := 0x20 }) = true ∧ c.rimPick 0 0 = none) ∧
    nextOfRun routed { dmode := 1, mcLast := 2 } 1 = some 2 ∧ nextOfRun routed { dmode := 1, mcLast := 1 } 1 = none := by decide +kernel

/-- Tile 0's schedule: period 4, slot 3 sends its own chunk east. -/
def mixed : Ctl := Regs (staged 2) [(rtrPage 0 + 0x74, 0x80000003), (rtrPage 0 + 0x40C, 0xC1800000)]

theorem witness_mixdown :
    (let p := rtrPage 0
     mixed.get p F.RTR_MIX_CTRL_PERIOD_M1 = 3 ∧ mixed.getN p F.RTR_MIX_SLOT_EN 3 = 1 ∧ (St mixed [(0, open_)]).blk.mixRuns 0 = true ∧
      (St mixed [(0, open_)]).blk.slotDue 0 = some 3 ∧ (St mixed [(0, open_)]).blk.slotDue 0 ≠ some 2 ∧
      mixed.getN p F.RTR_MIX_SLOT_OUT 3 ≠ 5 ∧ mixed.getN p F.RTR_MIX_SLOT_OUT 3 < open_.mix.spent.length ∧
      mixed.wallClosed 0 (mixed.getN p F.RTR_MIX_SLOT_OUT 3) = false ∧ (neighbour 0 (mixed.getN p F.RTR_MIX_SLOT_OUT 3)).isSome = true ∧
      (takeInputs { inj := [{}] } (mixed.getN p F.RTR_MIX_SLOT_IN 3) 3 [0, 1, 2, 3, 4]).isSome = true ∧
      (takeInputs {} (mixed.getN p F.RTR_MIX_SLOT_IN 3) 3 [0, 1, 2, 3, 4]).isNone = true ∧
      (mixed.getN p F.RTR_MIX_SLOT_IN 3).testBit (4 - 4) = false ∧
      (let c := Regs mixed [(rtrPage 0 + 0x40C, 0xC2800000), (rtrPage 0 + 0x7C, 1)]
       c.getN p F.RTR_MIX_SLOT_OUT 3 = 5 ∧ (takeInputs { inj := [{}] } (c.getN p F.RTR_MIX_SLOT_IN 3) 3 [0, 1, 2, 3, 4]).isSome = true ∧
        open_.granted + ejectUnits (c.getN p F.RTR_MIX_EJECT_CHUNKS_M1 0 + 1) ≤ 256 ∧
        (St c [(0, { open_ with granted := 256 })]).blk.ejectRoom 0 (c.getN p F.RTR_MIX_SLOT_EJ 3) = false) ∧
      (Regs mixed [(rtrPage 0 + 0x40C, 0x85800000)]).getN p F.RTR_MIX_SLOT_IN 3 % 2 = 1) ∧
    ({ mix := { owed := [1, 0, 0, 0, 0], spent := [1, 0, 0, 0, 0] } } : Tile).mix.owed.getD 0 0 ≠ 0 ∧
    (let r : Track := { ser := 1, step := 2, chunks := 2 }
     ([r].find? fun r => r.ser == 1 && r.step == 2 && r.chunks != 0) = some r ∧ r.chunks ≠ 1 ∧ ({ r with chunks := 1 } : Track).chunks = 1) ∧
    (let c : Ctl := { mixed with clk := { changes := [{ scope := 0, phase := .raising }] } }
     c.changing 0 = true ∧ mixed.changing 0 = false ∧ open_.mix.next = 0 ∧
      (St c [(0, { open_ with mix := { next := 1 } })]).blk.slotsLeft 0 ≠ [] ∧ (St (staged 2) [(0, open_)]).blk.slotsLeft 0 = []) ∧
    ({ tc0Sent := 4, tc0Held := [({}, 0)], core0 := { stall := .tc0 } } : Tile).tc0Sent - 1 < 4 := by decide +kernel

/-! ### HBM stacks, gather engines, the row fetcher (11, 09, 08) -/

/-- Stage 0 with its stack 0 READY and scrubbed. -/
def withStack : Ctl := Regs (staged 2) [(hbmPage 0 + 0x14, 0x40000000), (hbmPage 0 + 0x10, 1)]

/-- A packet at that stack's controller. -/
def atStack (p : Pkt) : Ctl := { withStack with net := [⟨.rim 0 0, .pkt p⟩] }

theorem witness_stacks :
    ((atStack { kind := 4, bytes := 64, addr := 4032 }).hbmItem 0 4 = some (0, 0, { kind := 4, bytes := 64, addr := 4032 }) ∧
      withStack.hbmCheck 0 0 4032 64 = .inr 4032) ∧
    ((atStack { kind := 5 }).hbmItem 0 5 = some (0, 0, { kind := 5 }) ∧ withStack.hbmCheck 0 0 47999999999 1 = .inr 47999999999 ∧
      withStack.flag (stagePage 0) F.STAGE_MIRROR_CTRL_EN = false ∧ withStack.stackStage 0 = some 0) ∧
    ((atStack { kind := 6, addr := 1 }).hbmItem 0 6 = some (0, 0, { kind := 6, addr := 1 }) ∧ withStack.hbmCheck 0 0 (33 - 33 % 32) 32 = .inr 32 ∧
      33 % 32 ≤ 1 ∧ (zeroRun 32).bytes.length = 32 ∧ (zeroRun 32).anyBad = false ∧ 32 % 32 = 0) ∧
    (withStack.hbmCheck 0 0 48000000000 1 = .inl 3 ∧ withStack.hbmCheck 0 1 0 1 = .inl 6 ∧ (staged 2).hbmCheck 0 0 0 1 = .inl 6) ∧
    (1 < 34 % 32 ∧ withStack.hbmCheck 0 0 (34 - 34 % 32) 32 = .inr 32 ∧ withStack.hbmCheck 0 0 0 1056 = .inr 0 ∧ (33 : Nat) % 32 ≠ 0) ∧
    (withStack.stackReady 0 = true ∧ withStack.flag (hbmPage 0) F.HBM_CTRL_SCRUB_EN = true ∧ (staged 2).stackReady 0 = false ∧
      (Regs withStack [(hbmPage 0 + 0x14, 0x20000000)]).flag (hbmPage 0) F.HBM_STATUS_INIT_BUSY = true ∧
      withStack.flag (hbmPage 0) F.HBM_STATUS_INIT_BUSY = false ∧ (3 : Nat) ∈ ({ base with hbmWarm := [3] } : Ctl).hbmWarm ∧ (3 : Nat) ∉ base.hbmWarm) ∧
    base.reaches .pf (stagePage 0) := by
  simp only [reaches_iff]; decide +kernel

theorem witness_bursts : (burstsOf 4032 64)[0]? = some 63 ∧ (burstsOf 4000 200)[3]? = some 65 ∧ (partBursts 4000 200).head? = some 62 ∧
    (partBursts 4032 64).head? = none := by decide +kernel

/-- No granule of a stage without mirror regions is mirrored. -/
theorem witness_mirrored (g : Nat) : withStack.mirrored 0 g = false := by
  have h : ∀ n < 64, bit ((withStack.region 0 n).getD 0 0) 31 = false := by decide +kernel
  simp only [Ctl.mirrored, List.any_eq_false, List.mem_range]
  intro n hn
  rw [h n hn]; simp

/-- Tile 3 with table 0: 32 rows of 64 bytes of FP32 in two shards; stage 0 has contexts 0 to 15, 7 open. -/
def tables : Ctl :=
  let g := gathPage 3 + 0x40
  (Regs (staged 2) [(g, 0x80000000), (g + 0xC, 32), (g + 0x14, 16), (g + 0x18, 1), (g + 0x1C, 0x100), (stagePage 0 + 0x100, 0x00100000)]).setCtx 7
    { st := 2 }

/-- One bag of table 0 that empties the hit cache, pooled or, with `op` 1, an update. -/
def bagWords (op : Nat) : List Word := [BitVec.ofNat 32 (op * 0x40000000 + 0x400040), 0x20, 0, 0x60, 0x00040000]

/-- Tile 3 alone of stage 0. -/
def gathers (c : Ctl) (x : Tile) : State := St c [(3, x)]

/-- Its queue at the one bag. -/
def bagTile (op : Nat) (void : Bool) (g : Gath) : Tile :=
  let x := runTile 8 (bagWords op) 1 0 0
  { x with gath := g, queues := x.queues.set 8 { cur := some { head x 8 with void := void } } }

/-- A row collected for shard 1, its request sent or not, and a local row awaited. -/
def farRow (req : Option Nat) : Fetch := { tag := 5, row := 20, shard := 1, loc := 4, win := 2, ctx := 7, remote := true, req := req }
def nearRow : Fetch := { tag := 6, row := 3, loc := 3, left := 1 }

theorem witness_gather :
    (isSTile 3 = true ∧ (gathers tables (headTile 8 (bagWords 0))).blk.live 3 = true ∧
      readyTest ((gathers tables (headTile 8 (bagWords 0))).blk.takeHead 3 8 []) (fun d b => (gatherCheck b.ctl 3 d).isNone && gdHcInv d) = true ∧
      readyTest ((gathers (staged 2) (headTile 8 (bagWords 0))).blk.takeHead 3 8 []) (fun d b => gatherCheck b.ctl 3 d == some 1) = true ∧
      tables.flag (seqPage 3) F.SEQ_HALT_INFO_VALID = false ∧ gdUpdate (head (bagTile 1 false {}) 8) = true ∧ tables.txUsed = 0) ∧
    (∀ v ∈ [true, false],
      let s := gathers tables (bagTile 0 v {})
      let d := head (bagTile 0 v {}) 8
      s.blk.live 3 = true ∧ s.blk.current 3 8 = some d ∧ s.blk.ctl.tokensReady 3 d.hdr = true ∧ d.void = v ∧
        (s.blk.tile 3).gath.bags.length < 9 ∧ (∀ x ∈ (s.blk.tile 3).gath.bags, x.todo = [])) := by decide +kernel

theorem witness_hitCache :
    (tables.reaches .pf (gathPage 3) ∧ tables.unlocked (gathPage 3) ∧ (open_.queue 8).complete = true ∧ bits 0x80000 21 18 = 2 ∧
      bits 0x300000 21 18 = 12 ∧ bits 0x40000 21 18 = 1 ∧ bits 0x340000 21 18 = 13 ∧ ((bagTile 0 false {}).queue 8).complete = false) := by
  simp only [reaches_iff, Ctl.unlocked]; decide +kernel

theorem witness_rows :
    (let g : Gath := { fetches := [farRow none, nearRow] }
     (g.fetches.filter fun f => f.remote && f.req.isNone && f.table == 0 && f.shard == 1) = [farRow none] ∧ tables.tileStage 3 = some 0 ∧
        (gathers tables (bagTile 0 false g)).blk.live 3 = true ∧ (∀ y ∈ g.bags, y.todo = []) ∧ g.outstanding < 512 ∧ tables.txRoom = true ∧
        512 ≤ ({ fetches := List.replicate 512 nearRow } : Gath).outstanding ∧
        tables.ownsCtx 0 (farRow none).ctx = true ∧ (tables.ctx (farRow none).ctx).st = 2) ∧
    (let p : Pkt := { kind := 3, tag := 6 * 4 + 2 }
     let g : Gath := { fetches := [farRow (some 9), nearRow] }
     ({ tables with net := [⟨.tile 3, .pkt p⟩] }.atTile 0) = some (3, .pkt p) ∧ p.kind = 3 ∧ p.err = false ∧ p.tag % 4 = 2 ∧ (6 * 4 + 3) % 4 = 3 ∧
        (g.fetches.find? fun f => f.tag == p.tag / 4 && !f.remote) = some nearRow ∧ nearRow.left = 1 ∧ nearRow.parts = [] ∧ nearRow.err = false ∧
        (∀ q ∈ g.tags, q.fill ≠ some nearRow.tag) ∧ (g.fetches.find? fun f => f.tag == 9 && !f.remote) = none ∧
        (g.fetches.filter fun f => f.req == some 9) = [farRow (some 9)]) := by
  decide +kernel

theorem witness_bagComplete :
    (let y : Bag := { ids := [{ got := some (zeroRun 64) }] }
     ∀ op ∈ [0, 1],
        let x := bagTile op false { bags := [y] }
        x.gath.bags = [y] ∧ (x.queue 8).find y.ser = some (head x 8) ∧ y.ready = true ∧ gdUpdate (head x 8) = (op == 1) ∧
          (∀ j ∈ y.ids, j.got ≠ none) ∧ (gathers tables x).blk.live 3 = true) := by
  decide +kernel

/-- A start for program 0, eight slots; a list of one block with one entry. -/
def startPass : Pass := { bytes := [0x00000000 + 0x5D000000, 0x00080000, 0, 0].flatMap (leBytes 4) }
def listPass : Pass := { bytes := [0x5C000001, 0x00080000, 0, 0].flatMap (leBytes 4) ++ [0, 0] }

/-- Stage 0 with programs 0 to 3, program 0's record as the first words of stack 0, and a pass waiting. -/
def fetching (x : Pass) (ws : List Word) : State :=
  let c := Regs withStack [(stagePage 0 + 0xD0, 0x00040000)]
  St { c with progs := [(0, { passes := [x] })] } [(0, open_)] [(0, ({} : Mem).store 0 (runOf (wordBytes ws) false))]

/-- One block of 64 bytes at byte 4096 to tile 0 by either branch. -/
def record : List Word := [0xF0410100, 0, 4096, 0, 64, 0, 0, 0, 0, 0, 0, 0]

theorem witness_fetch :
    (base.reaches .pf (tilePage 0 0) ∧ base.unlocked (tilePage 0 0) ∧ ((St base [(0, open_)]).blk.tile 0).wrapped = false ∧
      ({ open_ with init := true } : Tile).wrapped = false ∧ ({ open_ with init := true } : Tile).init = true ∧ open_.init = false ∧
      (let p := tilePage 0 0
       (base.put p F.TILE_FETCH_CMD_BUSY 1).flag p F.TILE_FETCH_CMD_BUSY = true ∧ base.flag p F.TILE_FETCH_CMD_BUSY = false ∧
       base.get p F.TILE_FETCH_SRC_ADDR16 * 16 + (511 + 1) * 16 ≤ spBytes 0 ∧
       spBytes 0 < (base.put p F.TILE_FETCH_SRC_ADDR16 (spBytes 0 / 16)).get p F.TILE_FETCH_SRC_ADDR16 * 16 + 16)) ∧
    (let at_ (x : Pass) : Ctl := { staged 2 with net := [⟨.rim 0 0x32, .pkt { run := runOf x.bytes false }⟩] }
     (at_ startPass).atRim 0 = some (0, 0x32, .pkt { run := runOf startPass.bytes false }) ∧ bits (startPass.w 0) 31 24 = 0x5D ∧
        (at_ listPass).atRim 0 = some (0, 0x32, .pkt { run := runOf listPass.bytes false }) ∧ bits (listPass.w 0) 31 24 ≠ 0x5D ∧
        ((staged 2).prog 0).passes.length < 2) ∧
    (∀ x ∈ [startPass, listPass], ∀ ws ∈ [record, []],
      let s := fetching x ws
      let c := s.blk.ctl
      (c.prog 0).passes = [x] ∧ c.valid 0 = true ∧ c.inRange 0 F.STAGE_FETCH_RANGE_FIRST F.STAGE_FETCH_RANGE_COUNT 0 = true ∧
        (let r := (s.blk.stgRead 0 0 256 []).1
         r.anyBad = false ∧ c.recordOk 0 r = !ws.isEmpty)) ∧
    (staged 2).stState 0 = 2 ∧ startPass.isStart = true ∧ listPass.isStart = false ∧ listPass.wellFormed = true ∧ bit (listPass.w 2) 0 = false ∧
    listPass.entries.length ≤ listPass.slots := by
  simp only [reaches_iff, Ctl.unlocked]; decide +kernel

/-! ### Ports, rings, windows, contexts, the mirror stream (12) -/

/-- Stage 0 in state `n` with contexts 0 to 15, rings 0 to 3, rim slates 0 to 9 and port 0, its link up; context 1 open to the peer's
context 2; ring 0 in tile 0's scratchpad with four posts. -/
def fabric (n : Nat) : Ctl :=
  let c := Regs (staged n) [(stagePage 0 + 0x48, 1), (stagePage 0 + 0x80, 0x000A0000), (stagePage 0 + 0x100, 0x00100000),
    (stagePage 0 + 0x104, 0x00040000), (portPage 0 + 0x14, 0x80000000), (portPage 0 + 0x40, 0x80000000)]
  { c with rsl := [(0, { count := 4 })], uam := { c.uam with
    ctxs := [(1, { st := 2, words := [2, 0, 0, 0, 0, 0, 0, 0, 0x04000000] })]
    rings := [(0, { words := [0xC000003F, 0x1000, 0, 0x200, 0, 0x800] })] } }

/-- A frame of the peer to context 1. -/
def frame : Frame := { dstCtx := 1, srcCtx := 2, lenM1 := 3, payload := [1, 2, 3, 4] }

/-- The bytes of a frame on the wire, without encapsulation. -/
def wireOf (f : Frame) : List Byte := Encap.wire {} (frameBytes f)

/-- The bytes of a frame of type `ty` pass the common checks in a state and give the frame back, and the rest passes a test. -/
def goes (c : Ctl) (ty : Nat) (f : Frame) (p : Blk → Nat → List Byte → Bool) : Bool :=
  goTest ((St c [(0, open_)]).blk.receive 0 ty (wireOf { f with ty := ty }) {}) fun b st g l => g == { f with ty := ty } && p b st l

/-- An ARP request for the port's address; the Neighbour Solicitation has its own. -/
def arpRequest : List Byte :=
  let m : List Byte := List.replicate 12 0 ++ [8, 6, 0, 1, 8, 0, 6, 4, 0, 1] ++ List.replicate 38 0
  m ++ leBytes 4 (crc32.of m)

theorem witness_arrivals :
    (fabric 2).arrival 0 [1, 0, 0, 0, 0] = .badFcs ∧ (fabric 2).arrival 0 [] = .other ∧
    (fabric 2).arrival 0 (Encap.wire {} (List.replicate 46 0)) = .corrupt ∧ (fabric 2).arrival 0 arpRequest = .address ∧
    (let f := { frame with ty := 1, dstCtx := 5 }
     (fabric 2).arrival 0 (wireOf f) = .frame {} f ∧ (fabric 2).rxContext 0 {} f = none) ∧
    (fabric 2).mgmt.rate = [] ∧ SMap.get 0 [(16, 0), (32, 1000)] 32 = 1000 ∧ (fabric 2).reel / 1000000000 = 0 ∧
    (∀ g ∈ [({ stage := 12, bytes := [1] } : Egress), { first := true }], g.port = 0 ∧ (g.first = true ∨ g.stage ≤ 12)) := by decide +kernel

theorem witness_ports :
    (fabric 2).linkUp 0 = true ∧ (base.linkUp 0 = false ∧ (Regs base [(portPage 0 + 0x40, 0x80000000)]).flag (portPage 0) F.PORT_CFG_LINK_EN = true ∧
      base.flag (portPage 0) F.PORT_STATUS_OPT_DIS = false) ∧ (fabric 2).mirynUp = true ∧
    (Regs (fabric 2) [(rstPage + 0x14, 0x80000000)]).mirynUp = false ∧
    goes (fabric 2) 1 frame (fun b st data => !b.inFault st && b.ctl.ringOk st 0 && b.ctl.rxRoom 1 0 && (b.ctl.rxMsg 1 0).isNone &&
      data == [1, 2, 3, 4] && decide (data.length ≤ (b.ctl.ring 0).bsize) && (b.ctl.ring 0).where_ == some 0 && !(b.tile 0).init) = true ∧
    ({} : Tile).init = true ∧
    goes (fabric 2) 1 frame (fun b st _ => match (b.onCtl fun c => { c with uam := { c.uam with rx := [{}] } }).takePost st (b.ctl.ring 0) [] 65537 with
      | x => x.buf == some 0 && x.ring.consumed == 1) = true ∧
    goes { fabric 2 with uam := { (fabric 2).uam with rx := [{ ctx := 1 }] } } 4 frame (fun b st _ => !b.inFault st && b.ctl.rxRoom 1 0 &&
      (b.ctl.rxMsg 1 0).any fun o => !o.streamed) = true ∧
    (∀ ty ∈ [1, 4], goes (fabric 4) ty frame (fun b st _ => b.inFault st && b.ctl.linkUp (b.ctl.ctx 1).port) = true ∧
      goes (fabric 2) ty { frame with ring := 1 } (fun b st _ => !b.inFault st && !b.ctl.ringOk st 1 && b.ctl.linkUp (b.ctl.ctx 1).port) = true) ∧
    goes (fabric 2) 4 frame (fun b st _ => !b.inFault st && b.ctl.ringOk st 0 && b.ctl.rxRoom 1 0 && (b.ctl.rxMsg 1 0).isNone) = true ∧
    goes { fabric 2 with uam := { (fabric 2).uam with tx := [{ ctx := 1, streamed := true }] } } 5 frame (fun b _ _ =>
      (b.ctl.uam.tx.find? fun m => m.ctx == 1 && m.msn == 0 && m.streamed) == some { ctx := 1, streamed := true }) = true := by decide +kernel

theorem witness_grants :
    (let m : RxMsg := { ctx := 1, len := 8192, streamed := true }
     let c := { fabric 2 with uam := { (fabric 2).uam with rx := [m] } }
     let x := c.ring 0
     c.ringStage 0 = some 0 ∧ (c.uam.rx.find? fun m => m.ring == 0 && m.streamed && decide (m.granted < m.len)) = some m ∧ x.on = true ∧
      x.reserve < c.ringFree x ∧ ((St c [(0, open_)]).blk.takePost 0 x [] 1).buf = some 0 ∧ ((St base).blk.takePost 0 {} [] 1).buf = none) ∧
    (let m : RxMsg := { ctx := 1, len := 8192, streamed := true, granted := 4096 }
     ([m].filter fun m => m.ctx == 1 && decide (m.told < m.granted)) = [m] ∧ (fabric 2).linkUp ((fabric 2).ctx 1).port = true) := by decide +kernel

/-- The fabric with these messages in flight and frames unacknowledged on context 1, and a window 3 of 8,192 bytes at byte 4096. -/
def flying (tx : List TxMsg) (un : List TxFrame) (rights : Nat) : Ctl :=
  let c := fabric 2
  { c with uam := { c.uam with tx := tx, nextId := 9, wins := [(3, [BitVec.ofNat 32 rights, 4096, 0, 8192, 0])]
                               ctxs := [(1, { c.ctx 1 with unacked := un, txPsn := 6, rxOwed := 1 })] } }

theorem witness_windows :
    (let m : TxMsg := { id := 4, ctx := 1, len := 4, next := 4 }
     let u : TxFrame := { psn := 5, msg := 4, ty := 1, len := 4 }
     goes (flying [m] [u] 0) 2 { frame with psn := 6 } (fun b _ _ => isAcked 6 0 u.psn && (b.ctl.ctx 1).unacked == [u] &&
        (b.ctl.uam.tx.find? fun m => m.id == u.msg) == some m && decide (m.id < b.ctl.uam.nextId)) = true ∧
      (m.ctx = 1 ∧ m.op ≠ 2 ∧ m.op ≠ 5 ∧ m.len ≤ m.next ∧ m.backoff = false ∧ frame.aux = 0) ∧
      goes (flying [m] [u] 0) 3 { frame with psn := 5, aux := 1 } (fun b _ _ => ((b.ctl.ctx 1).unacked.find? fun u => u.psn == 5) == some u) = true ∧
      goes (flying [m] [u] 0) 3 { frame with psn := 5, aux := 2 } (fun b _ _ => ((b.ctl.ctx 1).unacked.find? fun u => u.psn == 5) == some u) = true ∧
      goes (flying [m] [u] 0) 3 { frame with psn := 4, aux := 2 } (fun b _ _ => ((b.ctl.ctx 1).unacked.find? fun u => u.psn == 4).isNone &&
        (b.ctl.uam.tx.find? fun m => m.ctx == 1 && m.msn == 0 && m.op != 7) == some m) = true ∧
      (flying [m] [u] 0).msgOf u.msg = some m ∧
      m.who = .request ∧ ((flying [m] [u] 0).ctx 1).rxOwed ≠ 0 ∧ (flying [m] [u] 0).linkUp ((flying [m] [u] 0).ctx 1).port = true ∧
      ((flying [m] [u] 0).ctx 1).st = 2 ∧ ((flying [m] [u] 0).ctx 1).unacked = [u] ∧ u.tries + 1 < ((flying [m] [u] 0).ctx 1).retryMax ∧
      ([{ m with backoff := true }].find? fun m => m.ctx == 1 && m.backoff) = some { m with backoff := true }) ∧
    (∀ ty ∈ [6, 8, 9],
      goes (flying [] [] 0x80000000) ty { frame with ring := 3 } (fun b st _ => !b.inFault st && b.ctl.linkUp (b.ctl.ctx 1).port &&
        !b.ctl.windowOk st 3 30 0 4 && !b.ctl.windowOk st 3 29 0 4 && !b.ctl.windowOk st 3 28 0 4) = true ∧
      goes (flying [] [] 0xF0000000) ty { frame with ring := 3, payload := if ty = 6 then [] else frame.payload } (fun b st data => !b.inFault st &&
        b.ctl.windowOk st 3 30 8188 4 && b.ctl.windowOk st 3 29 8188 4 && b.ctl.windowOk st 3 28 8188 4 && !b.ctl.windowOk st 3 29 8189 4 &&
        (toWords 8 data).isEmpty) = true) ∧
    goes (flying [] [] 0xF0000000) 6 { frame with ring := 3, payload := [3, 0, 0, 0, 0, 0, 0, 0] } (fun b st data => toWords 8 data == [3] &&
      b.ctl.windowOk st 3 30 (3 * 4) 4) = true ∧
    (∀ ty ∈ [6, 7, 8, 9, 0xA], goes (fabric 4) ty { frame with payload := if ty = 6 then [] else frame.payload } (fun b st _ =>
      b.inFault st && b.ctl.linkUp (b.ctl.ctx 1).port) = true) ∧
    (let m : TxMsg := { id := 4, ctx := 1, op := 2, len := 4, dstKind := 2 }
     goes (flying [m] [] 0) 7 frame (fun b _ data => (b.ctl.uam.tx.find? fun m => m.op == 2 && m.ctx == 1 && m.msn == 0) == some m &&
        decide (m.len ≤ m.placed + data.length)) = true ∧
      goes (flying [{ m with len := 8 }] [] 0) 7 { frame with lenM1 := 7, off := 4 } (fun b _ data =>
        (b.ctl.uam.tx.find? fun m => m.op == 2 && m.ctx == 1 && m.msn == 0) == some { m with len := 8 } && decide (m.placed + data.length < 8)) = true ∧
      m.who = .request ∧ ({ m with who := .gatherRead 3 1 } : TxMsg).who = .gatherRead 3 1 ∧ m.dstKind = 2 ∧ ({ m with dstKind := 1 } : TxMsg).dstKind ≠ 2) := by decide +kernel

/-- UCFG selects record `n` of kind `k`, with one data word set. -/
def selects (k n : Nat) (data : List (Nat × Word)) : Ctl :=
  Regs (fabric 2) ((stagePage 0 + 0x108, BitVec.ofNat 32 (k * 0x40000000 + n)) :: data.map fun e => (stagePage 0 + 0x140 + 4 * e.1, e.2))

theorem witness_contexts :
    base.reaches .pf (stagePage 0) ∧
    (∀ k ∈ [1, 2, 3, 4], (selects 0 16 []).ucfgCheck 0 k = some 0x17) ∧ (selects 0 1 []).ucfgCheck 0 2 = some 0x19 ∧
    (∀ k ≤ 3, (selects k 0 []).ucfgCheck 0 1 = none) ∧ (selects 0 0 [(7, 1), (8, 0x01000001)]).ucfgCheck 0 2 = none ∧
    (selects 1 1 []).ucfgCheck 0 2 = none ∧ (selects 2 15 [(3, 64)]).ucfgCheck 0 2 = none ∧ (selects 3 63 [(3, 4096)]).ucfgCheck 0 2 = none ∧
    (selects 0 0 []).ucfgCheck 0 3 = none ∧ (selects 0 0 []).linkUp ((selects 0 0 []).ctx 0).port = true ∧ (selects 0 15 []).ucfgCheck 0 4 = none ∧
    (({ fabric 2 with uam := { (fabric 2).uam with ctxs := [(1, { st := 1 })] } } : Ctl).ctx 1).st = 1 ∧
    goes (fabric 2) 0xB frame (fun b _ _ => (b.ctl.ctx 1).st == 2 && b.ctl.linkUp (b.ctl.ctx 1).port) = true ∧
    goes { fabric 2 with uam := { (fabric 2).uam with ctxs := [(1, { st := 1, words := [2] })] } } 0xC frame (fun b _ _ => (b.ctl.ctx 1).st == 1) = true := by
  simp only [reaches_iff]; decide +kernel

/-- The payload of a request with these words and inline bytes. -/
def req (ws : List Word) (inl : List Byte) : Run := runOf (wordBytes (ws ++ List.replicate (16 - ws.length) 0) ++ inl) false

/-- A transfer with that request at the endpoint of port 0. -/
def atPort (r : Run) (c : Ctl := fabric 2) : Ctl := { c with net := [⟨.rim 0 0x10, .pkt { run := r }⟩] }

theorem witness_requests :
    (atPort (req [0x10000001, 3] [1, 2, 3, 4])).portItem 0 = some (0, 0, { run := req [0x10000001, 3] [1, 2, 3, 4] }) ∧ (fabric 2).txRoom = true ∧
    (∀ e ∈ [(0x10000001, 3, 4, true), (0x10000001, 3, 3, false), (0x30000001, 3, 4, true), (0x30000001, 3, 3, false), (0x40000001, 31, 32, true),
        (0x40000001, 3, 4, false), (0x22000001, 3, 0, true), (0x20000001, 3, 0, false), (0x50000001, 0, 0, true), (0x54000001, 0, 0, false),
        (1, 3, 4, false), (0x60000001, 3, 4, false)],
      let r := req [BitVec.ofNat 32 e.1, BitVec.ofNat 32 e.2.1] (List.replicate e.2.2.1 0)
      reqOp r = e.1 / 2 ^ 28 ∧ (fabric 2).requestOk 0 0 r = e.2.2.2 ∧ ((fabric 2).ctx (requestMsg (fabric 2) 0 r).ctx).st = 2) ∧
    (∀ e ∈ [(0x10000000, 3, 4), (0x22000000, 3, 0), (0x30000000, 3, 4), (0x40000000, 31, 32), (0x50000000, 0, 0)],
      let r := req [BitVec.ofNat 32 e.1, BitVec.ofNat 32 e.2.1] (List.replicate e.2.2 0)
      (fabric 2).requestOk 0 0 r = true ∧ ((fabric 2).ctx (requestMsg (fabric 2) 0 r).ctx).st ≠ 2) ∧
    (∀ m ∈ [({ id := 4, ctx := 1, len := 4 } : TxMsg), { id := 4, ctx := 1, op := 2, len := 4 }, { id := 4, ctx := 1, len := 4, streamed := true }],
      let c := flying [m] [] 0
      let x := c.ctx 1
      x.st = 2 ∧ x.unacked.length < min 1024 x.cwnd ∧
        (((c.uam.tx.filter fun m => m.ctx == 1).findSome? fun m => (m.nextFrame x.payload).map fun q => (m, q)).map fun q => q.1) = some m ∧
        c.linkUp x.port = true ∧ c.ctxStage 1 = some 0 ∧ (∀ z ∈ c.uam.ctxs, z.1 ≠ 1 → z.2.port = x.port → c.sendable z.1 = none) ∧
        ((St c [(0, open_)]).blk.sendTurn 1 []).isSome = true) ∧
    (let c := flying [{ id := 4, ctx := 1, len := 4 }, { id := 5, ctx := 2, len := 4 }] [] 0
     let c := { c with uam := { c.uam with ctxs := c.uam.ctxs ++ [(2, { st := 2 })] } }
     (c.sendable 1).isSome = true ∧ (c.sendable 2).isSome = true ∧
      ((St c [(0, open_)]).blk.sendTurn 1 []).isSome = !((St c [(0, open_)]).blk.sendTurn 2 []).isSome) := by
  decide +kernel

/-- Stage 0's mirror stream on context 1: region 0 is its first 8,192 bytes, the dirty map at 1 MiB with granule 1's bit set, or none. -/
def mirrors (dirty : Bool) : State :=
  let c := Regs (fabric 2) [(stagePage 0 + 0x110, 0x80000001), (stagePage 0 + 0x114, 0x100000)]
  let c := { c with uam := { c.uam with regions := [(0, [0x80000003, 0, 0, 8192, 0, 0, 0])] } }
  St c [] (if dirty then [(0, ({} : Mem).setByte 0x100000 2)] else [])

theorem witness_mirror :
    (fabric 2).reaches .pf (stagePage 0) ∧ (fabric 2).unlocked (stagePage 0) ∧ (fabric 2).mirrorBad 0 16 = true ∧
    (let c := Ctl.wr (mirrors false).blk.ctl (stagePage 0 + 0x110) 1
     c.mirrorBad 0 (bits 0x80000001 11 0) = false ∧ c.flag (stagePage 0) F.STAGE_MIRROR_CTRL_EN = false ∧ c.mirrorGranules 0 = [0, 1] ∧
      (c.dirtyAt 0 1).isSome = true) ∧
    ((fabric 2).marks 0).length < 4 ∧
    4 ≤ (({ fabric 2 with uam := { (fabric 2).uam with marks := [(0, [{}, {}, {}, {}])] } } : Ctl).marks 0).length ∧
    (∀ d ∈ [true, false],
      let s := mirrors d
      s.blk.ctl.flag (stagePage 0) F.STAGE_MIRROR_CTRL_EN = true ∧ (s.blk.ctl.ctx (s.blk.ctl.mirrorCtx 0)).st = 2 ∧
        s.blk.dirtyList 0 = (if d then [1] else []) ∧
        ((List.range 64).find? fun i =>
          let r := s.blk.ctl.region 0 i
          bit (r.getD 0 0) 31 && decide (rec64 r 1 ≤ 1 * 4096) && decide (1 * 4096 < rec64 r 1 + rec64 r 3)) = some 0) ∧
    (fabric 2).txRoom = true ∧ (fabric 2).uam.tx = [] ∧
    goes (fabric 2) 0xA frame (fun b st _ => !b.inFault st) = true := by
  simp only [reaches_iff, Ctl.unlocked]; decide +kernel

/-! ### Host and management interfaces (13) -/

/-- The stack's bytes and those of stack 1, of no stage, through BAR2, for both functions. -/
def viaBar2 (stack : Bool) : Ctl :=
  withVf (Regs withStack [(hbmPage 1 + 0x14, 0x40000000), (pciePage + 0x40, if stack then 0x80000001 else 0)])

theorem witness_host :
    (viaBar2 false).fnExists 0 = true ∧ (viaBar2 false).fnExists 1 = true ∧ (viaBar2 false).bar2Ok 4096 ((viaBar2 false).bar2 0 0) = true ∧
    (viaBar2 false).bar2Ok 4096 ((viaBar2 false).bar2 1 0) = true ∧ (viaBar2 true).bar2Ok 4096 ((viaBar2 true).bar2 0 0) = true ∧
    (viaBar2 true).bar2 0 0 = .stack 1 0 ∧ base.bar2Ok 0 (base.bar2 0 0) = false ∧ (withVf base).bar2Ok 4 ((withVf base).bar2 1 0) = false ∧
    base.reaches .pf (stagePage 0) ∧
    (∀ k ∈ [1, 2],
      let p : Pkt := { kind := k, bytes := 4 }
      ({ staged 2 with net := [⟨.rim 0 0x20, .pkt p⟩] } : Ctl).hostItem 0 k = some (0, p) ∧ p.run.anyBad = false) ∧
    (withVf (staged 2)).mayMaster 0 true = true ∧ (withVf (staged 2)).mayMaster 0 false = false ∧
    (let r : HostRead := { id := 3, bytes := 4, left := [(0, 4)], got := zeroRun 4 }
     ([r].find? fun r => r.id == 3) = some r ∧ r.left = [(0, ([1, 2, 3, 4] : List Byte).length)]) := by
  simp only [reaches_iff]; decide +kernel

theorem witness_functions :
    (withVf base).fnExists 0 = true ∧ (withVf base).fnExists 1 = true ∧ base.boot.running = .none ∧
    ({ base with host := { base.host with waiting := [devPage] } } : Ctl).host.waiting = [devPage] ∧ base.pageOwner devPage = 0 ∧
    base.boot.perstLow = false ∧ base.boot.resetLow = false ∧ base.boot.held = false ∧ base.ready = true ∧
    bit (base.option 2) 9 = false ∧ bit ((Regs base [(optPage + 0x48, 0x200)]).option 2) 9 = true ∧ base.pageOwner devPage = Fn.pf.num ∧
    (∀ u ∈ ([] : List (Fin 2048)), u.val ≠ bits (base.rd (devPage + 0x10)) 30 20) ∧
    (let x : MsixEntry := { vec := 0, addr := 0xFEE00000, data := 3 }
     [x].find? (fun x => x.vec == bits (base.rd (devPage + 0x10)) 30 20) = some x ∧ bits (base.rd (devPage + 0x10)) 30 20 < vectorsOf Fn.pf.num) ∧
    base.flag pciePage F.PCIE_STATUS_DL_UP = false ∧ bits (base.option 2) 2 0 ∈ [0, 6, 7] ∧ bits (base.option 2) 8 4 ∉ [1, 2, 4, 8] ∧
    (let o := (Regs base [(optPage + 0x48, 0x13)]).option 2
     bits o 2 0 = 3 ∧ bits o 8 4 = 1) := by decide +kernel

theorem witness_management :
    base.boot.aon = true ∧ base.mirynUp = true ∧ (Regs base [(rstPage + 0x14, 0x80000000)]).mirynUp = false ∧
    (base.log.all.find? fun e => decide (base.log.smb ≤ e.seq)) = none ∧
    (({ ring := [{ seq := 1 }] } : EvLog).all.find? fun e => decide (1 ≤ e.seq)) = some { seq := 1 } ∧
    0x01 ∈ smbCodes ∧ 0x21 ∈ smbCodes ∧ 0x05 ∉ smbCodes ∧ base.mgmt.smbAddr ≠ 0x7F ∧ ({ base.boot with aon := false } : Boot).aon = false ∧
    900 ≤ leNat [0x84, 3] ∧ leNat [0x84, 3] ≤ 4400 ∧ leNat [0, 0] < 900 ∧ leNat ((([0, 0, 0, 0, 0, 0, 0xFF, 0xC9, 0x9A, 0x3B] : List Byte).drop 6).take 4) < 1000000000 ∧
    1000000000 ≤ leNat ((([0, 0, 0, 0, 0, 0, 0, 0xCA, 0x9A, 0x3B] : List Byte).drop 6).take 4) ∧
    bit ((Regs base [(optPage + 0x54, 4)]).option 5) 2 = true ∧ base.mgmt.uart.length < 256 ∧
    256 ≤ (List.replicate 256 (0 : Byte)).length ∧
    (jtagDisruptive .extest = true ∧ base.boot.resetLow = false ∧ bit (base.option 5) 0 = false ∧ jtagDisruptive .idcode = false ∧
      bit ((Regs base [(optPage + 0x54, 1)]).option 5) 0 = true) ∧
    ({ base with boot := { base.boot with running := .full } } : Ctl).boot.running ≠ .none ∧
    (Regs { base with boot := { base.boot with running := .full } } [(rstPage + 0x14, 0x82000000)]).phase = 2 ∧
    (fabric 2).mgmt.rate = [] ∧ ([1] ++ List.replicate 15 0 : List Byte).length = 16 ∧ (fabric 2).mirynUp = true ∧
    (∀ e ∈ [(0xD, 1), (0xD, 2), (1, 1)],
      let f : Frame := { ty := e.1, lenM1 := 63, payload := [BitVec.ofNat 8 e.2] ++ List.replicate 15 0 }
      (fabric 2).arrival 0 (wireOf f) = .frame {} f ∧ leNat (f.payload.take 4) = e.2) ∧
    (fabric 2).arrival 0 [] = .other ∧ SMap.get 0 [(0, 100), (16, 0)] 0 = 100 ∧ (fabric 2).linkUp 0 = true := by decide +kernel

/-! ### Power, cues, heat, frequencies (14, 15) -/

/-- The power unit in a state, at a reel time in ns. -/
def powered (p : Pwr) (reel : Nat) (l : List (Nat × Word)) : Ctl := { Regs (staged 2) l with pwr := p, reel := reel }

theorem witness_power :
    (let c := powered { winN := 10000, calMs := 64, calm := 15000, winP := 1000000 * wUnit } 0 []
     c.boot.aon = true ∧ c.pwr.rails.length = 32 ∧ c.getN pwrPage F.PWR_RAIL_WIN_MIN_A 31 * 1000 ≤ c.getN pwrPage F.PWR_RAIL_WIN_MAX_A 31 * 1000 ∧
      c.getN pwrPage F.PWR_RAIL_WIN_MAX_A 31 * 1000 < 65536000 ∧ c.flag pwrPage F.PWR_TELEM_FIRST_VALID = false ∧ c.mirynUp = true ∧ c.lz4 = false ∧
      (Regs c [(rstPage + 0x14, 0x80000000)]).mirynUp = false ∧ (Regs c [(optPage + 0x50, 1)]).lz4 = true ∧ 0 < c.pwr.winN ∧
      64 ≤ c.pwr.calMs ∧ c.pwr.winOk = true ∧ c.pwr.winN + 5000 ≤ c.pwr.calm ∧
      trackTol false (c.pwr.winS / c.pwr.winN) * c.pwr.winN < ((c.pwr.winP : Int) - c.pwr.winS).natAbs) ∧
    (({ rails := List.replicate 32 { frozen := true } } : Pwr).rails.getD 31 {}).frozen = true ∧
    (let c := powered {} 0 [(pwrPage + 0x6C, 1), (pwrPage + 0x64, 1)]
     c.reaches .pf pwrPage ∧ c.mirynUp = true ∧ c.unlocked pwrPage ∧ bits 0x80000000 27 24 < 12 ∧ c.valid (bits 0x80000000 27 24) = true ∧
      c.flag pwrPage F.PWR_SNAP_CTRL_ARMED = false ∧ c.get pwrPage F.PWR_WIN_LEN_MS ≠ 0 ∧ c.reelUs < c.get64 pwrPage F.PWR_WIN_START_LO_US ∧
      (powered {} 0 []).get pwrPage F.PWR_WIN_LEN_MS = 0 ∧
      (powered {} 1000 [(pwrPage + 0x64, 1)]).get64 pwrPage F.PWR_WIN_START_LO_US ≤ (powered {} 1000 []).reelUs) ∧
    (let c := powered { winOpen := true } 1001000 [(pwrPage + 0x60, 1), (pwrPage + 0x6C, 1), (pwrPage + 0x64, 1)]
     c.flag pwrPage F.PWR_SNAP_CTRL_ARMED = true ∧ c.pwr.winOpen = true ∧ ({} : Pwr).winOpen = false ∧
      c.get64 pwrPage F.PWR_WIN_START_LO_US + c.get pwrPage F.PWR_WIN_LEN_MS * 1000 ≤ c.reelUs) ∧
    (let c := powered { snapAt := some 1000 } 1000 []
     c.pwr.snapAt = some 1000 ∧ 1000 ≤ c.reel ∧ c.getN pwrPage F.PWR_RN_THRESH_A 3 < (2000 : Int).natAbs) := by
  simp only [reaches_iff, Ctl.unlocked]; decide +kernel

theorem witness_notices : (∀ z ∈ [NoticePhase.held, .noticed, .released],
    (powered { notices := [{ rail := 3, phase := z }] } 0 []).pwr.notices = [{ rail := 3, phase := z }] ∧ ({ rail := 3, phase := z } : Notice).phase = z) ∧
    (powered {} 0 []).pwr.heldCmds = [] ∧
    ∀ z ∈ [NoticePhase.noticed, .released],
      let rest : List Notice := [{ rail := 4, phase := z, cause := .stage 0 }]
      let c : Ctl := { staged 1 with pwr := { notices := { rail := 3, phase := .noticed, cause := .stage 0 } :: rest, heldCmds := [(0, 2)] } }
      c.pwr.heldCmds = [(0, 2)] ∧ c.stState 0 = 1 ∧ c.flag (stagePage 0) F.STAGE_RUNSTATE_LOADED = true ∧ c.boot.retention = false ∧
        (rest.any fun m => m.phase != .released && m.cause == .stage 0) = (z == .noticed) := by
  decide +kernel

/-- A staged entry: TARGET, DITHER and the time of the cue page, before a queue. -/
def staging (target dither time : Nat) (q : List Cue) : Ctl :=
  { Regs base [(cuePage + 0x48, BitVec.ofNat 32 target), (cuePage + 0x4C, BitVec.ofNat 32 dither), (cuePage + 0x40, BitVec.ofNat 32 time)] with
    cues := { queue := q } }

/-- Its mode, power, ramp, dither and time. -/
def entryOf (c : Ctl) : List Nat :=
  [c.get cuePage F.CUE_TARGET_MODE, c.get cuePage F.CUE_TARGET_WATTS, c.get cuePage F.CUE_TARGET_RAMP, c.get cuePage F.CUE_DITHER_MS,
    c.get64 cuePage F.CUE_TIME_LO_US]

theorem witness_cues :
    base.reaches .pf cuePage ∧ base.mirynUp = true ∧ entryOf (staging 0x80000000 0 0 []) = [2, 0, 0, 0, 0] ∧
    entryOf (staging 0x03830000 0 0 []) = [0, 899, 0, 0, 0] ∧ entryOf (staging 0x11310000 0 0 []) = [0, 4401, 0, 0, 0] ∧
    entryOf (staging 0x038407D1 0 0 []) = [0, 900, 2001, 0, 0] ∧ entryOf (staging 0x038407D0 60001 0 []) = [0, 900, 2000, 60001, 0] ∧
    entryOf (staging 0x513007D0 60000 5 []) = [1, 4400, 2000, 60000, 5] ∧
    (∀ t ∈ [4, 5, 6], (staging 0x513007D0 60000 5 [{ time := t }]).cues.queue.getLast? = some { time := t }) ∧
    256 ≤ (staging 0x513007D0 60000 5 (List.replicate 256 {})).cues.queue.length ∧
    (staging 0x513007D0 60000 5 (List.replicate 256 {})).cues.queue.getLast? = some {} ∧
    (staging 0 0 0 [{}]).cueEff {} ≤ (staging 0 0 0 [{}]).reelUs ∧
    (let c := Regs base [(rstPage + 0x14, 0x80000000)]
     c.mirynUp = false ∧ c.pwr.safe = false ∧ c.ready = true ∧ c.boot.running = .none ∧ c.boot.aon = true ∧ c.reelUs ≤ c.cueEff {}) := by
  simp only [reaches_iff]; decide +kernel

/-- A frequency change of stage 0 in a phase. -/
def changing (z : ChangePhase) : Ctl := { staged 2 with clk := { changes := [{ mhz := 900, old := 800, phase := z }] } }

theorem witness_frequencies :
    base.boot.aon = true ∧ base.boot.resetLow = false ∧ base.boot.held = false ∧ (∀ n < 104, (base.sensor n).trips < 2) ∧
    (staged 2).scopeOk 0 = true ∧ (staged 2).scopeOk 35 = true ∧
    ((({ staged 2 with therm := { sensors := [(0, { last := 1600, same := 1 })] } } : Ctl).goodSensors (clusterSensors 0)).any
      fun x => decide (1600 ≤ x.last)) = true ∧
    (((staged 2).scopeClusters 0).any fun cl => ((staged 2).goodSensors (clusterSensors cl)).any fun x => decide (1600 ≤ x.last)) = false ∧
    (∀ cl ∈ (staged 2).scopeClusters 0, ((staged 2).get thermPage F.THERM_THROTTLED_CLUSTERS).testBit cl = false) ∧
    base.reaches .pf (freqPage 0) ∧ base.unlocked (freqPage 0) ∧ bits 500 10 0 = 500 ∧ bits 1350 10 0 = 1350 ∧ bits 1351 10 0 = 1351 ∧
    (∀ z ∈ [ChangePhase.raising, .ready, .stopped, .lowering], (changing z).changeOf 0 = some { mhz := 900, old := 800, phase := z }) ∧
    (changing .ready).pwr.notices = [] ∧ (∀ t ∈ (changing .ready).scopeTiles 0, (St (changing .ready)).blk.mixRuns t = false) ∧
    base.clockStopped 0 = false ∧ (base.put (stinPage 0) F.STIN_CTRL_STRETCH_EN 1).flag (stinPage 0) F.STIN_CTRL_STRETCH_EN = true ∧
    (changing .stopped).clockStopped 0 = true ∧
    (0 : Int) < (base.put (stinPage 0) F.STIN_WARN_SLACK_PS 1).get (stinPage 0) F.STIN_WARN_SLACK_PS ∧ base.get (stinPage 0) F.STIN_WARN_JIT_PS < 65536 ∧
    base.strictCorner 0 = false ∧
    (let t : TestRun := { kind := 3, corners := [1] }
     ({ base with ras := { test := some t } } : Ctl).ras.test = some t ∧ t.kind = 3 ∧ t.index = 0 ∧ t.corners.headD 4 < 2) ∧
    (900 : Nat) < 2048 ∧
    base.clk.stretched.contains 0 = false ∧ ([0] : List Nat).contains 0 = true ∧ base.mirynUp = true ∧ base.fenced.contains 0 = false ∧
    (Regs base [(rstPage + 0x14, 0x80000000)]).mirynUp = false := by
  simp only [reaches_iff, Ctl.unlocked]; decide +kernel

/-- Stage 0 at 900 MHz under a thermal ceiling of 500. -/
def cooling : Ctl :=
  { Regs (staged 2) [(clkPage + 0x14, 0x80000000)] with therm := { ceil := [(0, 500)] } }.put (freqPage 0) F.FREQ_CUR_MHZ 900

theorem foldl_min_le (f : Nat → Nat) (l : List Nat) (m : Nat) : l.foldl (fun m x => min m (f x)) m ≤ m := by
  induction l generalizing m with
  | nil => exact Nat.le_refl m
  | cons a l ih => exact Nat.le_trans (ih _) (Nat.min_le_left _ _)

/-- Stage 0 with a rectangle that holds no cluster, whose frequency is no fused value's matter, at 499 MHz. -/
def warming : Ctl := (Regs cooling [(stagePage 0 + 0x40, 0x80000001)] |>.put (freqPage 0) F.FREQ_CUR_MHZ 499)

theorem witness_freqChange : cooling.scopeOk 0 = true ∧ cooling.changeOf 0 = none ∧ cooling.targetMhz 0 ≠ cooling.scopeMhz 0 ∧
    cooling.flag clkPage F.CLK_STATUS_REFCLK_OK = true ∧ cooling.ready = true ∧ (warming.scopeOk 0 = true ∧ warming.changeOf 0 = none ∧
      warming.flag clkPage F.CLK_STATUS_REFCLK_OK = true ∧ warming.ready = true ∧ warming.scopeMhz 0 < warming.targetMhz 0) := by
  have h : cooling.targetMhz 0 ≤ 500 := by
    refine Nat.le_trans (foldl_min_le _ _ _) ?_
    have h1 : cooling.steady = false := by decide +kernel
    have h2 : SMap.get 1350 cooling.therm.ceil 0 = 500 := by decide +kernel
    rw [h1, h2, if_neg (by decide)]; exact Nat.min_le_right _ _
  have h2 : cooling.scopeMhz 0 = 900 := by decide +kernel
  refine ⟨by decide +kernel, by decide +kernel, by omega, by decide +kernel, by decide +kernel, by decide +kernel⟩

/-! ### Time (15, 12) -/

/-- Port 0 listens to PTP, with the time unit so. -/
def listens (t : TimeU) : Ctl :=
  { Regs base [(timePage + 0x10, 3), (timePage + 0x50, 1), (portPage 0 + 0x14, 0x80000000), (portPage 0 + 0x40, 0x82000000)] with time := t }

theorem witness_reelTime :
    base.ready = true ∧ (atTile0 (.msg { type := 7 })).blk.ctl.atTile 0 = some (0, .msg { type := 7 }) ∧ (atTile0 (.msg { type := 7 })).blk.live 0 = true ∧
    (Regs base [(timePage + 0x14, 0x40000000)]).slewing = true ∧ (Regs base [(timePage + 0x14, 0x40000000)]).bestRef = 0 ∧
    (Regs base [(timePage + 0x14, 0x58000000)]).bestRef = 1 ∧ (Regs base [(timePage + 0x14, 0x58000000)]).src = 1 := by decide +kernel

theorem witness_ptp :
    (let c := listens { master := some 7 }
     c.ptpPort 0 = true ∧ c.ptpDomain = 0 ∧ c.time.master = some 7 ∧ 0 ≤ corrMax ∧ c.time.delay = none ∧ c.time.sync = none ∧
      (base.time.master = none ∧ base.ptpDomain = 0) ∧ c.time.master ≠ some 8 ∧ c.time.master ≠ none ∧
      c.ptpPort (c.get timePage F.TIME_STATUS_PTP_PORT) = true) ∧
    (let c := listens { master := some 7, sync := some { master := 7, seq := 2 }, delay := some 100, filt := some 0, outliers := 7, mono := 100000000 }
     c.time.sync = some { master := 7, seq := 2 } ∧ c.time.mono ≤ 0 + 100000000 ∧ c.time.delay = some 100 ∧ c.time.filt = some 0 ∧ 7 ≤ c.time.outliers ∧
      signedOf 16 (c.get timePage F.TIME_PTP_CFG_ASYM_NS) = 0 ∧ 16000 < (-((0 : Int) - 16001 - 0 - 0 - 100 - 16 * 0) - 0).natAbs ∧
      (-((0 : Int) - 0 - 0 - 0 - 100 - 16 * 0) - 0).natAbs ≤ 16000) ∧
    (let c := listens { master := some 7, req := some (4, 1000), fwd := some 50, syncs := 1, filt := some 0 }
     c.time.req = some (4, 1000) ∧ c.time.fwd = some 50 ∧ (0 : Int) ≤ 50 + (950 - 1000 - 0) ∧ (50 : Int) + (950 - 1000 - 0) ≤ 3200000 ∧
      (50 : Int) + (948 - 1000 - 0) < -1 ∧ (3200001 : Int) < 50 + (3200952 - 1000 - 0) ∧ c.time.syncs ≠ 0 ∧ c.time.filt ≠ none ∧ c.slewing = false ∧
      c.flag timePage F.TIME_CTRL_PTP_EN = true) := by decide +kernel

theorem witness_pps :
    (let c := listens { edge := some 0, tod := some 5, edges := 15 }
     c.flag timePage F.TIME_CTRL_PPS_EN = true ∧ c.boot.aon = true ∧ c.time.edge ≠ none ∧ c.time.tod = some 5 ∧ 15 ≤ c.time.edges ∧ c.slewing = false ∧
      signedOf 16 (c.get timePage F.TIME_PPS_CFG_ADJ_NS) = 0 ∧
      ¬ ((((998999999 : Nat) : Int) + 0 - (0 + 1000000000)).natAbs ≤ 1000000) ∧ (((999000000 : Nat) : Int) + 0 - (0 + 1000000000)).natAbs ≤ 1000000) ∧
    (listens {}).time.edge = none ∧ (listens {}).time.tod = none ∧
    (Regs base [(clkPage + 0x14, 0x80000000)]).flag clkPage F.CLK_STATUS_REFCLK_OK = true ∧
    (Regs base [(clkPage + 0x14, 0)]).flag clkPage F.CLK_STATUS_REFCLK_OK = false := by decide +kernel

/-! ### Resets and bring-up (16) -/

/-- The device with its boot part, and RST.STATUS, so. -/
def booting (o : Boot) (status : Nat) : Ctl := { Regs base [(rstPage + 0x14, BitVec.ofNat 32 status)] with boot := o }

/-- A part that runs; one in a full reset, its bring-up not begun; one past it. -/
def up : Boot := { pwrOk := true, resetLow := false, perstLow := false, running := .none, start := .none }
def resetting (pwrOk resetLow : Bool) : Boot := { pwrOk := pwrOk, resetLow := resetLow }
def waking : Boot := { up with running := .full }

theorem witness_fullResets :
    ({ up with aon := false } : Boot).aon = false ∧ up.aon = true ∧ up.pwrOk = true ∧ up.resetLow = false ∧ ({} : Boot).resetLow = true ∧
    (let o : Boot := { up with rails := [31], good := [31] }
     o.releasing = false ∧ 31 ∈ o.rails ∧ 31 ∈ o.good) ∧
    (let c := Regs (booting up 0x09000000) [(mirynPage + 0x44, 0x20000000)]
     c.phase = 9 ∧ c.flag mirynPage F.MIRYN_RECOV_CTRL_BUSY = true ∧ c.boot.recovLeft = 0) ∧
    up.held = false ∧ base.fenced.contains (103 / 4) = false ∧
    (let x := ({ trips := 2 } : Sensor).take true 1840 0
     x.bad = false ∧ 3 ≤ x.trips) := by decide +kernel

theorem witness_warmResets :
    up.running = .none ∧ up.aon = true ∧ (Regs base [(pciePage + 0x14, 0x80000000)]).flag pciePage F.PCIE_STATUS_DL_UP = true ∧ up.perstLow = false ∧
    waking.running ≠ .none ∧ base.flag pciePage F.PCIE_STATUS_DL_UP = false ∧ ({} : Boot).perstLow = true ∧
    ({ up with running := .warm } : Boot).running = .warm ∧ (booting up 0).phase = 0 ∧ base.mirynUp = true := by decide +kernel

theorem witness_power_removal : up.aon = true ∧ up.faults = [] ∧ ({ up with faults := [7] } : Boot).faults = [7] ∧
    ({ up with faults := [1, 7, 9] } : Boot).faults = [1, 7, 9] := by decide

theorem witness_rails :
    (∀ p r : Bool, (resetting p r).aon = true ∧ (resetting p r).running = .full ∧ (resetting p r).start ≠ .none ∧ (resetting p r).held = false ∧
      (resetting p r).pwrOk = p ∧ (resetting p r).resetLow = r) ∧
    (3 : Fin 4).val = 3 ∧ (booting up 0x01000000).fenced = [] ∧ railGroup 31 = 0 + 1 ∧
    base.keep.queue = [] ∧
    (let ws := (List.range 16).map base.keepWord
     bits (ws.getD 0 0) 31 16 = 0x6F70 ∧ ws.getD 15 0 = optCheck ws) ∧
    (let ws := (List.range 16).map ({ base with keep := { mram := [(0, 0)] } } : Ctl).keepWord
     ¬ bits (ws.getD 0 0) 31 16 = 0x6F70) ∧
    (let c := booting { waking with rails := [31], good := [31], group := 1, retry := [5] } 0x01000000
     c.sequencing = true ∧ c.phase = 1 ∧ c.boot.group < 5 ∧ c.railsGood = true ∧ 31 ∈ c.boot.rails ∧ 5 ∉ c.boot.rails ∧ 5 ∈ c.boot.retry) ∧
    (let c := booting { waking with rails := [0, 24], good := [], group := 5, seqTries := 3, railTries := [(0, 3)] } 0x01000000
     c.sequencing = true ∧ c.railsGood = false ∧ 0 ∈ c.boot.rails ∧ 24 ∈ c.boot.rails ∧ 0 ∉ c.boot.good ∧ 24 ∉ c.boot.good ∧ 3 ≤ c.boot.seqTries ∧
      3 ≤ SMap.get 0 c.boot.railTries 0 ∧ SMap.get 0 waking.railTries 0 < 3 ∧ waking.seqTries < 3 ∧ c.boot.group = 5) ∧
    (booting { waking with rails := [31], group := 5 } 0x01000000).phase = 1 ∧ (∀ r ∈ [31], r = 31 ∨ r ∈ ([] : List Nat)) ∧
    up.releasing = false ∧ up.resetLow = false ∧ ({ up with releasing := true, rails := [0, 31] } : Boot).releasing = true := by decide +kernel

theorem witness_bringUp :
    waking.running ≠ .none ∧ waking.held = false ∧ waking.aon = true ∧ (booting waking 0x02000000).phase = 2 ∧ waking.running = .full ∧
    (imageOrder (base.option 1)).find? (fun k => k == 0) = some 0 ∧ (imageOrder (base.option 1)).find? (fun _ => false) = none ∧
    bit ((Regs base [(optPage + 0x44, 4)]).option 1) 2 = true ∧ bit (base.option 1) 2 = false ∧
    waking.spiBad = [] ∧ (∀ i : Nat, base.keep.worn i + (base.keep.queue.filter fun e => e.1 == i).length + 1 < 110000) ∧
    (11 : Nat) ∈ [11] ∧ (11 : Nat) ∉ ([] : List Nat) ∧ tileCluster 3 ∉ base.fenced ∧
    (booting waking 0x03000000).phase = 3 ∧ 23 ∉ (booting waking 0x03000000).fenced ∧ SMap.get 0 waking.lockTries 23 + 1 ≤ 3 ∧
    3 < SMap.get 0 [(23, 3)] 23 + 1 ∧ (∀ i : Nat, base.keep.worn i + (base.keep.queue.filter fun e => e.1 == i).length < 110000) ∧
    ({ waking with running := .warm } : Boot).running = .warm ∧ (booting waking 0x05000000).phase = 5 ∧ waking.retry = [] ∧
    (booting waking 0x05000000).railsGood = true ∧ (booting waking 0x06000000).phase = 6 ∧
    (∀ h < 12, (booting waking 0x06000000).flag (hbmPage h) F.HBM_STATUS_INIT_BUSY = false) ∧ up.running = .none := by
  refine ⟨by decide, by decide, by decide, by decide +kernel, by decide, by decide +kernel, by decide +kernel, by decide +kernel,
    by decide +kernel, by decide, fun _ => by show (0 : Nat) + 0 + 1 < 110000; decide, by decide, by decide, by decide, by decide +kernel,
    by decide +kernel, by decide +kernel, by decide +kernel, ?_, by decide, by decide +kernel, by decide,
    by decide +kernel, by decide +kernel, by decide +kernel, by decide⟩
  intro i
  show (0 : Nat) + 0 < 110000
  decide

/-- No tile is open; VDDM in retention, being raised or not, one tile waiting for it. -/
def retained (raising : Bool) : Ctl := { base with boot := { base.boot with retention := true, raising := raising, waitTiles := [3] } }

theorem witness_tilesHeld :
    base.reaches .pf (tilePage 0 0) ∧ ({} : Tile).wrapped = true ∧ open_.wrapped = false ∧ base.boot.retention = false ∧
    (retained false).boot.retention = true ∧ (retained false).boot.raising = false ∧ (retained true).boot.raising = true ∧ base.ready = true ∧
    base.ras.test = none ∧ (∀ u < 1920, base.tileOff u = true ∨ ((St base).blk.tile u).wrapped = true) ∧ (Regs base [(rstPage + 0x14, 0)]).ready = false ∧
    SMap.find? base.pwr.volts 24 ≠ some 550 ∧ 3 ∈ (retained true).boot.waitTiles ∧ (retained true).tileGood 3 = true ∧ (retained true).boot.waitStages = [] := by
  simp only [reaches_iff]; decide +kernel

/-! ### Keep array, call sheets, known-answer shots, tests, check-value engines (16, 17) -/

/-- KEEP_SEL names word 6, these writes waiting. -/
def keeps (i : Nat) (q : List (Nat × Word)) (wear : SMap Nat) : Ctl :=
  { base with keep := { queue := q, wear := wear } }.put keepPage F.KEEP_SEL_INDEX i

theorem witness_keep :
    base.unlocked keepPage ∧ mirynWord ((keeps 5 [] []).get keepPage F.KEEP_SEL_INDEX) = true ∧
    mirynWord ((keeps 6 [] []).get keepPage F.KEEP_SEL_INDEX) = false ∧ (keeps 6 [] []).keepWord 6 = 0 ∧ (1 : Word) ≠ 0 ∧
    8 ≤ (keeps 6 (List.replicate 8 (7, 1)) []).keep.queue.length ∧ (keeps 6 (List.replicate 8 (7, 1)) []).keepWord 6 ≠ 1 ∧
    ¬ ((keeps 6 [] [(6, 110000)]).keep.worn 6 + ((keeps 6 [] [(6, 110000)]).keep.queue.filter fun e => e.1 == 6).length < 110000) ∧
    (keeps 6 [] [(6, 109999)]).keep.worn 6 + ((keeps 6 [] [(6, 109999)]).keep.queue.filter fun e => e.1 == 6).length < 110000 ∧
    (keeps 6 [(7, 1)] []).keep.queue = [(7, 1)] ∧ (keeps 6 [] []).keep.queue = [] := by
  simp only [Ctl.unlocked]; decide +kernel

theorem witness_recoveryAndChanges :
    (let c := Regs (booting { waking with recovLeft := 1 } 0x09000000) [(mirynPage + 0x44, 0x20000000)]
     c.phase = 9 ∧ c.unlocked mirynPage ∧ 0 < c.boot.recovLeft ∧ c.flag mirynPage F.MIRYN_RECOV_CTRL_BUSY = true ∧ waking.recovLeft = 0) ∧
    base.reaches .pf secPage ∧ base.mirynUp = true ∧ base.flag secPage F.SEC_STATUS_BUSY = false ∧
    (Regs base [(rstPage + 0x14, 0x80000000)]).mirynUp = false ∧
    (let c := { base.put secPage F.SEC_STATUS_BUSY 1 with ras := { sec := 9 }, keep := { wear := [(5, 110000)] } }
     c.flag secPage F.SEC_STATUS_BUSY = true ∧ c.keepWord 5 ≠ c.ras.sec ∧ c.keepWord 5 = 0 ∧
      ¬ (c.keep.worn 5 + (c.keep.queue.filter fun e => e.1 == 5).length < 110000)) := by
  simp only [reaches_iff, Ctl.unlocked]; decide +kernel

/-- Stage 0 in LOADING with a sheet of `n` records at address 0, the first an image of 16 zero bytes for tile 0, or blank. -/
def sheeted (n : Nat) (good : Bool) : State :=
  let ws : List Word := [0x1C000000, 0, 4096, 0, 0, BitVec.ofNat 32 (crc32c.of (List.replicate 16 0)), 0, 0]
  St { Regs (staged 1) [(hbmPage 0 + 0x14, 0x40000000)] with sheets := [(0, { records := n })] } [(0, {})]
    [(0, ({} : Mem).store 16 (runOf (wordBytes (if good then ws else [])) false))]

theorem witness_callSheets :
    (∀ n ∈ [0, 1, 2], SMap.find? (sheeted n true).blk.ctl.sheets 0 = some { records := n } ∧ (sheeted n true).blk.ctl.stState 0 = 1) ∧
    ((sheeted 0 false).blk.sheetHeader 0 []).1 = .inr 0x20 ∧
    (∀ g : Bool,
      let s := sheeted 1 g
      let r : SheetRec := ⟨(s.blk.stgRead 0 (s.blk.ctl.sheetBase 0 + 16 + 32 * 0) 32 []).1⟩
      r.run.anyBad = false ∧ s.blk.ctl.sheetBad 0 r = !g) ∧
    (let s := sheeted 1 true
     let r : SheetRec := ⟨(s.blk.stgRead 0 16 32 []).1⟩
     let d := (s.blk.stgRead 0 r.src r.len []).1
     r.kind = 1 ∧ d.anyBad = false ∧ crc32c.of d.bytes = (r.w 5).toNat ∧ s.blk.ctl.sheetTiles 0 r = [0]) ∧
    SMap.find? base.sheets 0 = none ∧ (atTile0 (.msg { type := 8 })).blk.ctl.atTile 0 = some (0, .msg { type := 8 }) ∧ base.mirynUp = true ∧
    (Regs base [(rstPage + 0x14, 0x80000000)]).mirynUp = false := by decide +kernel

/-- Known-answer shots wanted or running in stage 0. -/
def kasCtl (r : Ras) : Ctl := { staged 2 with ras := r, suspects := [4] }

theorem witness_kas :
    (staged 2).reaches .pf (stagePage 0) ∧ (staged 2).mirynUp = true ∧ (staged 2).stState 0 = 2 ∧ (staged 0).stState 0 ≠ 2 ∧
    (let c := kasCtl { wanted := [{ tile := 1 }], kaOn := [0] }
     (∃ k ∈ c.ras.wanted ++ c.ras.runs, k.how = .cadence ∧ k.second = false ∧ k.step = c.get (stagePage 0) F.STAGE_STEPS_COUNT ∧
        c.tileStage k.tile = some 0) ∧ 0 ∈ c.ras.kaOn ∧
      (∃ u ∈ c.stageTiles 0, u % max 1 (c.get rasPage F.RAS_KA_CFG_CADENCE) =
        (c.get (stagePage 0) F.STAGE_STEPS_COUNT + 1) % 2 ^ 32 % max 1 (c.get rasPage F.RAS_KA_CFG_CADENCE)) ∧
      c.suspects = [4] ∧ base.suspects = [] ∧ c.tileStage 1 = some 0 ∧ (c.ras.wanted.find? fun k => k.tile == 1) = some { tile := 1 } ∧
      c.tileGood 1 = true ∧ c.kasRuns 1 = false ∧ open_.shotRun = false ∧ open_.init = false) ∧
    (∀ z : Bool, ((kasCtl { runs := [{ tile := 1, second := z }] }).ras.runs.find? fun k => k.tile == 1) = some { tile := 1, second := z }) ∧
    base.reaches .pf rasPage ∧ base.keep.worn 101 + (base.keep.queue.filter fun e => e.1 == 101).length < 110000 := by
  simp only [reaches_iff]; decide +kernel

/-- The block with a test running and tile 0 held. -/
def testing (k : TestRun) : State := St { base with ras := { test := some k } } [(0, {})]

theorem witness_tests :
    base.reaches .pf rasPage ∧ base.ras.test = none ∧ (St base [(0, {})]).blk.testOk 1 0 0 = true ∧ (St base).blk.testOk 3 23 0 = true ∧
    (St base).blk.testOk 1 1920 0 = false ∧ (testing {}).blk.ctl.ras.test = some {} ∧
    (testing { kind := 1 }).blk.testOk 1 0 0 = true ∧ ({ kind := 1, lost := true } : TestRun).lost = true ∧ (testing { kind := 3 }).blk.testOk 3 0 0 = true ∧
    base.get rasPage F.RAS_TEST_STATUS_CORNERS_FAILED = 0 ∧ (inStage {}).blk.testOk 2 0 0 = true ∧
    ({ kind := 3, corners := [1], gate := 0 } : TestRun).gate = 0 ∧ ({ kind := 3, corners := [1], warned := true } : TestRun).gate ≠ 0 ∧
    (testing { kind := 3, corners := [3] }).blk.ctl.ras.test = some { kind := 3, corners := [3] } ∧
    (let l : EvLog := { marks := [{ n := 5000 }] }
     l.marks = [{ n := 5000 }] ∧ l.failed = false ∧ l.ring.length < 2048) ∧ base.mirynUp = true ∧
    (Regs base [(rstPage + 0x14, 0x80000000)]).mirynUp = false := by
  simp only [reaches_iff]; decide +kernel

/-- Engine 0 with a CRC of 32 bits of the keep array as its parameters, and these jobs. -/
def engine (e : Cve) : Ctl := { Regs base [(cvePage 0 + 0x60, 0)] with cves := [(0, e)] }.wr (cvePage 0 + F.CVE_CFG_TARGET.off) 0x031F0000

theorem witness_cve :
    (∀ n < 4, base.reaches .pf (cvePage n)) ∧ base.cveValid (base.cveParams 0) = false ∧ (engine {}).cveValid ((engine {}).cveParams 0) = true ∧
    (let j := (engine {}).cveParams 0
     (SMap.get {} (engine { job := some j }).cves 0).job = some j ∧ (SMap.get {} (engine { job := some j }).cves 0).next = none ∧
      (SMap.get {} (engine { job := some j, next := some j }).cves 0).next = some j ∧ (SMap.get ({} : Cve) base.cves 0).job = none) := by
  simp only [reaches_iff]; decide +kernel

/-! ### The queue, the invariants -/

theorem witness_onlyControl : onlyControl (.smbIdent ⟨0x60, 1, 24⟩) = true ∧ onlyControl (.powerTick [] [] [] [] [] []) = true := by decide

theorem witness_invariants (c : Ctl) : (St c).blk.MemWf ∧ (St c).blk.Shaped ∧ ∃ t, step (St c) = .next t :=
  ⟨⟨fun _ => rfl, fun _ => rfl⟩, fun _ => ⟨rfl, rfl, rfl⟩, ⟨_, rfl⟩⟩


/-! ### Results the spec works out itself -/

/-- 01, 'locating T(35,27)'. -/
theorem test_locate_tile :
    27 * 48 + 35 = 1331 ∧ tileCluster 1331 = 16 ∧ isSTile 1331 = true ∧ tilePage 1331 0 = 0x0D330000 ∧ cluPage 16 0 = 0x00300000 := by decide

/-- 01, 'a five-stage layout': S4's RECT reads its STACKS; S2's span of rows 1 and 2 is rejected with code 0x02. -/
theorem test_define_stage :
    nextTest (Sys2Proof.Machine.exec (.rectWrite .pf 4 0x80003153#32) (St base)) (fun b => b.reg 0x104040 == 0x8E003153#32) = true ∧
    nextTest (Sys2Proof.Machine.exec (.rectWrite .pf 2 0x80002122#32) (St base)) (fun b =>
      b.reg 0x102020 == 1#32 && b.reg 0x102024 == 0x80020040#32 && b.reg 0x102040 == 0#32) = true := by decide +kernel

/-- 03, 'one MXFP4 instruction': the weight column and its scales, the activation row and its scales. -/
def mxBlock : WBlock :=
  let b (n : Nat) (v : Byte) : List Byte := List.replicate n v
  { fmt := 8, run := runOf (b 8 0x33 ++ b 8 0x99 ++ b 16 0x11 ++ [0x07] ++ b 15 0 ++ b 16 0x22 ++ b 4032 0 ++ [0x7F, 0x7F, 0x81, 0x7F]) false }
def mxRow : ARow :=
  let b (n : Nat) (v : Byte) : List Byte := List.replicate n v
  { data := b 16 0x22 ++ b 16 0x44 ++ b 16 0x55 ++ b 16 0xAA, scale := [0x7F, 0x80, 0x7E, 0x7F] }
def mxInstr : Desc := { words := [0x88008000#32, 0#32, 0#32] }

theorem test_mxfp4_groups :
    (groupSums mxInstr mxBlock [mxRow] 0).map (fun g => f32 g.1) = [0x41800000, 0x42800000, 0x42100000, 0xC2000000] := by decide +kernel
theorem test_mxfp4_element : accGroups false 0 ((groupSums mxInstr mxBlock [mxRow] 0).map (·.1)) = 0x42A80000 := by decide +kernel
theorem test_mxfp4_negated : accGroups true 0x42A80000 ((groupSums mxInstr mxBlock [mxRow] 0).map (·.1)) = 0 := by decide +kernel

/-- 05, 'MXFP4 conversion': 13.0, 3.0, −0.7 and 0.3 to scale 0x80 and codes 7, 3, 9, 0, none replaced. -/
theorem test_mxfp4_conversion :
    let ns := [0x41500000, 0x40400000, 0xBF333333, 0x3E99999A].map of32
    mxScale 8 ns = 0x80 ∧ (cvtList (cvtMx 8 0x80 0) ns 0).1 = [7, 3, 9, 0] ∧ (cvtList (cvtMx 8 0x80 0) ns 0).2.2 = 0 := by decide +kernel

/-- 08 R215: 1,000, 1,003 and 998 in delta encoding; 09's single row index 16. -/
theorem test_delta_encoding :
    deltaEnc 32 0 [1000, 1003, 998] = [0xD0, 0x0F, 0x06, 0x09] ∧ deltaEnc 32 0 [16] = [0x20] := by decide +kernel

/-- 09, 'one MEAN bag': 1.5, −0.25 and 1.5 have the mean 0x3F6A_AAAB. -/
theorem test_mean_bag : poolElem 1 [(0x3FC00000, 0), (0xBE800000, 0), (0x3FC00000, 0)] = 0x3F6AAAAB := by decide +kernel

/-- 10, 'a three-tile FP32 sum': 1.0 + 2²⁴, then 1.0 more, stays 2²⁴. -/
theorem test_mixdown_sum : add32 (add32 0x3F800000 0x4B800000) 0x3F800000 = 0x4B800000 := by decide +kernel

/-- S4 of 01's layout. -/
def s4 : Ctl := Regs base [(stagePage 4 + 0x40, 0x80003153)]

/-- 11, 'one address of S4'. -/
theorem test_stage_address : s4.stageAddr 4 0x200003A40 = some (11, 0xAAAABA40) ∧ s4.stageBytes 4 = 144000000000 := by decide +kernel

/-- 13, 'the end of S4's memory': with base 128 the window's offset 0 is stage address 0x20_0000_0000, on H11; its last byte is at
0x1_8711_9FFF. -/
theorem test_bar2_end :
    let c := Regs s4 [(stagePage 4 + 0x1C0, 128)]
    c.bar2 5 0 = .stage 4 0x2000000000 ∧ c.stageAddr 4 0x2000000000 = some (11, 0xAAAAAA000) ∧
      128 * 2 ^ 30 + 0x187119FFF + 1 = c.stageBytes 4 := by decide +kernel

/-- 14, 'a dithered ramp': entry A's offset is 500,000 µs. -/
theorem test_cue_dither :
    (Regs base [(pwrPage + F.PWR_DITHER_HASH_HASH.off, 0x40000000)]).cueEff { time := 36000000000, dither := 2000 } = 36000500000 := by
  decide +kernel

/-- 17, 'a reference check for a zero-filled region': RESULT reads 0xE3; with FOLD 0 it is 0. -/
theorem test_cve_reference :
    let z := List.replicate 64 (0 : Byte)
    let k : Crc := ⟨8, 7, 0, 0, false, false⟩
    k.of (leBytes 8 0 ++ z ++ leBytes 8 0x40 ++ z) = 0xE3 ∧ k.of (z ++ z) = 0 := by
  intro z k
  have h0 : k.bytes 0 (leBytes 8 0 ++ z) = 0 := by decide +kernel
  have h1 : k.bytes 0 (leBytes 8 0x40 ++ z) = 0xE3 := by decide +kernel
  have hz : k.bytes 0 z = 0 := by decide +kernel
  have e : ∀ l m : List Byte, k.bytes 0 (l ++ m) = k.bytes (k.bytes 0 l) m := fun l m => List.foldl_append
  have f : ∀ l : List Byte, k.of l = k.result (k.bytes 0 l) := fun _ => rfl
  constructor
  · rw [f, List.append_assoc, e, h0, h1]; decide
  · rw [f, e, hz, hz]; decide

end Sys2Proof.Tests
end

section
/-!
PROOF. The state just after power-on (the model's choice of it: log 10): each register reads its reset value, and what follows of the stages and
the bring-up (01 R28, 16 R423, R424, R435, R436) and the tiles (16 R414).
-/
namespace Sys2Proof.Machine

/-! ### The reset value of a register -/

/-- Outside the tile blocks and the PWR and SEC pages a register resets to the value of its definition (02 R39). -/
theorem rstOf_of_place {a inst base off : Nat} {k : PageKind} {d : RegDef} (hp : place a = .page k inst base off)
    (h0 : off ≠ 0) (hpwr : k ≠ .pwr) (hsec : k ≠ .sec) (ht : addrTile a = none) (hd : regDef k off = some d) :
    rstOf a = BitVec.ofNat 32 d.rst := by
  simp [rstOf, hp, h0, hpwr, hsec, ht, hd]

theorem addrTile_stage {st off : Nat} (hst : st < 12) (ho : off < 0x1000) : addrTile (stagePage st + off) = none := by
  have : ¬ 0x8000000 ≤ stagePage st + off := by simp only [stagePage]; omega
  simp [addrTile, this]

/-- The registers of every STAGE page reset alike. -/
theorem rstOf_stage {st off : Nat} {d : RegDef} (hst : st < 12) (h0 : off ≠ 0) (ho : off < 0x1000)
    (hd : regDef .stage off = some d) : rstOf (stagePage st + off) = BitVec.ofNat 32 d.rst :=
  rstOf_of_place (place_stage hst ho) h0 (by decide) (by decide) (addrTile_stage hst ho) hd

theorem rstOf_stage_rect {st : Nat} (hst : st < 12) : rstOf (stagePage st + F.STAGE_RECT_VALID.off) = 0 :=
  rstOf_stage (off := 0x40) hst (by decide) (by decide) rfl

theorem rstOf_stage_runstate {st : Nat} (hst : st < 12) : rstOf (stagePage st + F.STAGE_RUNSTATE_STATE.off) = 0 :=
  rstOf_stage (off := 0x44) hst (by decide) (by decide) rfl

theorem rstOf_stage_wrapTimeout {st : Nat} (hst : st < 12) : rstOf (stagePage st + 0x4C) = 100 :=
  rstOf_stage (off := 0x4C) hst (by decide) (by decide) rfl

/-- STATUS of the RST page: not READY, Miryn down, PHASE at its first step (16 R423, R424, R435). -/
theorem rstOf_rst_status : rstOf (rstPage + F.RST_STATUS_READY.off) = 0 := by decide

/-- LAST_CAUSE reads 0 (16 R436). -/
theorem rstOf_rst_lastCause : rstOf (rstPage + F.RST_LAST_CAUSE_CAUSE.off) = 0 := by decide

/-! ### The control plane just after power-on -/

@[simp] theorem State.reset_rd (a : Nat) : State.reset.blk.ctl.rd a = rstOf a := rfl

/-- A field of a register whose reset value is 0 reads 0. -/
theorem State.reset_get_zero {p : Nat} {f : Fld} (h : rstOf (p + f.off) = 0) : State.reset.blk.ctl.get p f = 0 := by
  rw [Ctl.get, Ctl.getN, Nat.zero_mul, Nat.add_zero, State.reset_rd, h, bits_zero]

theorem State.reset_flag_zero {p : Nat} {f : Fld} (h : rstOf (p + f.off) = 0) : State.reset.blk.ctl.flag p f = false := by
  simp [Ctl.flag, State.reset_get_zero h]

theorem State.reset_not_ready : State.reset.blk.ctl.ready = false := State.reset_flag_zero rstOf_rst_status

theorem State.reset_miryn_down : State.reset.blk.ctl.mirynUp = false := State.reset_flag_zero rstOf_rst_status

theorem State.reset_phase : State.reset.blk.ctl.phase = 0 := State.reset_get_zero rstOf_rst_status

/-- No stage is defined (01 R22). -/
theorem State.reset_not_valid {st : Nat} (hst : st < 12) : State.reset.blk.ctl.valid st = false :=
  State.reset_flag_zero (rstOf_stage_rect hst)

/-- Every stage is IDLE (01 R28). -/
theorem State.reset_idle {st : Nat} (hst : st < 12) : State.reset.blk.ctl.stState st = 0 :=
  State.reset_get_zero (rstOf_stage_runstate hst)

/-! ### The tiles just after power-on -/

/-- No tile is listed, so each has the tile state's default values. -/
@[simp] theorem State.reset_tile (t : Nat) : State.reset.blk.tile t = {} := rfl

/-- Every tile is behind its wrapper, the tags of its scratchpad not yet cleared (06 R149, 16 R414). -/
theorem State.reset_tile_wrapped (t : Nat) : (State.reset.blk.tile t).wrapped = true ∧ (State.reset.blk.tile t).init = true := by
  rw [State.reset_tile]
  exact ⟨rfl, rfl⟩

/-- Settles O57: the register file lists nothing, so each register reads its reset value, of which the fields of RST and STAGE follow; each
tile is the tile at its defaults. That `State.reset` is the block just after power-on is the model's choice (log 10). -/
theorem resetLeavesTheResetValues : Obligations.ResetLeavesTheResetValues := by
  unfold Obligations.ResetLeavesTheResetValues
  have stages : ∀ st < 12, State.reset.blk.ctl.valid st = false ∧ State.reset.blk.ctl.stState st = 0 :=
    fun _ hst => ⟨State.reset_not_valid hst, State.reset_idle hst⟩
  exact ⟨rfl, State.reset_rd, State.reset_not_ready, State.reset_miryn_down, State.reset_phase,
    State.reset_get_zero rstOf_rst_lastCause, stages, State.reset_tile_wrapped, rfl, rfl, fun _ => rstOf_stage_wrapTimeout⟩

end Sys2Proof.Machine
end

section
/-!
PROOF. What the operations of bring-up share (16 R418, R423 to R425): the registers, the fields and the keep words that they leave as they
were, and the continuity list.
-/
namespace Sys2Proof.Machine

/-! ### What the operations of bring-up leave as it was -/

/-- Writes that the wear of keep word `i` shows or is about to show (16 R419). -/
def Keep.load (k : Keep) (i : Nat) : Nat := k.worn i + (k.queue.filter fun e => e.1 == i).length

/-- A register that no operation on clusters, stacks, tiles or the log touches: of OPT, RST and CLK, and DEV.MGMT_ERR. -/
abbrev steadyReg (a : Nat) : Prop :=
  a = devPage + 0x5C ∨ (optPage ≤ a ∧ a < keepPage) ∨ (rstPage ≤ a ∧ a < timePage)

/-- `d` follows from `c` by operations that leave the steady registers, the list of disabled tiles, the running reset and the keep words
outside `K` as they were, raise no FAULT_N code 0x02 and mend no log memory. -/
structure Ctl.Steady (K : Nat → Prop) (c d : Ctl) : Prop where
  rd : ∀ a, steadyReg a → d.rd a = c.rd a
  failed : d.log.failed = c.log.failed
  offTiles : d.offTiles = c.offTiles
  running : d.boot.running = c.boot.running
  refclk : 2 ∈ d.boot.faults → 2 ∈ c.boot.faults
  keep : ∀ i, ¬ K i → d.keep.read i = c.keep.read i ∧ d.keep.load i = c.keep.load i

section
variable {K : Nat → Prop} {c d e : Ctl}

theorem Ctl.Steady.refl : c.Steady K c := ⟨fun _ _ => rfl, rfl, rfl, rfl, id, fun _ _ => ⟨rfl, rfl⟩⟩

theorem Ctl.Steady.trans (h : c.Steady K d) (g : d.Steady K e) : c.Steady K e where
  rd a ha := (g.rd a ha).trans (h.rd a ha)
  failed := g.failed.trans h.failed
  offTiles := g.offTiles.trans h.offTiles
  running := g.running.trans h.running
  refclk := h.refclk ∘ g.refclk
  keep i hi := ⟨(g.keep i hi).1.trans (h.keep i hi).1, (g.keep i hi).2.trans (h.keep i hi).2⟩

/-- A change of fields that `Steady` does not speak of. -/
theorem Ctl.Steady.same (h : c.Steady K d) (hr : e.regs = d.regs) (hl : e.log = d.log) (ho : e.offTiles = d.offTiles)
    (hn : e.boot.running = d.boot.running) (hf : 2 ∈ e.boot.faults → 2 ∈ d.boot.faults) (hk : e.keep = d.keep) : c.Steady K e :=
  h.trans ⟨fun a _ => Ctl.rd_congr hr a, by rw [hl], ho, hn, hf, fun _ _ => by rw [hk]; exact ⟨rfl, rfl⟩⟩

theorem Ctl.Steady.ite {p : Prop} [Decidable p] (h : p → c.Steady K d) (g : ¬ p → c.Steady K e) :
    c.Steady K (if p then d else e) := by
  split_ifs with hp
  · exact h hp
  · exact g hp

theorem Ctl.Steady.foldl {α : Type} {f : Ctl → α → Ctl} {l : List α} (h : c.Steady K d)
    (hf : ∀ (d : Ctl), ∀ x ∈ l, d.Steady K (f d x)) : c.Steady K (l.foldl f d) := by
  induction l generalizing d with
  | nil => exact h
  | cons x l ih => exact ih (h.trans (hf d x (by simp))) fun d y hy => hf d y (by simp [hy])

/-! #### Registers -/

theorem Ctl.Steady.wr {a : Nat} {w : Word} (h : c.Steady K d) (ha : ¬ steadyReg a) : c.Steady K (d.wr a w) := by
  refine h.trans ⟨fun b hb => ?_, rfl, rfl, rfl, id, fun _ _ => ⟨rfl, rfl⟩⟩
  rw [Ctl.rd_wr, if_neg]
  rintro rfl
  exact ha hb

theorem Ctl.Steady.put {p : Nat} {f : Fld} {v : Nat} (h : c.Steady K d) (ha : ¬ steadyReg (p + f.off + 0 * f.stride)) :
    c.Steady K (d.put p f v) := h.wr ha

/-- A field of a page from TIME on. -/
theorem Ctl.Steady.putFar {p : Nat} {f : Fld} {v : Nat} (h : c.Steady K d) (hp : timePage ≤ p) : c.Steady K (d.put p f v) := by
  refine h.put ?_
  simp only [steadyReg, timePage, devPage, optPage, keepPage, rstPage] at hp ⊢
  omega

theorem Ctl.Steady.bump {p : Nat} {f : Fld} {n : Nat} (h : c.Steady K d) (ha : ¬ steadyReg (p + f.off + 0 * f.stride)) :
    c.Steady K (d.bump p f n) := h.put ha

theorem Ctl.Steady.zeroRange {p lo hi : Nat} (h : c.Steady K d) (ha : ∀ i < (hi - lo) / 4 + 1, ¬ steadyReg (p + lo + 4 * i)) :
    c.Steady K (d.zeroRange p lo hi) :=
  h.foldl fun _ i hi => Ctl.Steady.refl.wr (ha i (List.mem_range.1 hi))

/-! #### Events -/

theorem Ctl.logWrite_failed (c : Ctl) (t i k v n : Nat) : (c.logWrite t i k v n).log.failed = c.log.failed := by
  simp only [Ctl.logWrite]
  split_ifs <;> rfl

theorem Ctl.logEvent_failed (c : Ctl) (p k v : Nat) : (c.logEvent p k v).log.failed = c.log.failed := by
  simp only [Ctl.logEvent]
  split_ifs
  · rfl
  · exact Ctl.logWrite_failed _ _ _ _ _ _
  · exact Ctl.logWrite_failed _ _ _ _ _ _

theorem Ctl.raise_log (c : Ctl) (p n : Nat) : (c.raise p n).log = c.log := by
  obtain ⟨r, o, h, e⟩ := Ctl.raise_eq c p n
  rw [e]

theorem Ctl.errSev_failed (c : Ctl) (p k f a v : Nat) : (c.errSev p k f a v).log.failed = c.log.failed := by
  simp only [Ctl.errSev]
  split_ifs <;> simp [Ctl.raise_log, Ctl.logEvent_failed]

theorem Ctl.Steady.quiet (h : c.Steady K d) (hq : d.Quiet e) (hr : ∀ a, steadyReg a → e.rd a = d.rd a)
    (hf : e.log.failed = d.log.failed) : c.Steady K e := by
  obtain ⟨r, o, x, l, rfl⟩ := hq
  exact h.trans ⟨hr, hf, rfl, rfl, id, fun _ _ => ⟨rfl, rfl⟩⟩

theorem not_mem_logRegs_of_steadyReg {a : Nat} (h : steadyReg a) : a ∉ logRegs := by
  rintro hm
  simp only [logRegs, List.mem_cons, List.not_mem_nil, or_false] at hm
  rcases hm with rfl | rfl <;> revert h <;> decide

theorem Ctl.Steady.logEvent {p k v : Nat} (h : c.Steady K d) : c.Steady K (d.logEvent p k v) :=
  h.quiet (.logEvent _ _ _ _) (fun _ ha => Ctl.rd_logEvent _ _ _ _ (not_mem_logRegs_of_steadyReg ha)) (Ctl.logEvent_failed _ _ _ _)

/-- A page whose interrupt and error registers are not steady. -/
abbrev loosePage (p : Nat) : Prop := p = keepPage ∨ timePage ≤ p

theorem Ctl.Steady.raise {p n : Nat} (h : c.Steady K d) (hp : loosePage p) : c.Steady K (d.raise p n) := by
  refine h.quiet (.raise _ _ _) (fun a ha => ?_) (by rw [Ctl.raise_log])
  rw [Ctl.rd_raise, if_neg]
  simp only [steadyReg, loosePage, timePage, devPage, optPage, keepPage, rstPage] at hp ha
  omega

theorem Ctl.Steady.errSev {p k f a v : Nat} (h : c.Steady K d) (hp : loosePage p) : c.Steady K (d.errSev p k f a v) := by
  refine h.quiet (.errSev _ _ _ _ _ _) (fun b hb => Ctl.rd_errSev _ _ _ _ _ _ ?_) (Ctl.errSev_failed _ _ _ _ _ _)
  simp only [errRegs, List.mem_cons, List.not_mem_nil, or_false, steadyReg, loosePage, timePage, devPage, optPage, keepPage, rstPage,
    logPage] at hp hb ⊢
  omega

theorem Ctl.Steady.errHw {p k : Nat} (h : c.Steady K d) (hp : loosePage p) : c.Steady K (d.errHw p k) := h.errSev hp

theorem Ctl.Steady.faultOn {k : Nat} (h : c.Steady K d) (hk : k ≠ 2) : c.Steady K (d.faultOn k) :=
  h.same rfl rfl rfl rfl (fun hm => (mem_insertNat.1 hm).resolve_left (Ne.symm hk)) rfl

/-! #### Keep words -/

theorem Keep.load_append (k : Keep) (i j : Nat) (w : Word) :
    ({ k with queue := k.queue ++ [(i, w)] } : Keep).load j = k.load j + if i = j then 1 else 0 := by
  by_cases h : i = j <;> simp [Keep.load, Keep.worn, h, Nat.add_assoc]

theorem Ctl.Steady.keepMiryn {i : Nat} {w : Word} (h : c.Steady K d) (hi : K i) : c.Steady K (d.keepMiryn i w) := by
  simp only [Ctl.keepMiryn, Ctl.keepWrite, Bool.not_true, Bool.false_and, Bool.false_eq_true, if_false]
  split_ifs
  · exact h
  · exact .raise (.errSev (h.bump (by decide)) (.inl rfl)) (.inl rfl)
  · refine h.trans ⟨fun _ _ => rfl, rfl, rfl, rfl, id, fun j hj => ?_⟩
    have hij : j ≠ i := fun e => hj (e ▸ hi)
    exact ⟨by rw [Keep.read_append, if_neg hij], by rw [Keep.load_append, if_neg hij.symm]; rfl⟩

theorem Ctl.Steady.setFlags {m : Nat} (h : c.Steady K d) (hk : K 101) : c.Steady K (d.setFlags m) := h.keepMiryn hk

theorem Ctl.Steady.setContinuity {ts : List Nat} (h : c.Steady K d) (hk : ∀ t ∈ ts, K (16 + t / 32)) :
    c.Steady K (d.setContinuity ts) :=
  h.foldl fun _ t ht => Ctl.Steady.refl.keepMiryn (hk t ht)

end

/-! ### Pages that bring-up writes -/

theorem timePage_le_cluPage (c k : Nat) : timePage ≤ cluPage c k := by simp only [timePage, cluPage]; omega
theorem timePage_le_stagePage (s : Nat) : timePage ≤ stagePage s := by simp only [timePage, stagePage]; omega
theorem timePage_le_hbmPage (h : Nat) : timePage ≤ hbmPage h := by simp only [timePage, hbmPage]; omega

/-! ### The continuity list (16 R418, R425) -/

/-- The word of the continuity list that holds a tile is not the word of the device's flags. -/
theorem continuityWord_ne_flags {t : Nat} (ht : t < 1920) : 16 + t / 32 ≠ 101 := by omega

theorem Ctl.Steady.continuity {c d : Ctl} (h : c.Steady (· = 101) d) {t : Nat} (ht : t < 1920) : d.continuity t = c.continuity t := by
  rw [Ctl.continuity, Ctl.keepWord, (h.keep _ (continuityWord_ne_flags ht)).1]
  rfl

/-- Miryn's write of a keep word changes that word at most. -/
theorem Ctl.keepMiryn_word (c : Ctl) (i j : Nat) (w : Word) :
    (c.keepMiryn i w).keepWord j = c.keepWord j ∨ j = i ∧ (c.keepMiryn i w).keepWord j = w := by
  simp only [Ctl.keepMiryn, Ctl.keepWord]
  rcases c.keepWrite_cases true 0 0 i w with ⟨hk, -⟩ | hk
  · exact .inl (by rw [hk])
  · rw [hk, Keep.read_append]
    by_cases h : j = i
    · exact .inr ⟨h, if_pos h⟩
    · exact .inl (if_neg h)

/-- Where the word's wear leaves room, Miryn's write is taken. -/
theorem Ctl.keepMiryn_takes (c : Ctl) (i : Nat) (w : Word) (h : c.keep.load i < 110000) : (c.keepMiryn i w).keepWord i = w := by
  have hl : ¬ 110000 ≤ c.keep.worn i + (c.keep.queue.filter fun e => e.1 == i).length := Nat.not_le.2 h
  simp only [Ctl.keepMiryn, Ctl.keepWrite, Bool.not_true, Bool.false_and, Bool.false_eq_true, if_false, if_neg hl]
  split_ifs with hw
  · exact hw
  · simp [Ctl.keepWord, Keep.read_append]

theorem Ctl.keepMiryn_load_le (c : Ctl) (i j : Nat) (w : Word) : (c.keepMiryn i w).keep.load j ≤ c.keep.load j + 1 := by
  rw [Ctl.keepMiryn]
  rcases c.keepWrite_cases true 0 0 i w with ⟨hk, -⟩ | hk
  · rw [hk]; omega
  · rw [hk, Keep.load_append]; split_ifs <;> omega

theorem bit_or_two_pow (w : Word) {n : Nat} (hn : n < 32) (m : Nat) :
    bit (w ||| BitVec.ofNat 32 (2 ^ n)) m = (bit w m || decide (n = m)) := by
  have h : 2 ^ n < 2 ^ 32 := Nat.pow_lt_pow_right (by decide) hn
  rw [bit, BitVec.toNat_or, BitVec.toNat_ofNat, Nat.mod_eq_of_lt h, Nat.testBit_or, Nat.testBit_two_pow, bit]

/-- Tile `t` put into the continuity list by Miryn. -/
def Ctl.listTile (c : Ctl) (t : Nat) : Ctl := c.keepMiryn (16 + t / 32) (c.keepWord (16 + t / 32) ||| BitVec.ofNat 32 (2 ^ (t % 32)))

theorem Ctl.setContinuity_cons (c : Ctl) (t : Nat) (ts : List Nat) : c.setContinuity (t :: ts) = (c.listTile t).setContinuity ts := rfl

theorem Ctl.listTile_listed (c : Ctl) (t : Nat) (h : c.keep.load (16 + t / 32) < 110000) : (c.listTile t).continuity t = true := by
  rw [Ctl.continuity, Ctl.listTile, Ctl.keepMiryn_takes c _ _ h, bit_or_two_pow _ (Nat.mod_lt _ (by decide))]
  simp

theorem Ctl.listTile_keeps (c : Ctl) (t u : Nat) (h : c.continuity u = true) : (c.listTile t).continuity u = true := by
  rw [Ctl.continuity, Ctl.listTile]
  rcases c.keepMiryn_word (16 + t / 32) (16 + u / 32) (c.keepWord (16 + t / 32) ||| BitVec.ofNat 32 (2 ^ (t % 32))) with hw | ⟨hi, hw⟩
  · rw [hw]; exact h
  · rw [hw, bit_or_two_pow _ (Nat.mod_lt _ (by decide)), ← hi, show bit (c.keepWord (16 + u / 32)) (u % 32) = true from h, Bool.true_or]

theorem Ctl.setContinuity_keeps (ts : List Nat) (c : Ctl) (u : Nat) (h : c.continuity u = true) : (c.setContinuity ts).continuity u = true := by
  induction ts generalizing c with
  | nil => exact h
  | cons t ts ih => exact ih _ (c.listTile_keeps t u h)

/-- Where the words have room for all of them, the tiles are listed. -/
theorem Ctl.setContinuity_listed {ts : List Nat} {c : Ctl} (h : ∀ t ∈ ts, c.keep.load (16 + t / 32) + ts.length ≤ 110000) :
    ∀ t ∈ ts, (c.setContinuity ts).continuity t = true := by
  induction ts generalizing c with
  | nil => simp
  | cons u ts ih =>
    simp only [List.length_cons] at h
    intro t ht
    rw [Ctl.setContinuity_cons]
    rcases List.mem_cons.1 ht with rfl | ht
    · exact Ctl.setContinuity_keeps ts _ t (c.listTile_listed t (by have := h t (by simp); omega))
    · refine ih (fun v hv => ?_) t ht
      have h1 := h v (by simp [hv])
      have h2 := c.keepMiryn_load_le (16 + u / 32) (16 + v / 32) (c.keepWord (16 + u / 32) ||| BitVec.ofNat 32 (2 ^ (u % 32)))
      rw [Ctl.listTile]
      omega

theorem SeamLink.lt_of_mem_ends {l : SeamLink} {t : Nat} (h : t ∈ l.ends) : t < 1920 := by
  cases l with
  | col k y =>
    simp only [SeamLink.ends, List.mem_cons, List.not_mem_nil, or_false] at h
    omega
  | row x =>
    simp only [SeamLink.ends, List.mem_cons, List.not_mem_nil, or_false] at h
    omega

end Sys2Proof.Machine
end

section
/-!
PROOF. The operations of bring-up on clusters and stacks (01 R17, R18, R20, 11 R289, 16 R423, R425, R433) leave the steady part of the block
as it was.
-/
namespace Sys2Proof.Machine

/-! ### Clocks (16 R423, R433) -/

section
variable {K : Nat → Prop} {c d : Ctl}

theorem Ctl.Steady.toRegulator {n : Nat} {m : RegCmd} (h : c.Steady K d) : c.Steady K (d.toRegulator n m) := h.same rfl rfl rfl rfl id rfl

theorem Ctl.Steady.railTarget {n mv : Nat} (h : c.Steady K d) : c.Steady K (d.railTarget n mv) :=
  .ite (fun _ => h) fun _ => .toRegulator (h.same rfl rfl rfl rfl id rfl)

theorem Ctl.Steady.vddm {mhz : Nat} (h : c.Steady K d) : c.Steady K (d.vddm mhz) := h.railTarget

theorem Ctl.Steady.railAt {cl mv : Nat} (h : c.Steady K d) : c.Steady K (d.railAt cl mv) :=
  h.railTarget.putFar (timePage_le_cluPage cl 1)

theorem Ctl.Steady.releaseRail {n : Nat} (h : c.Steady K d) : c.Steady K (d.releaseRail n) := by
  unfold Ctl.releaseRail
  exact (Ctl.Steady.ite (fun _ => h.putFar (timePage_le_cluPage n 1)) fun _ => h).same rfl rfl rfl rfl id rfl

theorem Ctl.Steady.newFmax {cl : Nat} (h : c.Steady K d) (hk : K 101) : c.Steady K (d.newFmax cl) := by
  have hv : timePage ≤ voltPage cl := timePage_le_cluPage cl 1
  unfold Ctl.newFmax
  refine .ite (fun _ => ?_) fun _ => h.putFar hv
  refine .faultOn (.setFlags (.put (.ite (fun _ => ?_) fun _ => h.putFar hv) (by decide)) hk) (by decide)
  exact .logEvent (.raise (h.putFar hv) (.inr hv))

end

/-- A cluster that has locked runs at its target, its rail at the plan voltage (16 R423, R433). -/
def Ctl.lockCluster (c : Ctl) (cl : Nat) : Ctl :=
  let sc := c.clusterScope cl
  let c := c.newFmax cl
  let f := c.targetMhz sc
  let c := (c.put (freqPage cl) F.FREQ_CUR_MHZ f).put (freqPage cl) F.FREQ_CUR_LIMIT (c.limitCode sc cl f)
  c.railAt cl (c.mvAt cl f)

theorem Ctl.Steady.lockCluster {K : Nat → Prop} {c d : Ctl} {cl : Nat} (h : c.Steady K d) (hk : K 101) : c.Steady K (d.lockCluster cl) := by
  have hf : timePage ≤ freqPage cl := timePage_le_cluPage cl 2
  exact .railAt (.putFar (.putFar (h.newFmax hk) hf) hf)

/-- The clusters that are not fenced. -/
def Ctl.unfenced (c : Ctl) : List Nat := (List.range 24).filter fun cl => !c.fenced.contains cl

/-- REFCLK is there: REFCLK_OK is set and the FAULT_N code of its absence goes (15 R408). -/
def Ctl.refclkSeen (c : Ctl) : Ctl := (c.put clkPage F.CLK_STATUS_REFCLK_OK 1).faultOff 0x02

/-- Clusters locked, VDDM at its operating voltage; before LOCKED shows them and seam links are repaired. -/
def Ctl.clustersLocked (c : Ctl) : Ctl := (c.unfenced.foldl Ctl.lockCluster c).vddm 0

/-- LOCKED shows the clusters `l` (16 R433). -/
def Ctl.showLocked (c : Ctl) (l : List Nat) : Ctl := c.put clkPage F.CLK_STATUS_LOCKED (l.foldl (fun v cl => v + 2 ^ cl) 0)

/-- The clock step of bring-up with REFCLK there, up to the stacks (01 R9, 15 R408, 16 R423, R433). -/
def Ctl.clocksUp (c : Ctl) (seam : List SeamLink) : Ctl :=
  (c.refclkSeen.clustersLocked.showLocked c.refclkSeen.unfenced).setContinuity (seam.flatMap SeamLink.ends)

/-- The stacks are trained: a stack of `bad` has failed, another begins its zero-fill (11 R288, R289). -/
def Ctl.trainStack (bad : List Nat) (c : Ctl) (h : Nat) : Ctl :=
  if bad.contains h then c.stackFail h else c.put (hbmPage h) F.HBM_STATUS_INIT_BUSY 1

/-- OSCILLATORS_LOCKED at its step of bring-up. -/
theorem execOscillatorsLocked_eq {s : State} (hr : s.blk.ctl.boot.running ≠ .none) (hh : s.blk.ctl.boot.held = false)
    (hp : s.blk.ctl.phase = 3) (refclk : Bool) (seam : List SeamLink) (untrained : List StackId) :
    execOscillatorsLocked refclk seam untrained s = s.onCtl fun c =>
      if !refclk then (c.put clkPage F.CLK_STATUS_REFCLK_OK 0).wakeFail 0x02 0
      else if (c.clocksUp seam).boot.running = .warm then (c.clocksUp seam).classify
      else ((List.range 12).foldl (Ctl.trainStack (untrained.map (·.val))) (c.clocksUp seam)).setPhase 5 := by
  have hg : (s.blk.ctl.boot.running == .none || s.blk.ctl.boot.held || s.blk.ctl.phase != 3) = false := by simp [hr, hh, hp]
  rw [execOscillatorsLocked, State.onCtl_eq, State.onCtl_eq, hg]
  rfl

theorem Ctl.Steady.clustersLocked {K : Nat → Prop} {c d : Ctl} (h : c.Steady K d) (hk : K 101) : c.Steady K d.clustersLocked :=
  .vddm (h.foldl fun _ _ _ => Ctl.Steady.refl.lockCluster hk)

theorem Ctl.Steady.stackFail {K : Nat → Prop} {c d : Ctl} {n : Nat} (h : c.Steady K d) : c.Steady K (d.stackFail n) := by
  have hp : timePage ≤ hbmPage n := timePage_le_hbmPage n
  exact .raise (.errHw (.put (.putFar (.putFar (h.putFar hp) hp) hp) (by decide)) (.inr hp)) (.inr hp)

theorem Ctl.Steady.trainStack {K : Nat → Prop} {c d : Ctl} {bad : List Nat} {n : Nat} (h : c.Steady K d) :
    c.Steady K (d.trainStack bad n) :=
  .ite (fun _ => h.stackFail) fun _ => h.putFar (timePage_le_hbmPage n)

/-! ### Classification (01 R17, R18, R20, 16 R425) -/

theorem Ctl.Steady.publishCluster {K : Nat → Prop} {c d : Ctl} {cl : Nat} (h : c.Steady K d) : c.Steady K (d.publishCluster cl) := by
  have hw (d : Ctl) (o : Nat) (w : Word) : d.Steady K (d.wr (cluPage cl 0 + o) w) := by
    refine Ctl.Steady.refl.wr ?_
    have := timePage_le_cluPage cl 0
    simp only [steadyReg, timePage, devPage, optPage, keepPage, rstPage] at this ⊢
    omega
  unfold Ctl.publishCluster
  extract_lets f map p c1 dv
  split
  extract_lets short c2 c3
  have h1 : c.Steady K c1 := h.foldl fun d k _ => by simpa only [p, Nat.add_assoc] using hw d (0x40 + 4 * k) _
  have h3 : c.Steady K c3 := .put (.put (h1.trans (hw c1 0x4C _)) (by decide)) (by decide)
  exact .ite (fun _ => .put (h3.put (by decide)) (by decide)) fun _ =>
    .ite (fun _ => .put (h3.put (by decide)) (by decide)) fun _ => h3

/-- The list of disabled tiles replaced (01 R18). -/
def Ctl.disable (c : Ctl) (l : List Nat) : Ctl := { c with offTiles := l }

@[simp] theorem Ctl.disable_offTiles (c : Ctl) (l : List Nat) : (c.disable l).offTiles = l := rfl

@[simp] theorem Ctl.disable_rd (c : Ctl) (l : List Nat) (a : Nat) : (c.disable l).rd a = c.rd a := rfl

@[simp] theorem Ctl.disable_boot (c : Ctl) (l : List Nat) : (c.disable l).boot = c.boot := rfl

@[simp] theorem Ctl.disable_continuity (c : Ctl) (l : List Nat) (t : Nat) : (c.disable l).continuity t = c.continuity t := rfl

/-- Classification up to its outcome: the disabled tiles are taken from the continuity list, and every other operation of it is steady; then
the LZ6 is held with code 0x04, or bring-up goes on. -/
theorem Ctl.classify_cases (c : Ctl) : ∃ d e, c.Steady (· = 101) d ∧ (d.disable ((List.range 1920).filter d.continuity)).Steady (· = 101) e ∧
    (c.classify = (e.wakeFail 0x04 0).holdReset ∨ c.classify = e.setPhase 6) := by
  unfold Ctl.classify
  extract_lets low c1 c2 c3 c4 c5 below c6 bad c7 hit c8
  have h1 : c.Steady (· = 101) c1 := Ctl.Steady.refl.foldl fun _ _ _ => Ctl.Steady.refl.same rfl rfl rfl rfl id rfl
  have h2 : c.Steady (· = 101) c2 := h1.foldl fun _ _ _ => Ctl.Steady.refl.releaseRail
  have h4 : c3.Steady (· = 101) c4 := .zeroRange .refl (by decide)
  have h5 : c3.Steady (· = 101) c5 := h4.foldl fun _ _ _ => Ctl.Steady.refl.publishCluster
  have h6 : c3.Steady (· = 101) c6 := .ite (fun _ => h5.put (by decide)) fun _ => h5
  have h7 : c3.Steady (· = 101) c7 := .ite (fun _ => .faultOn (.logEvent (h6.setFlags rfl)) (by decide)) fun _ => h6
  have h8 : c3.Steady (· = 101) c8 := h7.foldl fun _ s _ =>
    have hs := timePage_le_stagePage s
    .errHw (.putFar (.putFar .refl hs) hs) (.inr hs)
  refine ⟨c2, c8, h2, h8, ?_⟩
  split_ifs
  · exact .inl rfl
  · exact .inr rfl

end Sys2Proof.Machine
end

section
/-!
PROOF. The steps of bring-up: clusters that do not lock, classification, the stacks (01 R17, R18, 11 R288, R289, 16 R425, R433).
-/
namespace Sys2Proof.Machine

/-! ### The step of bring-up -/

theorem Ctl.phase_setPhase (c : Ctl) {n : Nat} (h : n < 16) : (c.setPhase n).phase = n :=
  (Ctl.get_put_same c rstPage F.RST_STATUS_PHASE n (by decide)).trans (Nat.mod_eq_of_lt h)

/-- Setting the step changes no register but RST.STATUS. -/
theorem Ctl.rd_setPhase (c : Ctl) (n : Nat) {a : Nat} (h : a ≠ rstPage + 0x14) : (c.setPhase n).rd a = c.rd a :=
  (Ctl.rd_put c rstPage F.RST_STATUS_PHASE n a).trans (if_neg h)

theorem Ctl.rd_wakeFail_bootFail (c : Ctl) (k r : Nat) : (c.wakeFail k r).rd (rstPage + 0x48) = BitVec.ofNat 32 (0x80000000 + k * 0x100 + r) :=
  (Ctl.rd_wr c _ _ _).trans (if_pos rfl)

theorem Ctl.rd_wakeFail (c : Ctl) (k r : Nat) {a : Nat} (h : a ≠ rstPage + 0x48) : (c.wakeFail k r).rd a = c.rd a :=
  (Ctl.rd_wr c _ _ _).trans (if_neg h)

theorem Ctl.mem_wakeFail_faults {c : Ctl} {k r j : Nat} : j ∈ (c.wakeFail k r).boot.faults ↔ j = k ∨ j ∈ c.boot.faults := mem_insertNat

/-- Holding in reset changes no register but RST.STATUS. -/
theorem Ctl.rd_holdReset (c : Ctl) {a : Nat} (h : a ≠ rstPage + 0x14) : c.holdReset.rd a = c.rd a := c.rd_setPhase 8 h

theorem Ctl.phase_holdReset (c : Ctl) : c.holdReset.phase = 8 := c.phase_setPhase (by decide)

/-! ### Clusters that do not lock (16 R433) -/

theorem execOscillatorLockTimeout_eq {s : State} {cl : ClusterId} (hr : s.blk.ctl.boot.running ≠ .none) (hh : s.blk.ctl.boot.held = false)
    (hp : s.blk.ctl.phase = 3) (hf : cl.val ∉ s.blk.ctl.fenced) :
    execOscillatorLockTimeout cl s = s.onCtl fun c =>
      let t := SMap.get 0 c.boot.lockTries cl + 1
      let c := { c with boot := { c.boot with lockTries := SMap.put c.boot.lockTries cl t } }
      if 3 < t then { c with fenced := insertNat cl c.fenced, clk := { c.clk with lockCap := SMap.erase c.clk.lockCap cl } }
      else { c with clk := { c.clk with lockCap := SMap.put c.clk.lockCap cl (c.reqMhz cl - 100 * t) } } := by
  have hg : (s.blk.ctl.boot.running == .none || s.blk.ctl.boot.held || s.blk.ctl.phase != 3 || s.blk.ctl.fenced.contains cl.val) = false := by
    simp [hr, hh, hp, hf]
  rw [execOscillatorLockTimeout, State.onCtl_eq, State.onCtl_eq, hg]
  rfl

theorem oscillatorLockTimeout_runs (s : State) (cl : ClusterId) (hr : s.blk.ctl.boot.running ≠ .none) (hh : s.blk.ctl.boot.held = false)
    (hp : s.blk.ctl.phase = 3) (hf : cl.val ∉ s.blk.ctl.fenced) :
    let c := s.blk.ctl
    let t := SMap.get 0 c.boot.lockTries cl + 1
    ∃ b, Runs (.oscillatorLockTimeout cl) s b ∧ SameStore s.blk b ∧ b.ctl.regs = c.regs ∧ SMap.get 0 b.ctl.boot.lockTries cl = t ∧
      (t ≤ 3 → b.ctl.fenced = c.fenced ∧ SMap.find? b.ctl.clk.lockCap cl = some (c.reqMhz cl - 100 * t)) ∧
      (3 < t → cl.val ∈ b.ctl.fenced) := by
  intro c t
  refine ⟨_, execOscillatorLockTimeout_eq hr hh hp hf, ⟨rfl, rfl⟩, ?_⟩
  have hput {α : Type} (m : SMap α) (v : α) : SMap.find? (SMap.put m cl v) cl = some v := by rw [SMap.find?_put, if_pos rfl]
  by_cases ht : 3 < t
  · simp only [Blk.onCtl_ctl]
    rw [if_pos ht]
    refine ⟨rfl, ?_, fun h => absurd ht (Nat.not_lt.2 h), fun _ => mem_insertNat.2 (.inl rfl)⟩
    simp only [SMap.get, hput]; rfl
  · simp only [Blk.onCtl_ctl]
    rw [if_neg ht]
    refine ⟨rfl, ?_, fun _ => ⟨rfl, hput _ _⟩, fun h => absurd h ht⟩
    simp only [SMap.get, hput]; rfl

/-! ### Classification ends bring-up or holds the part (01 R17, R18, 16 R425, R433) -/

/-- Classified: bring-up is at its last step or the part is held, and the disabled tiles are those of the continuity list. -/
def Ctl.Sorted (c : Ctl) : Prop :=
  (c.phase = 6 ∨ (c.boot.held = true ∧ c.phase = 8)) ∧ c.offTiles = (List.range 1920).filter c.continuity

/-- What follows of classification: it ends as it must, lists no tile and unlists none, raises no code 0x02 and changes no register of CLK. -/
theorem Ctl.classify_spec (c : Ctl) :
    c.classify.Sorted ∧ (∀ t < 1920, c.classify.continuity t = c.continuity t) ∧
    (2 ∈ c.classify.boot.faults → 2 ∈ c.boot.faults) ∧ c.classify.rd (clkPage + 0x14) = c.rd (clkPage + 0x14) := by
  obtain ⟨d, e, hd, he, h⟩ := c.classify_cases
  have hc (t : Nat) (ht : t < 1920) : e.continuity t = c.continuity t := by
    rw [he.continuity ht, Ctl.disable_continuity, hd.continuity ht]
  have ho : e.offTiles = (List.range 1920).filter e.continuity := by
    rw [he.offTiles, Ctl.disable_offTiles]
    refine List.filter_congr fun t ht => ?_
    rw [he.continuity (List.mem_range.1 ht), Ctl.disable_continuity]
  have hclk : e.rd (clkPage + 0x14) = c.rd (clkPage + 0x14) := by
    rw [he.rd _ (by decide), Ctl.disable_rd, hd.rd _ (by decide)]
  have hf : 2 ∈ e.boot.faults → 2 ∈ c.boot.faults := fun hm => hd.refclk (by simpa using he.refclk hm)
  rcases h with h | h <;> rw [h]
  · refine ⟨⟨.inr ⟨rfl, Ctl.phase_holdReset _⟩, ho⟩, hc, fun hm => ?_, ?_⟩
    · exact hf ((Ctl.mem_wakeFail_faults.1 hm).resolve_left (by decide))
    · rw [Ctl.rd_holdReset _ (by decide), Ctl.rd_wakeFail _ _ _ (by decide), hclk]
  · exact ⟨⟨.inl (e.phase_setPhase (by decide)), ho⟩, hc, hf, (e.rd_setPhase 6 (by decide)).trans hclk⟩

theorem execAtStartTestComplete_eq {s : State} (hr : s.blk.ctl.boot.running = .full) (hh : s.blk.ctl.boot.held = false)
    (hp : s.blk.ctl.phase = 5) (ht : s.blk.ctl.boot.retry = []) (hg : s.blk.ctl.railsGood = true) (failing : List TileId) :
    execAtStartTestComplete failing s = s.onCtl fun c =>
      (c.setContinuity ((failing.map (·.val)).filter fun t => !c.fenced.contains (tileCluster t))).classify := by
  have hg : (s.blk.ctl.boot.running != .full || s.blk.ctl.boot.held || s.blk.ctl.phase != 5 || !s.blk.ctl.boot.retry.isEmpty ||
      !s.blk.ctl.railsGood) = false := by simp [hr, hh, hp, ht, hg]
  rw [execAtStartTestComplete, State.onCtl_eq, State.onCtl_eq, hg]
  rfl

theorem atStartTestComplete_runs (s : State) (failing : List TileId) (hr : s.blk.ctl.boot.running = .full)
    (hh : s.blk.ctl.boot.held = false) (hp : s.blk.ctl.phase = 5) (ht : s.blk.ctl.boot.retry = []) (hg : s.blk.ctl.railsGood = true) :
    ∃ b, Runs (.atStartTestComplete failing) s b ∧ SameStore s.blk b ∧ b.ctl.Sorted ∧
      ∀ t : TileId, (∀ i, s.blk.ctl.keep.load i < 110000) → tileCluster t ∉ s.blk.ctl.fenced → failing = [t] →
        b.ctl.continuity t = true := by
  refine ⟨_, execAtStartTestComplete_eq hr hh hp ht hg failing, ⟨rfl, rfl⟩, (Ctl.classify_spec _).1, ?_⟩
  rintro t hroom hf rfl
  have hlist : ([t].map (·.val)).filter (fun t => !s.blk.ctl.fenced.contains (tileCluster t)) = [t.val] := by simp [hf]
  obtain ⟨-, hc, -⟩ := (s.blk.ctl.setContinuity [t.val]).classify_spec
  rw [Blk.onCtl_ctl, hlist, hc t t.isLt]
  exact Ctl.setContinuity_listed (c := s.blk.ctl) (ts := [t.val]) (fun u _ => hroom (16 + u / 32)) t (List.mem_singleton_self _)

/-! ### Clocks, seam links and stacks (01 R9, 11 R288, R289, 15 R408) -/

/-- The mask of the numbers below `n` that `p` takes. -/
theorem testBit_mask (p : Nat → Bool) (n : Nat) :
    let v := ((List.range n).filter p).foldl (fun v i => v + 2 ^ i) 0
    v < 2 ^ n ∧ ∀ i, v.testBit i = (decide (i < n) && p i) := by
  induction n with
  | zero => simp
  | succ n ih =>
    obtain ⟨hlt, hbit⟩ := ih
    rw [List.range_succ, List.filter_append, List.foldl_append]
    generalize ((List.range n).filter p).foldl (fun v i => v + 2 ^ i) 0 = v at hlt hbit
    have htop : v.testBit n = false := Nat.testBit_lt_two_pow hlt
    by_cases hp : p n = true
    · simp only [List.filter_cons_of_pos hp, List.filter_nil, List.foldl_cons, List.foldl_nil]
      refine ⟨by rw [Nat.pow_succ]; omega, fun i => ?_⟩
      rcases Nat.lt_trichotomy i n with hi | rfl | hi
      · rw [Nat.add_comm, Nat.testBit_two_pow_add_gt hi, hbit]; simp [hi, Nat.lt_succ_of_lt hi]
      · rw [Nat.add_comm, Nat.testBit_two_pow_add_eq, htop]; simp [hp]
      · have : v + 2 ^ n < 2 ^ i := lt_of_lt_of_le (by rw [Nat.pow_succ]; omega) (Nat.pow_le_pow_right (by decide) hi)
        rw [Nat.testBit_lt_two_pow this]; simp; omega
    · simp only [List.filter_cons_of_neg hp, List.filter_nil, List.foldl_nil]
      refine ⟨lt_of_lt_of_le hlt (Nat.pow_le_pow_right (by decide) (by omega)), fun i => ?_⟩
      rw [hbit]
      by_cases hi : i = n
      · subst hi; simp [hp]
      · have : i < n ↔ i < n + 1 := by omega
        simp [this]

/-- A fold reaches what one of its steps establishes and no step undoes. -/
theorem foldl_establishes {α β : Type} {Q : β → Prop} {f : β → α → β} {x : α} (hf : ∀ b y, y = x ∨ Q b → Q (f b y)) {l : List α}
    {b : β} (h : x ∈ l ∨ Q b) : Q (l.foldl f b) := by
  induction l generalizing b with
  | nil => simpa using h
  | cons y l ih =>
    refine ih ?_
    rcases h with h | h
    · rcases List.mem_cons.1 h with rfl | h
      · exact .inr (hf _ _ (.inl rfl))
      · exact .inl h
    · exact .inr (hf _ _ (.inr h))

/-- STATUS of a stack whose training `bad` judges: it is FAILED, or its zero-fill runs. -/
def Ctl.Trained (bad : Bool) (h : Nat) (c : Ctl) : Prop :=
  c.flag (hbmPage h) F.HBM_STATUS_INIT_BUSY = !bad ∧ (bad = true → c.flag (hbmPage h) F.HBM_STATUS_FAILED = true)

/-- A field is what its register makes it. -/
theorem Ctl.get_congr {c d : Ctl} {p : Nat} {f : Fld} (h : c.rd (p + f.off) = d.rd (p + f.off)) : c.get p f = d.get p f := by
  simp only [Ctl.get, Ctl.getN, Nat.zero_mul, Nat.add_zero, h]

theorem Ctl.flag_congr {c d : Ctl} {p : Nat} {f : Fld} (h : c.rd (p + f.off) = d.rd (p + f.off)) : c.flag p f = d.flag p f := by
  rw [Ctl.flag, Ctl.get_congr h, Ctl.flag]

theorem Ctl.flag_put_same (c : Ctl) (p : Nat) (f : Fld) (v : Nat) (h : f.hi < 32) :
    (c.put p f v).flag p f = (v % 2 ^ (f.hi + 1 - f.lo) != 0) := by rw [Ctl.flag, Ctl.get_put_same c p f v h]

/-- A flag apart from the field written reads as before. -/
theorem Ctl.flag_put_apart (c : Ctl) (p : Nat) (f g : Fld) (v : Nat) (h : g.hi < f.lo ∨ f.hi < g.lo) :
    (c.put p f v).flag p g = c.flag p g := by
  simp only [Ctl.flag, Ctl.get, Ctl.put, Ctl.getN_putN_apart _ _ _ _ _ _ _ _ h]

theorem Ctl.flag_put_other (c : Ctl) (p q : Nat) (f g : Fld) (v : Nat) (h : q + g.off ≠ p + f.off) :
    (c.put p f v).flag q g = c.flag q g := Ctl.flag_congr ((Ctl.rd_put c p f v _).trans (if_neg h))

/-- Of the STATUS registers of the stacks, marking a stack failed writes three fields of its own. -/
theorem Ctl.rd_stackFail_status (c : Ctl) (n h : Nat) :
    (c.stackFail n).rd (hbmPage h + 0x14) = (((c.put (hbmPage n) F.HBM_STATUS_FAILED 1).put (hbmPage n) F.HBM_STATUS_INIT_BUSY 0).put
      (hbmPage n) F.HBM_STATUS_READY 0).rd (hbmPage h + 0x14) := by
  have he : hbmPage h + 0x14 ∉ errRegs (hbmPage n) := by
    simp only [errRegs, List.mem_cons, List.not_mem_nil, or_false, hbmPage, devPage, logPage]; omega
  have h1 : hbmPage h + 0x14 ≠ hbmPage n + 0x18 := by simp only [hbmPage]; omega
  have h2 : hbmPage h + 0x14 ≠ devPage + F.DEV_HBM_FAIL_FAILED.off := by simp only [hbmPage, devPage, F.DEV_HBM_FAIL_FAILED]; omega
  rw [Ctl.stackFail, Ctl.rd_raise, if_neg h1, Ctl.rd_errHw _ _ _ he, Ctl.rd_put, if_neg h2]

/-- Training a stack leaves the STATUS of every other. -/
theorem Ctl.trainStack_other (bad : List Nat) (c : Ctl) {n h : Nat} (hn : n ≠ h) :
    (c.trainStack bad n).rd (hbmPage h + 0x14) = c.rd (hbmPage h + 0x14) := by
  have hp : hbmPage h + 0x14 ≠ hbmPage n + 0x14 := by simp only [hbmPage]; omega
  have hput (d : Ctl) (f : Fld) (v : Nat) (hf : f.off = 0x14) : (d.put (hbmPage n) f v).rd (hbmPage h + 0x14) = d.rd (hbmPage h + 0x14) := by
    rw [Ctl.rd_put, hf, if_neg hp]
  rw [Ctl.trainStack]
  split_ifs
  · rw [Ctl.rd_stackFail_status, hput _ _ _ rfl, hput _ _ _ rfl, hput _ _ _ rfl]
  · exact hput _ _ _ rfl

theorem Ctl.trainStack_trained (bad : List Nat) (c : Ctl) (h : Nat) : (c.trainStack bad h).Trained (bad.contains h) h := by
  rw [Ctl.trainStack]
  cases hb : bad.contains h
  · rw [if_neg (by decide)]
    exact ⟨Ctl.flag_put_same _ _ _ _ (by decide), fun hc => absurd hc (by decide)⟩
  · rw [if_pos rfl]
    refine ⟨?_, fun _ => ?_⟩
    · rw [Ctl.flag_congr (Ctl.rd_stackFail_status c h h), Ctl.flag_put_apart _ _ _ _ _ (by decide), Ctl.flag_put_same _ _ _ _ (by decide)]
      rfl
    · rw [Ctl.flag_congr (Ctl.rd_stackFail_status c h h), Ctl.flag_put_apart _ _ _ _ _ (by decide), Ctl.flag_put_apart _ _ _ _ _ (by decide),
        Ctl.flag_put_same _ _ _ _ (by decide)]
      rfl

/-- Every stack is trained, or marked failed. -/
theorem Ctl.trainStacks_trained (bad : List Nat) (c : Ctl) {h : Nat} (hh : h < 12) :
    ((List.range 12).foldl (Ctl.trainStack bad) c).Trained (bad.contains h) h := by
  refine foldl_establishes (x := h) (fun d n hd => ?_) (.inl (List.mem_range.2 hh))
  by_cases hn : n = h
  · exact hn ▸ d.trainStack_trained bad n
  · obtain ⟨h1, h2⟩ := hd.resolve_left hn
    have e := d.trainStack_other bad hn
    exact ⟨(Ctl.flag_congr e).trans h1, fun hb => (Ctl.flag_congr e).trans (h2 hb)⟩

end Sys2Proof.Machine
end

section
/-!
PROOF. The steps of bring-up: REFCLK and the oscillators, the image (01 R9, 13 R355, 15 R408, 16 R421, R423, R437, 17 R459, R461).
-/
namespace Sys2Proof.Machine

/-! ### Oscillators locked -/

/-- REFCLK's presence seen: REFCLK_OK is set and no code 0x02 is active (15 R408). -/
theorem Ctl.refclkSeen_spec (c : Ctl) : c.refclkSeen.flag clkPage F.CLK_STATUS_REFCLK_OK = true ∧ 2 ∉ c.refclkSeen.boot.faults :=
  ⟨Ctl.flag_put_same c clkPage F.CLK_STATUS_REFCLK_OK 1 (by decide), by simp [Ctl.refclkSeen, Ctl.faultOff]⟩

theorem Ctl.refclkSeen_keep (c : Ctl) : c.refclkSeen.keep = c.keep := rfl

/-- LOCKED shows a list of clusters that are below 24, and REFCLK_OK stays. -/
theorem Ctl.showLocked_spec (c : Ctl) (p : Nat → Bool) :
    ((c.showLocked ((List.range 24).filter p)).flag clkPage F.CLK_STATUS_REFCLK_OK = c.flag clkPage F.CLK_STATUS_REFCLK_OK) ∧
    ∀ cl < 24, ((c.showLocked ((List.range 24).filter p)).get clkPage F.CLK_STATUS_LOCKED).testBit cl = p cl := by
  obtain ⟨hlt, hbit⟩ := testBit_mask p 24
  refine ⟨Ctl.flag_put_apart _ _ _ _ _ (by decide), fun cl hcl => ?_⟩
  rw [Ctl.showLocked, Ctl.get_put_same _ _ _ _ (by decide)]
  refine (congrArg (Nat.testBit · cl) (Nat.mod_eq_of_lt hlt)).trans ?_
  rw [hbit cl]
  simp [hcl]

/-- What the clock step leaves to the steps after it: REFCLK_OK is set, LOCKED shows the clusters not fenced, no code 0x02 is active, the
running reset is the same, and a seam link that could not be repaired has both its ends in the continuity list. -/
theorem Ctl.clocksUp_spec (c : Ctl) (seam : List SeamLink) :
    (c.clocksUp seam).flag clkPage F.CLK_STATUS_REFCLK_OK = true ∧
    (∀ cl < 24, ((c.clocksUp seam).get clkPage F.CLK_STATUS_LOCKED).testBit cl = true ↔ cl ∉ c.fenced) ∧
    2 ∉ (c.clocksUp seam).boot.faults ∧ (c.clocksUp seam).boot.running = c.boot.running ∧
    ∀ l : SeamLink, (∀ i, c.keep.load i + 1 < 110000) → seam = [l] → ∀ t ∈ l.ends, (c.clocksUp seam).continuity t = true := by
  have h1 : c.refclkSeen.Steady (· = 101) c.refclkSeen.clustersLocked := Ctl.Steady.refl.clustersLocked rfl
  obtain ⟨hok, hfault⟩ := c.refclkSeen_spec
  obtain ⟨hflag, hlocked⟩ := c.refclkSeen.clustersLocked.showLocked_spec fun cl => !c.refclkSeen.fenced.contains cl
  have h2 : (c.refclkSeen.clustersLocked.showLocked c.refclkSeen.unfenced).Steady (fun _ => True) (c.clocksUp seam) :=
    Ctl.Steady.refl.setContinuity fun _ _ => trivial
  have hclk := h2.rd (clkPage + 0x14) (by decide)
  refine ⟨?_, fun cl hcl => ?_, fun hm => hfault (h1.refclk (h2.refclk hm)), h2.running.trans h1.running, ?_⟩
  · rw [Ctl.flag_congr hclk, Ctl.unfenced, hflag, Ctl.flag_congr (h1.rd _ (by decide)), hok]
  · rw [Ctl.get_congr hclk, Ctl.unfenced, hlocked cl hcl]
    simp [Ctl.refclkSeen, Ctl.faultOff]
  · rintro l hroom rfl t ht
    have hends : [l].flatMap SeamLink.ends = l.ends := by simp
    rw [Ctl.clocksUp, hends]
    refine Ctl.setContinuity_listed (fun u hu => ?_) t ht
    have hload := (h1.keep _ (continuityWord_ne_flags (SeamLink.lt_of_mem_ends hu))).2
    have hlen : l.ends.length = 2 := by cases l <;> rfl
    have := hroom (16 + u / 32)
    rw [Ctl.showLocked, Ctl.put_keep, hload, Ctl.refclkSeen_keep, hlen]
    omega

theorem oscillatorsLocked_absent (s : State) (seam : List SeamLink) (untrained : List StackId) (hr : s.blk.ctl.boot.running ≠ .none)
    (hh : s.blk.ctl.boot.held = false) (hp : s.blk.ctl.phase = 3) :
    ∃ b, Runs (.oscillatorsLocked false seam untrained) s b ∧ SameStore s.blk b ∧ b.ctl.flag clkPage F.CLK_STATUS_REFCLK_OK = false ∧
      b.ctl.rd (rstPage + 0x48) = 0x80000200 ∧ 2 ∈ b.ctl.boot.faults ∧ b.ctl.phase = 3 := by
  refine ⟨_, execOscillatorsLocked_eq hr hh hp false seam untrained, ⟨rfl, rfl⟩, ?_, Ctl.rd_wakeFail_bootFail _ _ _,
    Ctl.mem_wakeFail_faults.2 (.inl rfl), ?_⟩
  · exact (Ctl.flag_congr (Ctl.rd_wakeFail _ _ _ (by decide))).trans (Ctl.flag_put_same _ _ _ _ (by decide))
  · refine Eq.trans ?_ hp
    exact Ctl.get_congr ((Ctl.rd_wakeFail _ _ _ (by decide)).trans ((Ctl.rd_put _ _ _ _ _).trans (if_neg (by decide))))

/-- What follows of the training of the stacks: bring-up is at the at-start test, each stack is trained or failed; no tile is listed, no code
0x02 is raised and no register of CLK changes. -/
theorem Ctl.trainStacks_spec (c : Ctl) (untrained : List StackId) :
    let d := ((List.range 12).foldl (Ctl.trainStack (untrained.map (·.val))) c).setPhase 5
    d.phase = 5 ∧ (∀ h : StackId, d.Trained (decide (h ∈ untrained)) h) ∧ (∀ t < 1920, d.continuity t = c.continuity t) ∧
    (2 ∈ d.boot.faults → 2 ∈ c.boot.faults) ∧ d.rd (clkPage + 0x14) = c.rd (clkPage + 0x14) := by
  have hs : c.Steady (· = 101) ((List.range 12).foldl (Ctl.trainStack (untrained.map (·.val))) c) :=
    Ctl.Steady.refl.foldl fun _ _ _ => Ctl.Steady.refl.trainStack
  refine ⟨Ctl.phase_setPhase _ (by decide), fun h => ?_, fun t ht => hs.continuity ht, hs.refclk,
    (Ctl.rd_setPhase _ 5 (by decide)).trans (hs.rd (clkPage + 0x14) (by decide))⟩
  have hmem : (untrained.map (·.val)).contains h.val = decide (h ∈ untrained) := by simp [List.contains_eq_mem, Fin.val_inj]
  have hne : hbmPage h + 0x14 ≠ rstPage + 0x14 := by simp only [hbmPage, rstPage]; omega
  obtain ⟨hbusy, hfailed⟩ := Ctl.trainStacks_trained (untrained.map (·.val)) c h.isLt
  rw [hmem] at hbusy hfailed
  exact ⟨(Ctl.flag_put_other _ _ _ _ _ _ hne).trans hbusy, fun hb => (Ctl.flag_put_other _ _ _ _ _ _ hne).trans (hfailed hb)⟩

theorem oscillatorsLocked_present (s : State) (seam : List SeamLink) (untrained : List StackId) (hr : s.blk.ctl.boot.running ≠ .none)
    (hh : s.blk.ctl.boot.held = false) (hp : s.blk.ctl.phase = 3) :
    let c := s.blk.ctl
    ∃ b, Runs (.oscillatorsLocked true seam untrained) s b ∧ SameStore s.blk b ∧ b.ctl.flag clkPage F.CLK_STATUS_REFCLK_OK = true ∧
      2 ∉ b.ctl.boot.faults ∧
      (∀ l : SeamLink, (∀ i, c.keep.load i + 1 < 110000) → seam = [l] → ∀ t ∈ l.ends, b.ctl.continuity t = true) ∧
      (c.boot.running = .full → b.ctl.phase = 5 ∧ (∀ h : StackId, b.ctl.Trained (decide (h ∈ untrained)) h) ∧
        ∀ cl < 24, (b.ctl.get clkPage F.CLK_STATUS_LOCKED).testBit cl = true ↔ cl ∉ c.fenced) ∧
      (c.boot.running = .warm → b.ctl.Sorted) := by
  intro c
  obtain ⟨hok, hlocked, hfault, hrun, hseam⟩ := c.clocksUp_spec seam
  refine ⟨_, execOscillatorsLocked_eq hr hh hp true seam untrained, ⟨rfl, rfl⟩, ?_⟩
  rw [Blk.onCtl_ctl, Bool.not_true, if_neg Bool.false_ne_true, hrun]
  by_cases hw : c.boot.running = .warm
  · rw [if_pos hw]
    obtain ⟨hs, hc, hf, hclk⟩ := (c.clocksUp seam).classify_spec
    refine ⟨(Ctl.flag_congr hclk).trans hok, fun hm => hfault (hf hm), fun l hroom hl t ht => ?_, fun hfull => ?_, fun _ => hs⟩
    · rw [hc t (SeamLink.lt_of_mem_ends ht)]
      exact hseam l hroom hl t ht
    · rw [hw] at hfull
      cases hfull
  · rw [if_neg hw]
    obtain ⟨hphase, htrained, hc, hf, hclk⟩ := (c.clocksUp seam).trainStacks_spec untrained
    refine ⟨(Ctl.flag_congr hclk).trans hok, fun hm => hfault (hf hm), fun l hroom hl t ht => ?_,
      fun _ => ⟨hphase, htrained, fun cl hcl => ?_⟩, fun h => absurd h hw⟩
    · rw [hc t (SeamLink.lt_of_mem_ends ht)]
      exact hseam l hroom hl t ht
    · rw [Ctl.get_congr hclk]
      exact hlocked cl hcl

/-! ### The image (13 R355, 16 R421, R423, 17 R459, R461) -/

/-- The version of the image in slot `k`. -/
def imageVer (ver : Fin 256 × Fin 256) (k : Nat) : Nat := if k = 0 then ver.1.val else ver.2.val

/-- The image in slot `k` verifies (16 R421). -/
def Ctl.imageGood (c : Ctl) (sfdp : Bool) (ok : Bool × Bool) (ver : Fin 256 × Fin 256) (k : Nat) : Bool :=
  sfdp && !c.boot.spiBad.contains k && (if k = 0 then ok.1 else ok.2) && decide (bits (c.option 5) 15 8 ≤ imageVer ver k)

/-- The log memory's test (17 R459). -/
def Ctl.logTested (c : Ctl) (logOk : Bool) : Ctl := if logOk || c.boot.running != .full then c else c.logFail

/-- The images `l` have failed: each is logged and counts as a failed SPI command (13 R355). -/
def Ctl.imagesFailed (c : Ctl) (l : List Nat) : Ctl :=
  l.foldl (fun c _ => (c.logEvent mirynPage (Config.eventCode 6) 0).bump devPage F.DEV_MGMT_ERR_SPI) c

/-- The dailies are restored where power was removed (17 R461). -/
def Ctl.dailiesBack (c : Ctl) (spiOk : Bool) : Ctl := if c.boot.running = .full ∧ c.boot.cause = 0 then c.restoreDaily spiOk else c

/-- Slot `k`'s image, of version `v`, runs; `hash` is that of the dither (16 R423). -/
def Ctl.imageShown (c : Ctl) (k v hash : Nat) : Ctl :=
  (((c.wr (mirynPage + F.MIRYN_IMAGE_SLOT.off) (BitVec.ofNat 32 (k * 2 ^ 31 + v))).put mirynPage F.MIRYN_STATUS_ROM 0).put rstPage
    F.RST_STATUS_MIRYN_UP 1).put pwrPage F.PWR_DITHER_HASH_HASH hash

/-- No image verifies: recovery, or the part is held (16 R421, R437). -/
def Ctl.noImage (c : Ctl) : Ctl := if bit ((c.wakeFail 0x03 0).option 1) 2 then (c.wakeFail 0x03 0).setPhase 9 else (c.wakeFail 0x03 0).holdReset

/-- Which image runs decides what IMAGE_VERIFY does, once the failing ones are counted. -/
def Ctl.imageChosen (c : Ctl) (ver : Fin 256 × Fin 256) (spiOk : Bool) : Option Nat → Ctl
  | some k => ((c.imageShown k (imageVer ver k) (crc32c.of ((List.range 16).map Config.serial))).dailiesBack spiOk).setPhase 3
  | none => c.noImage

theorem execImageVerify_eq {s : State} (ha : s.blk.ctl.boot.aon = true) (hr : s.blk.ctl.boot.running ≠ .none)
    (hh : s.blk.ctl.boot.held = false) (hp : s.blk.ctl.phase = 2) (sfdp : Bool) (ok : Bool × Bool) (ver : Fin 256 × Fin 256)
    (logOk spiOk : Bool) :
    execImageVerify sfdp ok ver logOk spiOk s = s.onCtl fun c =>
      ((c.logTested logOk).imagesFailed ((imageOrder (c.option 1)).takeWhile fun k => !c.imageGood sfdp ok ver k)).imageChosen ver spiOk
        ((imageOrder (c.option 1)).find? (c.imageGood sfdp ok ver)) := by
  have hg : (!s.blk.ctl.boot.aon || s.blk.ctl.boot.running == .none || s.blk.ctl.boot.held || s.blk.ctl.phase != 2) = false := by
    simp [ha, hr, hh, hp]
  rw [execImageVerify, State.onCtl_eq, State.onCtl_eq, hg]
  simp only [Bool.false_eq_true, if_false]
  have hx : (fun k => sfdp && !s.blk.ctl.boot.spiBad.contains k && (if k = 0 then ok.1 else ok.2) &&
      decide (bits (s.blk.ctl.option 5) 15 8 ≤ (if k = 0 then ver.1.val else ver.2.val))) = s.blk.ctl.imageGood sfdp ok ver := rfl
  rw [hx]
  cases (imageOrder (s.blk.ctl.option 1)).find? (s.blk.ctl.imageGood sfdp ok ver) <;> rfl

/-- The log memory's failure changes no steady register, and is seen. -/
theorem Ctl.logFail_spec (c : Ctl) : (∀ a, steadyReg a → c.logFail.rd a = c.rd a) ∧ c.logFail.log.failed = true := by
  rw [Ctl.logFail]
  split_ifs with hf
  · exact ⟨fun _ _ => rfl, hf⟩
  · have h (d : Ctl) : d.Steady (· = 101) ((((d.errHw logPage 0x01).raise logPage 1).setFlags 2).faultOn 0x12) :=
      .faultOn (.setFlags (.raise (.errHw .refl (.inr (by decide))) (.inr (by decide))) rfl) (by decide)
    exact ⟨(h { c with log := { c.log with failed := true } }).rd, (h { c with log := { c.log with failed := true } }).failed⟩

theorem Ctl.logTested_spec (c : Ctl) (logOk : Bool) :
    (∀ a, steadyReg a → (c.logTested logOk).rd a = c.rd a) ∧
    (logOk = false → c.boot.running = .full → (c.logTested logOk).log.failed = true) := by
  obtain ⟨hrd, hfail⟩ := c.logFail_spec
  rw [Ctl.logTested]
  split_ifs with h
  · refine ⟨fun _ _ => rfl, fun h1 h2 => ?_⟩
    simp [h1, h2] at h
  · exact ⟨hrd, fun _ _ => hfail⟩

/-- Each failing image counts once, saturating; the other steady registers and the state of the log memory stay. -/
theorem Ctl.imagesFailed_spec (l : List Nat) (c : Ctl) :
    (c.imagesFailed l).getN devPage F.DEV_MGMT_ERR_SPI 0 = satAdd 0xFF (c.getN devPage F.DEV_MGMT_ERR_SPI 0) l.length ∧
    (∀ a, steadyReg a → a ≠ devPage + 0x5C → (c.imagesFailed l).rd a = c.rd a) ∧ (c.imagesFailed l).log.failed = c.log.failed := by
  induction l generalizing c with
  | nil =>
    have : c.getN devPage F.DEV_MGMT_ERR_SPI 0 < 256 := bits_lt _ _ _
    exact ⟨by simp only [Ctl.imagesFailed, List.foldl_nil, satAdd, List.length_nil]; omega, fun _ _ _ => rfl, rfl⟩
  | cons x l ih =>
    let d := c.logEvent mirynPage (Config.eventCode 6) 0
    obtain ⟨hn, hrd, hfail⟩ := ih (d.bump devPage F.DEV_MGMT_ERR_SPI)
    have hd : ∀ a, steadyReg a → d.rd a = c.rd a := fun a ha => Ctl.rd_logEvent _ _ _ _ (not_mem_logRegs_of_steadyReg ha)
    have hspi : d.getN devPage F.DEV_MGMT_ERR_SPI 0 = c.getN devPage F.DEV_MGMT_ERR_SPI 0 :=
      Ctl.get_congr (hd (devPage + 0x5C) (.inl rfl))
    have hb : (d.bump devPage F.DEV_MGMT_ERR_SPI).getN devPage F.DEV_MGMT_ERR_SPI 0 = min 255 (c.getN devPage F.DEV_MGMT_ERR_SPI 0 + 1) := by
      rw [Ctl.bump, Ctl.bumpN, Ctl.getN_putN_same _ _ _ _ _ (by decide), hspi]
      show min 255 _ % 256 = _
      omega
    refine ⟨?_, fun a ha hne => ?_, ?_⟩
    · rw [hb] at hn
      refine hn.trans ?_
      simp only [satAdd, List.length_cons]
      omega
    · exact (hrd a ha hne).trans (((Ctl.rd_put d devPage F.DEV_MGMT_ERR_SPI _ a).trans (if_neg hne)).trans (hd a ha))
    · exact hfail.trans (Ctl.logEvent_failed _ _ _ _)

theorem Ctl.restoreDaily_eq (c : Ctl) (spiOk : Bool) :
    ∃ v y, c.restoreDaily spiOk = { c.put dailyPage F.DAILY_STATUS_SOURCE v with daily := y } := by
  unfold Ctl.restoreDaily
  extract_lets
  split
  exact ⟨_, _, rfl⟩

theorem Ctl.dailiesBack_spec (c : Ctl) (spiOk : Bool) :
    (∀ a, a ≠ dailyPage + 0x14 → (c.dailiesBack spiOk).rd a = c.rd a) ∧ (c.dailiesBack spiOk).log = c.log := by
  rw [Ctl.dailiesBack]
  split_ifs
  · obtain ⟨v, y, h⟩ := c.restoreDaily_eq spiOk
    rw [h]
    exact ⟨fun a ha => (Ctl.rd_put c dailyPage F.DAILY_STATUS_SOURCE v a).trans (if_neg ha), rfl⟩
  · exact ⟨fun _ _ => rfl, rfl⟩

/-- Miryn runs the image: MIRYN_UP, its slot and version are seen. -/
theorem Ctl.imageShown_spec (c : Ctl) (k v hash : Nat) :
    (c.imageShown k v hash).mirynUp = true ∧ (c.imageShown k v hash).rd (mirynPage + 0x40) = BitVec.ofNat 32 (k * 2 ^ 31 + v) ∧
    (c.imageShown k v hash).rd (devPage + 0x5C) = c.rd (devPage + 0x5C) ∧ (c.imageShown k v hash).log = c.log := by
  unfold Ctl.imageShown
  refine ⟨?_, ?_, ?_, by rw [Ctl.put_log, Ctl.put_log, Ctl.put_log, Ctl.wr_log]⟩
  · rw [Ctl.mirynUp, Ctl.flag_put_other _ _ _ _ _ _ (by decide), Ctl.flag_put_same _ _ _ _ (by decide)]
    rfl
  · rw [Ctl.rd_put, if_neg (by decide), Ctl.rd_put, if_neg (by decide), Ctl.rd_put, if_neg (by decide), Ctl.rd_wr, if_pos (by decide)]
  · rw [Ctl.rd_put, if_neg (by decide), Ctl.rd_put, if_neg (by decide), Ctl.rd_put, if_neg (by decide), Ctl.rd_wr, if_neg (by decide)]

/-- With an image that verifies, Miryn runs it and bring-up is at its clock step. -/
theorem Ctl.imageChosen_some (c : Ctl) (ver : Fin 256 × Fin 256) (spiOk : Bool) (k : Nat) :
    let d := c.imageChosen ver spiOk (some k)
    d.phase = 3 ∧ d.mirynUp = true ∧ d.rd (mirynPage + 0x40) = BitVec.ofNat 32 (k * 2 ^ 31 + imageVer ver k) ∧
    d.rd (devPage + 0x5C) = c.rd (devPage + 0x5C) ∧ d.log.failed = c.log.failed := by
  obtain ⟨hup, hslot, hdev, hlog1⟩ := c.imageShown_spec k (imageVer ver k) (crc32c.of ((List.range 16).map Config.serial))
  simp only [Ctl.imageChosen]
  generalize c.imageShown k (imageVer ver k) (crc32c.of ((List.range 16).map Config.serial)) = e at *
  obtain ⟨hrd, hlog⟩ := e.dailiesBack_spec spiOk
  refine ⟨Ctl.phase_setPhase _ (by decide), ?_, ?_, ?_, ?_⟩
  · rw [Ctl.mirynUp, Ctl.setPhase, Ctl.flag_put_apart _ _ _ _ _ (by decide), Ctl.flag_congr (hrd _ (by decide)), ← hup, Ctl.mirynUp]
  · rw [Ctl.rd_setPhase _ _ (by decide), hrd _ (by decide), hslot]
  · rw [Ctl.rd_setPhase _ _ (by decide), hrd _ (by decide), hdev]
  · rw [Ctl.setPhase, Ctl.put_log, hlog, hlog1]

/-- With none, BOOT_FAIL and FAULT_N show code 0x03, and the option block says whether recovery follows or the part is held. -/
theorem Ctl.noImage_spec (c : Ctl) :
    c.noImage.rd (rstPage + 0x48) = 0x80000300 ∧ 3 ∈ c.noImage.boot.faults ∧
    (bit (c.option 1) 2 = true → c.noImage.phase = 9) ∧ (bit (c.option 1) 2 = false → c.noImage.phase = 8 ∧ c.noImage.boot.held = true) ∧
    c.noImage.rd (devPage + 0x5C) = c.rd (devPage + 0x5C) ∧ c.noImage.log.failed = c.log.failed := by
  have hopt : (c.wakeFail 0x03 0).option 1 = c.option 1 := Ctl.rd_wakeFail _ _ _ (by decide)
  have hf : 3 ∈ (c.wakeFail 0x03 0).boot.faults := Ctl.mem_wakeFail_faults.2 (.inl rfl)
  rw [Ctl.noImage, hopt]
  cases hb : bit (c.option 1) 2
  · rw [if_neg (by decide)]
    exact ⟨(Ctl.rd_holdReset _ (by decide)).trans (Ctl.rd_wakeFail_bootFail _ _ _), hf, fun h => absurd h (by decide),
      fun _ => ⟨Ctl.phase_holdReset _, rfl⟩, (Ctl.rd_holdReset _ (by decide)).trans (Ctl.rd_wakeFail _ _ _ (by decide)), rfl⟩
  · rw [if_pos rfl]
    exact ⟨(Ctl.rd_setPhase _ _ (by decide)).trans (Ctl.rd_wakeFail_bootFail _ _ _), hf, fun _ => Ctl.phase_setPhase _ (by decide),
      fun h => absurd h (by decide), (Ctl.rd_setPhase _ _ (by decide)).trans (Ctl.rd_wakeFail _ _ _ (by decide)), rfl⟩

theorem imageVerify_runs (s : State) (sfdp : Bool) (ok : Bool × Bool) (ver : Fin 256 × Fin 256) (logOk spiOk : Bool)
    (ha : s.blk.ctl.boot.aon = true) (hr : s.blk.ctl.boot.running ≠ .none) (hh : s.blk.ctl.boot.held = false) (hp : s.blk.ctl.phase = 2) :
    let c := s.blk.ctl
    let good := c.imageGood sfdp ok ver
    ∃ b, Runs (.imageVerify sfdp ok ver logOk spiOk) s b ∧ SameStore s.blk b ∧
      b.ctl.getN devPage F.DEV_MGMT_ERR_SPI 0 = satAdd 0xFF (c.getN devPage F.DEV_MGMT_ERR_SPI 0)
        ((imageOrder (c.option 1)).takeWhile fun k => !good k).length ∧
      (logOk = false → c.boot.running = .full → b.ctl.log.failed = true) ∧
      (∀ k, (imageOrder (c.option 1)).find? good = some k → b.ctl.phase = 3 ∧ b.ctl.mirynUp = true ∧
        b.ctl.rd (mirynPage + 0x40) = BitVec.ofNat 32 (k * 2 ^ 31 + imageVer ver k)) ∧
      ((imageOrder (c.option 1)).find? good = none → b.ctl.rd (rstPage + 0x48) = 0x80000300 ∧ 3 ∈ b.ctl.boot.faults ∧
        (bit (c.option 1) 2 = true → b.ctl.phase = 9) ∧ (bit (c.option 1) 2 = false → b.ctl.phase = 8 ∧ b.ctl.boot.held = true)) := by
  intro c good
  refine ⟨_, execImageVerify_eq ha hr hh hp sfdp ok ver logOk spiOk, ⟨rfl, rfl⟩, ?_⟩
  simp only [Blk.onCtl_ctl]
  obtain ⟨hrd1, hfail1⟩ := c.logTested_spec logOk
  obtain ⟨hcnt, hrd2, hfail2⟩ := (c.logTested logOk).imagesFailed_spec ((imageOrder (c.option 1)).takeWhile fun k => !good k)
  have hspi : (c.logTested logOk).getN devPage F.DEV_MGMT_ERR_SPI 0 = c.getN devPage F.DEV_MGMT_ERR_SPI 0 :=
    Ctl.get_congr (hrd1 (devPage + 0x5C) (.inl rfl))
  rw [hspi] at hcnt
  have hopt : ((c.logTested logOk).imagesFailed ((imageOrder (c.option 1)).takeWhile fun k => !good k)).option 1 = c.option 1 :=
    (hrd2 _ (by decide) (by decide)).trans (hrd1 _ (by decide))
  generalize (c.logTested logOk).imagesFailed ((imageOrder (c.option 1)).takeWhile fun k => !good k) = d at *
  cases hfind : (imageOrder (c.option 1)).find? good with
  | some k =>
    obtain ⟨hph, hup, hslot, hdev, hlog⟩ := d.imageChosen_some ver spiOk k
    refine ⟨(Ctl.get_congr hdev).trans hcnt, fun h1 h2 => (hlog.trans hfail2).trans (hfail1 h1 h2), fun j hj => ?_, by simp⟩
    cases hj
    exact ⟨hph, hup, hslot⟩
  | none =>
    obtain ⟨hboot, hf, hrec, hheld, hdev, hlog⟩ := d.noImage_spec
    rw [hopt] at hrec hheld
    exact ⟨(Ctl.get_congr hdev).trans hcnt, fun h1 h2 => (hlog.trans hfail2).trans (hfail1 h1 h2), by simp,
      fun _ => ⟨hboot, hf, hrec, hheld⟩⟩

end Sys2Proof.Machine
end

section
/-!
PROOF. The last step of bring-up, and bring-up as a whole (16 R423, R426).
-/
namespace Sys2Proof.Machine

/-! ### The resident tile image (16 R423, R426) -/

/-- What writing tiles leaves as it was: the stacks, the control plane but for registers, and every tile outside `ts`. -/
structure Blk.TilesOnly (ts : List Nat) (a b : Blk) : Prop where
  hbm : b.hbm = a.hbm
  offTiles : b.ctl.offTiles = a.ctl.offTiles
  fenced : b.ctl.fenced = a.ctl.fenced
  tile : ∀ u, u ∉ ts → b.tile u = a.tile u

theorem Blk.TilesOnly.refl {ts : List Nat} {a : Blk} : a.TilesOnly ts a := ⟨rfl, rfl, rfl, fun _ _ => rfl⟩

theorem Blk.TilesOnly.trans {ts : List Nat} {a b c : Blk} (h : a.TilesOnly ts b) (g : b.TilesOnly ts c) : a.TilesOnly ts c :=
  ⟨g.hbm.trans h.hbm, g.offTiles.trans h.offTiles, g.fenced.trans h.fenced, fun u hu => (g.tile u hu).trans (h.tile u hu)⟩

theorem Blk.TilesOnly.foldl {ts : List Nat} {f : Blk → Nat → Blk} (hf : ∀ (b : Blk), ∀ t ∈ ts, b.TilesOnly ts (f b t)) (a : Blk) :
    a.TilesOnly ts (ts.foldl f a) := by
  suffices h : ∀ l : List Nat, (∀ t ∈ l, t ∈ ts) → ∀ b, a.TilesOnly ts b → a.TilesOnly ts (l.foldl f b) from h ts (fun _ => id) a .refl
  intro l
  induction l with
  | nil => exact fun _ _ h => h
  | cons t l ih => exact fun hl b h => ih (fun u hu => hl u (by simp [hu])) _ (h.trans (hf b t (hl t (by simp))))

theorem Blk.TilesOnly.tileOff {ts : List Nat} {a b : Blk} (h : a.TilesOnly ts b) (t : Nat) : b.ctl.tileOff t = a.ctl.tileOff t := by
  simp only [Ctl.tileOff, h.offTiles, h.fenced]

/-- Steps that each change registers alone change registers alone. -/
theorem Ctl.foldl_regs {α : Type} {f : Ctl → α → Ctl} (hf : ∀ c x, ∃ r, f c x = { c with regs := r }) (l : List α) (c : Ctl) :
    ∃ r, l.foldl f c = { c with regs := r } := by
  induction l generalizing c with
  | nil => exact ⟨c.regs, rfl⟩
  | cons x l ih =>
    obtain ⟨r, hr⟩ := hf c x
    obtain ⟨q, hq⟩ := ih (f c x)
    exact ⟨q, by rw [List.foldl_cons, hq, hr]⟩

/-- The register words of an image change registers alone. -/
theorem Blk.writeImage_ctl (b : Blk) (t : Nat) (r : Resident) : ∃ q, (b.writeImage t r).ctl = { b.ctl with regs := q } := by
  refine Ctl.foldl_regs (fun c e => ?_) r.regs b.ctl
  dsimp only
  split
  · split
    · exact ⟨_, rfl⟩
    · exact ⟨c.regs, rfl⟩
  · exact ⟨c.regs, rfl⟩

/-- The image of a tile changes that tile and registers alone. -/
theorem Blk.TilesOnly.writeImage {ts : List Nat} {t : Nat} (ht : t ∈ ts) (b : Blk) (r : Resident) : b.TilesOnly ts (b.writeImage t r) := by
  obtain ⟨q, hq⟩ := b.writeImage_ctl t r
  refine ⟨rfl, by rw [hq], by rw [hq], fun u hu => ?_⟩
  rw [Blk.writeImage, Blk.onCtl_tile, Blk.onTile_tile, if_neg]
  rintro rfl
  exact hu ht

theorem Blk.TilesOnly.openTile {ts : List Nat} {t : Nat} (ht : t ∈ ts) (b : Blk) : b.TilesOnly ts (b.openTile t) := by
  rcases b.openTile_cases t with ⟨-, h⟩ | ⟨-, c, d, h, -⟩ <;> rw [h]
  · exact .refl
  · refine ⟨rfl, rfl, rfl, fun u hu => ?_⟩
    rw [Blk.setTile_tile, if_neg]
    rintro rfl
    exact hu ht

/-- A tile that is not disabled is open once its wrapper is asked to open. -/
theorem Blk.openTile_open (b : Blk) (t : Nat) (h : b.ctl.tileOff t = false) : ((b.openTile t).tile t).wrapped = false := by
  rcases b.openTile_cases t with ⟨hw, ho⟩ | ⟨-, c, d, ho, -⟩ <;> rw [ho]
  · exact hw.resolve_right (by simp [h])
  · rw [Blk.setTile_tile, if_pos rfl]

/-- Opening a tile closes no other. -/
theorem Blk.openTile_keeps (b : Blk) (t u : Nat) (h : (b.tile u).wrapped = false) : ((b.openTile t).tile u).wrapped = false := by
  rcases b.openTile_cases t with ⟨-, ho⟩ | ⟨-, c, d, ho, -⟩ <;> rw [ho]
  · exact h
  · rw [Blk.setTile_tile]
    split_ifs
    · rfl
    · exact h

theorem Ctl.tileOff_of_mem_residents {c : Ctl} {t : Nat} (h : t ∈ c.residents) : c.tileOff t = false := by
  simp only [Ctl.residents, List.mem_filter, Ctl.tileGood, Bool.and_eq_true, Bool.not_eq_true'] at h
  exact h.2.1

/-- The resident image put into the tiles `ts`, and these opened (16 R426). -/
def Blk.settle (b : Blk) (ts : List Nat) (r : Resident) : Blk := ts.foldl Blk.openTile (ts.foldl (fun b t => b.writeImage t r) b)

theorem Blk.settle_tilesOnly (b : Blk) (ts : List Nat) (r : Resident) : b.TilesOnly ts (b.settle ts r) :=
  (Blk.TilesOnly.foldl (fun _ _ ht => .writeImage ht _ r) b).trans (.foldl (fun _ _ ht => .openTile ht _) _)

theorem Blk.settle_open (b : Blk) {ts : List Nat} (r : Resident) (hts : ∀ t ∈ ts, b.ctl.tileOff t = false) :
    ∀ t ∈ ts, ((b.settle ts r).tile t).wrapped = false := by
  intro t ht
  have hq : (b.settle ts r).ctl.tileOff t = true ∨ ((b.settle ts r).tile t).wrapped = false := by
    refine foldl_establishes (Q := fun b : Blk => b.ctl.tileOff t = true ∨ (b.tile t).wrapped = false) (x := t) (fun d u hd => ?_) (.inl ht)
    rw [(Blk.TilesOnly.openTile (List.mem_singleton_self u) d).tileOff t]
    cases hoff : d.ctl.tileOff t
    · rcases hd with rfl | hd
      · exact .inr (d.openTile_open u hoff)
      · exact .inr (d.openTile_keeps u t (hd.resolve_left (by simp [hoff])))
    · exact .inl rfl
  exact hq.resolve_left (by simp [(b.settle_tilesOnly ts r).tileOff t, hts t ht])

/-- The device is READY with the image in place, after `ms` milliseconds (16 R423, R426). -/
def Ctl.nowReady (c : Ctl) (r : Resident) (ms : Nat) : Ctl :=
  let c := ((c.put rstPage F.RST_STATUS_READY 1).setPhase 7).put rstPage F.RST_BOOT_MS_MS (min ms 0xFFFF)
  ({ c with boot := { c.boot with running := .none, image := r } }).logEvent rstPage (Config.eventCode 8) 0

theorem Ctl.nowReady_spec (c : Ctl) (r : Resident) (ms : Nat) :
    (c.nowReady r ms).ready = true ∧ (c.nowReady r ms).phase = 7 ∧ (c.nowReady r ms).boot.running = .none ∧
      (c.nowReady r ms).boot.image = r := by
  have hst : (c.nowReady r ms).rd (rstPage + 0x14) = ((c.put rstPage F.RST_STATUS_READY 1).setPhase 7).rd (rstPage + 0x14) :=
    (Ctl.rd_logEvent _ _ _ _ (by decide)).trans ((Ctl.rd_put _ _ F.RST_BOOT_MS_MS _ _).trans (if_neg (by decide)))
  obtain ⟨q, l, hlog⟩ := Ctl.logEvent_eq ({ ((c.put rstPage F.RST_STATUS_READY 1).setPhase 7).put rstPage F.RST_BOOT_MS_MS (min ms 0xFFFF) with
    boot := { c.boot with running := .none, image := r } } : Ctl) rstPage (Config.eventCode 8) 0
  have hboot : (c.nowReady r ms).boot = { c.boot with running := .none, image := r } := congrArg Ctl.boot hlog
  refine ⟨?_, ?_, by rw [hboot], by rw [hboot]⟩
  · rw [Ctl.ready, Ctl.flag_congr hst, Ctl.setPhase, Ctl.flag_put_apart _ _ _ _ _ (by decide), Ctl.flag_put_same _ _ _ _ (by decide)]
    rfl
  · exact (Ctl.get_congr hst).trans (Ctl.phase_setPhase _ (by decide))

theorem execResidentCallSheet_eq {s : State} (hr : s.blk.ctl.boot.running ≠ .none) (hh : s.blk.ctl.boot.held = false)
    (hp : s.blk.ctl.phase = 6) (hb : ∀ h < 12, s.blk.ctl.flag (hbmPage h) F.HBM_STATUS_INIT_BUSY = false)
    (m n : List (Nat × List Byte)) (regs : List (Nat × Word)) (ms : Nat) :
    execResidentCallSheet m n regs ms s = s.on fun b =>
      (b.settle b.ctl.residents { m := m, s := n, regs := regs }).onCtl fun c => c.nowReady { m := m, s := n, regs := regs } ms := by
  have hbusy : ((List.range 12).any fun h => s.blk.ctl.flag (hbmPage h) F.HBM_STATUS_INIT_BUSY) = false := by
    simpa using hb
  have hg : (s.blk.ctl.boot.running == .none || s.blk.ctl.boot.held || s.blk.ctl.phase != 6 ||
      (List.range 12).any fun h => s.blk.ctl.flag (hbmPage h) F.HBM_STATUS_INIT_BUSY) = false := by
    rw [hbusy]
    simp [hr, hh, hp]
  rw [execResidentCallSheet, State.on_eq, State.on_eq]
  dsimp only
  rw [hg]
  rfl

theorem residentCallSheet_runs (s : State) (m n : List (Nat × List Byte)) (regs : List (Nat × Word)) (ms : Nat)
    (hr : s.blk.ctl.boot.running ≠ .none) (hh : s.blk.ctl.boot.held = false) (hp : s.blk.ctl.phase = 6)
    (hb : ∀ h < 12, s.blk.ctl.flag (hbmPage h) F.HBM_STATUS_INIT_BUSY = false) :
    ∃ b, Runs (.residentCallSheet m n regs ms) s b ∧ b.hbm = s.blk.hbm ∧ b.ctl.ready = true ∧ b.ctl.phase = 7 ∧
      b.ctl.boot.running = .none ∧ b.ctl.boot.image = { m := m, s := n, regs := regs } ∧
      (∀ t ∈ s.blk.ctl.residents, (b.tile t).wrapped = false) ∧ ∀ t, t ∉ s.blk.ctl.residents → b.tile t = s.blk.tile t := by
  have hset := s.blk.settle_tilesOnly s.blk.ctl.residents { m := m, s := n, regs := regs }
  have hopen := s.blk.settle_open (ts := s.blk.ctl.residents) { m := m, s := n, regs := regs } fun _ hu => Ctl.tileOff_of_mem_residents hu
  obtain ⟨hready, hphase, hrun, himage⟩ := (s.blk.settle s.blk.ctl.residents { m := m, s := n, regs := regs }).ctl.nowReady_spec
    { m := m, s := n, regs := regs } ms
  refine ⟨_, execResidentCallSheet_eq hr hh hp hb m n regs ms, ?_⟩
  simp only [Blk.onCtl_hbm, Blk.onCtl_ctl, Blk.onCtl_tile]
  exact ⟨hset.hbm, hready, hphase, hrun, himage, hopen, hset.tile⟩

/-! ### Nothing runs -/

theorem warmResetRelease_idle {s : State} (hr : s.blk.ctl.boot.running = .none) : Runs .warmResetRelease s s.blk := by
  have hg : ¬ (s.blk.ctl.boot.running = .warm ∧ s.blk.ctl.phase = 0) := by simp [hr]
  show execWarmResetRelease s = _
  rw [execWarmResetRelease, State.onCtl_eq, if_neg hg]

theorem atStartTestComplete_idle {s : State} (hr : s.blk.ctl.boot.running = .none) (failing : List TileId) :
    Runs (.atStartTestComplete failing) s s.blk := by
  show execAtStartTestComplete failing s = _
  rw [execAtStartTestComplete, State.onCtl_eq, hr]
  rfl

/-- Settles O47: one lemma for each command of bring-up; what a command does beside the writes an outcome is read from is steady. How failing
images are counted and the BOOT_FAIL codes are the model's choice (log 30), as is how untrained stacks stand (log 41). -/
theorem bringUpGoesStepByStep : Obligations.BringUpGoesStepByStep := by
  unfold Obligations.BringUpGoesStepByStep
  intro s c o room sorted
  refine ⟨fun hr hh => ⟨?_, ?_, ?_, ?_, ?_⟩, fun hr => ⟨warmResetRelease_idle hr, atStartTestComplete_idle hr⟩⟩
  · intro sfdp ok ver logOk spiOk ha hp
    exact imageVerify_runs s sfdp ok ver logOk spiOk ha hr hh hp
  · intro cl hp hf
    exact oscillatorLockTimeout_runs s cl hr hh hp hf
  · intro seam untrained hp
    refine ⟨oscillatorsLocked_absent s seam untrained hr hh hp, ?_⟩
    obtain ⟨b, hrun, hstore, hok, hfault, hseam, hfull, hwarm⟩ := oscillatorsLocked_present s seam untrained hr hh hp
    refine ⟨b, hrun, hstore, hok, hfault, hseam, fun h => ?_, hwarm⟩
    obtain ⟨hphase, hstacks, hlocked⟩ := hfull h
    refine ⟨hphase, fun n => ?_, hlocked⟩
    obtain ⟨hbusy, hfailed⟩ := hstacks n
    exact ⟨by rw [hbusy, decide_not], fun hn => hfailed (by simp [hn])⟩
  · intro failing hr hp ht hg
    obtain ⟨b, hrun, hstore, hsorted, hlisted⟩ := atStartTestComplete_runs s failing hr hh hp ht hg
    exact ⟨b, hrun, hstore, hsorted, fun t hroom => hlisted t hroom⟩
  · intro m n regs ms hp hb
    exact residentCallSheet_runs s m n regs ms hr hh hp hb

end Sys2Proof.Machine
end

section
/-!
PROOF. Clear registers (02 R54 and the clear registers of the chapters): each zeroes its own page's counters.
-/
namespace Sys2Proof.Machine

/-! ### What the clear registers share -/

/-- Every clear register is write-only, never lockable, and lies past the header. -/
theorem clearReg_def {k : PageKind} {off : Nat} (h : clearRanges k off ≠ []) :
    k ≠ .miryn ∧ (0x40 ≤ off ∧ off < 0x1000) ∧ ∃ d, regDef k off = some d ∧ d.wo = 1 ∧ d.lk = 0 := by
  unfold clearRanges at h
  split at h
  all_goals first
    | exact absurd rfl h
    | exact ⟨by decide, by decide, _, rfl, rfl, rfl⟩

/-- No function of the host is refused a clear register of a page it reaches. -/
theorem reachCode_clearReg {k : PageKind} {off : Nat} (h : clearRanges k off ≠ []) (fn : Fn) (a i : Nat) :
    reachCode { who := fn.num, addr := a } k i off = 0 := by
  unfold clearRanges at h
  split at h <;> simp [reachCode, pfOnly] at h ⊢

/-- A write of 1 to a clear register that the function reaches. -/
theorem clearReg_clears {k : PageKind} {off n base : Nat} {i : Instr} {s : State} {fn : Fn} (hr : clearRanges k off ≠ [])
    (hp : place (base + off) = .page k n base off) (hb : base % 0x1000 = 0) (hm : s.blk.ctl.mirynGone k = false)
    (hi : exec i s = s.write fn (base + off) 1) (h : s.blk.ctl.reaches fn base) : Clears i s base (clearRanges k off) := by
  obtain ⟨hk, ho, d, hd, hw⟩ := clearReg_def hr
  exact clear_write hi h hp hb ho.2 (reachCode_clearReg hr fn _ n) hd hm hk hw ho.1 rfl hr

/-- Pages other than PWR and CUE are served whether or not Miryn runs (14 R370). -/
theorem Ctl.mirynGone_other {k : PageKind} (h : k ≠ .pwr ∧ k ≠ .cue) (c : Ctl) : c.mirynGone k = false := by
  simp [Ctl.mirynGone, h.1, h.2]

theorem Ctl.mirynGone_up {c : Ctl} (h : c.mirynUp = true) (k : PageKind) : c.mirynGone k = false := by
  simp [Ctl.mirynGone, h]

/-! ### By the block the page is in -/

theorem tileClear {q : PageKind} {off k : Nat} {t : TileId} {i : Instr} {s : State} {fn : Fn} (hr : clearRanges q off ≠ [])
    (hq : q ≠ .pwr ∧ q ≠ .cue) (hk : k < 16) (ht : tileKind (isSTile t) k = some q) (hi : exec i s = s.write fn (tilePage t k + off) 1)
    (h : s.blk.ctl.reaches fn (tilePage t k)) : Clears i s (tilePage t k) (clearRanges q off) :=
  clearReg_clears hr (place_tile t.isLt hk ht (clearReg_def hr).2.1.2) (by simp only [tilePage]; omega) (Ctl.mirynGone_other hq _) hi h

theorem stageClear {off : Nat} {st : StageId} {i : Instr} {s : State} {fn : Fn} (hr : clearRanges .stage off ≠ [])
    (hi : exec i s = s.write fn (stagePage st + off) 1) (h : s.blk.ctl.reaches fn (stagePage st)) :
    Clears i s (stagePage st) (clearRanges .stage off) :=
  clearReg_clears hr (place_stage st.isLt (clearReg_def hr).2.1.2) (by simp only [stagePage]; omega)
    (Ctl.mirynGone_other (by decide) _) hi h

theorem cluClear {q : PageKind} {off k : Nat} {c : ClusterId} {i : Instr} {s : State} {fn : Fn} (hr : clearRanges q off ≠ [])
    (hq : q ≠ .pwr ∧ q ≠ .cue) (hk : k < 16) (ht : cluKind k = some q) (hi : exec i s = s.write fn (cluPage c k + off) 1)
    (h : s.blk.ctl.reaches fn (cluPage c k)) : Clears i s (cluPage c k) (clearRanges q off) :=
  clearReg_clears hr (place_clu c.isLt hk ht (clearReg_def hr).2.1.2) (by simp only [cluPage]; omega) (Ctl.mirynGone_other hq _) hi h

/-- A page of the rim. -/
theorem rimClear {n off : Nat} {i : Instr} {s : State} {fn : Fn} (hn : n < 18) (hr : clearRanges (rimKind n) off ≠ [])
    (hm : s.blk.ctl.mirynGone (rimKind n) = false) (hi : exec i s = s.write fn (n * 0x1000 + off) 1)
    (h : s.blk.ctl.reaches fn (n * 0x1000)) : Clears i s (n * 0x1000) (clearRanges (rimKind n) off) :=
  clearReg_clears hr (place_rim hn (clearReg_def hr).2.1.2) (Nat.mul_mod_left _ _) hm hi h

/-- Settles O1: what a clear register clears is read off `clearRanges`; that it is reached, defined and never locked is one fact of them all. -/
theorem clearRegistersZeroTheirCounters : Obligations.ClearRegistersZeroTheirCounters := by
  unfold Obligations.ClearRegistersZeroTheirCounters
  have plain (n : Nat) (h : rimKind n ≠ .pwr ∧ rimKind n ≠ .cue) (s : State) : s.blk.ctl.mirynGone (rimKind n) = false :=
    Ctl.mirynGone_other h _
  refine ⟨fun s fn t => ⟨?_, ?_, ?_, ?_, ?_, ?_, ?_⟩, fun s fn => ⟨?_, ?_, ?_, ?_, ?_, ?_, ?_, ?_, ?_, ?_, ?_⟩⟩
  · exact tileClear (q := .perf) (off := 0x40) (by decide) (by decide) (by decide) rfl rfl
  · exact fun h ht => tileClear (q := .arr) (off := 0x64) (by decide) (by decide) (by decide) (by simp [ht, tileKind]) rfl h
  · exact tileClear (q := .vec) (off := 0x60) (by decide) (by decide) (by decide) rfl rfl
  · exact tileClear (q := .spd) (off := 0x80) (by decide) (by decide) (by decide) rfl rfl
  · exact tileClear (q := .seq) (off := 0x5C) (by decide) (by decide) (by decide) rfl rfl
  · exact fun h ht => tileClear (q := .gath) (off := 0x148) (by decide) (by decide) (by decide) (by simp [ht, tileKind]) rfl h
  · exact tileClear (q := .rtr) (off := 0xA0) (by decide) (by decide) (by decide) rfl rfl
  · exact fun st h => ⟨stageClear (off := 0xB0) (by decide) rfl h, stageClear (off := 0x1A4) (by decide) rfl h⟩
  · exact fun n => clearReg_clears (k := .hbm) (off := 0x4C) (by decide) (place_hbm n.isLt (by decide)) (by simp only [hbmPage]; omega)
      (Ctl.mirynGone_other (by decide) _) rfl
  · exact fun p => clearReg_clears (k := .port) (off := 0x70) (by decide) (place_port p.isLt (by decide)) (by simp only [portPage]; omega)
      (Ctl.mirynGone_other (by decide) _) rfl
  · exact clearReg_clears (k := .pcie) (off := 0x48) (by decide) (place_pcie (by decide)) (by decide) (Ctl.mirynGone_other (by decide) _) rfl
  · exact fun h up => rimClear (n := 6) (off := 0x11C) (by decide) (by decide) (Ctl.mirynGone_up up _) rfl h
  · exact fun h up => rimClear (n := 7) (off := 0x84) (by decide) (by decide) (Ctl.mirynGone_up up _) rfl h
  · exact rimClear (n := 5) (off := 0x5C) (by decide) (by decide) (plain 5 (by decide) s) rfl
  · exact fun c => cluClear (q := .freq) (off := 0x4C) (by decide) (by decide) (by decide) rfl rfl
  · exact fun c => cluClear (q := .stin) (off := 0x68) (by decide) (by decide) (by decide) rfl rfl
  · exact rimClear (n := 9) (off := 0xA8) (by decide) (by decide) (plain 9 (by decide) s) rfl
  · exact rimClear (n := 10) (off := 0x70) (by decide) (by decide) (plain 10 (by decide) s) rfl

end Sys2Proof.Machine
end

section
/-!
PROOF. Errors counted and cleared, and the other registers of a page's header (02 R39, R43, R46, R47, R49): what a write of each does.
-/
namespace Sys2Proof.Machine

/-! ### Counting an error (02 R43, R46) -/

/-- The registers with an error counted and ERR_FIRST loaded where it is not valid; nothing is logged or raised yet. -/
def Ctl.errBooked (c : Ctl) (p code fn addr : Nat) : Ctl :=
  let d := c.wr (p + 0x20) (BitVec.ofNat 32 (bits (c.rd (p + 0x20)) 15 0 + 1))
  if bit (d.rd (p + 0x24)) 31 then d
  else
    let d := d.wr (p + 0x24) (BitVec.ofNat 32 (0x80000000 + code * 0x10000 + fn * 0x1000 + addr % 0x1000))
    if p = devPage then d.wr (devPage + 0x50) (BitVec.ofNat 32 (addr % 2 ^ 28)) else d

theorem Ctl.errSev_saturated {c : Ctl} {p : Nat} (h : bits (c.rd (p + 0x20)) 15 0 = 0xFFFF) (code fn addr sev : Nat) :
    c.errSev p code fn addr sev = c := if_pos h

theorem Ctl.errSev_counted {c : Ctl} {p : Nat} (h : bits (c.rd (p + 0x20)) 15 0 ≠ 0xFFFF) (code fn addr sev : Nat) :
    c.errSev p code fn addr sev =
      if bits (c.rd (p + 0x20)) 15 0 = 0 then ((c.errBooked p code fn addr).logEvent p code sev).raise p 0
      else (c.errBooked p code fn addr).logEvent p code sev := if_neg h

theorem Ctl.rd_errBooked (c : Ctl) (p code fn addr r : Nat) :
    (c.errBooked p code fn addr).rd r =
      if r = p + 0x20 then BitVec.ofNat 32 (bits (c.rd (p + 0x20)) 15 0 + 1)
      else if bit (c.rd (p + 0x24)) 31 then c.rd r
      else if r = p + 0x24 then BitVec.ofNat 32 (0x80000000 + code * 0x10000 + fn * 0x1000 + addr % 0x1000)
      else if p = devPage ∧ r = devPage + 0x50 then BitVec.ofNat 32 (addr % 2 ^ 28) else c.rd r := by
  have h1 : p + 0x24 ≠ p + 0x20 := by omega
  simp only [Ctl.errBooked, Ctl.rd_wr, if_neg h1]
  by_cases hv : bit (c.rd (p + 0x24)) 31 = true
  · simp only [hv, if_true, Ctl.rd_wr]
  · by_cases hd : p = devPage
    · subst hd
      simp only [hv, if_true, Ctl.rd_wr, true_and, Bool.false_eq_true, if_false]
      split_ifs <;> first | rfl | (simp only [devPage] at *; omega)
    · simp only [hv, hd, if_false, Ctl.rd_wr, false_and, Bool.false_eq_true]
      split_ifs <;> first | rfl | omega

/-- No register of a page's header is a counter of the LOG page. -/
theorem header_not_logReg {p off : Nat} (hp : p % 0x1000 = 0) (h : off < 0x60) : p + off ∉ logRegs := by
  simp only [logRegs, logPage, List.mem_cons, List.not_mem_nil, or_false]
  omega

/-- A register of a page's first sixteen words after an error counted: booked, and cause ERR raised by the first. -/
theorem Ctl.rd_errSev_counted {c : Ctl} {p : Nat} (h : bits (c.rd (p + 0x20)) 15 0 ≠ 0xFFFF) (code fn addr sev : Nat) {q off : Nat}
    (hq : q % 0x1000 = 0) (ho : off < 0x60) :
    (c.errSev p code fn addr sev).rd (q + off) =
      if bits (c.rd (p + 0x20)) 15 0 = 0 ∧ q + off = p + 0x18 then (c.errBooked p code fn addr).rd (q + off) ||| 1
      else (c.errBooked p code fn addr).rd (q + off) := by
  have hl := header_not_logReg hq ho
  rw [Ctl.errSev_counted h]
  by_cases h0 : bits (c.rd (p + 0x20)) 15 0 = 0
  · rw [if_pos h0, Ctl.rd_raise]
    by_cases hr : q + off = p + 0x18
    · rw [if_pos hr, if_pos ⟨h0, hr⟩, ← hr, Ctl.rd_logEvent _ _ _ _ hl]; rfl
    · rw [if_neg hr, if_neg (fun e => hr e.2), Ctl.rd_logEvent _ _ _ _ hl]
  · rw [if_neg h0, if_neg (fun e => h0 e.1), Ctl.rd_logEvent _ _ _ _ hl]

/-! ### A write of a register of a page's header (02 R39, R45) -/

theorem pageOf_mod (a : Addr) : pageOf a % 0x1000 = 0 := by simp only [pageOf]; omega

theorem pageOf_add_lt (a : Addr) {off : Nat} (h : off < 0x1000) : pageOf a + off < 2 ^ 28 := by
  have := a.isLt
  simp only [pageOf]
  omega

/-- A command that writes a register of a header that is never lockable, by a function that reaches the page. -/
theorem headerWrite_runs {i : Instr} {s : State} {fn : Fn} {page : Addr} {k : PageKind} {n off : Nat} {d : RegDef} {w : Word}
    (hi : exec i s = s.write fn (pageOf page + off) w) (hp : place (pageOf page) = .page k n (pageOf page) 0)
    (h : s.blk.ctl.reaches fn (pageOf page)) (hm : s.blk.ctl.mirynGone k = false) (ho : off ∈ [0x18, 0x1C, 0x20])
    (hd : regDef k off = some d) (ha : regAllRO d = false) (hk : d.lk = 0) :
    Runs i s ((s.blk.onCtl fun c => c.unpair (pageOf page)).apply k n (pageOf page) off { who := fn.num, addr := pageOf page + off } d w
      (SMap.find? s.blk.ctl.hold (pageOf page)) []) := by
  have hlt : off < 0x28 := by revert ho; simp only [List.mem_cons, List.not_mem_nil, or_false]; omega
  have hres : reservedOff off = false := by
    revert ho; simp only [List.mem_cons, List.not_mem_nil, or_false]; rintro (rfl | rfl | rfl) <;> rfl
  have hrec : s.blk.ctl.recovOff k off = false := by
    have : off ≠ 0x44 ∧ off ≠ 0x48 := by omega
    simp [Ctl.recovOff, this]
  exact write_runs hi h (place_off hp (by omega)) (pageOf_mod page) (by omega) (reachCode_header (by omega)) hd hm hrec hres ha (by omega)
    (.inl hk)

/-- A register of the header read after what was held for a pair is let go. -/
@[simp] theorem Ctl.rd_unpair (c : Ctl) (p a : Nat) : (c.unpair p).rd a = c.rd a := rfl

/-! ### ERR_COUNT.CLEAR (02 R43, R46) -/

theorem Ctl.rd_errClear (c : Ctl) (p r : Nat) :
    (c.errClear p).rd r =
      if r ∈ [p + 0x20, p + 0x24] ++ (if p = devPage then [0x50] else []) then 0 else c.rd r := by
  by_cases hd : p = devPage
  · subst hd
    simp only [Ctl.errClear, if_true, Ctl.rd_wr, List.mem_append, List.mem_cons, List.not_mem_nil, or_false, devPage, Nat.zero_add]
    split_ifs <;> first | rfl | tauto
  · simp only [Ctl.errClear, if_neg hd, Ctl.rd_wr, List.append_nil, List.mem_cons, List.not_mem_nil, or_false]
    split_ifs <;> first | rfl | tauto

theorem Ctl.withRegs_withRegs (c : Ctl) (q r : SMap Word) : (c.withRegs q).withRegs r = c.withRegs r := rfl
theorem Ctl.wr_withRegs (c : Ctl) (a : Nat) (w : Word) : c.wr a w = c.withRegs (SMap.set (rstOf a) c.regs a w) := rfl

/-- Clearing an error count changes registers alone. -/
theorem Ctl.errClear_regs (c : Ctl) (p : Nat) : c.errClear p = c.withRegs (c.errClear p).regs := by
  by_cases hd : p = devPage
  · simp only [Ctl.errClear, if_pos hd, Ctl.wr_withRegs, Ctl.withRegs_withRegs]; rfl
  · simp only [Ctl.errClear, if_neg hd, Ctl.wr_withRegs, Ctl.withRegs_withRegs]; rfl

theorem errCountClear_runs {s : State} {fn : Fn} {page : Addr} {k : PageKind} {n : Nat}
    (hp : place (pageOf page) = .page k n (pageOf page) 0) (h : s.blk.ctl.reaches fn (pageOf page)) (hm : s.blk.ctl.mirynGone k = false) :
    Runs (.errCountClear fn page) s ((s.blk.onCtl fun c => c.unpair (pageOf page)).onCtl fun c => c.errClear (pageOf page)) := by
  have hbit : bit 0x80000000 31 = true := by decide
  have hrun := headerWrite_runs (i := .errCountClear fn page) (off := 0x20) rfl hp h hm (by decide) rfl rfl rfl
  rwa [Blk.apply, if_pos hbit] at hrun

/-- Settles O2: an error counted is booked in the registers, logged, and raised by the first; the clear writes the registers it names. -/
theorem errorsAreCountedAndCleared : Obligations.ErrorsAreCountedAndCleared := by
  unfold Obligations.ErrorsAreCountedAndCleared
  refine ⟨fun c p code fn addr sev hp => ⟨fun h => Ctl.errSev_saturated h _ _ _ _, fun h => ?_,
    fun r hr => Ctl.rd_errSev c p code fn addr sev hr, .errSev c p code fn addr sev⟩, fun s fn page k i hp h hm => ?_⟩
  · have hrd (off : Nat) (ho : off < 0x60) := Ctl.rd_errSev_counted h code fn addr sev hp ho
    have h50 : (c.errSev p code fn addr sev).rd 0x50 = (c.errBooked p code fn addr).rd 0x50 :=
      (Ctl.rd_errSev_counted h code fn addr sev (q := 0) (off := 0x50) rfl (by decide)).trans (if_neg (by omega))
    simp only [hrd 0x20 (by decide), hrd 0x24 (by decide), hrd 0x18 (by decide), h50, Ctl.rd_errBooked]
    have hne : (0x50 : Nat) ≠ p + 0x20 ∧ (0x50 : Nat) ≠ p + 0x24 := by omega
    refine ⟨by simp, ?_, fun hv hd => ?_, fun hv => ?_, ?_⟩
    · simp
    · rw [if_neg hne.1, if_neg (by simp [hv]), if_neg hne.2, if_pos ⟨hd, rfl⟩]
    · rcases hv with hv | hd
      · simp [hne, hv]
      · simp [hne, hd]
    · have hirq : ¬ (p = devPage ∧ p = devPage + 56) := by omega
      simp [hirq]
  · have hrd (a : Nat) := Ctl.rd_errClear (s.blk.ctl.unpair (pageOf page)) (pageOf page) a
    refine ⟨_, errCountClear_runs hp h hm, ?_, ?_, fun hd => ?_, ?_, fun a ha => ?_⟩
    · exact (hrd _).trans (if_pos (by simp))
    · exact (hrd _).trans (if_pos (by simp))
    · exact (hrd _).trans (if_pos (by simp [hd]))
    · exact congrArg (fun c => { s.blk with ctl := c }) (Ctl.errClear_regs _ _)
    · exact (hrd _).trans (if_neg ha)

end Sys2Proof.Machine
end

section
/-!
PROOF. LOCK, IRQ_STATUS and IRQ_ENABLE of a page's header (02 R47, R49).
-/
namespace Sys2Proof.Machine

/-! ### LOCK (02 R47) -/

theorem fn_num_le (fn : Fn) : fn.num ≤ 12 := by
  cases fn with
  | pf => exact Nat.zero_le _
  | vf s => have := s.isLt; simp only [Fn.num]; omega

/-- An access by a function of the host is recorded under the function's number (02 R43). -/
@[simp] theorem Acc.fn_host (fn : Fn) (a : Nat) : ({ who := fn.num, addr := a } : Acc).fn = fn.num :=
  Nat.min_eq_left (le_trans (fn_num_le fn) (by decide))

@[simp] theorem Ctl.errAt_host (c : Ctl) (fn : Fn) (a base code : Nat) :
    c.errAt { who := fn.num, addr := a } base code = c.err base code fn.num a := by
  rw [Ctl.errAt, Acc.fn_host]; rfl

theorem Blk.pageWrite_lock {b : Blk} {k : PageKind} (hm : b.ctl.mirynGone k = false) (i base : Nat) (a : Acc) (w : Word) (e : List Ecc) :
    b.pageWrite k i base 0x28 a true w e = (b.onCtl fun c => c.unpair base).onCtl fun c => c.lockWrite a base w := by
  have hm' : (b.onCtl fun c => c.unpair base).ctl.mirynGone k = false := hm
  have hrec : (b.onCtl fun c => c.unpair base).ctl.recovOff k 0x28 = false := by simp [Ctl.recovOff]
  have hd : regDef k 0x28 = some ⟨0x28, 1, 0, 0, 0, 3, 0, 0, 0, 0xFF000000, 0⟩ := rfl
  rw [Blk.pageWrite, hm', hrec, hd]
  rfl

/-- A command that writes LOCK, by a function that reaches the page. -/
theorem lockWrite_runs {i : Instr} {s : State} {fn : Fn} {page : Addr} {k : PageKind} {n : Nat} {w : Word}
    (hi : exec i s = s.write fn (pageOf page + 0x28) w) (hp : place (pageOf page) = .page k n (pageOf page) 0)
    (h : s.blk.ctl.reaches fn (pageOf page)) (hm : s.blk.ctl.mirynGone k = false) {d : Ctl}
    (hd : (s.blk.ctl.unpair (pageOf page)).lockWrite { who := fn.num, addr := pageOf page + 0x28 } (pageOf page) w = d) :
    Runs i s { s.blk with ctl := d } := by
  subst hd
  rw [Runs, hi, State.write, State.on_eq, Blk.busWrite_page h (place_off hp (by decide)) (pageOf_mod page) (by decide)
    (reachCode_header (by decide)), Blk.pageWrite_lock hm]
  rfl

section
variable {c : Ctl} {a : Acc} {base : Nat} {w : Word}

/-- The locking key on an unlocked page. -/
theorem Ctl.lockWrite_locks (hk : bits w 31 24 = 0xA5) (hw : bit w 0 = true) (hl : bit (c.rd (base + 0x28)) 0 = false) :
    (c.unpair base).lockWrite a base w =
      (c.unpair base).wr (base + 0x28) (BitVec.ofNat 32 (a.fn * 256 + ofBool (bit w 1) * 2 + 1)) := by
  simp [Ctl.lockWrite, hk, hw, hl]

/-- The locking key on a locked page. -/
theorem Ctl.lockWrite_locked (hk : bits w 31 24 = 0xA5) (hl : bit (c.rd (base + 0x28)) 0 = true) :
    (c.unpair base).lockWrite a base w = (c.unpair base).errAt a base 0xF5 := by
  simp [Ctl.lockWrite, hk, hl]

/-- The unlocking key: nothing on an unlocked page, else by the owner or the physical function where HOLD is 0. -/
theorem Ctl.lockWrite_unlocks (hk : bits w 31 24 = 0x5A) (hw : bit w 0 = false) :
    (c.unpair base).lockWrite a base w =
      if bit (c.rd (base + 0x28)) 0 = false then c.unpair base
      else if bit (c.rd (base + 0x28)) 1 = false ∧ (bits (c.rd (base + 0x28)) 11 8 = a.fn ∨ a.who = 0) then
        (c.unpair base).wr (base + 0x28) 0
      else (c.unpair base).errAt a base 0xF5 := by
  simp [Ctl.lockWrite, hk, hw]

end

theorem Fn.num_eq_zero {fn : Fn} : fn.num = 0 ↔ fn = .pf := by cases fn <;> simp [Fn.num]

/-- One register written, and what was held for a pair let go. -/
theorem onlyRegsOf_wr (b : Blk) (p a : Nat) (w : Word) :
    OnlyRegsOf b { b with ctl := (b.ctl.unpair p).wr a w } p [a] ∧ ((b.ctl.unpair p).wr a w).rd a = w := by
  refine ⟨⟨rfl, fun r hr => ?_⟩, (Ctl.rd_wr _ _ _ _).trans (if_pos rfl)⟩
  exact (Ctl.rd_wr _ _ _ _).trans (if_neg (by simpa using hr))

/-- The word LOCK_PAGE writes: the locking key, LOCKED, and HOLD as given. -/
theorem lockKey (hold : Bool) :
    bits (BitVec.ofNat 32 (0xA5000001 + ofBool hold * 2)) 31 24 = 0xA5 ∧ bit (BitVec.ofNat 32 (0xA5000001 + ofBool hold * 2)) 0 = true ∧
      bit (BitVec.ofNat 32 (0xA5000001 + ofBool hold * 2)) 1 = hold := by
  revert hold; decide

theorem unlockKey : bits 0x5A000000 31 24 = 0x5A ∧ bit 0x5A000000 0 = false := by decide

/-- Settles O3: the two keys' cases of a write of LOCK. -/
theorem lockWritesFollowTheLockRule : Obligations.LockWritesFollowTheLockRule := by
  unfold Obligations.LockWritesFollowTheLockRule
  intro s fn page hold k i hp h hm p l
  obtain ⟨hk, hw, hh⟩ := lockKey hold
  obtain ⟨uk, uw⟩ := unlockKey
  have lockRuns {d : Ctl} := lockWrite_runs (i := .lockPage fn page hold) rfl hp h hm (d := d)
  have unlockRuns {d : Ctl} := lockWrite_runs (i := .unlockPage fn page) rfl hp h hm (d := d)
  have unlocks := Ctl.lockWrite_unlocks (c := s.blk.ctl) (a := { who := fn.num, addr := p + 0x28 }) (base := p) uk uw
  simp only [Acc.fn_host, Fn.num_eq_zero, Ctl.errAt_host] at unlocks
  have taken : bit l 0 = true → ¬ bit l 0 = false := by simp
  refine ⟨fun hl => ?_, fun hl => ?_, fun hl hn ho => ?_, fun hl hn => ?_, fun hl => ?_⟩
  · refine ⟨_, lockRuns (Ctl.lockWrite_locks hk hw hl), ?_⟩
    rw [Acc.fn_host, hh]
    exact onlyRegsOf_wr _ _ _ _
  · exact lockRuns ((Ctl.lockWrite_locked hk hl).trans (Ctl.errAt_host _ _ _ _ _))
  · exact ⟨_, unlockRuns (unlocks.trans ((if_neg (taken hl)).trans (if_pos ⟨hn, ho⟩))), onlyRegsOf_wr _ _ _ _⟩
  · have hheld : ¬ (bit l 1 = false ∧ (bits l 11 8 = fn.num ∨ fn = .pf)) := by
      rintro ⟨h1, h2⟩
      rcases hn with hn | ⟨ho, hf⟩
      · simp [hn] at h1
      · exact h2.elim ho hf
    exact unlockRuns (unlocks.trans ((if_neg (taken hl)).trans (if_neg hheld)))
  · exact unlockRuns (unlocks.trans (if_pos hl))

/-! ### IRQ_STATUS and IRQ_ENABLE (02 R49) -/

/-- Every page has a cause of its own, ERR at least (02 R43). -/
theorem pageInfo_irq_ne_zero (k : PageKind) : (pageInfo k).irq ≠ 0 := by cases k <;> decide

/-- A write that leaves the reporting page pending sends its message. -/
theorem Ctl.withIrq_wrote {c : Ctl} {p : Nat} {f : Ctl → Ctl} (h : (f c).pending (irqPage p) = true) :
    c.withIrq p true f = (f c).sendMsg (irqPage p) := by
  simp [Ctl.withIrq, h]

/-- A command that changes a page's interrupt registers by `f` at the end of the write. -/
theorem irqWrite_sends {i : Instr} {s : State} {p : Nat} {f : Ctl → Ctl}
    (h : Runs i s ((s.blk.onCtl fun c => c.unpair p).onCtl fun c => c.withIrq p true f)) {d : Ctl} (hd : f (s.blk.ctl.unpair p) = d) :
    ∃ b, Runs i s b ∧ SameStore s.blk b ∧ (∀ r, b.ctl.rd r = d.rd r) ∧ (d.pending (irqPage p) = true → b.ctl = d.sendMsg (irqPage p)) := by
  subst hd
  exact ⟨_, h, ⟨rfl, rfl⟩, fun r => Ctl.rd_withIrq _ _ _ _ _, Ctl.withIrq_wrote⟩

/-- Settles O4: the write changes its one register; what follows is `withIrq`'s rule. -/
theorem interruptRegisterWritesSendWhatStaysPending : Obligations.InterruptRegisterWritesSendWhatStaysPending := by
  unfold Obligations.InterruptRegisterWritesSendWhatStaysPending
  intro s fn page w k i hp h hm p m c c1 c2
  refine ⟨?_, fun hne => ?_⟩
  · have hro : (pageInfo k).irq ≠ 0 := pageInfo_irq_ne_zero k
    exact irqWrite_sends (headerWrite_runs (i := .irqStatusWrite fn page w) (off := 0x18) rfl hp h hm (by decide) rfl
      (by simp [regAllRO, hro]) rfl) rfl
  · refine irqWrite_sends (headerWrite_runs (i := .irqEnableWrite fn page w) (off := 0x1C) rfl hp h hm (by decide) rfl
      (by simp [regAllRO, hne]) rfl) ?_
    simp only [Ctl.store, regStored, Nat.or_zero]
    rfl

end Sys2Proof.Machine
end

section
/-!
PROOF. Reads of 64-bit pairs (02 R35, R36): the low word's read latches the high word for the same function's next read.
-/
namespace Sys2Proof.Machine

/-- A function that reaches a page passes the checks of who reaches what (02 R34, R38, R45). -/
theorem Ctl.gateOf_reaches {c : Ctl} {fn : Fn} {base off i : Nat} {k : PageKind} (h : c.reaches fn base)
    (hp : place (base + off) = .page k i base off) (hb : base % 0x1000 = 0) (ho : off < 0x1000) {wr : Bool}
    (hr : wr = true → reachCode { who := fn.num, addr := base + off } k i off = 0) :
    c.gateOf { who := fn.num, addr := base + off } wr = .pass k i base off := by
  obtain ⟨h1, h2, h3⟩ := h
  have hoff : (match addrTile (base + off) with | some t => c.tileOff t | none => false) = false := by
    rw [addrTile_add hb ho]
    split
    · rename_i t ht
      simpa [Ctl.tileGood] using h2 t ht
    · rfl
  have hcode : (if wr = true then reachCode { who := fn.num, addr := base + off } k i off else 0) = 0 := by
    split_ifs with hw
    · exact hr hw
    · rfl
  cases fn with
  | pf =>
    simp only [Fn.num] at hcode ⊢
    simp [Ctl.gateOf, Acc.isVf, h1, hp, hcode]
    exact hoff
  | vf s =>
    have hs := s.isLt
    have hvf : Acc.isVf { who := s.val + 1, addr := base + off } = true := by
      simp only [Acc.isVf, Bool.and_eq_true, decide_eq_true_eq]; omega
    simp only [Fn.num] at hcode ⊢
    simp [Ctl.gateOf, hvf, h1, hp, hcode, h3.1, h3.2]
    exact hoff

/-- The block after a read of the low word of a pair at `a`: its high word is latched for function `fn` (02 R36). -/
def Blk.latched (b : Blk) (fn base a : Nat) : Blk :=
  b.onCtl fun c => { c.unpair base with latch := SMap.put (c.unpair base).latch base { fn := fn, addr := a + 4, val := b.reg (a + 4) } }

section
variable {b : Blk} {fn : Fn} {base off i : Nat} {k : PageKind}

theorem Blk.busRead_low (h : b.ctl.reaches fn base) (hp : place (base + off) = .page k i base off) (hb : base % 0x1000 = 0)
    (ho : off < 0x1000) (hm : b.ctl.mirynGone k = false) (hl : off ∈ pairLows k) :
    b.busRead fn.num (base + off) = (b.reg (base + off), b.latched fn.num base (base + off)) := by
  have hg := Ctl.gateOf_reaches (wr := false) h hp hb ho (by simp)
  have hl' : (pairLows k).contains off = true := by simpa using hl
  simp only [Blk.busRead, hg, hm, hl', if_true, Bool.false_eq_true, if_false]
  rfl

/-- A read of the register whose value is latched for the function answers what was latched, and lets it go. -/
theorem Blk.busRead_latched (h : b.ctl.reaches fn base) (hp : place (base + off) = .page k i base off) (hb : base % 0x1000 = 0)
    (ho : off < 0x1000) (hm : b.ctl.mirynGone k = false) (hl : off ∉ pairLows k) {v : Word}
    (hv : SMap.find? b.ctl.latch base = some { fn := fn.num, addr := base + off, val := v }) :
    b.busRead fn.num (base + off) = (v, b.onCtl fun c => c.unpair base) := by
  have hg := Ctl.gateOf_reaches (wr := false) h hp hb ho (by simp)
  simp [Blk.busRead, hg, hm, hl, hv]

end

/-- What a read of one register answers. -/
theorem Blk.busReads_one {b b' : Blk} {who a : Nat} {v : Word} (h : b.busRead who a = (v, b')) :
    b.busReads who a 1 = (wordBytes [v], b') := by
  simp [Blk.busReads, h, wordBytes]

/-- What a read that spans two registers answers: both, the lower first (02 R35). -/
theorem Blk.busReads_two {b b' b'' : Blk} {who a : Nat} {v v' : Word} (h : b.busRead who a = (v, b')) (h' : b'.busRead who (a + 4) = (v', b'')) :
    b.busReads who a 2 = (wordBytes [v, v'], b'') := by
  simp [Blk.busReads, h, h', wordBytes]

/-- What a block answers a read leaves at its end. -/
def Blk.answers (b : Blk) (o : Out) : Blk := b.onCtl fun c => { c with out := c.out ++ [o] }

/-- A read of `n` bytes from byte `o` of the register at `a` on. -/
theorem pairLowRead_runs {s : State} {fn : Fn} {a o m : Nat} {n : Fin 4097} {l : List Byte} {b : Blk} (ha : a % 4 = 0) (ho : o < 4)
    (hlt : a + o < 2 ^ 28) (hm : (o + n.val + 3) / 4 = m) (h : s.blk.busReads fn.num a m = (l, b)) :
    Runs (.pairLowRead fn (BitVec.ofNat 28 (a + o)) n) s
      (b.answers (.regData fn.num (a + o) ((l.drop o).take n.val))) := by
  have hn : (BitVec.ofNat 28 (a + o)).toNat = a + o := Nat.mod_eq_of_lt hlt
  have hmod : (a + o) % 4 = o := by omega
  show execPairLowRead fn (BitVec.ofNat 28 (a + o)) n s = _
  rw [execPairLowRead, State.on_eq, hn]
  simp only [hmod, Nat.add_sub_cancel, hm, h]
  rfl

theorem length_wordBytes (l : List Word) : (wordBytes l).length = 4 * l.length := by
  induction l with
  | nil => rfl
  | cons w l ih => simp only [wordBytes, List.flatMap_cons, List.length_append, List.length_cons] at ih ⊢; rw [ih]; simp [leBytes]; omega

/-- A read of whole registers from `a` on. -/
theorem pairLowRead_words {s : State} {fn : Fn} {a : Nat} {n : Fin 4097} {l : List Word} {b : Blk} (ha : a % 4 = 0) (hlt : a < 2 ^ 28)
    (hn : n.val = 4 * l.length) (h : s.blk.busReads fn.num a l.length = (wordBytes l, b)) :
    Runs (.pairLowRead fn (BitVec.ofNat 28 a) n) s (b.answers (.regData fn.num a (wordBytes l))) := by
  have hlen : (wordBytes l).length ≤ n.val := by rw [length_wordBytes, hn]
  have hrun := pairLowRead_runs (n := n) (o := 0) ha (by decide) hlt (by omega) h
  rwa [List.drop_zero, List.take_of_length_le hlen] at hrun

/-- Settles O5: the low word's read latches, the high word's read answers the latch, alone or in one request. -/
theorem pairReadsAreOneQuantity : Obligations.PairReadsAreOneQuantity := by
  unfold Obligations.PairReadsAreOneQuantity
  intro s fn page off k i r hp h hm hl h4 ho hl' a
  have hb := pageOf_mod page
  have ha : a % 4 = 0 := by omega
  have hlt : a + 4 < 2 ^ 28 := pageOf_add_lt page ho
  have hlow := Blk.busRead_low h (place_off hp (by omega)) hb (by omega) hm hl
  have hsave : SMap.find? (s.blk.latched fn.num (pageOf page) a).ctl.latch (pageOf page) =
      some { fn := fn.num, addr := a + 4, val := s.blk.reg (a + 4) } := by
    simp only [Blk.latched, Blk.onCtl_ctl, SMap.find?_put, if_true]
  have hhigh (b : Blk) (h : b.ctl.reaches fn (pageOf page)) (hm : b.ctl.mirynGone k = false)
      (hs : SMap.find? b.ctl.latch (pageOf page) = some { fn := fn.num, addr := a + 4, val := s.blk.reg (a + 4) }) :
      b.busRead fn.num (a + 4) = (s.blk.reg (a + 4), b.onCtl fun c => c.unpair (pageOf page)) := by
    have e : a + 4 = pageOf page + (off + 4) := Nat.add_assoc _ _ _
    rw [e] at hs ⊢
    exact Blk.busRead_latched h (place_off hp ho) hb ho hm hl' hs
  refine ⟨_, pairLowRead_words (l := [s.blk.reg a]) ha (by omega) rfl (Blk.busReads_one hlow), rfl, ⟨rfl, rfl⟩, rfl,
    fun h' hm' => ⟨_, pairLowRead_words (l := [s.blk.reg (a + 4)]) (by omega) hlt rfl (Blk.busReads_one (hhigh _ h' hm' hsave)), rfl⟩,
    fun o m hm0 hom => ⟨_, pairLowRead_runs (m := 1) ha o.isLt (by omega) (by omega) (Blk.busReads_one hlow), ⟨rfl, rfl⟩, rfl⟩,
    ⟨_, pairLowRead_words (l := [s.blk.reg a, s.blk.reg (a + 4)]) ha (by omega) rfl
      (Blk.busReads_two hlow (hhigh _ h hm hsave)), ⟨rfl, rfl⟩, rfl⟩⟩

end Sys2Proof.Machine
end

section
/-!
PROOF. Writes of plain registers, and the writes that are refused (02 R34 to R36, R45 to R48).
-/
namespace Sys2Proof.Machine

/-! ### REGISTER_WRITE (02 R35) -/

theorem registerWrite_eq {a : Nat} (ha : a % 4 = 0) (hlt : a < 2 ^ 28) (fn : Fn) (be : Bool) (w : Word) (s : State) :
    exec (.registerWrite fn (BitVec.ofNat 28 a) be w []) s = s.on fun b => b.busWrite fn.num a be w := by
  have hn : (BitVec.ofNat 28 a).toNat = a := Nat.mod_eq_of_lt hlt
  show execRegisterWrite fn (BitVec.ofNat 28 a) be w [] s = _
  rw [execRegisterWrite, hn, ha, Nat.sub_zero]
  rfl

theorem runs_iff_of_on {i : Instr} {s : State} {f : Blk → Blk} {b : Blk} (h : exec i s = s.on f) : Runs i s b ↔ f s.blk = b := by
  rw [Runs, h, State.on_eq]
  constructor
  · intro e; injection e with e; injection e
  · rintro rfl; rfl

/-- A request completes with what the writes of its registers make of the block, one after another. -/
theorem runs_registerWrite {fn : Fn} {a : Addr} {be : Bool} {w : Word} {l : List (Bool × Word)} {s : State} {b : Blk} (ha : a.toNat % 4 = 0) :
    Runs (.registerWrite fn a be w l) s b ↔ (s.blk.busWrite fn.num a.toNat be w).busWrites fn.num (a.toNat + 4) l = b := by
  refine (runs_iff_of_on (f := fun b => b.busWrites fn.num (a.toNat - a.toNat % 4) ((be, w) :: l)) rfl).trans ?_
  rw [ha, Nat.sub_zero, Blk.busWrites]

/-! ### Registers that take a value and do no more (02 R45 step 6) -/

/-- The pages none of whose registers past the header, CVE.CMD apart, is a command. -/
abbrev plainPages : List PageKind :=
  [.clk, .therm, .opt, .log, .volt, .freq, .stin, .sens, .nrg, .clu, .hbm, .port, .pcie, .perf, .rtr, .uam, .cve]

theorem Blk.rimCommand_plain {k : PageKind} {off : Nat} (hk : k ∈ plainPages) (hc : ¬ (k = .cve ∧ off = 0x78)) (b : Blk) (i base : Nat)
    (a : Acc) (d : RegDef) (w : Word) : b.rimCommand k i base off a d w = none := by
  unfold Blk.rimCommand
  split <;> first | rfl | exact absurd hk (by decide) | exact absurd ⟨rfl, rfl⟩ hc

theorem Blk.afterStore_plain {k : PageKind} {off : Nat} (hk : k ∈ plainPages) (hr : ¬ (k = .rtr ∧ off = 0x74)) (b : Blk) (i base : Nat)
    (old w : Word) : b.afterStore k i base off old w = b := by
  unfold Blk.afterStore
  split <;> first | rfl | exact absurd hk (by decide) | exact if_neg fun e => hr ⟨rfl, e⟩

/-- A write of a register changes the register file alone. -/
theorem Ctl.wr_regs_only (c : Ctl) (a : Nat) (w : Word) : c.wr a w = c.withRegs (c.wr a w).regs := rfl

/-- MIX_CTRL counts the ejected transfers anew (10 R259). -/
theorem Blk.afterStore_mixCtrl (b : Blk) (t base : Nat) (old w : Word) :
    b.afterStore .rtr t base 0x74 old w = b.onTile t fun x => { x with mix := { x.mix with ejected := List.replicate 8 0 } } := by
  simp only [Blk.afterStore, if_true]

/-- What a write of a register past the header does where it does more than take a value. -/
def Blk.command (b : Blk) (k : PageKind) (i base off : Nat) (a : Acc) (d : RegDef) (w : Word) (e : List Ecc) : Option Blk :=
  match k with
  | .stage => b.stageWrite i base off a w
  | .tile | .seq | .arr | .spd | .gath | .slate => b.tileWrite k i base off a d w e
  | _ => b.rimCommand k i base off a d w

/-- A write past the header of a register that clears no counters: its command, or the value it takes. -/
theorem Blk.apply_eq {k : PageKind} {off : Nat} (ho : 0x40 ≤ off) (hl : clearRanges k off = []) (b : Blk) (i base : Nat) (a : Acc)
    (d : RegDef) (w : Word) (held : Option PairHold) (e : List Ecc) :
    b.apply k i base off a d w held e = (b.command k i base off a d w e).getD (b.plainWrite k i base off a d w held) := by
  unfold Blk.apply
  split
  · omega
  · omega
  · omega
  · rw [hl]
    show (match b.command k i base off a d w e with | some b' => b' | none => b.plainWrite k i base off a d w held) = _
    cases b.command k i base off a d w e <;> rfl

theorem Blk.command_plain {k : PageKind} {off : Nat} (hk : k ∈ plainPages) (hc : ¬ (k = .cve ∧ off = 0x78)) (b : Blk) (i base : Nat)
    (a : Acc) (d : RegDef) (w : Word) (e : List Ecc) : b.command k i base off a d w e = none := by
  unfold Blk.command
  split
  case h_8 => exact Blk.rimCommand_plain hk hc b i base a d w
  all_goals exact absurd hk (by decide)

/-- The value checks do not look at what is held for a pair. -/
theorem Blk.writeCode_unpair (b : Blk) (k : PageKind) (i off base : Nat) (w : Word) (p : Nat) :
    (b.onCtl fun c => c.unpair p).writeCode k i off base w = b.writeCode k i off base w := rfl

/-- A plain register of one word takes its value where no value check fails. -/
theorem Blk.plainWrite_stores {b : Blk} {k : PageKind} {i base off : Nat} {w : Word} (hcode : b.writeCode k i off base w = 0)
    (hl : off ∉ pairLows k) (hh : off - 4 ∉ pairLows k) (a : Acc) (d : RegDef) (held : Option PairHold) :
    (b.onCtl fun c => c.unpair base).plainWrite k i base off a d w held =
      (b.onCtl fun c => (c.unpair base).store d (base + off) w).afterStore k i base off (b.ctl.rd (base + off)) w := by
  have hc := (b.writeCode_unpair k i off base w base).trans hcode
  simp only [Blk.plainWrite, hc, ne_eq, not_true_eq_false, if_false, List.contains_iff_mem, hl, hh, and_false]
  rfl

/-- A write by a function that reaches it of an unlocked register past the header that clears no counters. -/
theorem openWrite_runs {s : State} {fn : Fn} {k : PageKind} {i base off : Nat} {d : RegDef} {w : Word}
    (hp : place (base + off) = .page k i base off) (hb : base % 0x1000 = 0) (ha : base + off < 2 ^ 28) (h : s.blk.ctl.reaches fn base)
    (hu : s.blk.ctl.unlocked base) (h4 : off % 4 = 0) (hlt : off < 0x1000) (ho : 0x40 ≤ off) (hd : regDef k off = some d)
    (hro : regAllRO d = false) (hl : clearRanges k off = []) (hm : k ∉ [.pwr, .cue, .miryn])
    (hr : reachCode { who := fn.num, addr := base + off } k i off = 0) :
    let b := s.blk.onCtl fun c => c.unpair base
    let a : Acc := { who := fn.num, addr := base + off }
    Runs (.registerWrite fn (BitVec.ofNat 28 (base + off)) true w []) s
      ((b.command k i base off a d w []).getD (b.plainWrite k i base off a d w (SMap.find? s.blk.ctl.hold base))) := by
  obtain ⟨hpwr, hcue, hmiryn⟩ : k ≠ .pwr ∧ k ≠ .cue ∧ k ≠ .miryn := by simpa using hm
  have hrec : s.blk.ctl.recovOff k off = false := by simp [Ctl.recovOff, hmiryn]
  have hres : reservedOff off = false := by simp [reservedOff]; omega
  intro b a
  rw [← Blk.apply_eq ho hl]
  exact write_runs (registerWrite_eq (by omega) ha fn true w s) h hp hb hlt hr hd (Ctl.mirynGone_other ⟨hpwr, hcue⟩ _) hrec hres hro
    (by omega) (.inr hu)

/-- A plain page is none that Miryn serves or that is there in recovery alone. -/
theorem plainPages_served {k : PageKind} (hk : k ∈ plainPages) : k ∉ [.pwr, .cue, .miryn] := by
  revert hk; cases k <;> decide

/-- Settles O6: past its checks a plain write is `store`; of the plain pages' registers MIX_CTRL alone has an effect after it. -/
theorem plainWritesStoreTheWritableBits : Obligations.PlainWritesStoreTheWritableBits := by
  unfold Obligations.PlainWritesStoreTheWritableBits
  refine ⟨?_, ?_, ?_⟩
  · intro s fn page off i k d w hp h hu hk h4 hlt ho hd hro hl hc hr hlow hhigh hreach hcode
    have hrun := openWrite_runs (w := w) (place_off hp hlt) (pageOf_mod page) (pageOf_add_lt page hlt) h hu h4 hlt ho hd hro hl
      (plainPages_served hk) hreach
    simp only [Blk.command_plain hk hc, Option.getD_none, Blk.plainWrite_stores hcode hlow hhigh, Blk.afterStore_plain hk hr] at hrun
    exact ⟨_, hrun, onlyRegsOf_wr _ _ _ _⟩
  · intro s fn t w d p h hu hd hcode
    have ht := t.isLt
    have hmod : p % 0x1000 = 0 ∧ p + 0x74 < 2 ^ 28 := by simp only [p, rtrPage, tilePage]; omega
    have hreach : reachCode { who := fn.num, addr := p + 0x74 } .rtr t 0x74 = 0 := by
      have hfn : fn.num ≠ 15 := by have := fn_num_le fn; omega
      simp [reachCode, hfn]
    have hro : regAllRO d = false := by cases hd; rfl
    have hrun := openWrite_runs (w := w) (base := p) (place_tile (k := 5) ht (by decide) rfl (by decide)) hmod.1 hmod.2 h hu rfl (by decide) (by decide)
      hd hro rfl (by decide) hreach
    simp only [Blk.command_plain (k := .rtr) (off := 0x74) (by decide) (by decide), Option.getD_none,
      Blk.plainWrite_stores (k := .rtr) (i := t) (base := p) (off := 0x74) hcode (by decide) (by decide), Blk.afterStore_mixCtrl] at hrun
    refine ⟨_, hrun, ⟨fun u hne => ?_, ?_⟩, ?_, ?_, fun r hr => ?_, ?_⟩
    · rw [Blk.onTile_tile, if_neg hne, Blk.onCtl_tile]
    · rw [Blk.onTile_hbm, Blk.onCtl_hbm]
    · rw [Blk.onTile_tile, if_pos rfl, Blk.onCtl_tile]
    · rw [Blk.onTile_ctl, Blk.onCtl_ctl, Ctl.store, ← Ctl.wr_regs_only]
    · rw [Blk.onTile_ctl, Blk.onCtl_ctl, Ctl.store, Ctl.rd_wr, if_neg hr, Ctl.rd_unpair]
    · rw [Blk.onTile_ctl, Blk.onCtl_ctl, Ctl.store, Ctl.rd_wr, if_pos rfl, Ctl.rd_unpair]
  · intro s fn a be w x l b c ha hlt hb hc
    have ha4 : (a + 4).toNat = a.toNat + 4 := by
      rw [BitVec.toNat_add, show (4 : BitVec 28).toNat = 4 from rfl, Nat.mod_eq_of_lt hlt]
    have hmod : (a + 4).toNat % 4 = 0 := by omega
    rw [runs_registerWrite ha] at hb ⊢
    rw [runs_registerWrite hmod, ha4] at hc
    subst hb
    exact hc

end Sys2Proof.Machine
end

section
/-!
PROOF. Refused writes (02 R34, R45): what is counted, where, and nothing else.
-/
namespace Sys2Proof.Machine

/-! ### Refused before the page is reached (02 R34, R38, R45 steps 1 and 2) -/

/-- Before READY a page not served then is not there for the physical function (16 R424). -/
theorem Ctl.gateOf_early {c : Ctl} {a : Nat} (hr : c.ready = false) (he : earlyPage a = false) :
    c.gateOf { who := Fn.num .pf, addr := a } true = .fail devPage 0xF3 := by
  simp [Ctl.gateOf, Acc.isVf, Fn.num, hr, he]

theorem Acc.isVf_vf (st : StageId) (a : Nat) : Acc.isVf { who := Fn.num (.vf st), addr := a } = true := by
  have := st.isLt
  show (decide (1 ≤ st.val + 1) && decide (st.val + 1 ≤ 12)) = true
  simp only [Bool.and_eq_true, decide_eq_true_eq]
  omega

/-- Nothing answers a virtual function that does not exist, or one before READY (13 R346, 16 R424). -/
theorem Ctl.gateOf_vf_drop {c : Ctl} {st : StageId} (h : c.fnExists (st.val + 1) = false ∨ c.ready = false) (a : Nat) :
    c.gateOf { who := Fn.num (.vf st), addr := a } true = .drop := by
  have hlt : st.val + 1 < 15 := by have := st.isLt; omega
  simp only [Ctl.gateOf, Acc.isVf_vf]
  cases hex : c.fnExists (st.val + 1)
  · simp [Fn.num, hex]
  · have hr := h.resolve_left (by simp [hex])
    simp [Fn.num, hex, hr, hlt]

/-- A page that the virtual function's stage does not hold (02 R38). -/
theorem Ctl.gateOf_vf_fail {c : Ctl} {st : StageId} {p off i : Nat} {k : PageKind} (hex : c.fnExists (st.val + 1) = true)
    (hr : c.ready = true) (hp : place (p + off) = .page k i p off) (hh : c.pageStage p ≠ some st.val) :
    c.gateOf { who := Fn.num (.vf st), addr := p + off } true = .fail (stagePage st) 0xF1 := by
  have hreach : (c.pageStage p == some st.val) = false := by simpa using hh
  simp only [Ctl.gateOf, Acc.isVf_vf, Acc.home]
  simp [Fn.num, hex, hr, hp, hreach]

theorem Blk.busWrite_fail {b : Blk} {fn : Fn} {a page code : Nat} (h : b.ctl.gateOf { who := fn.num, addr := a } true = .fail page code)
    (be : Bool) (w : Word) (e : List Ecc) : b.busWrite fn.num a be w e = { b with ctl := b.ctl.err page code fn.num a } := by
  rw [Blk.busWrite, h, ← Ctl.errAt_host]
  rfl

theorem Blk.busWrite_drop {b : Blk} {fn : Fn} {a : Nat} (h : b.ctl.gateOf { who := fn.num, addr := a } true = .drop) (be : Bool) (w : Word)
    (e : List Ecc) : b.busWrite fn.num a be w e = b := by
  rw [Blk.busWrite, h]

/-! ### Refused at its page (02 R45 steps 2 to 4) -/

/-- The page a step-2 error of a function of the host counts against. -/
def homeOf (fn : Fn) (q : Nat) : Nat := match fn with | .pf => q | .vf st => stagePage st

theorem Acc.home_host (fn : Fn) (a q : Nat) : Acc.home { who := fn.num, addr := a } q = homeOf fn q := by
  cases fn with
  | pf => rfl
  | vf st => rw [Acc.home, Acc.isVf_vf]; rfl

section
variable {b : Blk} {k : PageKind} {fn : Fn} {i base off : Nat} {d : RegDef} (hm : b.ctl.mirynGone k = false)
  (hv : b.ctl.recovOff k off = false)
include hm hv

theorem Blk.pageWrite_undefined (hd : regDef k off = none) (be : Bool) (w : Word) (e : List Ecc) :
    b.pageWrite k i base off { who := fn.num, addr := base + off } be w e =
      { b with ctl := (b.ctl.unpair base).err (homeOf fn (blockBase base)) 0xF3 fn.num (base + off) } := by
  have hm' : (b.onCtl fun c => c.unpair base).ctl.mirynGone k = false := hm
  have hv' : (b.onCtl fun c => c.unpair base).ctl.recovOff k off = false := hv
  rw [← Ctl.errAt_host, ← Acc.home_host fn (base + off)]
  simp only [Blk.pageWrite, hm', hv', hd, Bool.false_eq_true, if_false]
  rfl

/-- The checks of R45 steps 3 and 4 that a write fails, with the code of each. -/
inductive WriteFault (c : Ctl) (d : RegDef) (base off : Nat) (be : Bool) : Nat → Prop
  | enables : be = false → WriteFault c d base off be 0xF4
  | readOnly : be = true → regAllRO d = true → WriteFault c d base off be 0xF0
  | locked : be = true → regAllRO d = false → off ≠ 0x28 → bit (c.rd (base + 0x28)) 0 = true → d.lk ≠ 0 →
      (regStored d ||| d.wo ||| d.w1c) &&& d.lk = (regStored d ||| d.wo ||| d.w1c) → WriteFault c d base off be 0xF2

theorem Blk.pageWrite_fault {be : Bool} {code : Nat} (hd : regDef k off = some d) (hres : reservedOff off = false)
    (hf : WriteFault b.ctl d base off be code) (w : Word) (e : List Ecc) :
    b.pageWrite k i base off { who := fn.num, addr := base + off } be w e =
      { b with ctl := (b.ctl.unpair base).err base code fn.num (base + off) } := by
  have hm' : (b.onCtl fun c => c.unpair base).ctl.mirynGone k = false := hm
  have hv' : (b.onCtl fun c => c.unpair base).ctl.recovOff k off = false := hv
  rw [← Ctl.errAt_host]
  simp only [Blk.pageWrite, hm', hv', hd, hres, Bool.false_eq_true, if_false]
  cases hf with
  | enables hbe => subst hbe; rfl
  | readOnly hbe hro => subst hbe; simp only [hro, Bool.not_true, Bool.false_eq_true, if_false, if_true]; rfl
  | locked hbe hro hoff hl hlk hall =>
    have hl' : (bit ((b.onCtl fun c => c.unpair base).ctl.rd (base + 0x28)) 0 && d.lk != 0) = true := by simp [hl, hlk]
    subst hbe
    simp only [hro, hoff, hl', hall, Bool.not_true, Bool.false_eq_true, if_false, if_true]
    rfl

end

/-- Settles O7: the checks in their order, each answered by its own code and nothing more. That an access by a function that does not exist
is not counted is the model's choice (log 11). -/
theorem refusedWritesCountOneErrorEach : Obligations.RefusedWritesCountOneErrorEach := by
  unfold Obligations.RefusedWritesCountOneErrorEach
  intro s fn page off i k be w hp h4 hlt p cmd home refuse
  have hb := pageOf_mod page
  have hpo : place (p + off) = .page k i p off := place_off hp hlt
  have runs {b : Blk} (h : s.blk.busWrite fn.num (p + off) be w = b) : Runs cmd s b :=
    (runs_iff_of_on (registerWrite_eq (by omega) (pageOf_add_lt page hlt) fn be w s)).2 h
  refine ⟨fun hr he hf => runs ?_, fun st hf hex hr hh => runs ?_, fun st hf hex => runs ?_, fun h hm hv hreach => ⟨fun hd => runs ?_,
    fun d hd hres => ⟨fun hbe => ?_, fun hbe hro => ?_, fun hbe hro hoff hl hlk hall => ?_⟩⟩⟩
  · subst hf; exact Blk.busWrite_fail (Ctl.gateOf_early hr he) _ _ _
  · subst hf; exact Blk.busWrite_fail (Ctl.gateOf_vf_fail hex hr hpo hh) _ _ _
  · subst hf; exact Blk.busWrite_drop (Ctl.gateOf_vf_drop hex _) _ _ _
  · rw [Blk.busWrite_page h hpo hb hlt hreach]
    exact Blk.pageWrite_undefined hm hv hd _ _ _
  all_goals
    refine runs ?_
    rw [Blk.busWrite_page h hpo hb hlt hreach]
  · exact Blk.pageWrite_fault hm hv hd hres (.enables hbe) _ _
  · exact Blk.pageWrite_fault hm hv hd hres (.readOnly hbe hro) _ _
  · exact Blk.pageWrite_fault hm hv hd hres (.locked hbe hro hoff hl hlk hall) _ _

end Sys2Proof.Machine
end

section
/-!
PROOF. The commands of the control plane alone: each is an operation on the control plane, and so leaves tiles and HBM as they were.
-/
namespace Sys2Proof.Machine

/-- The meaning of each such command is a function of the control plane alone. -/
theorem onlyControl_onCtl (i : Instr) (s : State) (h : onlyControl i = true) : ∃ f, exec i s = s.onCtl f := by
  cases i
  all_goals first
    | exact absurd h Bool.false_ne_true
    | exact ⟨_, rfl⟩

/-- Settles O56: what is run is an operation on the control plane. The frame is read off the model's meanings. -/
theorem controlPlaneCommandsKeepTilesAndHbm : Obligations.ControlPlaneCommandsKeepTilesAndHbm := by
  unfold Obligations.ControlPlaneCommandsKeepTilesAndHbm
  intro i s h
  obtain ⟨f, hf⟩ := onlyControl_onCtl i s h
  exact ⟨s.blk.onCtl f, hf, ⟨rfl, rfl⟩, fun _ _ => rfl, fun _ _ => rfl⟩

end Sys2Proof.Machine
end

section
/-!
PROOF. What no restart of a stage reaches: BAR2_BASE, the functions' interrupts but for those that wait, and the host reads outstanding
(13 R340, R346, R347, 16 R428).
-/
namespace Sys2Proof.Machine

/-! ### What the endpoint keeps -/

/-- A register that lies in no tile block, at the offset of STAGE.BAR2_BASE in its page. -/
abbrev bar2Reg (a : Nat) : Prop := a % 0x1000 = 0x1C0 ∧ addrTile a = none

/-- `d` follows from `c` with every BAR2_BASE, the host reads outstanding and the functions' interrupts but for those that wait as they were. -/
structure Ctl.PcieKept (c d : Ctl) : Prop where
  rd : ∀ a, bar2Reg a → d.rd a = c.rd a
  host : { d.host with waiting := [] } = { c.host with waiting := [] }
  reads : d.mgmt.reads = c.mgmt.reads

section
variable {c d e : Ctl}

theorem Ctl.PcieKept.refl : c.PcieKept c := ⟨fun _ _ => rfl, rfl, rfl⟩

theorem Ctl.PcieKept.trans (h : c.PcieKept d) (g : d.PcieKept e) : c.PcieKept e :=
  ⟨fun a ha => (g.rd a ha).trans (h.rd a ha), g.host.trans h.host, g.reads.trans h.reads⟩

/-- A change of fields that `PcieKept` does not speak of. -/
theorem Ctl.PcieKept.same (h : c.PcieKept d) (hr : e.regs = d.regs) (hh : { e.host with waiting := [] } = { d.host with waiting := [] })
    (hm : e.mgmt.reads = d.mgmt.reads) : c.PcieKept e := h.trans ⟨fun a _ => Ctl.rd_congr hr a, hh, hm⟩

theorem Ctl.PcieKept.foldl {α : Type} {f : Ctl → α → Ctl} {l : List α} (h : c.PcieKept d)
    (hf : ∀ (d : Ctl) (x : α), d.PcieKept (f d x)) : c.PcieKept (l.foldl f d) :=
  List.foldlRecOn l f h fun d h x _ => h.trans (hf d x)

theorem Ctl.PcieKept.msixEn (h : c.PcieKept d) : d.host.msixEn = c.host.msixEn := (congrArg HostIf.msixEn h.host :)
theorem Ctl.PcieKept.table (h : c.PcieKept d) : d.host.table = c.host.table := (congrArg HostIf.table h.host :)

/-! #### Registers -/

theorem Ctl.PcieKept.wr {a : Nat} {w : Word} (h : c.PcieKept d) (ha : ¬ bar2Reg a) : c.PcieKept (d.wr a w) := by
  refine h.trans ⟨fun b hb => ?_, rfl, rfl⟩
  rw [Ctl.rd_wr, if_neg]
  rintro rfl
  exact ha hb

/-- A field of another register of a page. -/
theorem Ctl.PcieKept.put {p : Nat} {f : Fld} {v : Nat} (h : c.PcieKept d) (hp : p % 0x1000 = 0) (hf : f.off % 0x1000 ≠ 0x1C0) :
    c.PcieKept (d.put p f v) := by
  refine h.wr fun ha => hf ?_
  have := ha.1
  omega

theorem Ctl.PcieKept.bump {p : Nat} {f : Fld} {n : Nat} (h : c.PcieKept d) (hp : p % 0x1000 = 0) (hf : f.off % 0x1000 ≠ 0x1C0) :
    c.PcieKept (d.bump p f n) := h.put hp hf

/-- A field of one of a tile's sixteen slates. -/
theorem Ctl.PcieKept.putSlate {t n v : Nat} {f : Fld} (h : c.PcieKept d) (hn : n < 16) (hf : f.off < 0x50) (hs : f.stride = 16) :
    c.PcieKept (d.putN (slatePage t) f n v) := by
  refine h.wr fun ha => ?_
  have := ha.1
  rw [hs, slatePage, tilePage] at this
  omega

theorem Ctl.PcieKept.resetRegs {keep : Nat → Nat} (h : c.PcieKept d) (hk : ∀ a, addrTile a = none → keep a = 0xFFFFFFFF) :
    c.PcieKept (d.resetRegs keep) := by
  refine h.trans ⟨fun a ha => ?_, rfl, rfl⟩
  rw [Ctl.rd_resetRegs, hk a ha.2]
  exact (congrArg (_ ||| ·) BitVec.and_zero).trans (by rw [BitVec.or_zero]; exact BitVec.and_allOnes)

/-! #### Interrupts, events and errors -/

/-- Sending a message changes what leaves and what waits, no more. -/
theorem Ctl.sendMsg_waiting (c : Ctl) (p : Nat) : ∃ o w, c.sendMsg p = { c with out := o, host := { c.host with waiting := w } } := by
  simp only [Ctl.sendMsg]
  split_ifs
  · exact ⟨_, c.host.waiting, rfl⟩
  · exact ⟨c.out, _, rfl⟩

theorem Ctl.PcieKept.sendMsg {p : Nat} (h : c.PcieKept d) : c.PcieKept (d.sendMsg p) := by
  obtain ⟨o, w, e⟩ := Ctl.sendMsg_waiting d p
  rw [e]
  exact h.same rfl rfl rfl

theorem Ctl.PcieKept.withIrq {p : Nat} {w : Bool} {f : Ctl → Ctl} (h : c.PcieKept (f d)) : c.PcieKept (d.withIrq p w f) := by
  simp only [Ctl.withIrq]
  split_ifs
  · exact h.sendMsg
  · exact h
  · exact h.same rfl rfl rfl

theorem Ctl.PcieKept.raise {p n : Nat} (h : c.PcieKept d) (hp : p % 0x1000 = 0) : c.PcieKept (d.raise p n) :=
  .withIrq (h.wr fun ha => by have := ha.1; omega)

theorem not_mem_logRegs_of_bar2Reg {a : Nat} (h : bar2Reg a) : a ∉ logRegs := by
  have := h.1
  simp only [logRegs, logPage, List.mem_cons, List.not_mem_nil, or_false]
  omega

theorem Ctl.PcieKept.logEvent {p k v : Nat} (h : c.PcieKept d) : c.PcieKept (d.logEvent p k v) := by
  obtain ⟨r, l, e⟩ := Ctl.logEvent_eq d p k v
  exact h.trans ⟨fun a ha => Ctl.rd_logEvent d p k v (not_mem_logRegs_of_bar2Reg ha), by rw [e], by rw [e]⟩

theorem Ctl.PcieKept.errHw {p k : Nat} (h : c.PcieKept d) (hp : p % 0x1000 = 0) : c.PcieKept (d.errHw p k) := by
  have at_ {c d : Ctl} {off : Nat} {w : Word} (h : c.PcieKept d) (ho : off < 0x1C0) : c.PcieKept (d.wr (p + off) w) :=
    h.wr fun ha => by have := ha.1; omega
  have dev {c d : Ctl} {w : Word} (h : c.PcieKept d) : c.PcieKept (d.wr (devPage + 0x50) w) := h.wr (by decide)
  simp only [Ctl.errHw, Ctl.err, Ctl.errSev]
  have h20 {w : Word} : c.PcieKept (d.wr (p + 0x20) w) := at_ h (by decide)
  split_ifs
  · exact h
  · exact .raise (.logEvent h20) hp
  · exact .raise (.logEvent (dev (at_ h20 (by decide)))) hp
  · exact .raise (.logEvent (at_ h20 (by decide))) hp
  · exact .logEvent h20
  · exact .logEvent (dev (at_ h20 (by decide)))
  · exact .logEvent (at_ h20 (by decide))

end

/-! ### The pages -/

theorem stagePage_mod (s : Nat) : stagePage s % 0x1000 = 0 := by rw [stagePage]; omega
theorem cluPage_mod (n k : Nat) : cluPage n k % 0x1000 = 0 := by rw [cluPage]; omega
theorem hbmPage_mod (n : Nat) : hbmPage n % 0x1000 = 0 := by rw [hbmPage]; omega
theorem tilePage_mod (t k : Nat) : tilePage t k % 0x1000 = 0 := by rw [tilePage]; omega

/-! ### A change in progress completed (15 R395) -/

section
variable {c d : Ctl} {b : Blk}

theorem Ctl.PcieKept.commandVolts {s mhz : Nat} (h : c.PcieKept d) : c.PcieKept (d.commandVolts s mhz) :=
  h.foldl fun d cl => by
    simp only [Ctl.railTarget]
    split_ifs
    · exact .refl
    · exact Ctl.PcieKept.refl.same rfl rfl rfl

theorem Ctl.PcieKept.setVolts {s mhz : Nat} (h : c.PcieKept d) : c.PcieKept (d.setVolts s mhz) :=
  h.foldl fun _ cl => Ctl.PcieKept.refl.put (cluPage_mod cl 1) (by decide)

theorem Ctl.PcieKept.setChange {s : Nat} {x : Option FreqChange} (h : c.PcieKept d) : c.PcieKept (d.setChange s x) := h.same rfl rfl rfl

/-- Restarting the mixdown schedules is a matter of the tiles. -/
theorem Blk.restartMix_ctl (b : Blk) (s : Nat) : (b.restartMix s).ctl = b.ctl := by
  unfold Blk.restartMix
  induction b.ctl.scopeTiles s generalizing b with
  | nil => rfl
  | cons t l ih => exact (ih _).trans (by dsimp only; split_ifs <;> rfl)

theorem Ctl.PcieKept.finishChange {s : Nat} (h : c.PcieKept b.ctl) : c.PcieKept (b.finishChange s).ctl := by
  simp only [Blk.finishChange]
  split
  · exact h
  · split_ifs
    · exact .setChange (.setVolts (.commandVolts h))
    · rw [Blk.restartMix_ctl]
      refine .setChange (.foldl (.setVolts (.commandVolts (h.same rfl rfl rfl))) fun d cl => ?_)
      have hp := cluPage_mod cl 2
      exact .raise (.bump (.put (.put (.put .refl hp (by decide)) hp (by decide)) hp (by decide)) hp (by decide)) hp

/-! ### Tiles held (16 R414) -/

theorem Ctl.PcieKept.atRouter {t p : Nat} {i : Item} (h : c.PcieKept d) : c.PcieKept (d.atRouter t p i) := h.same rfl rfl rfl

theorem Ctl.PcieKept.sendAck {t u a : Nat} {x : Bool} (h : c.PcieKept d) : c.PcieKept (d.sendAck t u a x) := by
  simp only [Ctl.sendAck]
  split_ifs
  · exact h
  · exact h.atRouter

theorem Ctl.PcieKept.answerHeld {t : Nat} {x : Tile} (h : c.PcieKept d) : c.PcieKept (d.answerHeld t x) := by
  refine .foldl (.foldl (.foldl h fun _ _ => .atRouter .refl) fun d f => ?_) fun d r => ?_
  · split_ifs
    · exact Ctl.PcieKept.refl.same rfl rfl rfl
    · exact .refl
    · exact .sendAck .refl
  · split
    · split_ifs
      · exact .sendAck .refl
      · exact .atRouter .refl
    · exact .refl

theorem Ctl.PcieKept.holdTile {t : Nat} (h : c.PcieKept b.ctl) : c.PcieKept (b.holdTile t).ctl := by
  have h1 : c.PcieKept ((b.ctl.answerHeld t (b.tile t)).kasHeld t) := h.answerHeld.same rfl rfl rfl
  have h2 := h1.resetRegs (keep := fun a => if addrTile a = some t then tileKept a else 0xFFFFFFFF) fun a ha => by simp [ha]
  exact h2.same rfl rfl rfl

theorem Ctl.PcieKept.foldlBlk {α : Type} {f : Blk → α → Blk} {l : List α} (h : c.PcieKept b.ctl)
    (hf : ∀ (b : Blk) (x : α), b.ctl.PcieKept (f b x).ctl) : c.PcieKept (l.foldl f b).ctl :=
  List.foldlRecOn (motive := fun b => c.PcieKept b.ctl) l f h fun b h x _ => h.trans (hf b x)

theorem Ctl.PcieKept.holdTiles {ts : List Nat} (h : c.PcieKept b.ctl) : c.PcieKept (b.holdTiles ts).ctl :=
  h.foldlBlk fun _ _ => .holdTile .refl

/-! ### Slates and memory of a stage -/

theorem Ctl.PcieKept.slateAdd {t n v : Nat} (h : c.PcieKept b.ctl) (hn : n < 16) : c.PcieKept (b.slateAdd t n v).ctl := by
  have h1 : c.PcieKept (b.ctl.putN (slatePage t) F.SLATE_COUNT_COUNT n (b.ctl.getN (slatePage t) F.SLATE_COUNT_COUNT n + v)) :=
    h.putSlate hn (by decide) rfl
  simp only [Blk.slateAdd]
  split_ifs
  · exact h1.putSlate hn (by decide) rfl
  · exact h1

theorem Ctl.PcieKept.signal {s : Nat} {w : Word} (h : c.PcieKept b.ctl) : c.PcieKept (b.signal s w).ctl := by
  simp only [Blk.signal]
  split_ifs
  · exact h
  · exact h.same rfl rfl rfl
  · exact h
  · exact h.slateAdd (bits_lt _ _ _)
  · exact h

theorem Ctl.PcieKept.countEcc {t : Nat} {e : Ecc} (h : c.PcieKept d) : c.PcieKept (d.countEcc t e) := by
  have hp := tilePage_mod t 4
  cases e with
  | ok => exact h
  | onDie => exact h
  | corr => exact .raise (.bump h hp (by decide)) hp
  | uncorr => exact .raise (.errHw (.bump h hp (by decide)) hp) hp

theorem Blk.setStack_ctl (b : Blk) (n : Nat) (m : Mem) : (b.setStack n m).ctl = b.ctl := rfl

theorem Ctl.PcieKept.hbmEcc {n k : Nat} {e : Ecc} (h : c.PcieKept b.ctl) : c.PcieKept (b.hbmEcc n k e).ctl := by
  have hp := hbmPage_mod n
  cases e with
  | ok => exact h
  | onDie => exact .bump h hp (by decide)
  | corr => exact .raise (.bump h hp (by decide)) hp
  | uncorr =>
    have h1 : c.PcieKept (((b.ctl.bump (hbmPage n) F.HBM_UNCORR_COUNT).errHw (hbmPage n) 0x02).bump (hbmPage n) F.HBM_POISON_BURSTS_COUNT) :=
      .bump (.errHw (.bump h hp (by decide)) hp) hp (by decide)
    rw [Blk.hbmEcc, Blk.setStack_ctl, Blk.onCtl_ctl]
    refine .raise ?_ hp
    split_ifs
    · exact h1
    · exact .put (.put (.put h1 hp (by decide)) hp (by decide)) hp (by decide)

/-- What marking a granule does to the block. The address of the map's byte is made a variable, and `id` keeps it one in the proof's term:
unfolded, it is too large for the kernel. -/
theorem Blk.setDirty_cases (b : Blk) (s g : Nat) (x : Bool) : b.setDirty s g x = b ∨ ∃ n m, b.setDirty s g x = b.setStack n m := by
  have key : ∀ f, f = @Blk.setDirty → f b s g x = b ∨ ∃ n m, f b s g x = b.setStack n m := by
    delta Blk.setDirty
    generalize @Ctl.dirtyAt = place
    revert place
    refine id ?_
    rintro place _ rfl
    dsimp only
    split
    · exact .inr ⟨_, _, rfl⟩
    · exact .inl rfl
  exact key _ rfl

theorem Blk.setDirty_ctl (b : Blk) (s g : Nat) (x : Bool) : (b.setDirty s g x).ctl = b.ctl := by
  obtain h | ⟨n, m, h⟩ := b.setDirty_cases s g x
  · rw [h]
  · rw [h, Blk.setStack_ctl]

theorem Blk.markDirty_ctl (b : Blk) (n l : Nat) : (b.markDirty n l).ctl = b.ctl := by
  unfold Blk.markDirty
  split
  · split_ifs
    · exact Blk.setDirty_ctl _ _ _ _
    · rfl
  · rfl

theorem Ctl.PcieKept.stackWrite {n l : Nat} {r : Run} {e : List Ecc} (h : c.PcieKept b.ctl) : c.PcieKept (b.stackWrite n l r e).ctl := by
  have h1 : c.PcieKept (b.hbmChecks n (partBursts l r.bytes.length) e).ctl := h.foldlBlk fun _ _ => .hbmEcc .refl
  simp only [Blk.stackWrite]
  split_ifs
  · exact h1.bump (hbmPage_mod n) (by decide)
  · rw [Blk.markDirty_ctl]
    exact h1.bump (hbmPage_mod n) (by decide)

theorem Ctl.PcieKept.notReady {n : Nat} (h : c.PcieKept d) : c.PcieKept (d.notReady n) :=
  .errHw (.bump h (hbmPage_mod n) (by decide)) (hbmPage_mod n)

/-- What holds of every write to a stack and of every refusal holds of a write to a stage address. The address is a variable here as in
`Blk.setDirty_cases`. -/
theorem Blk.stgWrite_preserves {P : Blk → Prop} {b : Blk} {s a : Nat} {r : Run} {e : List Ecc} (h : P b)
    (hw : ∀ b n l r e, P b → P (b.stackWrite n l r e)) (hn : ∀ b n, P b → P (b.onCtl fun c => c.notReady n)) : P (b.stgWrite s a r e) := by
  have key : ∀ f, f = @Blk.stgWrite → P (f b s a r e) := by
    delta Blk.stgWrite
    generalize @Ctl.stageAddr = place
    revert place
    refine id ?_
    rintro place _ rfl
    refine List.foldlRecOn (motive := fun x : List Ecc × Blk => P x.2) _ _ h fun x hx p _ => ?_
    dsimp only
    split
    · dsimp only
      split_ifs
      · exact hw _ _ _ _ _ hx
      · exact hn _ _ hx
    · exact hx
  exact key _ rfl

theorem Ctl.PcieKept.stgWrite {s a : Nat} {r : Run} {e : List Ecc} (h : c.PcieKept b.ctl) : c.PcieKept (b.stgWrite s a r e).ctl :=
  Blk.stgWrite_preserves (P := fun b => c.PcieKept b.ctl) h (fun _ _ _ _ _ hb => hb.stackWrite) fun b n hb => by
    rw [Blk.onCtl_ctl]
    exact hb.notReady

theorem Ctl.PcieKept.memWrite {s a : Nat} {tile : Option Nat} {r : Run} {e : List Ecc} (h : c.PcieKept b.ctl) :
    c.PcieKept (b.memWrite s tile a r e).ctl := by
  cases tile with
  | none => exact h.stgWrite
  | some t =>
    simp only [Blk.memWrite]
    split_ifs
    · exact h
    · rw [Blk.spStore, Blk.setTile_ctl, Blk.onCtl_ctl]
      exact h.foldl fun _ _ => .countEcc .refl

/-! ### The rim side of a stage emptied (12 R307, R308) -/

theorem Ctl.PcieKept.failed {m : TxMsg} {why : Nat} (h : c.PcieKept b.ctl) : c.PcieKept (b.failed m why).ctl := by
  have hp := stagePage_mod m.stage
  have hs : c.PcieKept (b.signal m.stage m.comp).ctl := h.signal
  have hc (x : Ctx) : c.PcieKept ((((b.signal m.stage m.comp).ctl.setCtx m.ctx x).bump (stagePage m.stage) F.STAGE_MSG_FAILS_COUNT).raise
      (stagePage m.stage) 2) := .raise (.bump (hs.same rfl rfl rfl) hp (by decide)) hp
  simp only [Blk.failed]
  split
  · exact h
  · exact hc _
  · exact .same (hc _) rfl rfl rfl
  · exact .same (hc _) rfl rfl rfl
  · exact hc _
  · exact .same (hc _) rfl rfl rfl

theorem Ctl.PcieKept.msgFail {m : TxMsg} {why : Nat} (h : c.PcieKept b.ctl) : c.PcieKept (b.msgFail m why).ctl :=
  .failed (b := b.onCtl fun c => c.dropMsg m.id) (h.same rfl rfl rfl)

theorem Ctl.PcieKept.onRing {n : Nat} {x : Ctl → Ring} (h : c.PcieKept b.ctl) : c.PcieKept (b.onCtl fun c => c.setRing n (x c)).ctl :=
  h.same rfl rfl rfl

theorem Ctl.PcieKept.writeCq {s rn st n : Nat} {m : RxMsg} {p : RxPart} {last : Bool} {e : List Ecc} (h : c.PcieKept b.ctl) :
    c.PcieKept (b.writeCq s rn m p st n last e).2.ctl := by
  simp only [Blk.writeCq]
  split_ifs
  · exact .bump (.signal (.signal (.onRing (.memWrite h)))) (stagePage_mod s) (by decide)
  · exact .signal (.onRing (.memWrite h))

theorem Ctl.PcieKept.truncate {s : Nat} {m : RxMsg} {e : List Ecc} (h : c.PcieKept b.ctl) : c.PcieKept (b.truncate s m e).2.ctl := by
  simp only [Blk.truncate]
  exact List.foldlRecOn (motive := fun x : List Ecc × Blk => c.PcieKept x.2.ctl) _ _ (h.same rfl rfl rfl) fun x hx p _ => .writeCq hx

theorem Ctl.PcieKept.ctxDrain {n why : Nat} (h : c.PcieKept b.ctl) : c.PcieKept (b.ctxDrain n why).ctl := by
  simp only [Blk.ctxDrain]
  refine .foldlBlk (.foldlBlk h fun _ _ => .msgFail .refl) fun b m => ?_
  split
  · exact .truncate .refl
  · exact Ctl.PcieKept.refl.same rfl rfl rfl

theorem Ctl.PcieKept.setMarks {s : Nat} {l : List Mark} (h : c.PcieKept d) : c.PcieKept (d.setMarks s l) := h.same rfl rfl rfl
theorem Ctl.PcieKept.withUam {u : Uam} (h : c.PcieKept d) : c.PcieKept { d with uam := u } := h.same rfl rfl rfl

theorem Ctl.PcieKept.mirrorLost {n : Nat} (h : c.PcieKept b.ctl) : c.PcieKept (b.mirrorLost n).ctl := by
  refine h.foldlBlk fun b s => ?_
  dsimp only
  split_ifs
  · have h1 : b.ctl.PcieKept (((b.ctl.marks s).filter fun k => !k.sent).foldl (fun b k =>
        b.failed { stage := s, ctx := n, msn := (b.ctl.ctx n).txMsn, comp := k.comp } 5) b).ctl :=
      .foldlBlk .refl fun _ _ => .failed .refl
    rw [Blk.onCtl_ctl]
    exact .withUam (.setMarks h1)
  · exact .refl

theorem Ctl.PcieKept.ctxStop {n st : Nat} (h : c.PcieKept b.ctl) : c.PcieKept (b.ctxStop n st).ctl := by
  have h1 : c.PcieKept (b.ctxDrain n 5).ctl := h.ctxDrain
  have h2 (x : Ctx) : c.PcieKept ((b.ctxDrain n 5).onCtl fun c => (c.setCtx n x).forget).ctl := h1.same rfl rfl rfl
  simp only [Blk.ctxStop]
  split_ifs
  · exact .mirrorLost (h2 _)
  · exact h2 _

theorem Ctl.PcieKept.emptyRings {l : List Nat} (h : c.PcieKept d) : c.PcieKept (d.emptyRings l) :=
  h.foldl fun d n => by
    dsimp only
    split_ifs
    · exact Ctl.PcieKept.refl.same rfl rfl rfl
    · exact .refl

theorem Ctl.PcieKept.clearStageRim {s : Nat} (h : c.PcieKept b.ctl) : c.PcieKept (b.clearStageRim s).ctl := by
  have h1 : c.PcieKept (b.closeCtxs (b.ctl.openCtxs s)).ctl := h.foldlBlk fun _ _ => .ctxStop .refl
  exact h1.emptyRings.same rfl rfl rfl

/-! ### The stage (16 R428) -/

theorem Ctl.PcieKept.setStage {s st : Nat} (h : c.PcieKept d) : c.PcieKept (d.setStage s st) :=
  .put (.put h (stagePage_mod s) (by decide)) (stagePage_mod s) (by decide)

theorem Ctl.PcieKept.withBoot {x : Boot} (h : c.PcieKept d) : c.PcieKept { d with boot := x } := h.same rfl rfl rfl

theorem Ctl.PcieKept.stageReset {s : Nat} (h : c.PcieKept b.ctl) : c.PcieKept (b.stageReset s).ctl := by
  simp only [Blk.stageReset]
  split_ifs
  · exact h
  · exact .setStage h
  · rw [Blk.onCtl_ctl]
    exact .withBoot (.setStage (.clearStageRim (.holdTiles (.finishChange h))))

theorem Ctl.stState_setStage (c : Ctl) (s : Nat) {st : Nat} (h : st < 8) : (c.setStage s st).stState s = st := by
  have hs : (c.setStage s st).stState s = (c.put (stagePage s) F.STAGE_RUNSTATE_STATE st).stState s :=
    Ctl.getN_putN_apart _ _ _ _ _ _ _ _ (.inl (by decide))
  rw [hs, Ctl.stState, Ctl.get_put_same _ _ _ _ (by decide)]
  exact Nat.mod_eq_of_lt h

theorem Ctl.stState_withBoot (c : Ctl) (x : Boot) (s : Nat) : { c with boot := x }.stState s = c.stState s := rfl

theorem Blk.stageReset_stState (b : Blk) (s : Nat) : (b.stageReset s).ctl.stState s = 5 := by
  simp only [Blk.stageReset]
  split_ifs with h
  · exact h
  · rw [Blk.onCtl_ctl, Ctl.stState_setStage _ _ (by decide)]
  · rw [Blk.onCtl_ctl, Ctl.stState_withBoot, Ctl.stState_setStage _ _ (by decide)]

end

end Sys2Proof.Machine
end

section
/-!
PROOF. The functions' configuration spaces and interrupts, the function-level reset of a virtual function, and the link coming up
(02 R49, 13 R339 to R341, R346 to R348, 16 R417, R423).
-/
namespace Sys2Proof.Machine

/-! ### Interrupts that wait (13 R346) -/

/-- Sending what waits changes what leaves and what waits, no more. -/
theorem Ctl.sendWaiting_eq (c : Ctl) : ∃ o w, c.sendWaiting = { c with out := o, host := { c.host with waiting := w } } := by
  refine List.foldlRecOn (motive := fun d : Ctl => ∃ o w, d = { c with out := o, host := { c.host with waiting := w } }) _ _
    ⟨c.out, c.host.waiting, rfl⟩ ?_
  rintro _ ⟨o, w, rfl⟩ p _
  obtain ⟨o', w', e⟩ := Ctl.sendMsg_waiting
    { c with out := o, host := { c.host with waiting := w.filter (· != p) } } p
  exact ⟨o', w', e⟩

section
variable (c : Ctl)

@[simp] theorem Ctl.sendWaiting_regs : c.sendWaiting.regs = c.regs := by
  obtain ⟨o, w, e⟩ := c.sendWaiting_eq
  rw [e]

@[simp] theorem Ctl.sendWaiting_msixEn : c.sendWaiting.host.msixEn = c.host.msixEn := by
  obtain ⟨o, w, e⟩ := c.sendWaiting_eq
  rw [e]

@[simp] theorem Ctl.sendWaiting_masked : c.sendWaiting.host.masked = c.host.masked := by
  obtain ⟨o, w, e⟩ := c.sendWaiting_eq
  rw [e]

@[simp] theorem Ctl.sendWaiting_table : c.sendWaiting.host.table = c.host.table := by
  obtain ⟨o, w, e⟩ := c.sendWaiting_eq
  rw [e]

@[simp] theorem Ctl.sendWaiting_vfEnable : c.sendWaiting.host.vfEnable = c.host.vfEnable := by
  obtain ⟨o, w, e⟩ := c.sendWaiting_eq
  rw [e]

@[simp] theorem Ctl.sendWaiting_numVfs : c.sendWaiting.host.numVfs = c.host.numVfs := by
  obtain ⟨o, w, e⟩ := c.sendWaiting_eq
  rw [e]

end

/-- A message whose function can send it and has not masked its vector leaves. -/
theorem Ctl.sendMsg_sent {c : Ctl} {p : Nat} (hs : c.canSend (c.pageOwner p) = true)
    (hm : c.host.masked.contains (c.pageOwner p, bits (c.rd (p + 0x10)) 30 20) = false) :
    c.sendMsg p = { c with out := c.out ++ [c.host.message (c.pageOwner p) (bits (c.rd (p + 0x10)) 30 20)] } := by
  simp only [Ctl.sendMsg, hs, hm, Bool.not_false, Bool.and_self, if_true]

/-- So does one that waits alone. -/
theorem Ctl.sendWaiting_one {c : Ctl} {p : Nat} (hw : c.host.waiting = [p]) (hs : c.canSend (c.pageOwner p) = true)
    (hm : c.host.masked.contains (c.pageOwner p, bits (c.rd (p + 0x10)) 30 20) = false) :
    c.sendWaiting = { c with host := { c.host with waiting := [] }
                             out := c.out ++ [c.host.message (c.pageOwner p) (bits (c.rd (p + 0x10)) 30 20)] } := by
  have hf : [p].filter (· != p) = [] := by simp
  rw [Ctl.sendWaiting, hw, List.foldl_cons, List.foldl_nil, hw, hf]
  exact Ctl.sendMsg_sent (c := { c with host := { c.host with waiting := [] } }) hs hm

/-! ### The interrupts of a function (13 R341, R346) -/

/-- MSI-X Enable, the masked vectors and the table of function `k` set. -/
def HostIf.setFunction (h : HostIf) (k : Nat) (en : Bool) (masked : List (Fin 2048)) (table : List MsixEntry) : HostIf :=
  { h with
    msixEn := if en then insertNat k h.msixEn else h.msixEn.filter (· != k)
    masked := (h.masked.filter fun e => e.1 != k) ++ ((masked.filter fun v => decide (v.val < vectorsOf k)).map fun v => (k, v.val))
    table := (h.table.filter fun e => e.1 != k) ++ (table.filter fun e => decide (e.vec < vectorsOf k)).map fun e => (k, e) }

section
variable (h : HostIf) (k : Nat) (en : Bool) (masked : List (Fin 2048)) (table : List MsixEntry)

theorem HostIf.setFunction_enabled : (h.setFunction k en masked table).msixEn.contains k = en := by
  cases en
  · simp [HostIf.setFunction]
  · simp [HostIf.setFunction, mem_insertNat]

theorem HostIf.setFunction_masked (v : Fin 2048) :
    (k, v.val) ∈ (h.setFunction k en masked table).masked ↔ v ∈ masked ∧ v.val < vectorsOf k := by
  simp only [HostIf.setFunction, List.mem_append, List.mem_filter, List.mem_map, decide_eq_true_eq]
  constructor
  · rintro (⟨-, hk⟩ | ⟨u, hu, e⟩)
    · simp at hk
    · obtain rfl : u = v := by simpa [Fin.ext_iff] using e
      exact hu
  · exact fun hv => .inr ⟨v, hv, rfl⟩

theorem HostIf.setFunction_table (x : MsixEntry) :
    (k, x) ∈ (h.setFunction k en masked table).table ↔ x ∈ table ∧ x.vec < vectorsOf k := by
  simp [HostIf.setFunction]

/-- A vector of none of the masked ones is not masked. -/
theorem HostIf.setFunction_unmasked {v : Nat} (hv : ∀ u ∈ masked, u.val ≠ v) :
    (h.setFunction k en masked table).masked.contains (k, v) = false := by
  simp only [HostIf.setFunction, List.contains_eq_mem, decide_eq_false_iff_not, List.mem_append, List.mem_filter, List.mem_map, not_or]
  exact ⟨by simp, fun ⟨u, hu, e⟩ => hv u hu.1 (by simpa using e)⟩

/-- The message of a vector the function has is what the first entry for it says. -/
theorem HostIf.setFunction_message {v : Nat} {x : MsixEntry} (hx : table.find? (fun x => x.vec == v) = some x) (hv : v < vectorsOf k) :
    (h.setFunction k en masked table).message k v = .msix k v x.addr x.data := by
  have old : (h.table.filter fun e => e.1 != k).find? (fun e => e.1 == k && e.2.vec == v) = none := by
    grind
  have new : ((table.filter fun e => decide (e.vec < vectorsOf k)).map fun e => (k, e)).find? (fun e => e.1 == k && e.2.vec == v) =
      some (k, x) := by
    have hp : (fun e : MsixEntry => decide (e.vec < vectorsOf k) && e.vec == v) = fun e => e.vec == v := by
      funext e
      by_cases he : e.vec = v
      · simp [he, hv]
      · simp [he]
    simp only [List.find?_map, Function.comp_def, beq_self_eq_true, Bool.true_and, List.find?_filter, Bool.decide_and, Bool.decide_eq_true, hp, hx,
      Option.map_some]
  simp only [HostIf.message, HostIf.setFunction, List.find?_append, old, new, Option.none_or]

end

/-- The control plane with a function's interrupts so set. -/
def Ctl.withFunction (c : Ctl) (k : Nat) (en : Bool) (masked : List (Fin 2048)) (table : List MsixEntry) : Ctl :=
  { c with host := c.host.setFunction k en masked table }

/-- The interrupt that waits for a function that is there leaves once the function sets MSI-X Enable and does not mask its vector. -/
theorem Ctl.withFunction_sent {c : Ctl} {k p : Nat} {masked : List (Fin 2048)} (table : List MsixEntry) (hf : c.fnExists k = true)
    (hp : c.host.waiting = [p]) (ho : c.pageOwner p = k) (hv : ∀ u ∈ masked, u.val ≠ bits (c.rd (p + 0x10)) 30 20) :
    ∃ h : HostIf, h.waiting = [] ∧ (c.withFunction k true masked table).sendWaiting =
      { c with host := h, out := c.out ++ [(c.host.setFunction k true masked table).message k (bits (c.rd (p + 0x10)) 30 20)] } := by
  have hown : (c.withFunction k true masked table).pageOwner p = k := ho
  have hsend : (c.withFunction k true masked table).canSend k = true := by
    rw [Ctl.canSend, Bool.and_eq_true]
    exact ⟨HostIf.setFunction_enabled _ _ _ _ _, hf⟩
  have hsent := Ctl.sendWaiting_one (c := c.withFunction k true masked table) hp (by rw [hown]; exact hsend)
    (by rw [hown]; exact HostIf.setFunction_unmasked _ _ _ _ _ hv)
  rw [hown] at hsent
  exact ⟨_, rfl, hsent⟩

theorem msiXEnable_runs {s : State} {fn : Fn} (hf : s.blk.ctl.fnExists fn.num = true) (en : Bool) (masked : List (Fin 2048))
    (table : List MsixEntry) : Runs (.msiXEnable fn en masked table) s
      (s.blk.onCtl fun c => (c.withFunction fn.num en masked table).sendWaiting) := by
  have he : exec (.msiXEnable fn en masked table) s = s.on fun b => b.onCtl fun c =>
      if !c.fnExists fn.num then c else (c.withFunction fn.num en masked table).sendWaiting := rfl
  rw [runs_iff_of_on he]
  simp only [Blk.onCtl, hf, Bool.not_true, Bool.false_eq_true, if_false]

/-! ### Virtual functions and their reset (13 R340, R346, R347) -/

/-- VF Enable and NumVFs set; of the interrupts of functions, those of functions that are there stay. -/
def Ctl.withVfs (c : Ctl) (en : Bool) (n : Nat) : Ctl :=
  let d : Ctl := { c with host := { c.host with vfEnable := en, numVfs := n } }
  let gone (fn : Nat) : Bool := !d.fnExists fn
  { d with host := { d.host with msixEn := d.host.msixEn.filter fun fn => !gone fn
                                 masked := d.host.masked.filter fun e => !gone e.1
                                 table := d.host.table.filter fun e => !gone e.1 } }

theorem vfEnable_eq (en : Bool) (n : Fin 13) (s : State) : exec (.vfEnable en n) s =
    s.on fun b => b.onCtl fun c => if !bit (c.option 2) 9 then c else (c.withVfs en n).sendWaiting := rfl

section
variable {s : State}

theorem vfEnable_sriov (h : bit (s.blk.ctl.option 2) 9 = true) (en : Bool) (n : Fin 13) :
    Runs (.vfEnable en n) s (s.blk.onCtl fun c => (c.withVfs en n).sendWaiting) := by
  rw [runs_iff_of_on (vfEnable_eq en n s)]
  simp only [Blk.onCtl, h, Bool.not_true, Bool.false_eq_true, if_false]

theorem vfEnable_none (h : bit (s.blk.ctl.option 2) 9 = false) (en : Bool) (n : Fin 13) : Runs (.vfEnable en n) s s.blk := by
  rw [runs_iff_of_on (vfEnable_eq en n s)]
  simp only [Blk.onCtl, h, Bool.not_false, if_true]

end

/-- What a function-level reset of a virtual function does before its stage restarts. -/
def Ctl.vfCleared (c : Ctl) (st : Nat) : Ctl :=
  ({ c with
      host := { c.host with msixEn := c.host.msixEn.filter (· != st + 1)
                            masked := c.host.masked.filter fun e => e.1 != st + 1
                            table := c.host.table.filter fun e => e.1 != st + 1 }
      mgmt := { c.mgmt with reads := c.mgmt.reads.filter fun r => r.stage != st } } : Ctl).wr (stagePage st + F.STAGE_BAR2_BASE_GIB.off) 0

theorem Ctl.get_vfCleared (c : Ctl) (st : Nat) : (c.vfCleared st).get (stagePage st) F.STAGE_BAR2_BASE_GIB = 0 := by
  have h0 : (c.vfCleared st).rd (stagePage st + F.STAGE_BAR2_BASE_GIB.off) = 0 := (Ctl.rd_wr _ _ _ _).trans (if_pos rfl)
  change bits ((c.vfCleared st).rd (stagePage st + F.STAGE_BAR2_BASE_GIB.off)) _ _ = 0
  rw [h0]
  rfl

theorem vfFlr_runs {s : State} {st : StageId} (hf : s.blk.ctl.fnExists (st.val + 1) = true) (hr : s.blk.ctl.boot.running = .none) :
    Runs (.vfFlr st) s ((s.blk.onCtl fun c => c.vfCleared st).stageReset st) := by
  have he : exec (.vfFlr st) s = s.on fun b =>
      if !b.ctl.fnExists (st + 1) || b.ctl.boot.running != .none then b else (b.onCtl fun c => c.vfCleared st).stageReset st := rfl
  rw [runs_iff_of_on he]
  simp only [hf, hr, Bool.not_true, Bool.false_or, bne_self_eq_false, Bool.false_eq_true, if_false]

/-- What a function-level reset of a virtual function clears stays clear while its stage restarts. -/
theorem vfFlr_clears {s : State} {st : StageId} (hf : s.blk.ctl.fnExists (st.val + 1) = true) (hr : s.blk.ctl.boot.running = .none) :
    ∃ b, Runs (.vfFlr st) s b ∧ b.ctl.get (stagePage st) F.STAGE_BAR2_BASE_GIB = 0 ∧ b.ctl.stState st = 5 ∧
      b.ctl.host.msixEn.contains (st.val + 1) = false ∧ (∀ x ∈ b.ctl.host.table, x.1 ≠ st.val + 1) ∧
      ∀ r ∈ b.ctl.mgmt.reads, r.stage ≠ st.val := by
  have hk := Ctl.PcieKept.stageReset (b := s.blk.onCtl fun c => c.vfCleared st) (s := st) .refl
  have hbar : bar2Reg (stagePage st + 0x1C0) := ⟨by have := stagePage_mod st; omega, addrTile_stage st.isLt (by decide)⟩
  refine ⟨_, vfFlr_runs hf hr, ?_, Blk.stageReset_stState _ _, ?_, ?_, ?_⟩
  · rw [Ctl.get_congr (hk.rd _ hbar), Blk.onCtl_ctl, Ctl.get_vfCleared]
  · rw [hk.msixEn]
    simp [Ctl.vfCleared, Ctl.wr]
  · rw [hk.table]
    simp [Ctl.vfCleared, Ctl.wr]
  · rw [hk.reads]
    simp [Ctl.vfCleared, Ctl.wr]

/-! ### The link (13 R339, R348) -/

/-- The link up at a rate and width. -/
def Ctl.linkAt (c : Ctl) (speed width flit : Nat) : Ctl :=
  ((((c.put pciePage F.PCIE_STATUS_DL_UP 1).put pciePage F.PCIE_STATUS_FLIT flit).put pciePage F.PCIE_STATUS_SPEED speed).put pciePage
    F.PCIE_STATUS_WIDTH width).raise pciePage 1

/-- The rate and the width the link of an option block comes up at at most. -/
def linkTop (o : Word) : Nat := if bits o 2 0 = 0 ∨ bits o 2 0 = 7 then 6 else bits o 2 0
def linkWide (o : Word) : Nat := if [1, 2, 4, 8, 16].contains (bits o 8 4) then bits o 8 4 else 16

/-- The link does not come up now, or not at this rate and width. -/
def Ctl.linkBarred (c : Ctl) (speed width : Nat) : Bool :=
  c.boot.perstLow || c.boot.resetLow || c.boot.held || decide (c.phase < 2 ∧ !c.ready) || decide (linkTop (c.option 2) < speed) ||
    decide (linkWide (c.option 2) < width) || c.flag pciePage F.PCIE_STATUS_DL_UP

theorem Ctl.linkBarred_excess {c : Ctl} {speed width : Nat} (h : linkTop (c.option 2) < speed ∨ linkWide (c.option 2) < width) :
    c.linkBarred speed width = true := by
  obtain h | h := h <;> simp [Ctl.linkBarred, h]

theorem Ctl.linkBarred_free {c : Ctl} {speed width : Nat} (hp : c.boot.perstLow = false) (hl : c.boot.resetLow = false)
    (hh : c.boot.held = false) (hr : 2 ≤ c.phase ∨ c.ready = true) (hu : c.flag pciePage F.PCIE_STATUS_DL_UP = false)
    (hs : speed ≤ linkTop (c.option 2)) (hw : width ≤ linkWide (c.option 2)) : c.linkBarred speed width = false := by
  have hn : ¬ (c.phase < 2 ∧ (!c.ready) = true) := by
    rintro ⟨h2, hn⟩
    rcases hr with h | h
    · omega
    · simp [h] at hn
  simp only [Ctl.linkBarred, hp, hl, hh, hu, decide_eq_false hn, decide_eq_false (not_lt.2 hs), decide_eq_false (not_lt.2 hw), Bool.or_self]

theorem pcieLinkUp_eq (speed : Fin 6) (width : Fin 5) (flit : Bool) (s : State) : exec (.pcieLinkUp speed width flit) s =
    s.on fun b => b.onCtl fun c => if c.linkBarred (speed.val + 1) (2 ^ width.val) then c
      else c.linkAt (speed.val + 1) (2 ^ width.val) (ofBool (flit || speed.val + 1 == 6)) := rfl

section
variable {s : State} {speed : Fin 6} {width : Fin 5} (flit : Bool)

theorem pcieLinkUp_free (h : s.blk.ctl.linkBarred (speed.val + 1) (2 ^ width.val) = false) : Runs (.pcieLinkUp speed width flit) s
    (s.blk.onCtl fun c => c.linkAt (speed.val + 1) (2 ^ width.val) (ofBool (flit || speed.val + 1 == 6))) := by
  rw [runs_iff_of_on (pcieLinkUp_eq speed width flit s)]
  simp only [Blk.onCtl, h, Bool.false_eq_true, if_false]

theorem pcieLinkUp_barred (h : s.blk.ctl.linkBarred (speed.val + 1) (2 ^ width.val) = true) :
    Runs (.pcieLinkUp speed width flit) s s.blk := by
  rw [runs_iff_of_on (pcieLinkUp_eq speed width flit s)]
  simp only [Blk.onCtl, h, if_true]

end

section
variable (c : Ctl) (speed width flit : Nat)

/-- The cause that follows leaves the link's status. -/
theorem Ctl.rd_linkAt : (c.linkAt speed width flit).rd (pciePage + 0x14) =
    ((((c.put pciePage F.PCIE_STATUS_DL_UP 1).put pciePage F.PCIE_STATUS_FLIT flit).put pciePage F.PCIE_STATUS_SPEED speed).put pciePage
      F.PCIE_STATUS_WIDTH width).rd (pciePage + 0x14) :=
  (Ctl.rd_raise _ _ _ _).trans (if_neg (by decide))

theorem Ctl.linkAt_up : (c.linkAt speed width flit).flag pciePage F.PCIE_STATUS_DL_UP = true := by
  rw [Ctl.flag_congr (f := F.PCIE_STATUS_DL_UP) (Ctl.rd_linkAt c speed width flit), Ctl.flag_put_apart _ _ _ _ _ (.inr (by decide)),
    Ctl.flag_put_apart _ _ _ _ _ (.inr (by decide)), Ctl.flag_put_apart _ _ _ _ _ (.inr (by decide)), Ctl.flag_put_same _ _ _ _ (by decide)]
  rfl

theorem Ctl.linkAt_speed (h : speed < 8) : (c.linkAt speed width flit).get pciePage F.PCIE_STATUS_SPEED = speed := by
  rw [Ctl.get_congr (f := F.PCIE_STATUS_SPEED) (Ctl.rd_linkAt c speed width flit)]
  refine (Ctl.getN_putN_apart _ _ _ _ _ _ _ _ (.inr (by decide))).trans ?_
  exact (Ctl.get_put_same _ _ _ _ (by decide)).trans (Nat.mod_eq_of_lt h)

theorem Ctl.linkAt_width (h : width < 32) : (c.linkAt speed width flit).get pciePage F.PCIE_STATUS_WIDTH = width := by
  rw [Ctl.get_congr (f := F.PCIE_STATUS_WIDTH) (Ctl.rd_linkAt c speed width flit), Ctl.get_put_same _ _ _ _ (by decide)]
  exact Nat.mod_eq_of_lt h

end

/-- Settles O36: the configuration space is what the model lists. Setting a function's interrupts, or VF Enable, changes those alone before what
waits is sent, and sending changes only what waits and what leaves. The reset of a virtual function clears its state first, and the restart of
its stage, by `Ctl.PcieKept`, touches none of it. -/
theorem functionsAndTheLinkAreSet : Obligations.FunctionsAndTheLinkAreSet := by
  unfold Obligations.FunctionsAndTheLinkAreSet
  intro s c
  refine ⟨?_, ?_, ?_, ?_, ?_, ?_, ?_⟩
  · exact ⟨_, rfl, rfl, rfl, rfl, rfl, rfl⟩
  · intro fn hfn
    simp only [Ctl.ident, hfn, if_false]
    split_ifs
    · exact ⟨_, rfl, rfl, rfl, rfl⟩
    · rfl
  · intro en n
    refine ⟨fun h => ⟨_, vfEnable_sriov h en n, ⟨rfl, rfl⟩, Ctl.sendWaiting_regs _, Ctl.sendWaiting_vfEnable _, ?_⟩, fun h => vfEnable_none h en n⟩
    exact Ctl.sendWaiting_numVfs _
  · intro fn en masked table hf
    refine ⟨_, msiXEnable_runs hf en masked table, ⟨rfl, rfl⟩, ?_⟩
    simp only [Blk.onCtl_ctl, Ctl.sendWaiting_regs, Ctl.sendWaiting_msixEn, Ctl.sendWaiting_masked, Ctl.sendWaiting_table]
    refine ⟨rfl, HostIf.setFunction_enabled _ _ _ _ _, HostIf.setFunction_masked _ _ _ _ _, HostIf.setFunction_table _ _ _ _ _, ?_⟩
    rintro p hp ho rfl hv
    obtain ⟨h, hh, e⟩ := Ctl.withFunction_sent table hf hp ho hv
    rw [e]
    exact ⟨⟨_, rfl, fun x hx hlt => HostIf.setFunction_message _ _ _ _ _ hx hlt⟩, hh⟩
  · exact fun st => vfFlr_clears
  · intro speed width flit o top wide hp hl hh hph hup
    have hs := speed.isLt
    have hw : 2 ^ width.val < 32 := Nat.pow_lt_pow_right (by decide) width.isLt
    have hlw : wide = linkWide (c.option 2) := by simp only [wide, o, linkWide, List.contains_iff_mem]
    refine ⟨fun ht hwd => ⟨_, pcieLinkUp_free flit (Ctl.linkBarred_free hp hl hh hph hup ht (hwd.trans_eq hlw)), ⟨rfl, rfl⟩,
      Ctl.linkAt_up _ _ _ _, Ctl.linkAt_speed _ _ _ _ (by omega), Ctl.linkAt_width _ _ _ _ hw⟩, fun h => ?_⟩
    exact pcieLinkUp_barred flit (Ctl.linkBarred_excess (hlw ▸ h))
  · exact ⟨_, rfl, ⟨rfl, rfl⟩, rfl⟩

end Sys2Proof.Machine
end

section
/-!
PROOF. What reading a descriptor, issuing a step and completing one leave as they were (07 R160, R163, R164): the registers of the ARR and VEC
pages, the other tiles, and what the tile holds beside its queues.
-/
namespace Sys2Proof.Machine

/-! ### Registers of the ARR and VEC pages -/

/-- A register of the ARR or the VEC page of tile `t`. -/
abbrev engineReg (t a : Nat) : Prop := arrPage t ≤ a ∧ a < spdPage t

/-- A page that holds no register of tile `t`'s ARR and VEC pages. -/
abbrev sidePage (t p : Nat) : Prop := p + 0x1000 ≤ arrPage t ∨ spdPage t ≤ p

/-- `d` follows from `c` with the registers of tile `t`'s ARR and VEC pages as they were. -/
def Ctl.EnginesKept (t : Nat) (c d : Ctl) : Prop := ∀ a, engineReg t a → d.rd a = c.rd a

theorem seqPage_side (t : Nat) : sidePage t (seqPage t) := by
  simp only [sidePage, seqPage, arrPage, spdPage, tilePage]
  omega

theorem spdPage_side (t : Nat) : sidePage t (spdPage t) := .inr le_rfl

theorem slatePage_side (t : Nat) : sidePage t (slatePage t) := by
  simp only [sidePage, slatePage, arrPage, spdPage, tilePage]
  omega

theorem perfPage_side (t : Nat) : sidePage t (perfPage t) := by
  simp only [sidePage, perfPage, arrPage, spdPage, tilePage]
  omega

section
variable {t : Nat} {c d e : Ctl}

theorem Ctl.EnginesKept.refl : c.EnginesKept t c := fun _ _ => rfl

theorem Ctl.EnginesKept.trans (h : c.EnginesKept t d) (g : d.EnginesKept t e) : c.EnginesKept t e :=
  fun a ha => (g a ha).trans (h a ha)

theorem Ctl.EnginesKept.foldl {α : Type} {f : Ctl → α → Ctl} {l : List α} (h : c.EnginesKept t d)
    (hf : ∀ (d : Ctl) (x : α), d.EnginesKept t (f d x)) : c.EnginesKept t (l.foldl f d) :=
  List.foldlRecOn l f h fun d h x _ => h.trans (hf d x)

theorem Ctl.EnginesKept.wr {a : Nat} {w : Word} (h : c.EnginesKept t d) (ha : ¬ engineReg t a) : c.EnginesKept t (d.wr a w) := by
  refine h.trans fun b hb => ?_
  rw [Ctl.rd_wr, if_neg]
  rintro rfl
  exact ha hb

theorem Ctl.EnginesKept.putN {p n v : Nat} {f : Fld} (h : c.EnginesKept t d) (hp : sidePage t p) (hf : f.off + n * f.stride < 0x1000) :
    c.EnginesKept t (d.putN p f n v) := h.wr (by omega)

theorem Ctl.EnginesKept.bump {p n : Nat} {f : Fld} (h : c.EnginesKept t d) (hp : sidePage t p) (hf : f.off < 0x1000) :
    c.EnginesKept t (d.bump p f n) := h.putN hp (by omega)

theorem Ctl.EnginesKept.add64 {p n v : Nat} {f : Fld} (h : c.EnginesKept t d) (hp : sidePage t p)
    (hf : f.off + n * f.stride + 4 < 0x1000) : c.EnginesKept t (d.add64 p f v n) := (h.wr (by omega)).wr (by omega)

theorem Ctl.EnginesKept.raise {p n : Nat} (h : c.EnginesKept t d) (hp : sidePage t p) : c.EnginesKept t (d.raise p n) := by
  refine h.trans fun a ha => ?_
  rw [Ctl.rd_raise, if_neg]
  omega

/-- A register past a page's header is none that counting an error concerns. -/
theorem not_mem_errRegs {p a : Nat} (ha : a ∉ [p + 0x18, p + 0x20, p + 0x24]) (ht : 0x8000000 ≤ a) : a ∉ errRegs p := by
  simp only [errRegs, devPage, logPage, List.mem_cons, List.not_mem_nil, or_false] at ha ⊢
  omega

theorem engineReg.le {a : Nat} (h : engineReg t a) : 0x8000000 ≤ a := by
  simp only [engineReg, arrPage, tilePage] at h
  omega

theorem Ctl.EnginesKept.errHw {p k : Nat} (h : c.EnginesKept t d) (hp : sidePage t p) : c.EnginesKept t (d.errHw p k) := by
  refine h.trans fun a ha => Ctl.rd_errHw _ _ _ (not_mem_errRegs ?_ ha.le)
  simp only [List.mem_cons, List.not_mem_nil, or_false]
  omega

theorem Ctl.EnginesKept.perf {k n : Nat} (h : c.EnginesKept t d) : c.EnginesKept t (d.perf t k n) := by
  rw [Ctl.perf]
  split_ifs
  · exact h
  · refine List.foldlRecOn (motive := c.EnginesKept t) _ _ h fun d hd i hi => ?_
    have := List.mem_range.1 hi
    split_ifs
    · exact hd.add64 (perfPage_side t) (by simp only [F.PERF_EVT_LO_COUNT_LO]; omega)
    · exact hd

/-! ### What a read of the scratchpad counts (06 R150) -/

theorem Ctl.EnginesKept.countCold {n : Nat} (h : c.EnginesKept t d) : c.EnginesKept t (d.countCold t n) := by
  have hb := h.bump (n := n) (f := F.SPD_COLD_READS) (spdPage_side t) (by decide)
  simp only [Ctl.countCold]
  split_ifs
  · exact h
  · exact hb.raise (spdPage_side t)
  · exact hb

theorem Ctl.EnginesKept.countEcc {x : Ecc} (h : c.EnginesKept t d) : c.EnginesKept t (d.countEcc t x) := by
  have hp := spdPage_side t
  cases x with
  | ok => exact h
  | onDie => exact h
  | corr => exact .raise (.bump h hp (by decide)) hp
  | uncorr => exact .raise (.errHw (.bump h hp (by decide)) hp) hp

theorem Ctl.EnginesKept.countEccs {l : List (Nat × Ecc)} (h : c.EnginesKept t d) : c.EnginesKept t (d.countEccs t l) :=
  h.foldl fun _ _ => .countEcc .refl

/-! ### Tokens of a step (07 R163) -/

/-- A field of the state of the channel that four bits of a header name. -/
theorem Ctl.EnginesKept.putCh {w : Word} {hi lo v : Nat} {f : Fld} (h : c.EnginesKept t d) (hn : hi + 1 - lo = 4) (hf : f.off = 0xA0)
    (hs : f.stride = 4) : c.EnginesKept t (d.putN (seqPage t) f (bits w hi lo) v) := by
  have hb : bits w hi lo < 2 ^ 4 := hn ▸ bits_lt w hi lo
  exact h.putN (seqPage_side t) (by rw [hf, hs]; omega)

theorem Ctl.EnginesKept.stepIssue {w : Word} (h : c.EnginesKept t d) : c.EnginesKept t (d.stepIssue t w) := by
  simp only [Ctl.stepIssue]
  split_ifs
  · exact h
  · exact h.putCh rfl rfl rfl
  · exact h.putCh rfl rfl rfl
  · exact (h.putCh rfl rfl rfl).putCh rfl rfl rfl

theorem Ctl.EnginesKept.stepTokens {w : Word} (h : c.EnginesKept t d) : c.EnginesKept t (d.stepTokens t w) := by
  simp only [Ctl.stepTokens]
  split_ifs
  · exact h
  · exact h.putCh rfl rfl rfl
  · exact h.putCh rfl rfl rfl
  · exact (h.putCh rfl rfl rfl).putCh rfl rfl rfl

end

end Sys2Proof.Machine
end

section
/-!
PROOF. A tile's queues: what an operation on one leaves of the tile and of the other queues, and the descriptor at the head taken (07 R160,
R163, R169).
-/
namespace Sys2Proof.Machine

/-! ### The other tiles -/

section
variable {a b c : Blk} {t : Nat}

theorem SameOthers.refl : SameOthers a a t := ⟨fun _ _ => rfl, rfl⟩

theorem SameOthers.trans (h : SameOthers a b t) (g : SameOthers b c t) : SameOthers a c t :=
  ⟨fun u hu => (g.1 u hu).trans (h.1 u hu), g.2.trans h.2⟩

theorem SameOthers.onCtl (h : SameOthers a b t) (f : Ctl → Ctl) : SameOthers a (b.onCtl f) t := h

theorem SameOthers.setTile (h : SameOthers a b t) (x : Tile) : SameOthers a (b.setTile t x) t :=
  ⟨fun u hu => by rw [Blk.setTile_tile, if_neg hu, h.1 u hu], h.2⟩

theorem SameOthers.onTile (h : SameOthers a b t) (f : Tile → Tile) : SameOthers a (b.onTile t f) t := h.setTile _

theorem SameOthers.of_sameStore (h : SameStore a b) : SameOthers a b t :=
  ⟨fun u _ => by rw [Blk.tile, h.1, Blk.tile], h.2⟩

end

theorem Blk.setTile_tile_same (b : Blk) (t : Nat) (x : Tile) : (b.setTile t x).tile t = x := by rw [Blk.setTile_tile, if_pos rfl]
theorem Blk.onTile_tile_same (b : Blk) (t : Nat) (f : Tile → Tile) : (b.onTile t f).tile t = f (b.tile t) := b.setTile_tile_same t _

/-! ### What a tile holds beside its queues -/

/-- A tile but for what issuing and completing steps changes. -/
def Tile.sansSteps (x : Tile) : Tile := { x with queues := [], probing := false, edges := [], fresh := [], rearm := [] }

/-- A tile but for what its units' steps and reads of the scratchpad change. -/
def Tile.bare (x : Tile) : Tile := { x.sansSteps with sp := { x.sp with reqs := [], staged := [] } }

section
variable {x y : Tile}

theorem Tile.bare_of_sansSteps (h : y.sansSteps = x.sansSteps) : y.bare = x.bare :=
  congrArg (fun z : Tile => { z with sp := { z.sp with reqs := [], staged := [] } }) h

theorem Tile.sp_of_sansSteps (h : y.sansSteps = x.sansSteps) : y.sp = x.sp := (congrArg Tile.sp h :)
theorem Tile.part_of_bare (h : y.bare = x.bare) : y.part = x.part := (congrArg Tile.part h :)
theorem Tile.fly_of_bare (h : y.bare = x.bare) : y.fly = x.fly := (congrArg Tile.fly h :)
theorem Tile.wbufs_of_bare (h : y.bare = x.bare) : y.wbufs = x.wbufs := (congrArg Tile.wbufs h :)
theorem Tile.curBlk_of_bare (h : y.bare = x.bare) : y.curBlk = x.curBlk := (congrArg Tile.curBlk h :)
theorem Tile.acc_of_bare (h : y.bare = x.bare) : y.acc = x.acc := (congrArg Tile.acc h :)
theorem Tile.vec_of_bare (h : y.bare = x.bare) : y.vec = x.vec := (congrArg Tile.vec h :)
theorem Tile.mem_of_bare (h : y.bare = x.bare) : y.sp.mem = x.sp.mem := (congrArg (fun z : Tile => z.sp.mem) h :)
theorem Tile.feeder_of_bare (h : y.bare = x.bare) (f : Nat) : y.feeder f = x.feeder f := (congrArg (fun z : Tile => z.feeder f) h :)

end

/-! ### Queues -/

theorem Tile.queue_setQueue_other (x : Tile) {u v : Nat} (q : Queue) (h : v ≠ u) : (x.setQueue u q).queue v = x.queue v := by
  simp only [Tile.queue, Tile.setQueue, List.getD_eq_getElem?_getD, List.getElem?_set_ne h.symm]

theorem Tile.queue_setQueue_same (x : Tile) {u : Nat} (q : Queue) (h : u < x.queues.length) : (x.setQueue u q).queue u = q := by
  simp only [Tile.queue, Tile.setQueue, List.getD_eq_getElem?_getD, List.getElem?_set_self h, Option.getD_some]

theorem Tile.length_setQueue (x : Tile) (u : Nat) (q : Queue) : (x.setQueue u q).queues.length = x.queues.length :=
  List.length_set

/-- A queue that is not the default one is there. -/
theorem Tile.queue_lt {x : Tile} {u : Nat} (h : x.queue u ≠ {}) : u < x.queues.length := by
  by_contra hu
  exact h (by rw [Tile.queue, List.getD_eq_getElem?_getD, List.getElem?_eq_none (by omega)]; rfl)

@[simp] theorem Queue.retire_hdrs (q : Queue) : q.retire.hdrs = q.hdrs := by
  rw [Queue.retire]
  split
  · split_ifs <;> rfl
  · rfl

@[simp] theorem Queue.retire_halted (q : Queue) : q.retire.halted = q.halted := by
  rw [Queue.retire]
  split
  · split_ifs <;> rfl
  · rfl

/-- A queue without a descriptor at its head has none to make way. -/
theorem Queue.retire_of_cur_none {q : Queue} (h : q.cur = none) : q.retire = q := by
  rw [Queue.retire, h]

/-- Making way moves a descriptor with steps to complete among those issued whole; none is lost or found. -/
theorem Queue.retire_incomplete (q : Queue) :
    (q.retire.drain ++ q.retire.cur.toList).find? (fun d => decide (d.done < d.steps)) =
      (q.drain ++ q.cur.toList).find? fun d => decide (d.done < d.steps) := by
  rw [Queue.retire]
  split
  · next d hd =>
    split_ifs with h1 h2
    · rfl
    · simp [hd]
    · simp [hd, h2]
  · rfl

/-- Descriptor `d` at the head of a queue with a free head, and its header gone from the prefetched ones. -/
def Queue.taking (q : Queue) (d : Desc) (n : Nat) : Queue :=
  { q with cur := some { d with steps := n }, hdrs := q.hdrs.drop 1, body := none, waiting := false, released := false, ser := q.ser + 1 }

/-! ### The descriptor at the head (07 R160, R163, R169) -/

/-- `b'` follows from `b` by the reading of the body at the head of queue `u` of tile `t`: the head is free, and nothing of the tile changes
but that queue and the requests at the scratchpad's ports. -/
structure Blk.HeadRead (t u : Nat) (b b' : Blk) : Prop where
  others : SameOthers b b' t
  bare : (b'.tile t).bare = (b.tile t).bare
  engines : b.ctl.EnginesKept t b'.ctl
  there : u < (b'.tile t).queues.length
  free : ((b.tile t).queue u).retire.cur = none
  goes : ((b.tile t).queue u).halted = false
  own : ∃ ws, ((b'.tile t).queue u).retire = { ((b.tile t).queue u).retire with body := ws }
  queue : ∀ v, v ≠ u → (b'.tile t).queue v = (b.tile t).queue v

/-- A read of the scratchpad by a unit. -/
theorem Blk.spRead_eq (b : Blk) (t a n : Nat) (e : List Ecc) : ∃ c l, b.ctl.EnginesKept t c ∧
    (b.spRead t a n e).2 = ({ b with ctl := c } : Blk).setTile t { b.tile t with sp := { (b.tile t).sp with reqs := l } } :=
  ⟨_, _, .countEccs (.countCold .refl), rfl⟩

theorem Blk.readBody_some {b b' : Blk} {t u : Nat} {q : Queue} {e : List Ecc} {ws : List Word} (h : b.readBody t u q e = (some ws, b')) :
    (q.body = some ws ∧ b' = b) ∨ ∃ c l, b.ctl.EnginesKept t c ∧ b' = (({ b with ctl := c } : Blk).setTile t
      { b.tile t with sp := { (b.tile t).sp with reqs := l } }).onTile t fun x => x.setQueue u { q with body := some ws } := by
  simp only [Blk.readBody] at h
  split at h
  · next v hv =>
    injection h with h1 h2
    exact .inl ⟨hv.trans h1, h2.symm⟩
  · obtain ⟨c, l, hc, hb⟩ := b.spRead_eq t (q.slot (q.next - q.hdrs.length) + 4) (4 * unitWords u) e
    split_ifs at h with hp
    · injection h with h1; cases h1
    · injection h with h1 h2
      injection h1 with h1
      subst h1
      exact .inr ⟨c, l, hc, by rw [← h2, hb]⟩

/-- A queue with a header prefetched is there. -/
theorem Tile.queue_lt_of_hdrs {x : Tile} {u : Nat} {h : Word × Bool} {l : List (Word × Bool)} (hh : (x.queue u).hdrs = h :: l) :
    u < x.queues.length := by
  refine Tile.queue_lt fun he => ?_
  rw [he] at hh
  cases hh

/-- A queue with a descriptor at its head is there. -/
theorem Tile.queue_lt_of_cur {x : Tile} {u : Nat} {d : Desc} (hd : (x.queue u).cur = some d) : u < x.queues.length := by
  refine Tile.queue_lt fun he => ?_
  rw [he] at hd
  cases hd

theorem Blk.readBody_headRead {b b' : Blk} {t u : Nat} {e : List Ecc} {ws : List Word} (hg : ((b.tile t).queue u).halted = false)
    (hf : ((b.tile t).queue u).retire.cur = none) (hl : u < (b.tile t).queues.length)
    (h : b.readBody t u ((b.tile t).queue u).retire e = (some ws, b')) : b.HeadRead t u b' := by
  rcases Blk.readBody_some h with ⟨hb, rfl⟩ | ⟨c, l, hc, rfl⟩
  · exact ⟨.refl, rfl, .refl, hl, hf, hg, ⟨some ws, by rw [← hb]⟩, fun _ _ => rfl⟩
  · refine ⟨SameOthers.onTile (SameOthers.setTile ⟨fun _ _ => rfl, rfl⟩ _) _, ?_, hc, ?_, hf, hg, ⟨some ws, ?_⟩, fun v hv => ?_⟩
    all_goals rw [Blk.onTile_tile_same, Blk.setTile_tile_same]
    · rfl
    · rw [Tile.length_setQueue]
      exact hl
    · rw [Tile.queue_setQueue_same _ _ (by exact hl), Queue.retire_of_cur_none (by exact hf)]
    · exact Tile.queue_setQueue_other _ _ hv

/-- A descriptor ready for its unit's checks was read at the head of a queue that is not halted. -/
theorem Blk.takeHead_headRead {b b' : Blk} {t u : Nat} {e : List Ecc} {d : Desc} (h : b.takeHead t u e = .ready d b') :
    b.HeadRead t u b' := by
  simp only [Blk.takeHead] at h
  split at h
  · next hd bad l hg hf hh =>
    rw [Queue.retire_halted] at hg
    rw [Queue.retire_hdrs] at hh
    split_ifs at h
    · split at h <;> cases h
    · split at h
      · cases h
      · next ws b'' hr =>
        injection h with h1 h2
        subst h2
        exact Blk.readBody_headRead hg hf (Tile.queue_lt_of_hdrs hh) hr
  · cases h

/-! ### What a descriptor read leaves as it was, and the descriptor installed -/

section
variable {b b' : Blk} {t u : Nat} (h : b.HeadRead t u b')
include h

/-- Of a queue's drain and head, as of `retire`, nothing changes. -/
theorem Blk.HeadRead.retire_eq (v : Nat) :
    ∃ ws, ((b'.tile t).queue v).retire = { ((b.tile t).queue v).retire with body := ws } := by
  by_cases hv : v = u
  · subst hv
    exact h.own
  · exact ⟨((b.tile t).queue v).retire.body, by rw [h.queue v hv]⟩

theorem Blk.HeadRead.feederHead (f : Nat) : (b'.tile t).feederHead f = (b.tile t).feederHead f := by
  obtain ⟨ws, hq⟩ := h.retire_eq (f + 2)
  simp only [Tile.feederHead, Tile.feederDescs]
  rw [← Queue.retire_incomplete ((b'.tile t).queue (f + 2)), hq]
  exact Queue.retire_incomplete _

theorem Blk.HeadRead.arrHalted : b'.arrHalted t = b.arrHalted t :=
  Ctl.flag_congr (h.engines _ (by simp only [engineReg, F.ARR_HALT_INFO_VALID, arrPage, spdPage, tilePage]; omega))

/-- The instruction whose rows enter is that before, where the queue read is not the arrays'. -/
theorem Blk.HeadRead.entering (hu : u ≠ 4) : b'.entering t = b.entering t := by
  rw [Blk.entering, Blk.entering, Tile.part_of_bare h.bare, Blk.current, Blk.current, h.queue 4 hu.symm]

theorem Blk.HeadRead.install_queue (d : Desc) (n v : Nat) :
    ((b'.install t u d n).tile t).queue v = if v = u then ((b.tile t).queue u).retire.taking d n else (b.tile t).queue v := by
  obtain ⟨ws, hq⟩ := h.own
  rw [Blk.install, Blk.onTile_tile_same]
  split_ifs with hv
  · subst hv
    rw [Tile.queue_setQueue_same _ _ h.there, hq]
    rfl
  · rw [Tile.queue_setQueue_other _ _ hv, h.queue v hv]

theorem Blk.HeadRead.install_others (d : Desc) (n : Nat) : SameOthers b (b'.install t u d n) t := h.others.onTile _

theorem Blk.HeadRead.install_bare (d : Desc) (n : Nat) : ((b'.install t u d n).tile t).bare = (b.tile t).bare := by
  rw [Blk.install, Blk.onTile_tile_same]
  exact h.bare

end

end Sys2Proof.Machine
end

section
/-!
PROOF. What issuing and completing steps, streaming reads of the scratchpad and halts leave as they were (06 R143, 07 R163, R164, R169).
-/
namespace Sys2Proof.Machine

/-! ### Steps issued and completed (07 R163, R164) -/

/-- `b` follows from `a` by issuing and completing steps of tile `t`: what the steps do of their own apart, only its queues, the probe and the
slate's pending work change, and no register of the ARR and VEC pages. -/
structure Blk.Stepped (t : Nat) (a b : Blk) : Prop where
  others : SameOthers a b t
  sans : (b.tile t).sansSteps = (a.tile t).sansSteps
  engines : a.ctl.EnginesKept t b.ctl

section
variable {a b c : Blk} {t : Nat}

theorem Blk.Stepped.refl : a.Stepped t a := ⟨.refl, rfl, .refl⟩

theorem Blk.Stepped.trans (h : a.Stepped t b) (g : b.Stepped t c) : a.Stepped t c :=
  ⟨h.others.trans g.others, g.sans.trans h.sans, h.engines.trans g.engines⟩

theorem Blk.Stepped.onCtl (h : a.Stepped t b) {f : Ctl → Ctl} (hf : b.ctl.EnginesKept t (f b.ctl)) : a.Stepped t (b.onCtl f) :=
  ⟨h.others, h.sans, h.engines.trans hf⟩

theorem Blk.Stepped.onTile (h : a.Stepped t b) {f : Tile → Tile} (hf : (f (b.tile t)).sansSteps = (b.tile t).sansSteps) :
    a.Stepped t (b.onTile t f) :=
  ⟨h.others.onTile _, by rw [Blk.onTile_tile_same, hf, h.sans], h.engines⟩

theorem Blk.Stepped.bare (h : a.Stepped t b) : (b.tile t).bare = (a.tile t).bare := Tile.bare_of_sansSteps h.sans

theorem Blk.issue_stepped (b : Blk) (t u : Nat) (d : Desc) : b.Stepped t (b.issue t u d) := by
  have h : b.Stepped t (b.onCtl fun c => c.stepIssue t d.hdr) := Blk.Stepped.refl.onCtl (.stepIssue .refl)
  rw [Blk.issue, Blk.unprobe]
  refine .onTile (.onTile ?_ ?_) ?_
  rotate_left
  · rfl
  · rfl
  split_ifs
  · exact h.onCtl (.bump .refl (seqPage_side t) (by decide))
  · exact h

theorem Blk.issueTo_stepped (t u k n : Nat) (b : Blk) : b.Stepped t (b.issueTo t u k n) := by
  induction n generalizing b with
  | zero => exact .refl
  | succ n ih =>
    rw [Blk.issueTo]
    split
    · split_ifs
      · exact (b.issue_stepped t u _).trans (ih _)
      · exact .refl
    · exact .refl

theorem Blk.slateAdd_stepped (b : Blk) (t v : Nat) {n : Nat} (hn : n < 16) : b.Stepped t (b.slateAdd t n v) := by
  have put {c : Ctl} {w : Nat} {f : Fld} (hf : f.off < 0x50) (hs : f.stride = 16) : c.EnginesKept t (c.putN (slatePage t) f n w) :=
    Ctl.EnginesKept.refl.putN (slatePage_side t) (by rw [hs]; omega)
  have h : b.Stepped t (b.onCtl fun c => c.putN (slatePage t) F.SLATE_COUNT_COUNT n (c.getN (slatePage t) F.SLATE_COUNT_COUNT n + v)) :=
    Blk.Stepped.refl.onCtl (put (by decide) rfl)
  simp only [Blk.slateAdd]
  split_ifs
  · rw [Blk.slateReach]
    refine .onTile (.onCtl h (put ?_ ?_)) ?_
    · decide
    · rfl
    · rfl
  · exact h

theorem Blk.complete_stepped (t u n : Nat) (b : Blk) (d : Desc) : b.Stepped t (b.complete t u d n) := by
  induction n generalizing b d with
  | zero => exact Blk.Stepped.refl.onTile rfl
  | succ n ih =>
    refine .trans ?_ (ih _ _)
    have h : b.Stepped t (b.onCtl fun c => c.stepTokens t d.hdr) := Blk.Stepped.refl.onCtl (.stepTokens .refl)
    split_ifs
    · exact h.trans (Blk.slateAdd_stepped _ _ _ (bits_lt d.hdr 4 1))
    · exact h

theorem Blk.stepDone_stepped (b : Blk) (t u ser : Nat) : b.Stepped t (b.stepDone t u ser) := by
  rw [Blk.stepDone]
  split
  · exact b.complete_stepped t u 1 _
  · exact .refl

end

/-! ### Streaming reads (06 R143, R150) -/

/-- `b` follows from `a` by reads of tile `t`'s scratchpad: the requests at its ports and the rows its units hold may change, and registers. -/
structure Blk.Streamed (t : Nat) (a b : Blk) : Prop where
  others : SameOthers a b t
  bare : (b.tile t).bare = (a.tile t).bare

section
variable {a b c : Blk} {t : Nat}

theorem Blk.Streamed.refl : a.Streamed t a := ⟨.refl, rfl⟩
theorem Blk.Streamed.trans (h : a.Streamed t b) (g : b.Streamed t c) : a.Streamed t c := ⟨h.others.trans g.others, g.bare.trans h.bare⟩
theorem Blk.Stepped.streamed (h : a.Stepped t b) : a.Streamed t b := ⟨h.others, h.bare⟩

theorem Blk.stagedPart_streamed (b : Blk) (t u ser row lo hi : Nat) (e : List Ecc) :
    b.Streamed t (b.stagedPart t u ser row lo hi e).blk := by
  refine ⟨SameOthers.setTile ⟨fun _ _ => rfl, rfl⟩ _, ?_⟩
  rw [Blk.stagedPart, Blk.setTile_tile_same]
  rfl

theorem Blk.stagedRead_streamed (b : Blk) (t u ser a n : Nat) (e : List Ecc) : b.Streamed t (b.stagedRead t u ser a n e).blk := by
  rw [Blk.stagedRead]
  split_ifs
  · exact .refl
  · exact List.foldlRecOn (motive := fun f : Fetched => b.Streamed t f.blk) _ _ .refl
      fun f hf i _ => hf.trans (f.blk.stagedPart_streamed t u ser _ _ _ _)

end

/-! ### Halts (03 R81, 07 R169) -/

section
variable {t : Nat}

theorem Ctl.EnginesKept.seqHaltInfo {c d : Ctl} {u code : Nat} {src : Bool} (h : c.EnginesKept t d) :
    c.EnginesKept t (d.seqHaltInfo t u code src) := by
  have hp := seqPage_side t
  refine .raise ?_ hp
  split_ifs
  · exact h
  · exact h.wr (by simp only [F.SEQ_HALT_INFO]; omega)

/-- A halt's word has VALID set. -/
theorem bits_haltWord {code : Nat} (h : code < 0x8000) : bits (BitVec.ofNat 32 (0x80000000 + code * 0x10000)) 31 31 = 1 := by
  rw [bits, BitVec.toNat_ofNat, Nat.mod_eq_of_lt (by omega), Nat.shiftRight_eq_div_pow]
  omega

/-- A register past the header of an engine's page survives a halt's count and cause. -/
theorem Ctl.rd_halted (c : Ctl) {p code u off : Nat} (hp : p = arrPage t ∨ p = vecPage t) (h1 : 0x28 ≤ off) (h2 : off < 0x1000) :
    (((c.errHw p code).raise p 1).seqHaltInfo t u code true).rd (p + off) = c.rd (p + off) := by
  have hr : engineReg t (p + off) := by
    simp only [engineReg, arrPage, vecPage, spdPage, tilePage] at hp ⊢
    omega
  rw [Ctl.EnginesKept.refl.seqHaltInfo _ hr, Ctl.rd_raise, if_neg (by omega), Ctl.rd_errHw _ _ _ (not_mem_errRegs ?_ hr.le)]
  simp only [List.mem_cons, List.not_mem_nil, or_false]
  omega

variable {b : Blk} {u code : Nat}

/-- The first halt of the arrays by queue 4 is shown with its code. -/
theorem Blk.rd_arrHalt (hv : b.arrHalted t = false) :
    (b.arrHalt t 4 code).ctl.rd (arrPage t + 0x60) = BitVec.ofNat 32 (0x80000000 + code * 0x10000) := by
  have hv : b.ctl.flag (arrPage t) F.ARR_HALT_INFO_VALID = false := hv
  simp only [Blk.arrHalt, Blk.onCtl_ctl, Blk.onTile_ctl]
  rw [Ctl.rd_halted _ (.inl rfl) (by decide) (by decide)]
  simp [hv, F.ARR_HALT_INFO]

theorem Blk.arrHalted_arrHalt (hv : b.arrHalted t = false) (hc : code < 0x8000) : (b.arrHalt t 4 code).arrHalted t = true := by
  have h : (b.arrHalt t 4 code).ctl.get (arrPage t) F.ARR_HALT_INFO_VALID = 1 :=
    (congrArg (fun w => bits w 31 31) (Blk.rd_arrHalt hv)).trans (bits_haltWord hc)
  rw [Blk.arrHalted, Ctl.flag, h]
  rfl

theorem Blk.arrHalt_tile (b : Blk) (t u code : Nat) :
    (b.arrHalt t u code).tile t = (b.tile t).setQueue u { (b.tile t).queue u with halted := true } := by
  rw [Blk.arrHalt, Blk.onCtl_tile, Blk.onTile_tile_same]

theorem Blk.arrHalt_others (b : Blk) (t u code : Nat) : SameOthers b (b.arrHalt t u code) t := (SameOthers.refl.onTile _).onCtl _

end

end Sys2Proof.Machine
end

section
/-!
PROOF. The weight loader and the feeders (03 R75 to R78, R80, R81).
-/
namespace Sys2Proof.Machine

/-! ### The loader's next block (03 R76, R80) -/

/-- Byte rows of the block the loader's descriptor `d` names next. -/
def loadRow (d : Desc) : Nat := bits (d.w 1) 12 0 + d.issued * bits (d.w 2) 28 16

/-- The loader's next block begun in buffer `k`. -/
def Blk.beginBlock (b : Blk) (t : Nat) (d : Desc) (k : Nat) : Blk :=
  (b.issue t 1 d).onTile t fun x => { x with
    blkSer := x.blkSer + 1
    wbufs := x.wbufs.set k
      { st := 1, ser := x.blkSer, dser := d.ser, row := loadRow d, block := { fmt := bits (d.w 1) 31 28, sparse := bits (d.w 1) 27 26 } } }

/-- What the loader's start of a block can do. -/
theorem Blk.startBlock_cases (b : Blk) (t : Nat) : b.startBlock t = b ∨ (∃ code, b.startBlock t = b.arrHalt t 1 code) ∨
    ∃ d k, (b.tile t).wbufs.findIdx? (·.st == 0) = some k ∧ b.startBlock t = b.beginBlock t d k := by
  simp only [Blk.startBlock]
  split
  · next d k _ _ hk =>
    split_ifs
    · exact .inl rfl
    · exact .inr (.inl ⟨_, rfl⟩)
    · exact .inr (.inl ⟨_, rfl⟩)
    · exact .inr (.inr ⟨d, k, hk, rfl⟩)
  · exact .inl rfl

theorem Blk.startBlock_idle {b : Blk} {t : Nat} (h : b.current t 1 = none) : b.startBlock t = b := by
  simp only [Blk.startBlock, h]
  split
  · next hd _ => cases hd
  · rfl

theorem Blk.startBlock_begins {b : Blk} {t k : Nat} {d : Desc} (hv : b.arrHalted t = false) (hd : b.current t 1 = some d)
    (hk : (b.tile t).wbufs.findIdx? (·.st == 0) = some k) (h1 : ∀ w ∈ (b.tile t).wbufs, w.st ≠ 1) (ht : b.ctl.tokensReady t d.hdr = true)
    (hf : bits (d.w 1) 31 28 ≤ 0xB) (hr : (loadRow d + blockRows (bits (d.w 1) 31 28) (bits (d.w 1) 27 26)) * 512 ≤ spBytes t) :
    b.startBlock t = b.beginBlock t d k := by
  have ha : (b.tile t).wbufs.any (·.st == 1) = false := by simpa using h1
  simp only [Blk.startBlock, hv, hd, hk, ha, ht]
  rw [if_neg (by simp), if_neg (by omega), if_neg (by rw [← loadRow]; omega)]
  rfl

theorem Blk.beginBlock_others (b : Blk) (t : Nat) (d : Desc) (k : Nat) : SameOthers b (b.beginBlock t d k) t :=
  (b.issue_stepped t 1 d).others.onTile _

theorem Blk.beginBlock_wbufs (b : Blk) (t : Nat) (d : Desc) (k : Nat) : ((b.beginBlock t d k).tile t).wbufs = (b.tile t).wbufs.set k
    { st := 1, ser := (b.tile t).blkSer, dser := d.ser, row := loadRow d,
      block := { fmt := bits (d.w 1) 31 28, sparse := bits (d.w 1) 27 26 } } := by
  have h := (b.issue_stepped t 1 d).sans
  have hw : ((b.issue t 1 d).tile t).wbufs = (b.tile t).wbufs := (congrArg Tile.wbufs h :)
  have hs : ((b.issue t 1 d).tile t).blkSer = (b.tile t).blkSer := (congrArg Tile.blkSer h :)
  rw [Blk.beginBlock, Blk.onTile_tile_same, hw, hs]

theorem Blk.startBlock_others (b : Blk) (t : Nat) : SameOthers b (b.startBlock t) t := by
  rcases b.startBlock_cases t with h | ⟨code, h⟩ | ⟨d, k, -, h⟩ <;> rw [h]
  · exact .refl
  · exact b.arrHalt_others t 1 code
  · exact b.beginBlock_others t d k

/-- The loader begins a block in a free buffer only. -/
theorem Blk.startBlock_wbuf {b : Blk} {t i : Nat} {w : WBuf} (hi : (b.tile t).wbufs[i]? = some w) (hw : w.st ≠ 0) :
    ((b.startBlock t).tile t).wbufs[i]? = some w := by
  rcases b.startBlock_cases t with h | ⟨code, h⟩ | ⟨d, k, hk, h⟩ <;> rw [h]
  · exact hi
  · rw [Blk.arrHalt_tile]
    exact hi
  · obtain ⟨hlt, h0, -⟩ := List.findIdx?_eq_some_iff_getElem.1 hk
    rw [Blk.beginBlock_wbufs, List.getElem?_set_ne, hi]
    rintro rfl
    rw [List.getElem?_eq_getElem hlt] at hi
    injection hi with hi
    exact hw (by simpa [hi] using h0)

/-! ### Queue 1 while the loader begins a block -/

/-- A step issued counts at the head and leaves the rest of the queue. -/
theorem Blk.issue_queue (b : Blk) {t u : Nat} (d : Desc) (hu : u < (b.tile t).queues.length) :
    ((b.issue t u d).tile t).queue u = { (b.tile t).queue u with
      cur := ((b.tile t).queue u).cur.map fun e => if e.ser = d.ser then { e with issued := e.issued + 1 } else e } := by
  have h : ((b.issue t u d).tile t).queue u = ((b.tile t).setQueue u { (b.tile t).queue u with
      cur := ((b.tile t).queue u).cur.map fun e => if e.ser = d.ser then { e with issued := e.issued + 1 } else e }).queue u := by
    have hv : ∀ c : Blk, (if d.void then c.onCtl fun c => c.bump (seqPage t) F.SEQ_VOID_STEPS else c).tile t = c.tile t := by
      intro c
      split_ifs
      · exact c.onCtl_tile _ t
      · rfl
    simp only [Blk.issue, Blk.unprobe, Blk.onTile_tile_same, hv, Blk.onCtl_tile]
    rfl
  rw [h, Tile.queue_setQueue_same _ _ hu]

/-- Beginning a block leaves the loader's prefetched headers and of its descriptor all but the count of steps issued. -/
theorem Blk.startBlock_head {b : Blk} {t : Nat} {d : Desc} (hl : 1 < (b.tile t).queues.length) (hd : ((b.tile t).queue 1).cur = some d) :
    (((b.startBlock t).tile t).queue 1).hdrs = ((b.tile t).queue 1).hdrs ∧
      ∃ c, (((b.startBlock t).tile t).queue 1).cur = some c ∧ c.hdr = d.hdr ∧ c.words = d.words ∧ c.steps = d.steps := by
  rcases b.startBlock_cases t with h | ⟨code, h⟩ | ⟨e, k, -, h⟩ <;> rw [h]
  · exact ⟨rfl, d, hd, rfl, rfl, rfl⟩
  · rw [Blk.arrHalt_tile, Tile.queue_setQueue_same _ _ hl]
    exact ⟨rfl, d, hd, rfl, rfl, rfl⟩
  · have hq : ((b.beginBlock t e k).tile t).queue 1 = ((b.issue t 1 e).tile t).queue 1 := by
      rw [Blk.beginBlock, Blk.onTile_tile_same]
      rfl
    rw [hq, b.issue_queue e hl, hd]
    refine ⟨rfl, _, rfl, ?_⟩
    dsimp only
    split_ifs <;> exact ⟨rfl, rfl, rfl⟩

end Sys2Proof.Machine
end

section
/-!
PROOF. Weights and activations fetched (03 R75 to R78, R80, R81, 07 R163).
-/
namespace Sys2Proof.Machine

/-! ### The loader's commands -/

section
variable {s : State} {t : TileId} {e : List Ecc} {d : Desc} {b' : Blk}

theorem weightLoaderDescriptor_runs (hs : isSTile t = false) (hl : s.blk.live t = true) (hv : s.blk.arrHalted t = false)
    (hd : s.blk.takeHead t 1 e = .ready d b') :
    Runs (.weightLoaderDescriptor t e) s ((b'.install t 1 d (bits (d.w 2) 9 0 + 1)).startBlock t) := by
  show execWeightLoaderDescriptor t e s = _
  simp only [execWeightLoaderDescriptor, State.on_eq, hs, hl, hv, hd]
  rfl

theorem weightLoaderDescriptor_takes (hs : isSTile t = false) (hl : s.blk.live t = true) (hv : s.blk.arrHalted t = false)
    (hd : s.blk.takeHead t 1 e = .ready d b') : ∃ b, Runs (.weightLoaderDescriptor t e) s b ∧ SameOthers s.blk b t ∧
      ((b.tile t).queue 1).hdrs = ((s.blk.tile t).queue 1).hdrs.drop 1 ∧
      ∃ c, ((b.tile t).queue 1).cur = some c ∧ c.hdr = d.hdr ∧ c.words = d.words ∧ c.steps = bits (d.w 2) 9 0 + 1 := by
  have h := Blk.takeHead_headRead hd
  have hq := h.install_queue d (bits (d.w 2) 9 0 + 1) 1
  rw [if_pos rfl] at hq
  obtain ⟨hh, c, hc⟩ := Blk.startBlock_head (Tile.queue_lt_of_cur (congrArg Queue.cur hq)) (congrArg Queue.cur hq)
  refine ⟨_, weightLoaderDescriptor_runs hs hl hv hd, (h.install_others _ _).trans (Blk.startBlock_others _ t), ?_, c, hc⟩
  rw [hh, hq, Queue.taking, Queue.retire_hdrs]

/-- The bytes of the block that buffer `w` loads, read. -/
def Blk.readBlock (b : Blk) (t : Nat) (w : WBuf) (e : List Ecc) : Fetched :=
  b.stagedRead t 1 w.dser (w.row * 512) (blockUsed w.block.fmt w.block.sparse) e

/-- A buffer with its block's bytes. -/
def WBuf.usable (w : WBuf) (r : Run) : WBuf := { w with st := 2, block := { w.block with run := r } }

/-- The block that buffer `k` loads read and made usable. -/
def Blk.loadBlock (b : Blk) (t k : Nat) (w : WBuf) (e : List Ecc) : Blk :=
  (b.readBlock t w e).blk.onTile t fun x => { x with wbufs := x.wbufs.set k (w.usable (b.readBlock t w e).run) }

theorem Blk.loadBlock_others (b : Blk) (t k : Nat) (w : WBuf) (e : List Ecc) : SameOthers b (b.loadBlock t k w e) t :=
  (b.stagedRead_streamed t 1 _ _ _ e).others.onTile _

theorem Blk.loadBlock_wbufs (b : Blk) (t k : Nat) (w : WBuf) (e : List Ecc) :
    ((b.loadBlock t k w e).tile t).wbufs = (b.tile t).wbufs.set k (w.usable (b.readBlock t w e).run) := by
  rw [Blk.loadBlock, Blk.onTile_tile_same, Blk.readBlock, Tile.wbufs_of_bare (b.stagedRead_streamed t 1 _ _ _ e).bare]

theorem weightBlockUsable_runs {k : Nat} {w : WBuf} (hs : isSTile t = false) (hl : s.blk.live t = true)
    (hk : (s.blk.tile t).wbufs.findIdx? (·.st == 1) = some k) (hw : (s.blk.tile t).wbufs[k]? = some w) :
    Runs (.weightBlockUsable t e) s ((((s.blk.loadBlock t k w e).onCtl fun c => c.perf t 0x02 1).stepDone t 1 w.dser).startBlock t) := by
  show execWeightBlockUsable t e s = _
  have hd : (s.blk.tile t).wbufs.getD k {} = w := by rw [List.getD_eq_getElem?_getD, hw, Option.getD_some]
  simp only [execWeightBlockUsable, State.on_eq, hs, hl, hk, hd]
  rfl

/-- The block becomes usable, its step completes, and the loader, which may go on, does so in another buffer. -/
theorem weightBlockUsable_loads {k : Nat} {w : WBuf} (hs : isSTile t = false) (hl : s.blk.live t = true)
    (hk : (s.blk.tile t).wbufs.findIdx? (·.st == 1) = some k) (hw : (s.blk.tile t).wbufs[k]? = some w) :
    ∃ b, Runs (.weightBlockUsable t e) s b ∧ SameOthers s.blk b t ∧
      (b.tile t).wbufs[k]? = some (w.usable (s.blk.readBlock t w e).run) := by
  have hn := ((s.blk.loadBlock t k w e).onCtl fun c => c.perf t 0x02 1).stepDone_stepped t 1 w.dser
  refine ⟨_, weightBlockUsable_runs hs hl hk hw, (((s.blk.loadBlock_others t k w e).onCtl _).trans hn.others).trans
    (Blk.startBlock_others _ t), Blk.startBlock_wbuf ?_ (two_ne_zero : (w.usable _).st ≠ 0)⟩
  rw [Tile.wbufs_of_bare hn.bare, Blk.onCtl_tile, Blk.loadBlock_wbufs]
  exact List.getElem?_set_self (List.getElem?_eq_some_iff.1 hw).1

/-! ### A buffer freed (03 R76) -/

/-- Tile `t` with buffer `k` free. -/
def Blk.freeBlock (b : Blk) (t k : Nat) : Blk := b.setTile t { b.tile t with wbufs := (b.tile t).wbufs.set k {} }

theorem Blk.freeBlock_wbufs (b : Blk) (t k : Nat) : ((b.freeBlock t k).tile t).wbufs = (b.tile t).wbufs.set k {} := by
  rw [Blk.freeBlock, Blk.setTile_tile_same]

theorem Blk.freeBlock_current (b : Blk) (t k : Nat) : (b.freeBlock t k).current t 1 = b.current t 1 := by
  rw [Blk.current, Blk.current, Blk.freeBlock, Blk.setTile_tile_same]
  rfl

theorem weightBufferFree_runs {k : Nat} (hs : isSTile t = false) (hl : s.blk.live t = true)
    (hk : (s.blk.tile t).wbufs.findIdx? (·.st == 4) = some k) : Runs (.weightBufferFree t) s ((s.blk.freeBlock t k).startBlock t) := by
  show execWeightBufferFree t s = _
  simp only [execWeightBufferFree, State.on_eq, hs, hl, hk]
  rfl

/-- Where no buffer is free, the one just freed is the first. -/
theorem findIdx?_free {l : List WBuf} {k : Nat} (hk : k < l.length) (h : ∀ w ∈ l, w.st ≠ 0) :
    (l.set k {}).findIdx? (·.st == 0) = some k := by
  refine List.findIdx?_eq_some_iff_getElem.2 ⟨by rwa [List.length_set], by simp, fun j hj => ?_⟩
  rw [List.getElem_set_ne (by omega)]
  simpa using h _ (List.getElem_mem _)

theorem weightBufferFree_idle {k : Nat} (hs : isSTile t = false) (hl : s.blk.live t = true)
    (hk : (s.blk.tile t).wbufs.findIdx? (·.st == 4) = some k) (hc : s.blk.current t 1 = none) :
    ∃ b, Runs (.weightBufferFree t) s b ∧ (b.tile t).wbufs = (s.blk.tile t).wbufs.set k {} ∧ SameOthers s.blk b t ∧ b.ctl = s.blk.ctl := by
  have h := weightBufferFree_runs hs hl hk
  rw [Blk.startBlock_idle ((s.blk.freeBlock_current t k).trans hc)] at h
  exact ⟨_, h, s.blk.freeBlock_wbufs t k, SameOthers.refl.setTile _, rfl⟩

theorem weightBufferFree_begins {k : Nat} (hs : isSTile t = false) (hl : s.blk.live t = true)
    (hk : (s.blk.tile t).wbufs.findIdx? (·.st == 4) = some k) (hv : s.blk.arrHalted t = false) (hc : s.blk.current t 1 = some d)
    (ht : s.blk.ctl.tokensReady t d.hdr = true) (hb : ∀ w ∈ (s.blk.tile t).wbufs, w.st ≠ 0 ∧ w.st ≠ 1) (hf : bits (d.w 1) 31 28 ≤ 0xB)
    (hr : (loadRow d + blockRows (bits (d.w 1) 31 28) (bits (d.w 1) 27 26)) * 512 ≤ spBytes t) :
    ∃ b, Runs (.weightBufferFree t) s b ∧ SameOthers s.blk b t ∧ (b.tile t).wbufs = (s.blk.tile t).wbufs.set k
      { st := 1, ser := (s.blk.tile t).blkSer, dser := d.ser, row := loadRow d
        block := { fmt := bits (d.w 1) 31 28, sparse := bits (d.w 1) 27 26 } } := by
  have hlt := (List.findIdx?_eq_some_iff_getElem.1 hk).1
  have h := weightBufferFree_runs hs hl hk
  have h1 : ∀ w ∈ ((s.blk.freeBlock t k).tile t).wbufs, w.st ≠ 1 := by
    intro w hw
    rw [Blk.freeBlock_wbufs] at hw
    rcases List.mem_or_eq_of_mem_set hw with hm | rfl
    · exact (hb w hm).2
    · exact zero_ne_one
  rw [Blk.startBlock_begins (b := s.blk.freeBlock t k) hv ((s.blk.freeBlock_current t k).trans hc)
    (by rw [Blk.freeBlock_wbufs]; exact findIdx?_free hlt fun w hw => (hb w hw).1) h1 ht hf hr] at h
  refine ⟨_, h, (SameOthers.refl.setTile _).trans (Blk.beginBlock_others _ t d k), ?_⟩
  rw [Blk.beginBlock_wbufs, Blk.freeBlock_wbufs, List.set_set, Blk.freeBlock, Blk.setTile_tile_same]

end

/-! ### The feeders' requests (03 R75, R78) -/

theorem Tile.feeder_setFeeder (x : Tile) (f : Fin 2) (v : Feeder) : (x.setFeeder f v).feeder f = v := by
  rw [Tile.feeder, Tile.setFeeder]
  split_ifs <;> rfl

theorem Tile.setFeeder_sp (x : Tile) (f : Nat) (v : Feeder) : (x.setFeeder f v).sp = x.sp := by
  rw [Tile.setFeeder]
  split_ifs <;> rfl

theorem Tile.setFeeder_queues (x : Tile) (f : Nat) (v : Feeder) : (x.setFeeder f v).queues = x.queues := by
  rw [Tile.setFeeder]
  split_ifs <;> rfl

/-- The aligned row of the next scale slot of a feeder's descriptor. -/
def scaleRow (d : Desc) : Nat := (fdSBase d + 4 * d.done) / 512

theorem scaleRow_eq (d : Desc) : scaleRow d = (fdSBase d + 4 * d.done) / 512 := rfl

/-- A feeder asks for an aligned row of its data stream. -/
def Tile.askData (x : Tile) (f : Nat) (d : Desc) (r al : Nat) : Tile :=
  (x.present { wide := true, rank := f + 1, who := .feedData f d.ser al, word := al * 16 }).setFeeder f
    { x.feeder f with data := (x.feeder f).data ++ [{ ser := d.ser, row := al }], reqRow := r, lastAl := some al }

/-- The last activation row, from `r` on, whose bytes all lie in aligned rows up to `al`. -/
def coveredRow (d : Desc) (r al : Nat) : Nat :=
  max r (((List.range (fdRows d)).filter fun i => decide (r ≤ i) && decide (i < r + 16) && decide (fdLast d i ≤ al)).getLast?.getD r)

/-- A feeder asks for an aligned row of its scale stream. -/
def Tile.askScale (x : Tile) (f : Nat) (d : Desc) (row : Nat) : Tile :=
  (x.present { wide := true, rank := f + 1, who := .feedScale f d.ser row, word := row * 16 }).setFeeder f
    { x.feeder f with scale := some { ser := d.ser, row := row } }

theorem Tile.askData_feeder (x : Tile) (f : Fin 2) (d : Desc) (r al : Nat) : (x.askData f d r al).feeder f =
    { x.feeder f with data := (x.feeder f).data ++ [{ ser := d.ser, row := al }], reqRow := r, lastAl := some al } := Tile.feeder_setFeeder _ f _

theorem Tile.askData_sp (x : Tile) (f : Nat) (d : Desc) (r al : Nat) : (x.askData f d r al).sp =
    { x.sp with reqs := x.sp.reqs ++ [{ wide := true, rank := f + 1, who := .feedData f d.ser al, word := al * 16 }] } :=
  Tile.setFeeder_sp _ f _

theorem Tile.askScale_feeder (x : Tile) (f : Fin 2) (d : Desc) (row : Nat) : (x.askScale f d row).feeder f =
    { x.feeder f with scale := some { ser := d.ser, row := row } } := Tile.feeder_setFeeder _ f _

theorem Tile.askScale_sp (x : Tile) (f : Nat) (d : Desc) (row : Nat) : (x.askScale f d row).sp =
    { x.sp with reqs := x.sp.reqs ++ [{ wide := true, rank := f + 1, who := .feedScale f d.ser row, word := row * 16 }] } :=
  Tile.setFeeder_sp _ f _

section
variable {s : State} {t : TileId} {f : Fin 2} {e : List Ecc} {d : Desc} {b' : Blk}

theorem feederRowRequest_data_runs {r al : Nat} (ha : ArraysRun s t) (hh : ((s.blk.tile t).queue (f.val + 2)).halted = false)
    (hd : ((s.blk.tile t).queue (f.val + 2)).cur = some d) (hl : ((s.blk.tile t).feeder f).data.length < 4) (hx : feederExtent t d = true)
    (hn : nextAligned d ((s.blk.tile t).feeder f).lastAl 64 ((s.blk.tile t).feeder f).reqRow = some (r, al))
    (ht : d.issued ≤ r → s.blk.ctl.tokensReady t d.hdr = true) :
    Runs (.feederRowRequest t f false) s ((s.blk.setTile t ((s.blk.tile t).askData f d r al)).issueTo t (f.val + 2) (coveredRow d r al)
      (coveredRow d r al + 1 - d.issued)) := by
  obtain ⟨hs, hlive, hv⟩ := ha
  show execFeederRowRequest t f false s = _
  have h4 : ¬ 4 ≤ ((s.blk.tile t).feeder f).data.length := by omega
  have hr : ¬ (d.issued ≤ r ∧ (!s.blk.ctl.tokensReady t d.hdr) = true) := fun h => by simp [ht h.1] at h
  simp only [execFeederRowRequest, State.on_eq, hs, hlive, hv, hh, hd, h4, hx, hn, if_neg hr]
  rfl

theorem feederRowRequest_scale_runs (ha : ArraysRun s t) (hh : ((s.blk.tile t).queue (f.val + 2)).halted = false)
    (hd : ((s.blk.tile t).queue (f.val + 2)).oldest = some d) (hg : fdScaleG d ≠ 0) (hx : feederExtent t d = true) (hn : d.done < d.steps)
    (hz : ∀ z, ((s.blk.tile t).feeder f).scale = some z → ¬ (z.ser = d.ser ∧ z.row = scaleRow d)) :
    Runs (.feederRowRequest t f true) s (s.blk.setTile t ((s.blk.tile t).askScale f d (scaleRow d))) := by
  obtain ⟨hs, hlive, hv⟩ := ha
  show execFeederRowRequest t f true s = _
  have hheld : (((s.blk.tile t).feeder f).scale.any fun z => z.ser == d.ser && z.row == scaleRow d) = false := by
    cases hq : ((s.blk.tile t).feeder f).scale with
    | none => rfl
    | some z => simpa using hz z hq
  simp only [execFeederRowRequest, State.on_eq, hs, hlive, hv, hh, hd, hx, ← scaleRow_eq, hheld]
  simp only [Bool.not_true, Bool.or_self, Bool.false_eq_true, if_false, false_or, hg, if_true, Nat.not_le.2 hn]
  rfl

/-! ### Crossing into a feeder descriptor (03 R75, R80) -/

/-- The code with which the descriptor a feeder takes halts the arrays: an instruction crosses into it, and it fails for that. -/
def Blk.crossCode (b : Blk) (t f : Nat) (d : Desc) : Option Nat :=
  match b.entering t with
  | some i => if ((b.tile t).feederHead f).isNone && (miFeeders i).contains f then feederCheck t d (miFmtA i) else none
  | none => none

/-- A feeder's descriptor installed, its rows to be requested anew. -/
def Blk.cross (b : Blk) (t f : Nat) (d : Desc) : Blk :=
  (b.install t (f + 2) d (fdRows d)).onTile t fun x => x.setFeeder f { x.feeder f with reqRow := 0, lastAl := none }

theorem feederDescriptorCross_runs (ha : ArraysRun s t) (hd : s.blk.takeHead t (f.val + 2) e = .ready d b') :
    Runs (.feederDescriptorCross t f e) s (match s.blk.crossCode t f d with | some code => b'.arrHalt t 4 code | none => b'.cross t f d) := by
  obtain ⟨hs, hlive, hv⟩ := ha
  have h := Blk.takeHead_headRead hd
  show execFeederDescriptorCross t f e s = _
  rw [Blk.crossCode, ← h.entering (by omega), ← h.feederHead f]
  simp only [execFeederDescriptorCross, State.on_eq, hs, hlive, hv, hd]
  rfl

end

end Sys2Proof.Machine
end

section
/-!
PROOF. What the statement on weights and activations says, from the commands' outcomes (03 R75 to R78, R80, R81, 07 R163).
-/
namespace Sys2Proof.Machine

section
variable {s : State} {t : TileId} {f : Fin 2} {e : List Ecc} {d : Desc} {b' : Blk}

theorem feederRowRequest_data {r al : Nat} (ha : ArraysRun s t) (hh : ((s.blk.tile t).queue (f.val + 2)).halted = false)
    (hd : ((s.blk.tile t).queue (f.val + 2)).cur = some d) (hl : ((s.blk.tile t).feeder f).data.length < 4) (hx : feederExtent t d = true)
    (hn : nextAligned d ((s.blk.tile t).feeder f).lastAl 64 ((s.blk.tile t).feeder f).reqRow = some (r, al))
    (ht : d.issued ≤ r → s.blk.ctl.tokensReady t d.hdr = true) :
    ∃ b, Runs (.feederRowRequest t f false) s b ∧ SameOthers s.blk b t ∧
      ((b.tile t).feeder f).data = ((s.blk.tile t).feeder f).data ++ [{ ser := d.ser, row := al }] ∧ ((b.tile t).feeder f).lastAl = some al ∧
      (b.tile t).sp.reqs = (s.blk.tile t).sp.reqs ++ [{ wide := true, rank := f.val + 1, who := .feedData f d.ser al, word := al * 16 }] := by
  have hi := Blk.issueTo_stepped t (f.val + 2) (coveredRow d r al) (coveredRow d r al + 1 - d.issued)
    (s.blk.setTile t ((s.blk.tile t).askData f d r al))
  have hf := Tile.feeder_of_bare hi.bare f
  have hp := Tile.sp_of_sansSteps hi.sans
  rw [Blk.setTile_tile_same] at hf hp
  rw [Tile.askData_feeder] at hf
  rw [Tile.askData_sp] at hp
  exact ⟨_, feederRowRequest_data_runs ha hh hd hl hx hn ht, (SameOthers.refl.setTile _).trans hi.others, by rw [hf], by rw [hf], by rw [hp]⟩

theorem feederRowRequest_scale (ha : ArraysRun s t) (hh : ((s.blk.tile t).queue (f.val + 2)).halted = false)
    (hd : ((s.blk.tile t).queue (f.val + 2)).oldest = some d) (hg : fdScaleG d ≠ 0) (hx : feederExtent t d = true) (hn : d.done < d.steps)
    (hz : ∀ z, ((s.blk.tile t).feeder f).scale = some z → ¬ (z.ser = d.ser ∧ z.row = scaleRow d)) :
    ∃ b, Runs (.feederRowRequest t f true) s b ∧ SameOthers s.blk b t ∧ b.ctl = s.blk.ctl ∧
      ((b.tile t).feeder f).scale = some { ser := d.ser, row := scaleRow d } ∧ (b.tile t).sp.reqs = (s.blk.tile t).sp.reqs ++
        [{ wide := true, rank := f.val + 1, who := .feedScale f d.ser (scaleRow d), word := scaleRow d * 16 }] :=
  ⟨_, feederRowRequest_scale_runs ha hh hd hg hx hn hz, SameOthers.refl.setTile _, rfl, by rw [Blk.setTile_tile_same, Tile.askScale_feeder],
    by rw [Blk.setTile_tile_same, Tile.askScale_sp]⟩

/-- No code where a feeder is not at a crossing, or the instruction that crosses finds no fault. -/
theorem Blk.crossCode_none {b : Blk} {t f : Nat} {d : Desc} (h : ((b.tile t).feederHead f).isSome = true ∨
    ∀ i, b.entering t = some i → (miFeeders i).contains f = true → feederCheck t d (miFmtA i) = none) : b.crossCode t f d = none := by
  rw [Blk.crossCode]
  split
  · next i hi =>
    split_ifs with hc
    · rw [Bool.and_eq_true, Option.isNone_iff_eq_none] at hc
      exact (h.resolve_left (by simp [hc.1])) i hi hc.2
    · rfl
  · rfl

theorem Blk.crossCode_some {b : Blk} {t f : Nat} {d i : Desc} (hn : (b.tile t).feederHead f = none) (hi : b.entering t = some i)
    (hf : (miFeeders i).contains f = true) : b.crossCode t f d = feederCheck t d (miFmtA i) := by
  simp only [Blk.crossCode, hi, hn, hf]
  rfl

/-- The codes of checks 8 and 11. -/
theorem feederCheck_lt {t : Nat} {d : Desc} {a code : Nat} (h : feederCheck t d a = some code) : code < 0x8000 := by
  rw [feederCheck] at h
  split_ifs at h <;> cases h <;> decide

theorem feederDescriptorCross_takes (ha : ArraysRun s t) (hd : s.blk.takeHead t (f.val + 2) e = .ready d b')
    (hc : s.blk.crossCode t f d = none) : ∃ b, Runs (.feederDescriptorCross t f e) s b ∧ SameOthers s.blk b t ∧
      ((b.tile t).queue (f.val + 2)).cur = some { d with steps := fdRows d } ∧ ((b.tile t).feeder f).reqRow = 0 ∧
      ((b.tile t).feeder f).lastAl = none := by
  have h := Blk.takeHead_headRead hd
  have hq := h.install_queue d (fdRows d) (f.val + 2)
  have hr := feederDescriptorCross_runs ha hd
  rw [hc] at hr
  refine ⟨_, hr, (h.install_others d _).onTile _, ?_, ?_, ?_⟩
  all_goals rw [Blk.cross, Blk.onTile_tile_same]
  · rw [if_pos rfl] at hq
    rw [Tile.queue, Tile.setFeeder_queues]
    exact congrArg Queue.cur hq
  · rw [Tile.feeder_setFeeder]
  · rw [Tile.feeder_setFeeder]

theorem feederDescriptorCross_halts {code : Nat} (ha : ArraysRun s t) (hd : s.blk.takeHead t (f.val + 2) e = .ready d b')
    (hc : s.blk.crossCode t f d = some code) (hlt : code < 0x8000) : ∃ b, Runs (.feederDescriptorCross t f e) s b ∧ SameOthers s.blk b t ∧
      b.arrHalted t = true ∧ b.ctl.rd (arrPage t + 0x60) = BitVec.ofNat 32 (0x80000000 + code * 0x10000) := by
  have h := Blk.takeHead_headRead hd
  have hv : b'.arrHalted t = false := h.arrHalted.trans ha.2.2
  have hr := feederDescriptorCross_runs ha hd
  rw [hc] at hr
  exact ⟨_, hr, h.others.trans (b'.arrHalt_others t 4 code), Blk.arrHalted_arrHalt hv hlt, Blk.rd_arrHalt hv⟩

end

/-- Settles O10: each command's outcome. The loader begins its next block in a free buffer, so what it does after a command keeps the
command's own buffer; the reading of a descriptor finds no other descriptor and no other instruction where a feeder crosses. -/
theorem weightsAndActivationsAreFetched : Obligations.WeightsAndActivationsAreFetched := by
  unfold Obligations.WeightsAndActivationsAreFetched
  refine ⟨fun s t e hs hl => ⟨fun d b' hv hd => weightLoaderDescriptor_takes hs hl hv hd,
    fun k w hk hw => weightBlockUsable_loads hs hl hk hw, fun k hk => ⟨weightBufferFree_idle hs hl hk,
      fun d hv hc ht hb hf hr => weightBufferFree_begins hs hl hk hv hc ht hb hf hr⟩⟩, fun s t f e ha => ⟨?_, ?_, fun d b' hd => ⟨?_, ?_⟩⟩⟩
  · exact fun d r al hh hd hl hx hn ht => feederRowRequest_data ha hh hd hl hx hn ht
  · exact fun d hh hd hg hx hn hz => feederRowRequest_scale ha hh hd hg hx hn hz
  · exact fun hc => feederDescriptorCross_takes ha hd (Blk.crossCode_none hc)
  · intro i code hn hi hf hc
    exact feederDescriptorCross_halts ha hd ((Blk.crossCode_some hn hi hf).trans hc) (feederCheck_lt hc)

end Sys2Proof.Machine
end

section
/-!
PROOF. Matrix instructions and their checks in order (03 R76, R80, R81, 08 R201).
-/
namespace Sys2Proof.Machine

/-! ### The block an instruction uses (03 R76) -/

/-- Of a list of entries, the one with the smaller serial number is kept; what is kept is in the list. -/
theorem mem_of_oldest {l : List (WBuf × Nat)} {m : Option (WBuf × Nat)} {z : WBuf × Nat}
    (h : l.foldl (fun (m : Option (WBuf × Nat)) e =>
      match m with | none => some e | some a => if e.1.ser < a.1.ser then some e else some a) m = some z) : m = some z ∨ z ∈ l := by
  induction l generalizing m with
  | nil => exact .inl h
  | cons x l ih =>
    rcases ih h with h | h
    · cases m with
      | none =>
        injection h with h
        exact .inr (by simp [h])
      | some a =>
        dsimp only at h
        split_ifs at h
        · injection h with h
          exact .inr (by simp [h])
        · exact .inl h
    · exact .inr (List.mem_cons_of_mem _ h)

/-- A block taken from a buffer stands in it, usable and not taken. -/
theorem Tile.blockFor_buffer {x : Tile} {reuse : Bool} {k : Nat} {w : WBlock} (h : x.blockFor reuse = some (some k, w)) :
    ∃ v, x.wbufs[k]? = some v ∧ v.st = 2 ∧ v.block = w := by
  simp only [Tile.blockFor] at h
  split_ifs at h
  · simp at h
  · rw [Option.map_eq_some_iff] at h
    obtain ⟨z, hz, he⟩ := h
    injection he with hk hw
    injection hk with hk
    have hm := (mem_of_oldest hz).resolve_left nofun
    rw [List.mem_filter, List.mem_zipIdx_iff_getElem?] at hm
    exact ⟨z.1, by rw [← hk]; exact hm.1, by simpa using hm.2, hw⟩

/-- An instruction that keeps its block has one. -/
theorem Tile.curBlk_of_blockFor {x : Tile} {reuse : Bool} {z : Option Nat × WBlock} (h : x.blockFor reuse = some z)
    (hr : reuse = true) : x.curBlk.isNone = false := by
  rw [Tile.blockFor, if_pos hr, Option.map_eq_some_iff] at h
  obtain ⟨w, hw, -⟩ := h
  rw [hw]
  rfl

/-! ### The checks (03 R80, 08 R201) -/

/-- The first of the checks on feeders that an instruction's feeder descriptors fail: of each in turn, 8 and then 11. -/
def feedersCode (t : Nat) (d : Desc) (fds : List (Option Desc)) : Option Nat :=
  fds.findSome? fun q => q.bind fun q => feederCheck t q (miFmtA d)

/-- What the checks of an instruction come to: it waits, halts with a code, or takes the block with its buffer. -/
inductive Judged where
  | waits
  | fails (code : Nat)
  | takes (buf : Option Nat) (w : WBlock)

/-- The checks of an instruction with the block `w` it would use, and the feeder descriptors it would draw from. -/
def Tile.judgeBlock (x : Tile) (t : Nat) (d : Desc) (buf : Option Nat) (w : WBlock) : Judged :=
  if w.fmt ≠ miFmtW d then .fails 0x06
  else if w.sparse ≠ miSparse d then .fails 0x0A
  else if ((miFeeders d).map x.feederHead).any Option.isNone then .waits
  else match feedersCode t d ((miFeeders d).map x.feederHead), sparseCheck d with
    | some code, _ => .fails code
    | none, some code => .fails code
    | none, none => .takes buf w

/-- The checks of R80 and R201 in order. -/
def Tile.judge (x : Tile) (t : Nat) (d : Desc) : Judged :=
  match instrCheck d with
  | some code => .fails code
  | none =>
    if miReuse d ∧ x.curBlk.isNone then .fails 0x06
    else match x.blockFor (miReuse d) with
      | none => .waits
      | some (buf, w) => x.judgeBlock t d buf w

/-- The block taken: it is the current one, its buffer taken, that of the block before it done with. -/
def Tile.takeBlock (x : Tile) (buf : Option Nat) (w : WBlock) : Tile :=
  { x with
    curBlk := some w
    wbufs := match buf with
      | some k => (x.wbufs.map fun z => if z.st = 3 then { z with st := 4 } else z).modify k fun z => { z with st := 3 }
      | none => x.wbufs }

/-- An instruction at the head of the array queue with the block it takes. -/
def Blk.takeInstr (b : Blk) (t : Nat) (d : Desc) (buf : Option Nat) (w : WBlock) : Blk :=
  ((b.install t 4 d (miRows d)).onTile t fun x => x.takeBlock buf w).recordDrops t w (miFmtA d) (miUmask d)

section
variable {s : State} {t : TileId} {e : List Ecc} {d : Desc} {b' : Blk}

theorem matrixInstruction_waits (ha : ArraysRun s t) (hp : (s.blk.tile t).part ≠ none) : Runs (.matrixInstruction t e) s s.blk := by
  obtain ⟨hs, hl, hv⟩ := ha
  show execMatrixInstruction t e s = _
  simp [execMatrixInstruction, State.on_eq, hs, hl, hv, Option.isSome_iff_ne_none.2 hp]

theorem matrixInstruction_runs (ha : ArraysRun s t) (hd : s.blk.takeHead t 4 e = .ready d b') (hp : (s.blk.tile t).part = none) :
    Runs (.matrixInstruction t e) s (match (s.blk.tile t).judge t d with
      | .waits => b'
      | .fails code => b'.arrHalt t 4 code
      | .takes buf w => b'.takeInstr t d buf w) := by
  obtain ⟨hs, hl, hv⟩ := ha
  have h := Blk.takeHead_headRead hd
  have hf : (b'.tile t).feederHead = (s.blk.tile t).feederHead := funext h.feederHead
  have hb : (b'.tile t).blockFor (miReuse d) = (s.blk.tile t).blockFor (miReuse d) := by
    rw [Tile.blockFor, Tile.blockFor, Tile.curBlk_of_bare h.bare, Tile.wbufs_of_bare h.bare]
  show execMatrixInstruction t e s = _
  simp only [execMatrixInstruction, State.on_eq, hs, hl, hv, hp, hd, hf, hb, Tile.curBlk_of_bare h.bare, Tile.judge, Tile.judgeBlock, Bool.not_true,
    Option.isSome_none, Bool.or_self, Bool.false_eq_true, if_false]
  cases instrCheck d with
  | some code => rfl
  | none =>
    by_cases hr : miReuse d = true ∧ (s.blk.tile t).curBlk.isNone = true
    · simp only [hr]
      rfl
    · simp only [hr, if_false]
      cases (s.blk.tile t).blockFor (miReuse d) with
      | none => rfl
      | some z =>
        obtain ⟨buf, w⟩ := z
        dsimp only
        split_ifs
        · rfl
        · rfl
        · rfl
        · rw [← feedersCode]
          cases feedersCode t d ((miFeeders d).map (s.blk.tile t).feederHead) <;> cases sparseCheck d <;> rfl

/-- The arrays halted with `code` by an instruction: its queue stands, HALT_INFO shows the code, no block is taken. -/
def InstrHalts (s : State) (t : TileId) (e : List Ecc) (code : Nat) : Prop :=
  ∃ b, Runs (.matrixInstruction t e) s b ∧ SameOthers s.blk b t ∧ ((b.tile t).queue 4).halted = true ∧
    b.arrHalted t = true ∧ b.ctl.rd (arrPage t + 0x60) = BitVec.ofNat 32 (0x80000000 + code * 0x10000) ∧
    (b.tile t).wbufs = (s.blk.tile t).wbufs ∧ (b.tile t).curBlk = (s.blk.tile t).curBlk

theorem matrixInstruction_fails {code : Nat} (ha : ArraysRun s t) (hd : s.blk.takeHead t 4 e = .ready d b') (hp : (s.blk.tile t).part = none)
    (hj : (s.blk.tile t).judge t d = .fails code) (hlt : code < 0x8000) : InstrHalts s t e code := by
  have h := Blk.takeHead_headRead hd
  have hv : b'.arrHalted t = false := h.arrHalted.trans ha.2.2
  have hr := matrixInstruction_runs ha hd hp
  rw [hj] at hr
  refine ⟨_, hr, h.others.trans (b'.arrHalt_others t 4 code), ?_, Blk.arrHalted_arrHalt hv hlt, Blk.rd_arrHalt hv, ?_, ?_⟩
  all_goals rw [Blk.arrHalt_tile]
  · rw [Tile.queue_setQueue_same _ _ h.there]
  · exact Tile.wbufs_of_bare h.bare
  · exact Tile.curBlk_of_bare h.bare

/-- Recording drops is a matter of registers. -/
theorem Blk.recordDrops_onCtl (b : Blk) (t : Nat) (w : WBlock) (a m : Nat) : ∃ f, b.recordDrops t w a m = b.onCtl f := by
  rw [Blk.recordDrops]
  split_ifs
  · exact ⟨id, rfl⟩
  · exact ⟨_, rfl⟩

theorem Tile.takeBlock_buffer {x : Tile} {k : Nat} {v : WBuf} (hv : x.wbufs[k]? = some v) (h2 : v.st = 2) (w : WBlock) :
    (x.takeBlock (some k) w).wbufs[k]? = some { v with st := 3 } := by
  simp [Tile.takeBlock, hv, h2]

theorem matrixInstruction_takes {buf : Option Nat} {w : WBlock} (ha : ArraysRun s t) (hd : s.blk.takeHead t 4 e = .ready d b')
    (hp : (s.blk.tile t).part = none) (hb : (s.blk.tile t).blockFor (miReuse d) = some (buf, w))
    (hj : (s.blk.tile t).judge t d = .takes buf w) : ∃ b, Runs (.matrixInstruction t e) s b ∧ SameOthers s.blk b t ∧
      (b.tile t).curBlk = some w ∧ ((b.tile t).queue 4).cur = some { d with steps := miRows d } ∧
      ∀ k, buf = some k → ∃ v, (b.tile t).wbufs[k]? = some v ∧ v.st = 3 ∧ v.block = w := by
  have h := Blk.takeHead_headRead hd
  have hq := h.install_queue d (miRows d) 4
  rw [if_pos rfl] at hq
  have hr := matrixInstruction_runs ha hd hp
  rw [hj] at hr
  obtain ⟨f, hf⟩ := ((b'.install t 4 d (miRows d)).onTile t fun x => x.takeBlock buf w).recordDrops_onCtl t w (miFmtA d) (miUmask d)
  refine ⟨_, hr, ?_, ?_, ?_, ?_⟩
  all_goals simp only [Blk.takeInstr, hf, Blk.onCtl_tile, Blk.onTile_tile_same]
  · exact ((h.install_others d _).onTile _).onCtl f
  · rfl
  · exact congrArg Queue.cur hq
  · rintro k rfl
    obtain ⟨v, hv, h2, hw⟩ := Tile.blockFor_buffer hb
    rw [← Tile.wbufs_of_bare (h.install_bare d (miRows d))] at hv
    exact ⟨_, Tile.takeBlock_buffer hv h2 w, rfl, hw⟩

end

/-! ### Which check fails first -/

section
variable {x : Tile} {t : Nat} {d : Desc} {buf : Option Nat} {w : WBlock} {code : Nat}

theorem Tile.judge_instrCheck (h : instrCheck d = some code) : x.judge t d = .fails code := by
  rw [Tile.judge, h]

theorem Tile.judge_noBlock (h : instrCheck d = none) (hr : miReuse d = true) (hc : x.curBlk = none) : x.judge t d = .fails 0x06 := by
  rw [Tile.judge, h]
  exact if_pos ⟨hr, by rw [hc]; rfl⟩

theorem Tile.judge_block (h : instrCheck d = none) (hb : x.blockFor (miReuse d) = some (buf, w)) : x.judge t d = x.judgeBlock t d buf w := by
  have hc : ¬ (miReuse d = true ∧ x.curBlk.isNone = true) := fun hr => by simp [Tile.curBlk_of_blockFor hb hr.1] at hr
  simp only [Tile.judge, h, hc, hb, if_false]

/-- With a block of its form and its feeders' descriptors, checks 8 and 11 and then 9 and 10 decide. -/
theorem Tile.judgeBlock_feeders (hf : w.fmt = miFmtW d) (hs : w.sparse = miSparse d) (hn : ∀ o ∈ (miFeeders d).map x.feederHead, o ≠ none) :
    x.judgeBlock t d buf w = match feedersCode t d ((miFeeders d).map x.feederHead), sparseCheck d with
      | some code, _ => .fails code
      | none, some code => .fails code
      | none, none => .takes buf w := by
  have ha : ¬ ((miFeeders d).map x.feederHead).any Option.isNone = true := by
    rw [List.any_eq_true]
    rintro ⟨o, ho, h⟩
    exact hn o ho (Option.isNone_iff_eq_none.1 h)
  rw [Tile.judgeBlock, if_neg (not_not.2 hf), if_neg (not_not.2 hs), if_neg ha]

theorem instrCheck_lt (h : instrCheck d = some code) : code < 0x8000 := by
  rw [instrCheck] at h
  split_ifs at h <;> cases h <;> decide

theorem sparseCheck_lt (h : sparseCheck d = some code) : code < 0x8000 := by
  rw [sparseCheck] at h
  split_ifs at h <;> cases h <;> decide

theorem feedersCode_lt {fds : List (Option Desc)} (h : feedersCode t d fds = some code) : code < 0x8000 := by
  obtain ⟨q, -, hq⟩ := List.exists_of_findSome?_eq_some h
  obtain ⟨r, -, hr⟩ := Option.bind_eq_some_iff.1 hq
  exact feederCheck_lt hr

end

/-- Settles O11: `judge` is the model's order of the checks, each failure one outcome. That all of feeder A's checks come before feeder B's is
the model's choice (log 49). -/
theorem matrixInstructionsAreCheckedInOrder : Obligations.MatrixInstructionsAreCheckedInOrder := by
  unfold Obligations.MatrixInstructionsAreCheckedInOrder
  intro s t e d b' ha hd x fds halts
  refine ⟨matrixInstruction_waits ha, fun hp => ?_⟩
  have fails {code : Nat} (hj : x.judge t d = .fails code) (hlt : code < 0x8000) : halts code := matrixInstruction_fails ha hd hp hj hlt
  refine ⟨fun code h => fails (Tile.judge_instrCheck h) (instrCheck_lt h),
    fun h hr hc => fails (Tile.judge_noBlock h hr hc) (by decide), fun buf w h hb => ?_⟩
  have hj := Tile.judge_block (t := t) h hb
  refine ⟨fun hf => fails (hj.trans (if_pos hf)) (by decide),
    fun hf hs => fails (hj.trans ((if_neg (not_not.2 hf)).trans (if_pos hs))) (by decide), fun hf hs hn => ?_⟩
  rw [Tile.judgeBlock_feeders hf hs hn] at hj
  refine ⟨fun code hc => fails ?_ (feedersCode_lt hc), fun hc code hsp => fails ?_ (sparseCheck_lt hsp), fun hc hsp => ?_⟩
  · rw [hj, feedersCode, hc]
  · rw [hj, feedersCode, hc, hsp]
  · exact matrixInstruction_takes ha hd hp hb (by rw [hj, feedersCode, hc, hsp])

end Sys2Proof.Machine
end

section
/-!
PROOF. Sub-rows that enter the arrays, and what counting in the ARR or VEC page leaves as it was (03 R59, R71, R75, 08 R199).
-/
namespace Sys2Proof.Machine

/-! ### Counting in one page -/

/-- Registers of the page at `p` apart, nothing that decides whether a step may issue differs. -/
def Ctl.PageOnly (p : Nat) (c d : Ctl) : Prop := d.clk = c.clk ∧ ∀ a, ¬ (p ≤ a ∧ a < p + 0x1000) → d.rd a = c.rd a

section
variable {p t : Nat} {c d : Ctl}

theorem Ctl.PageOnly.refl : c.PageOnly p c := ⟨rfl, fun _ _ => rfl⟩

theorem Ctl.PageOnly.bump {n : Nat} {f : Fld} (h : c.PageOnly p d) (hf : f.off < 0x1000) : c.PageOnly p (d.bump p f n) := by
  refine ⟨h.1, fun a ha => (Ctl.rd_putN _ _ _ _ _ _).trans ?_⟩
  rw [if_neg (by omega), h.2 a ha]

/-- The page is one of tile `t`'s from ARR on. -/
abbrev enginePage (t p : Nat) : Prop := p = arrPage t ∨ p = vecPage t

theorem Ctl.PageOnly.tileStage (h : c.PageOnly p d) (hp : enginePage t p) : d.tileStage t = c.tileStage t := by
  rw [Ctl.tileStage, Ctl.tileStage, Ctl.clusterStage, Ctl.clusterStage]
  refine List.find?_congr fun s hs => ?_
  have hs := List.mem_range.1 hs
  have hr : d.rd (stagePage s + 0x40) = c.rd (stagePage s + 0x40) :=
    h.2 _ (by simp only [stagePage, enginePage, arrPage, vecPage, tilePage] at hp ⊢; omega)
  rw [Ctl.valid, Ctl.valid, Ctl.flag_congr (f := F.STAGE_RECT_VALID) hr, hr]

theorem Ctl.PageOnly.mayIssue (h : c.PageOnly p d) (hp : enginePage t p) : d.mayIssue t = c.mayIssue t := by
  have hg : (c.tileStage t).all (fun s => d.flag (stagePage s) F.STAGE_GATE_G) =
      (c.tileStage t).all fun s => c.flag (stagePage s) F.STAGE_GATE_G := by
    cases hs : c.tileStage t with
    | none => rfl
    | some s =>
      have hlt := List.mem_range.1 (List.mem_of_find?_eq_some hs)
      exact Ctl.flag_congr (h.2 _ (by simp only [stagePage, F.STAGE_GATE_G, enginePage, arrPage, vecPage, tilePage] at hp ⊢; omega))
  simp only [Ctl.mayIssue, h.tileStage hp, h.1, hg]

theorem Ctl.PageOnly.chState (h : c.PageOnly p d) (hp : enginePage t p) {f : Fld} {w : Word} {hi lo : Nat} (hn : hi + 1 - lo = 4)
    (hf : f.off = 0xA0) (hs : f.stride = 4) : d.getN (seqPage t) f (bits w hi lo) = c.getN (seqPage t) f (bits w hi lo) := by
  have hb : bits w hi lo < 2 ^ 4 := hn ▸ bits_lt w hi lo
  rw [Ctl.getN, Ctl.getN, h.2]
  rw [hf, hs]
  simp only [enginePage, arrPage, vecPage, seqPage, tilePage] at hp ⊢
  omega

theorem Ctl.PageOnly.tokensReady (h : c.PageOnly p d) (hp : enginePage t p) (w : Word) : d.tokensReady t w = c.tokensReady t w := by
  simp only [Ctl.tokensReady, h.mayIssue hp]
  rw [hInCh, hOutCh, h.chState hp rfl rfl rfl, h.chState hp rfl rfl rfl]

end

/-! ### 64-bit quantities (02 R36) -/

theorem Ctl.rd64_wr64 (c : Ctl) (a v : Nat) : (c.wr64 a v).rd64 a = v % 2 ^ 64 := by
  have h : a ≠ a + 4 := by omega
  simp only [Ctl.rd64, Ctl.wr64, Ctl.rd_wr, h, if_true, if_false, BitVec.toNat_ofNat]
  omega

theorem Ctl.get64_add64 (c : Ctl) (p : Nat) (f : Fld) (v : Nat) : (c.add64 p f v).get64 p f = (c.get64 p f + v) % 2 ^ 64 :=
  Ctl.rd64_wr64 _ _ _

theorem Ctl.EnginesKept.rd64 {t a : Nat} {c d : Ctl} (h : c.EnginesKept t d) (h1 : arrPage t ≤ a) (h2 : a + 4 < spdPage t) :
    d.rd64 a = c.rd64 a := by
  rw [Ctl.rd64, Ctl.rd64, h a (by omega), h (a + 4) (by omega)]

theorem Ctl.EnginesKept.arrRows {t : Nat} {c d : Ctl} (h : c.EnginesKept t d) :
    d.get64 (arrPage t) F.ARR_ROWS_LO = c.get64 (arrPage t) F.ARR_ROWS_LO :=
  h.rd64 (by omega) (by simp only [F.ARR_ROWS_LO, arrPage, spdPage, tilePage]; omega)

/-! ### Activation rows that enter (03 R75, 07 R164) -/

/-- A tile but for what entering an activation row changes: its queues, what reads change, and the feeders. -/
def Tile.sansFeeds (x : Tile) : Tile := { x.bare with feedA := {}, feedB := {} }

/-- `b` follows from `a` by activation rows that enter the arrays of tile `t`. -/
structure Blk.Fed (t : Nat) (a b : Blk) : Prop where
  others : SameOthers a b t
  sans : (b.tile t).sansFeeds = (a.tile t).sansFeeds
  engines : a.ctl.EnginesKept t b.ctl

section
variable {a b c : Blk} {t : Nat}

theorem Blk.Fed.refl : a.Fed t a := ⟨.refl, rfl, .refl⟩

theorem Blk.Fed.trans (h : a.Fed t b) (g : b.Fed t c) : a.Fed t c :=
  ⟨h.others.trans g.others, g.sans.trans h.sans, h.engines.trans g.engines⟩

theorem Blk.Stepped.fed (h : a.Stepped t b) : a.Fed t b :=
  ⟨h.others, congrArg (fun z : Tile => { z with feedA := {}, feedB := {} }) h.bare, h.engines⟩

theorem Tile.freeSlots_sansFeeds (x : Tile) (f : Nat) : (x.freeSlots f).sansFeeds = x.sansFeeds := by
  rw [Tile.freeSlots, Tile.setFeeder]
  split_ifs <;> rfl

theorem Blk.feedRow_fed (b : Blk) (t : Nat) (e : Nat × Desc × ARow) : b.Fed t (b.feedRow t e) := by
  have free {c : Blk} (h : b.Fed t c) : b.Fed t ((c.stepDone t (e.1 + 2) e.2.1.ser).onTile t fun x => x.freeSlots e.1) := by
    have h := h.trans (c.stepDone_stepped t (e.1 + 2) e.2.1.ser).fed
    exact ⟨h.others.onTile _, by rw [Blk.onTile_tile_same, Tile.freeSlots_sansFeeds, h.sans], h.engines⟩
  rw [Blk.feedRow]
  split_ifs
  · exact free (Blk.issueTo_stepped t _ _ 1 b).fed
  · exact free .refl

theorem Blk.feedRows_fed (b : Blk) (t : Nat) (l : List (Nat × Desc × ARow)) : b.Fed t (l.foldl (fun b e => b.feedRow t e) b) :=
  List.foldlRecOn (motive := b.Fed t) l _ .refl fun c h e _ => h.trans (c.feedRow_fed t e)

theorem Blk.Fed.fly (h : a.Fed t b) : (b.tile t).fly = (a.tile t).fly := (congrArg Tile.fly h.sans :)

end

/-! ### The sub-rows of a row (08 R199) -/

/-- Sub-rows of feeder `f` among the activation rows that enter. -/
def subRows (l : List (Nat × Desc × ARow)) (f : Nat) : List ARow := (l.filter fun e => e.1 == f).map (·.2.2)

/-- A row with the sub-rows that enter now. -/
def RowJob.grown (j : RowJob) (l : List (Nat × Desc × ARow)) : RowJob := { j with a := j.a ++ subRows l 0, b := j.b ++ subRows l 1 }

section
variable {t : Nat} {b : Blk} {d : Desc} {j : RowJob} {l : List (Nat × Desc × ARow)}

theorem Blk.enterRow_others : SameOthers b (b.enterRow t d j l) t := by
  have h := (b.feedRows_fed t l).others
  simp only [Blk.enterRow]
  split_ifs
  · exact h.onTile _
  · exact (h.onTile _).onCtl _

/-- A row some of whose sub-rows are still to enter stays part. -/
theorem Blk.enterRow_part (hn : max (j.grown l).a.length (j.grown l).b.length < nsubOf (miSparse d) (miUmask d)) :
    ((b.enterRow t d j l).tile t).part = some (j.grown l) ∧ ((b.enterRow t d j l).tile t).fly = (b.tile t).fly := by
  have h : b.enterRow t d j l = (l.foldl (fun b e => b.feedRow t e) b).onTile t fun x => { x with part := some (j.grown l) } := if_pos hn
  rw [h, Blk.onTile_tile_same]
  exact ⟨rfl, (b.feedRows_fed t l).fly⟩

/-- With the last of its sub-rows a row is in flight, and ARR.ROWS counts it for each array. -/
theorem Blk.enterRow_fly (hn : nsubOf (miSparse d) (miUmask d) ≤ max (j.grown l).a.length (j.grown l).b.length) :
    ((b.enterRow t d j l).tile t).part = none ∧ ((b.enterRow t d j l).tile t).fly = (b.tile t).fly ++ [j.grown l] ∧
      (b.enterRow t d j l).ctl.get64 (arrPage t) F.ARR_ROWS_LO =
        (b.ctl.get64 (arrPage t) F.ARR_ROWS_LO + (miFeeders d).length) % 2 ^ 64 := by
  have h : b.enterRow t d j l = ((l.foldl (fun b e => b.feedRow t e) b).onTile t fun x => { x with part := none, fly := x.fly ++ [j.grown l] }).onCtl
      fun c => (c.add64 (arrPage t) F.ARR_ROWS_LO (miFeeders d).length).perf t 0x01 (miFeeders d).length := if_neg (Nat.not_lt.2 hn)
  have hf := b.feedRows_fed t l
  rw [h, Blk.onCtl_tile, Blk.onTile_tile_same]
  refine ⟨rfl, by rw [hf.fly], ?_⟩
  rw [Blk.onCtl_ctl, (Ctl.EnginesKept.perf .refl).arrRows, Ctl.get64_add64, Blk.onTile_ctl, hf.engines.arrRows]

end

end Sys2Proof.Machine
end

section
/-!
PROOF. ARRAY_ROW_ENTER: a row, or a sub-row of one, enters the arrays (03 R59, R71, R75, R80, 08 R199).
-/
namespace Sys2Proof.Machine

/-- The cycles a row waited counted in the ARR page. -/
def Blk.countStalls (b : Blk) (t w a c : Nat) : Blk :=
  b.onCtl fun x => ((x.bump (arrPage t) F.ARR_STALL_WEIGHT w).bump (arrPage t) F.ARR_STALL_ACT a).bump (arrPage t) F.ARR_STALL_ACC c

/-- The next activation rows of the feeders an instruction draws from, of those that hold theirs. -/
def Tile.feedRows (x : Tile) (d : Desc) : List (Nat × Desc × ARow) := (miFeeders d).filterMap fun f => (x.feederNext f).map fun e => (f, e)

/-- The code with which a feeder descriptor the next row crosses into halts the arrays. -/
def Tile.crossed (x : Tile) (t : Nat) (d : Desc) : Option Nat :=
  ((miFeeders d).filterMap x.feederHead).findSome? fun q => if q.done = 0 then feederCheck t q (miFmtA d) else none

/-- ARRAY_ROW_ENTER once the cycles it waited are counted. -/
def Blk.rowEnter (b : Blk) (t : Nat) (d : Desc) : Blk :=
  match (b.tile t).crossed t d with
  | some code => b.arrHalt t 4 code
  | none =>
    if ((b.tile t).feedRows d).length < (miFeeders d).length ||
        !(((b.tile t).feedRows d).all fun e => decide (e.2.1.done < e.2.1.issued) || b.ctl.tokensReady t e.2.1.hdr) || !b.ctl.mayIssue t then b
    else match (b.tile t).part, (b.tile t).curBlk with
      | some j, _ => b.enterRow t d j ((b.tile t).feedRows d)
      | none, some w =>
        if !b.ctl.tokensReady t d.hdr || !(b.tile t).ringOk d d.issued then b
        else (b.issue t 4 d).enterRow t d { ser := d.ser, words := d.words, row := d.issued, block := w } ((b.tile t).feedRows d)
      | none, none => b

section
variable {b : Blk} {t w a c : Nat}

theorem Blk.countStalls_tile : (b.countStalls t w a c).tile t = b.tile t := b.onCtl_tile _ t

theorem Blk.countStalls_pageOnly : b.ctl.PageOnly (arrPage t) (b.countStalls t w a c).ctl :=
  .bump (.bump (.bump .refl (by decide)) (by decide)) (by decide)

/-- The counts of stalls are no other register of the ARR page. -/
theorem Blk.countStalls_rd {off : Nat} (h : off < 0x4C ∨ 0x58 ≤ off) :
    (b.countStalls t w a c).ctl.rd (arrPage t + off) = b.ctl.rd (arrPage t + off) := by
  have bump {x : Ctl} {f : Fld} {n : Nat} (hf : f.off = 0x4C ∨ f.off = 0x50 ∨ f.off = 0x54) :
      (x.bump (arrPage t) f n).rd (arrPage t + off) = x.rd (arrPage t + off) := by
    rw [Ctl.bump, Ctl.bumpN, Ctl.rd_putN, if_neg (by omega)]
  rw [Blk.countStalls, Blk.onCtl_ctl, bump (.inr (.inr rfl)), bump (.inr (.inl rfl)), bump (.inl rfl)]

theorem Blk.countStalls_arrHalted : (b.countStalls t w a c).arrHalted t = b.arrHalted t :=
  Ctl.flag_congr (Blk.countStalls_rd (.inr (by decide)))

theorem Blk.countStalls_rows : (b.countStalls t w a c).ctl.get64 (arrPage t) F.ARR_ROWS_LO = b.ctl.get64 (arrPage t) F.ARR_ROWS_LO := by
  have h0 : (b.countStalls t w a c).ctl.rd (arrPage t + 0x40) = b.ctl.rd (arrPage t + 0x40) := Blk.countStalls_rd (.inl (by decide))
  have h4 : (b.countStalls t w a c).ctl.rd (arrPage t + 0x44) = b.ctl.rd (arrPage t + 0x44) := Blk.countStalls_rd (.inl (by decide))
  exact congrArg₂ (fun l h : Word => l.toNat + h.toNat * 2 ^ 32) h0 h4

end

/-! ### What the command does -/

section
variable {s : State} {t : TileId} {w a c : Nat} {d : Desc}

theorem arrayRowEnter_runs (ha : ArraysRun s t) (hd : s.blk.entering t = some d) :
    Runs (.arrayRowEnter t w a c) s ((s.blk.countStalls t w a c).rowEnter t d) := by
  obtain ⟨hs, hl, hv⟩ := ha
  show execArrayRowEnter t w a c s = _
  simp only [execArrayRowEnter, State.on_eq, hs, hl, hv, hd, Blk.countStalls]
  generalize s.blk.onCtl _ = b
  rfl

end

/-- What a row needs beside its own tokens: no code, the tile may issue, and each feeder holds its activation row with tokens for its step. -/
structure Blk.RowFed (b : Blk) (t : Nat) (d : Desc) : Prop where
  crossed : (b.tile t).crossed t d = none
  issue : b.ctl.mayIssue t = true
  fed : ∀ f ∈ miFeeders d, ∃ q, (b.tile t).feederNext f = some q ∧ (q.1.done < q.1.issued ∨ b.ctl.tokensReady t q.1.hdr = true)

section
variable {b : Blk} {t : Nat} {d : Desc}

theorem Blk.RowFed.length (h : b.RowFed t d) : ((b.tile t).feedRows d).length = (miFeeders d).length := by
  rw [Tile.feedRows, List.filterMap_length_eq_length]
  intro f hf
  obtain ⟨q, hq, -⟩ := h.fed f hf
  rw [hq]
  rfl

theorem Blk.RowFed.all (h : b.RowFed t d) :
    ((b.tile t).feedRows d).all (fun e => decide (e.2.1.done < e.2.1.issued) || b.ctl.tokensReady t e.2.1.hdr) = true := by
  rw [List.all_eq_true]
  intro e he
  obtain ⟨f, hf, he⟩ := List.mem_filterMap.1 he
  obtain ⟨q, hq, hr⟩ := h.fed f hf
  rw [hq] at he
  injection he with he
  rw [← he]
  simpa using hr

/-- Counting stalls takes nothing from what a row needs. -/
theorem Blk.RowFed.countStalls {w a c : Nat} (h : b.RowFed t d) : (b.countStalls t w a c).RowFed t d := by
  have hp := b.countStalls_pageOnly (t := t) (w := w) (a := a) (c := c)
  refine ⟨by rw [Blk.countStalls_tile, h.crossed], (hp.mayIssue (.inl rfl)).trans h.issue, fun f hf => ?_⟩
  obtain ⟨q, hq, hr⟩ := h.fed f hf
  exact ⟨q, by rw [Blk.countStalls_tile, hq], by rwa [hp.tokensReady (.inl rfl)]⟩

/-- A row that crosses into a feeder descriptor that fails halts the arrays. -/
theorem Blk.rowEnter_crosses {code : Nat} (h : (b.tile t).crossed t d = some code) : b.rowEnter t d = b.arrHalt t 4 code := by
  rw [Blk.rowEnter, h]

/-- The next sub-row of a row part of whose sub-rows have entered. -/
theorem Blk.rowEnter_goesOn {j : RowJob} (h : b.RowFed t d) (hp : (b.tile t).part = some j) :
    b.rowEnter t d = b.enterRow t d j ((b.tile t).feedRows d) := by
  simp only [Blk.rowEnter, h.crossed, h.length, h.all, h.issue, hp, lt_self_iff_false, decide_false, Bool.not_true, Bool.or_self,
    Bool.false_eq_true, if_false]

/-- The next row of the instruction, or its first sub-row. -/
theorem Blk.rowEnter_begins {w : WBlock} (h : b.RowFed t d) (hp : (b.tile t).part = none) (hw : (b.tile t).curBlk = some w)
    (ht : b.ctl.tokensReady t d.hdr = true) (hr : (b.tile t).ringOk d d.issued = true) : b.rowEnter t d =
      (b.issue t 4 d).enterRow t d { ser := d.ser, words := d.words, row := d.issued, block := w } ((b.tile t).feedRows d) := by
  simp only [Blk.rowEnter, h.crossed, h.length, h.all, h.issue, hp, hw, ht, hr, lt_self_iff_false, decide_false, Bool.not_true, Bool.or_self,
    Bool.false_eq_true, if_false]

end

theorem subRows_cons (e : Nat × Desc × ARow) (l : List (Nat × Desc × ARow)) (f : Nat) :
    subRows (e :: l) f = (if e.1 = f then [e.2.2] else []) ++ subRows l f := by
  by_cases h : e.1 = f <;> simp [subRows, h]

/-- Of a list that names each feeder once, the sub-row of feeder `f` is the one it holds. -/
theorem subRows_filterMap {l : List Nat} (hl : l.Nodup) (g : Nat → Option (Desc × ARow)) (f : Nat) :
    subRows (l.filterMap fun f => (g f).map fun e => (f, e)) f = if f ∈ l then ((g f).map (·.2)).toList else [] := by
  induction l with
  | nil => rfl
  | cons a l ih =>
    obtain ⟨ha, hl⟩ := List.nodup_cons.1 hl
    have ih := ih hl
    by_cases hf : a = f
    · subst hf
      rw [if_neg ha] at ih
      cases hg : g a <;> simp [hg, subRows_cons, ih]
    · have hf' : f ≠ a := fun h => hf h.symm
      cases hg : g a <;> simp [hg, subRows_cons, ih, hf, hf']

theorem miFeeders_nodup (d : Desc) : (miFeeders d).Nodup := by
  rw [miFeeders]
  split_ifs <;> decide

/-- The sub-row of each feeder the instruction draws from enters. -/
theorem Tile.subRows_feedRows (x : Tile) (d : Desc) (f : Nat) :
    subRows (x.feedRows d) f = if f ∈ miFeeders d then ((x.feederNext f).map (·.2)).toList else [] :=
  subRows_filterMap (miFeeders_nodup d) _ f

end Sys2Proof.Machine
end

section
/-!
PROOF. Accumulator rows: what the write of a row does to its own and to the others (03 R59, R66 to R71).
-/
namespace Sys2Proof.Machine

/-! ### Accumulator rows -/

theorem Tile.accRow_setAccRow (x : Tile) {a r a' r' : Nat} (v : AccRow) (hr : r < 512) (hr' : r' < 512) :
    (x.setAccRow a r v).accRow a' r' = if a' = a ∧ r' = r then v else x.accRow a' r' := by
  rw [Tile.accRow, Tile.setAccRow, SMap.get_set]
  by_cases h : a' = a ∧ r' = r
  · rw [if_pos (by rw [h.1, h.2]), if_pos h]
  · rw [if_neg (by omega), if_neg h, Tile.accRow]

/-- The accumulation type: INT64 for a long instruction, else FP32 or INT32. -/
theorem miAccType_long {d : Desc} (h : miLong d = true) : miAccType d = 3 := if_pos h

theorem miAccType_short {d : Desc} (h : miLong d = false) : miAccType d = 1 ∨ miAccType d = 2 := by
  rw [miAccType, if_neg (by simp [h])]
  split_ifs
  · exact .inr rfl
  · exact .inl rfl

/-- The physical rows of a row of the bank are rows of the bank. -/
theorem miPhys_lt {d : Desc} {i q : Nat} (h : miAccRow d i < miDepth d) (hq : q ∈ miPhys d i) : q < 512 := by
  rw [miDepth] at h
  rw [miPhys, physRows] at hq
  split_ifs at h hq
  · simp only [List.mem_cons, List.not_mem_nil, or_false] at hq
    omega
  · rw [List.mem_singleton.1 hq]
    exact h

/-- Rows of array `a` written with values of type `ty`: those that `l` lists. -/
structure Tile.AccWrote (x y : Tile) (a ty : Nat) (l : List Nat) : Prop where
  tag : ∀ q ∈ l, (y.accRow a q).tag = ty
  other : ∀ a' q, q < 512 → a' ≠ a ∨ q ∉ l → y.accRow a' q = x.accRow a' q
  fly : y.fly = x.fly

theorem Tile.AccWrote.one (x : Tile) {a r : Nat} (v : AccRow) (hr : r < 512) : x.AccWrote (x.setAccRow a r v) a v.tag [r] where
  tag q hq := by
    rw [List.mem_singleton.1 hq, Tile.accRow_setAccRow x v hr hr, if_pos ⟨rfl, rfl⟩]
  other a' q hq h := by
    rw [Tile.accRow_setAccRow x v hr hq, if_neg]
    rintro ⟨rfl, rfl⟩
    simp at h
  fly := rfl

/-- A pair of rows written, the second after the first. -/
theorem Tile.AccWrote.two (x : Tile) {a r q : Nat} (v w : AccRow) (hr : r < 512) (hq : q < 512) (ht : w.tag = v.tag) :
    x.AccWrote ((x.setAccRow a r v).setAccRow a q w) a v.tag [r, q] where
  tag k hk := by
    have hk512 : k < 512 := by
      simp only [List.mem_cons, List.not_mem_nil, or_false] at hk
      omega
    rw [Tile.accRow_setAccRow _ w hq hk512]
    split_ifs with h
    · exact ht
    · refine (Tile.AccWrote.one x v hr).tag k ?_
      simp only [List.mem_cons, List.not_mem_nil, or_false] at hk ⊢
      exact hk.resolve_right fun e => h ⟨rfl, e⟩
  other a' k hk h := by
    simp only [List.mem_cons, List.not_mem_nil, or_false, not_or] at h
    rw [Tile.accRow_setAccRow _ w hq hk, if_neg fun e => h.elim (· e.1) (·.2 e.2), Tile.accRow_setAccRow x v hr hk,
      if_neg fun e => h.elim (· e.1) (·.1 e.2)]
  fly := rfl

/-- Writing a row sets its physical rows, with the accumulation type's tag. -/
theorem writeRow_wrote (x : Tile) {d : Desc} {i : Nat} (w : WBlock) (a : Nat) (subs : List ARow) (h : miAccRow d i < miDepth d) :
    x.AccWrote (writeRow x d w a i subs).tile a (miAccType d) (miPhys d i) := by
  have hlt := fun q => miPhys_lt (q := q) h
  rw [miPhys, physRows] at hlt ⊢
  cases hl : miLong d with
  | true =>
    have ht := miAccType_long hl
    rw [hl, if_pos rfl] at hlt
    have h0 := hlt (2 * miAccRow d i) (by simp)
    have h1 := hlt (2 * miAccRow d i + 1) (by simp)
    simp only [writeRow, ht, if_true]
    exact .two x _ _ h0 h1 rfl
  | false =>
    have h0 := hlt (miAccRow d i) (by simp [hl])
    rcases miAccType_short hl with ht | ht
    · simp only [writeRow, ht, if_true]
      exact .one x _ h0
    · simp only [writeRow, ht]
      exact .one x _ h0

/-! ### What the tag of the target makes of a write (03 R70) -/

theorem accTag_short (x : Tile) {a r : Nat} {d : Desc} (h : miLong d = false) : accTag x a r (miLong d) = (x.accRow a r).tag := by
  rw [accTag, h]
  exact if_neg (by decide)

theorem Tile.accRow_setAccRow_same (x : Tile) (a r : Nat) (v : AccRow) : (x.setAccRow a r v).accRow a r = v := by
  rw [Tile.accRow, Tile.setAccRow, SMap.get_set, if_pos rfl]

/-- A write that does not accumulate, be it over an EMPTY row, takes nothing from what the row held. -/
theorem writeRow_fresh {x y : Tile} {d : Desc} {w : WBlock} {a i : Nat} {subs : List ARow} (hl : miLong d = false)
    (h : miAccMode d = 1 ∨ ((x.accRow a (miAccRow d i)).tag = 0 ∧ (y.accRow a (miAccRow d i)).tag = 0)) :
    (writeRow x d w a i subs).tile.accRow a (miAccRow d i) = (writeRow y d w a i subs).tile.accRow a (miAccRow d i) ∧
      (writeRow x d w a i subs).mism = false := by
  rcases h with h | ⟨hx, hy⟩
  · rcases miAccType_short hl with ht | ht
    · simp [writeRow, ht, accTag_short _ hl, h, Tile.accRow_setAccRow_same]
    · simp [writeRow, ht, accTag_short _ hl, h, Tile.accRow_setAccRow_same]
  · rcases miAccType_short hl with ht | ht
    · simp [writeRow, ht, accTag_short _ hl, hx, hy, Tile.accRow_setAccRow_same]
    · simp [writeRow, ht, accTag_short _ hl, hx, hy, Tile.accRow_setAccRow_same]

/-- Accumulating into a row of another type poisons every element. -/
theorem writeRow_mismatch {x : Tile} {d : Desc} {w : WBlock} {a i : Nat} {subs : List ARow} (hl : miLong d = false)
    (hm : miAccMode d = 0) (h0 : (x.accRow a (miAccRow d i)).tag ≠ 0) (h : (x.accRow a (miAccRow d i)).tag ≠ miAccType d) :
    (writeRow x d w a i subs).mism = true ∧ ((writeRow x d w a i subs).tile.accRow a (miAccRow d i)).bad = List.replicate 64 true := by
  rcases miAccType_short hl with ht | ht
  · rw [ht] at h
    simp [writeRow, ht, accTag_short _ hl, hm, h0, h, Tile.accRow_setAccRow_same]
  · rw [ht] at h
    simp [writeRow, ht, accTag_short _ hl, hm, h0, h, Tile.accRow_setAccRow_same]

/-! ### The oldest row written (03 R59) -/

/-- What the writing of a row counts. -/
def Ctl.rowCounts (c : Ctl) (t : Nat) (r : RowResult) : Ctl :=
  let p := arrPage t
  let c := if r.mism then (c.errHw p 0x04).raise p 4 else c
  let c := if r.wraps = 0 then c else (c.bump p F.ARR_INT_WRAP r.wraps).raise p 2
  if r.bad then (c.bump p F.ARR_POISON_ROWS).raise p 3 else c

/-- The result of row `j` written in array `a`. -/
def Blk.writeArray (b : Blk) (t : Nat) (j : RowJob) (a : Nat) : Blk :=
  let r := writeRow (b.tile t) { words := j.words } j.block a j.row (if a = 0 then j.a else j.b)
  (b.setTile t r.tile).onCtl fun c => c.rowCounts t r

/-- The oldest row of those in flight, `j`, written in the arrays its instruction names. -/
def Blk.writeJob (b : Blk) (t : Nat) (j : RowJob) (rest : List RowJob) : Blk :=
  (miFeeders { words := j.words }).foldl (fun b a => b.writeArray t j a) (b.onTile t fun x => { x with fly := rest })

/-- The step of a row written completes, and with the last of its rows the instruction. -/
def Blk.closeJob (b : Blk) (t : Nat) (j : RowJob) : Blk :=
  if ((((b.stepDone t 4 j.ser).tile t).queue 4).find j.ser).isNone then
    (b.stepDone t 4 j.ser).onCtl fun c => c.bumpWrap (arrPage t) F.ARR_INSTR
  else b.stepDone t 4 j.ser

theorem accRowWrite_runs {s : State} {t : TileId} {j : RowJob} {rest : List RowJob} (hs : isSTile t = false) (hl : s.blk.live t = true)
    (hf : (s.blk.tile t).fly = j :: rest) : Runs (.accRowWrite t) s ((s.blk.writeJob t j rest).closeJob t j) := by
  show execAccRowWrite t s = _
  simp only [execAccRowWrite, State.on_eq, hs, hl, hf]
  rfl

/-- `b'` follows from `b` by the writing of row `j` in the arrays that `l` lists. -/
structure Blk.JobWrote (t : Nat) (j : RowJob) (b b' : Blk) (l : List Nat) : Prop where
  others : SameOthers b b' t
  fly : (b'.tile t).fly = (b.tile t).fly
  tag : ∀ a ∈ l, ∀ q ∈ miPhys { words := j.words } j.row, ((b'.tile t).accRow a q).tag = miAccType { words := j.words }
  other : ∀ a q, q < 512 → a ∉ l ∨ q ∉ miPhys { words := j.words } j.row → (b'.tile t).accRow a q = (b.tile t).accRow a q

theorem Blk.writeArrays_wrote {t : Nat} {j : RowJob} (h : miAccRow { words := j.words } j.row < miDepth { words := j.words })
    (l : List Nat) (b : Blk) : b.JobWrote t j (l.foldl (fun b a => b.writeArray t j a) b) l := by
  induction l using List.reverseRecOn with
  | nil => exact ⟨.refl, rfl, by simp, fun _ _ _ _ => rfl⟩
  | append_singleton l a ih =>
    rw [List.foldl_concat]
    generalize l.foldl (fun b a => b.writeArray t j a) b = c at ih
    have hw := writeRow_wrote (c.tile t) j.block a (if a = 0 then j.a else j.b) h
    have ht : (c.writeArray t j a).tile t =
        (writeRow (c.tile t) { words := j.words } j.block a j.row (if a = 0 then j.a else j.b)).tile := by
      rw [Blk.writeArray, Blk.onCtl_tile, Blk.setTile_tile_same]
    refine ⟨(ih.others.setTile _).onCtl _, by rw [ht, hw.fly, ih.fly], fun k hk q hq => ?_, fun k q hq512 hk => ?_⟩
    all_goals rw [ht]
    · by_cases hka : k = a
      · rw [hka]
        exact hw.tag q hq
      · rw [hw.other k q (miPhys_lt h hq) (.inl hka)]
        exact ih.tag k ((List.mem_append.1 hk).resolve_right (by simpa using hka)) q hq
    · simp only [List.mem_append, List.mem_singleton, not_or] at hk
      rw [hw.other k q hq512 (hk.imp_left And.right), ih.other k q hq512 (hk.imp_left And.left)]

theorem Blk.closeJob_streamed (b : Blk) (t : Nat) (j : RowJob) : b.Streamed t (b.closeJob t j) := by
  have h := (b.stepDone_stepped t 4 j.ser).streamed
  rw [Blk.closeJob]
  split_ifs
  · exact ⟨h.others.onCtl _, by rw [Blk.onCtl_tile, h.bare]⟩
  · exact h

end Sys2Proof.Machine
end

section
/-!
PROOF. Rows pass through the arrays (03 R59, R70, R71, R75, R80, 08 R199).
-/
namespace Sys2Proof.Machine

section
variable {s : State} {t : TileId} {w a c : Nat} {d : Desc} {j : RowJob}

/-- A row that crosses into a feeder descriptor that fails halts the arrays, and none enters. -/
theorem arrayRowEnter_halts {code : Nat} (ha : ArraysRun s t) (hd : s.blk.entering t = some d)
    (hc : (s.blk.tile t).crossed t d = some code) : ∃ k, Runs (.arrayRowEnter t w a c) s k ∧ SameOthers s.blk k t ∧ k.arrHalted t = true ∧
      (k.tile t).fly = (s.blk.tile t).fly ∧ k.ctl.rd (arrPage t + 0x60) = BitVec.ofNat 32 (0x80000000 + code * 0x10000) := by
  have hv : (s.blk.countStalls t w a c).arrHalted t = false := Blk.countStalls_arrHalted.trans ha.2.2
  have hr := arrayRowEnter_runs (w := w) (a := a) (c := c) ha hd
  rw [Blk.rowEnter_crosses (by rw [Blk.countStalls_tile, hc])] at hr
  have hlt : code < 0x8000 := by
    obtain ⟨q, -, hq⟩ := List.exists_of_findSome?_eq_some hc
    split_ifs at hq
    exact feederCheck_lt hq
  refine ⟨_, hr, (SameOthers.refl.onCtl _).trans (Blk.arrHalt_others _ t 4 code), Blk.arrHalted_arrHalt hv hlt, ?_, Blk.rd_arrHalt hv⟩
  rw [Blk.arrHalt_tile, Blk.countStalls_tile]
  rfl

/-- The row whose sub-rows enter: that part of whose sub-rows have entered, else the instruction's next row, with its block, where its tokens
and its place in the ring are there. -/
def RowNext (s : State) (t : TileId) (d : Desc) (j : RowJob) : Prop :=
  (s.blk.tile t).part = some j ∨ ((s.blk.tile t).part = none ∧ ∃ w, (s.blk.tile t).curBlk = some w ∧ s.blk.ctl.tokensReady t d.hdr = true ∧
    (s.blk.tile t).ringOk d d.issued = true ∧ j = { ser := d.ser, words := d.words, row := d.issued, block := w })

/-- The next row, or sub-row, enters a block that differs in counts and steps only. -/
theorem arrayRowEnter_enters (ha : ArraysRun s t) (hd : s.blk.entering t = some d) (hf : s.blk.RowFed t d) (hj : RowNext s t d j) :
    ∃ b, Runs (.arrayRowEnter t w a c) s (b.enterRow t d j ((s.blk.tile t).feedRows d)) ∧ SameOthers s.blk b t ∧
      (b.tile t).fly = (s.blk.tile t).fly ∧
      b.ctl.get64 (arrPage t) F.ARR_ROWS_LO = s.blk.ctl.get64 (arrPage t) F.ARR_ROWS_LO := by
  have hr := arrayRowEnter_runs (w := w) (a := a) (c := c) ha hd
  have hfed := hf.countStalls (w := w) (a := a) (c := c)
  have hc : SameOthers s.blk (s.blk.countStalls t w a c) t := SameOthers.refl.onCtl _
  rcases hj with hp | ⟨hp, v, hv, ht, hring, rfl⟩
  · rw [Blk.rowEnter_goesOn hfed (by rw [Blk.countStalls_tile, hp]), Blk.countStalls_tile] at hr
    exact ⟨_, hr, hc, by rw [Blk.countStalls_tile], Blk.countStalls_rows⟩
  · have hi := (s.blk.countStalls t w a c).issue_stepped t 4 d
    rw [Blk.rowEnter_begins hfed (by rw [Blk.countStalls_tile, hp]) (by rw [Blk.countStalls_tile, hv])
      (by rw [Blk.countStalls_pageOnly.tokensReady (.inl rfl), ht]) (by rw [Blk.countStalls_tile, hring]), Blk.countStalls_tile] at hr
    exact ⟨_, hr, hc.trans hi.others, by rw [Tile.fly_of_bare hi.bare, Blk.countStalls_tile], hi.engines.arrRows.trans Blk.countStalls_rows⟩

end

/-- The row that entered first, written. -/
theorem accRowWrite_writes {s : State} {t : TileId} {j : RowJob} {rest : List RowJob} (hs : isSTile t = false) (hl : s.blk.live t = true)
    (hf : (s.blk.tile t).fly = j :: rest) (h : miAccRow { words := j.words } j.row < miDepth { words := j.words }) :
    ∃ b, Runs (.accRowWrite t) s b ∧ SameOthers s.blk b t ∧ (b.tile t).fly = rest ∧
      (∀ a ∈ miFeeders { words := j.words }, ∀ q ∈ miPhys { words := j.words } j.row,
        ((b.tile t).accRow a q).tag = miAccType { words := j.words }) ∧
      ∀ a q, q < 512 → a ∉ miFeeders { words := j.words } ∨ q ∉ miPhys { words := j.words } j.row →
        (b.tile t).accRow a q = (s.blk.tile t).accRow a q := by
  have hw := Blk.writeArrays_wrote (t := t) h (miFeeders { words := j.words }) (s.blk.onTile t fun x => { x with fly := rest })
  have hc := (s.blk.writeJob t j rest).closeJob_streamed t j
  have hrow (a q : Nat) : (((s.blk.writeJob t j rest).closeJob t j).tile t).accRow a q = ((s.blk.writeJob t j rest).tile t).accRow a q := by
    rw [Tile.accRow, Tile.acc_of_bare hc.bare, Tile.accRow]
  refine ⟨_, accRowWrite_runs hs hl hf, ((SameOthers.refl.onTile _).trans hw.others).trans hc.others, ?_, fun a ha q hq => ?_, fun a q hq hn => ?_⟩
  · rw [Tile.fly_of_bare hc.bare]
    refine hw.fly.trans ?_
    rw [Blk.onTile_tile_same]
  · rw [hrow]
    exact hw.tag a ha q hq
  · rw [hrow]
    refine (hw.other a q hq hn).trans ?_
    rw [Blk.onTile_tile_same]
    rfl

/-- The physical rows of a row: the pair of a long row, else the row alone. -/
theorem mem_miPhys {d : Desc} {i q : Nat} : q ∈ miPhys d i ↔ q = (if miAccType d = 3 then 2 * miAccRow d i else miAccRow d i) ∨
    q = (if miAccType d = 3 then 2 * miAccRow d i + 1 else miAccRow d i) := by
  rw [miPhys, physRows]
  cases hl : miLong d with
  | true => simp [miAccType_long hl]
  | false => rcases miAccType_short hl with h | h <;> simp [h]

/-- Settles O12: what a row waits for read off `rowEnter`, the writing of a row from its physical rows. A sub-row enters after another, a row
as one step (log 49). -/
theorem rowsPassThroughTheArrays : Obligations.RowsPassThroughTheArrays := by
  unfold Obligations.RowsPassThroughTheArrays
  refine ⟨fun s t a b c d ha hd => ⟨fun code hc => arrayRowEnter_halts ha hd hc, ?_⟩, ?_, ?_⟩
  · intro j hc hi hfed hj j' n
    have hg : j' = j.grown ((s.blk.tile t).feedRows d) := by
      rw [RowJob.grown, Tile.subRows_feedRows, Tile.subRows_feedRows]
    obtain ⟨k, hr, ho, hfly, hrows⟩ := arrayRowEnter_enters (w := a) (a := b) (c := c) ha hd ⟨hc, hi, hfed⟩ hj
    refine ⟨fun hn => ?_, fun hn => ?_⟩
    · rw [hg] at hn ⊢
      obtain ⟨hp, hf⟩ := Blk.enterRow_part (t := t) (b := k) hn
      exact ⟨_, hr, ho.trans Blk.enterRow_others, hp, hf.trans hfly⟩
    · rw [hg] at hn ⊢
      obtain ⟨hp, hf, hcount⟩ := Blk.enterRow_fly (t := t) (b := k) hn
      exact ⟨_, hr, ho.trans Blk.enterRow_others, hp, by rw [hf, hfly], by rw [hcount, hrows]⟩
  · intro s t j rest hs hl hf d lo hi hrow
    obtain ⟨b, hr, ho, hfly, htag, hother⟩ := accRowWrite_writes hs hl hf hrow
    refine ⟨b, hr, ho, hfly, fun a ha => ⟨htag a ha lo (mem_miPhys.2 (.inl rfl)), htag a ha hi (mem_miPhys.2 (.inr rfl))⟩,
      fun a q _ hq h => hother a q hq (h.imp_right fun h hm => ?_)⟩
    exact (mem_miPhys.1 hm).elim h.1 h.2
  · intro x y d w a i subs hl _ r tag
    exact ⟨writeRow_fresh hl, fun hm h0 h => writeRow_mismatch hl hm h0 h⟩

end Sys2Proof.Machine
end

section
/-!
PROOF. Vector descriptors, and vector rows that issue (03 R72, 05 R109, R121, R126, R129, R135, 07 R163).
-/
namespace Sys2Proof.Machine

/-! ### The descriptor (05 R121, R129, R135) -/

section
variable {b b' : Blk} {t u off : Nat}

/-- Reading a descriptor leaves the registers of the VEC page past its header. -/
theorem Ctl.EnginesKept.vecReg {c d : Ctl} (h : c.EnginesKept t d) (ho : off < 0x1000) : d.rd (vecPage t + off) = c.rd (vecPage t + off) :=
  h _ (by simp only [engineReg, arrPage, vecPage, spdPage, tilePage]; omega)

theorem Blk.vecHalt_tile (b : Blk) (t code : Nat) :
    (b.vecHalt t code).tile t = (b.tile t).setQueue 5 { (b.tile t).queue 5 with halted := true } := by
  rw [Blk.vecHalt, Blk.onCtl_tile, Blk.onTile_tile_same]

theorem Blk.rd_vecHalt (b : Blk) (t code : Nat) :
    (b.vecHalt t code).ctl.rd (vecPage t + 0x58) = BitVec.ofNat 32 (0x80000000 + code * 0x10000) := by
  simp only [Blk.vecHalt, Blk.onCtl_ctl, Blk.onTile_ctl]
  rw [Ctl.rd_halted _ (.inr rfl) (by decide) (by decide), Ctl.rd_wr]
  exact if_pos rfl

/-- The guard settings of the VEC page latched for the descriptor installed, and the LFSR from the seed where it says so. -/
def Tile.latchGuards (x : Tile) (c : Ctl) (t : Nat) (d : Desc) : Tile :=
  { x with vec := { x.vec with
      guard := c.rd (vecPage t + F.VEC_GUARD_CTRL.off)
      tol := c.rd (vecPage t + F.VEC_CSUM_TOL.off)
      wins := (List.range 8).map fun n => (c.rd (vecPage t + F.VEC_WIN_LO_LO.off + 8 * n), c.rd (vecPage t + F.VEC_WIN_HI_HI.off + 8 * n))
      lfsr := if vdReseed d && !d.void then c.get64 (vecPage t) F.VEC_LFSR_SEED_LO_SEED_LO else x.vec.lfsr
      waits := none } }

end

section
variable {s : State} {t : TileId} {e : List Ecc} {d : Desc} {b' : Blk}

theorem vectorDescriptor_runs (hl : s.blk.live t = true) (hd : s.blk.takeHead t 5 e = .ready d b') :
    Runs (.vectorDescriptor t e) s (match vectorCheck t d with
      | some code => b'.vecHalt t code
      | none => (b'.install t 5 d (vdRows d)).onTile t fun x => x.latchGuards b'.ctl t d) := by
  show execVectorDescriptor t e s = _
  simp only [execVectorDescriptor, State.on_eq, hl, hd]
  cases vectorCheck t d <;> rfl

theorem vectorDescriptor_takes (hl : s.blk.live t = true) (hd : s.blk.takeHead t 5 e = .ready d b') (hc : vectorCheck t d = none) :
    ∃ b, Runs (.vectorDescriptor t e) s b ∧ SameOthers s.blk b t ∧ ((b.tile t).queue 5).cur = some { d with steps := vdRows d } ∧
      (b.tile t).vec.guard = s.blk.ctl.rd (vecPage t + 0x40) ∧ (b.tile t).vec.tol = s.blk.ctl.rd (vecPage t + 0x44) ∧
      (b.tile t).vec.lfsr = if vdReseed d && !d.void then s.blk.ctl.rd64 (vecPage t + 0x48) else (s.blk.tile t).vec.lfsr := by
  have h := Blk.takeHead_headRead hd
  have hq := h.install_queue d (vdRows d) 5
  rw [if_pos rfl] at hq
  have hv := Tile.vec_of_bare (h.install_bare d (vdRows d))
  have hr := vectorDescriptor_runs hl hd
  rw [hc] at hr
  refine ⟨_, hr, (h.install_others d _).onTile _, ?_, ?_, ?_, ?_⟩
  all_goals rw [Blk.onTile_tile_same]
  · exact congrArg Queue.cur hq
  · exact h.engines.vecReg (by decide)
  · exact h.engines.vecReg (by decide)
  · rw [Tile.latchGuards, hv, ← h.engines.rd64 (a := vecPage t + 0x48)]
    · rfl
    all_goals simp only [arrPage, vecPage, spdPage, tilePage]; omega

theorem vectorDescriptor_halts {code : Nat} (hl : s.blk.live t = true) (hd : s.blk.takeHead t 5 e = .ready d b')
    (hc : vectorCheck t d = some code) : ∃ b, Runs (.vectorDescriptor t e) s b ∧ SameOthers s.blk b t ∧
      ((b.tile t).queue 5).halted = true ∧ (b.tile t).vec = (s.blk.tile t).vec ∧
      b.ctl.rd (vecPage t + 0x58) = BitVec.ofNat 32 (0x80000000 + code * 0x10000) := by
  have h := Blk.takeHead_headRead hd
  have hr := vectorDescriptor_runs hl hd
  rw [hc] at hr
  refine ⟨_, hr, (h.others.onTile _).onCtl _, ?_, ?_, b'.rd_vecHalt t code⟩
  all_goals rw [Blk.vecHalt_tile]
  · rw [Tile.queue_setQueue_same _ _ h.there]
  · exact Tile.vec_of_bare h.bare

end

end Sys2Proof.Machine
end

section
/-!
PROOF. Vector rows that issue (03 R72, 05 R109, R116, R117, R126, 06 R143, 07 R163).
-/
namespace Sys2Proof.Machine

/-! ### What computing a row leaves as it was -/

/-- A tile but for what computing a vector row changes: what steps and reads change, the accumulators it releases, and the lanes' own state. -/
def Tile.sansLanes (x : Tile) : Tile := { x.bare with acc := [], vec := { x.vec with sliceE := 0, lfsr := 0, waits := none } }

/-- `b` follows from `a` by the computing of a vector row of tile `t`. -/
structure Blk.Laned (t : Nat) (a b : Blk) : Prop where
  others : SameOthers a b t
  sans : (b.tile t).sansLanes = (a.tile t).sansLanes

section
variable {a b c : Blk} {t : Nat}

theorem Blk.Laned.refl : a.Laned t a := ⟨.refl, rfl⟩
theorem Blk.Laned.trans (h : a.Laned t b) (g : b.Laned t c) : a.Laned t c := ⟨h.others.trans g.others, g.sans.trans h.sans⟩

theorem Blk.Streamed.laned (h : a.Streamed t b) : a.Laned t b :=
  ⟨h.others, congrArg (fun z : Tile => { z with acc := [], vec := { z.vec with sliceE := 0, lfsr := 0, waits := none } }) h.bare⟩

theorem Blk.Laned.setTile (h : a.Laned t b) {x : Tile} (hx : x.sansLanes = (b.tile t).sansLanes) : a.Laned t (b.setTile t x) :=
  ⟨h.others.setTile _, by rw [Blk.setTile_tile_same, hx, h.sans]⟩

theorem Blk.Laned.mem (h : a.Laned t b) : (b.tile t).sp.mem = (a.tile t).sp.mem := (congrArg (fun z : Tile => z.sp.mem) h.sans :)
theorem Blk.Laned.fifo (h : a.Laned t b) : (b.tile t).vec.fifo = (a.tile t).vec.fifo := (congrArg (fun z : Tile => z.vec.fifo) h.sans :)
theorem Blk.Laned.rows (h : a.Laned t b) : (b.tile t).vec.rows = (a.tile t).vec.rows := (congrArg (fun z : Tile => z.vec.rows) h.sans :)

end

theorem Tile.accRelease_sansLanes (x : Tile) (long : Bool) (a r : Nat) : (x.accRelease long a r).sansLanes = x.sansLanes :=
  List.foldlRecOn (motive := fun y : Tile => y.sansLanes = x.sansLanes) _ _ rfl fun _ hy _ _ => hy

/-- Reading accumulator rows changes no more than the tags of those released. -/
theorem Tile.accSource_sansLanes (x : Tile) (d : Desc) (k : Nat) : (x.accSource d k).2.sansLanes = x.sansLanes := by
  simp only [Tile.accSource]
  split_ifs
  · exact List.foldlRecOn (motive := fun y : Tile => y.sansLanes = x.sansLanes) _ _ rfl
      fun y hy e _ => (y.accRelease_sansLanes _ e.1 e.2).trans hy
  · rfl

theorem Blk.vecSource_laned (b : Blk) (t : Nat) (d : Desc) (i k : Nat) (e : List Ecc) : b.Laned t (b.vecSource t d i k e).blk := by
  rw [Blk.vecSource]
  split
  split
  · exact .refl
  · exact (b.stagedRead_streamed t _ _ _ _ e).laned

/-- The results of a row are kept in it: computing it stores nothing. -/
theorem Blk.vecRow_laned (b : Blk) (t : Nat) (d : Desc) (k : Nat) (e : List Ecc) : b.Laned t (b.vecRow t d k e).2 := by
  rw [Blk.vecRow]
  split
  next rds b1 h1 =>
  have hb1 : b.Laned t b1 := by
    split_ifs at h1
    · injection h1 with _ h1
      rw [← h1]
      exact Blk.Laned.refl.setTile ((b.tile t).accSource_sansLanes d k)
    · injection h1 with _ h1
      rw [← h1]
      exact .refl
  extract_lets g first exps b2 src ra rb rc v
  have hg : b1.Laned t g.blk := (b1.stagedRead_streamed t _ _ _ _ e).laned
  have hfirst : b1.Laned t first.blk := by
    unfold first
    split_ifs
    · exact hg
    · exact .refl
  have hb2 : b1.Laned t b2 := by
    unfold b2
    split_ifs
    · exact hfirst.setTile rfl
    · exact .refl
  have hsrc (c : Blk) (e : List Ecc) (i : Nat) : c.Laned t (src c e i).blk := by
    unfold src
    split_ifs
    · exact .refl
    · exact .refl
    · exact c.vecSource_laned t d i k e
  have hrc : b.Laned t rc.blk := (((hb1.trans hb2).trans (hsrc _ _ _)).trans (hsrc _ _ _)).trans (hsrc _ _ _)
  exact hrc.setTile rfl

end Sys2Proof.Machine
end

section
/-!
PROOF. VECTOR_ROW: the next row issues, waits for the rows it reads, or does not go on (03 R72, 05 R109, R126, 07 R163).
-/
namespace Sys2Proof.Machine

/-- The next row of descriptor `d` computed, or void; it waits no longer. -/
def Blk.computeRow (b : Blk) (t : Nat) (d : Desc) (e : List Ecc) : VRow × Blk :=
  let c := b.setTile t { b.tile t with vec := { (b.tile t).vec with waits := none } }
  if d.void then ({ ser := d.ser, row := d.issued, void := true, lfsr := (b.tile t).vec.lfsr }, c) else c.vecRow t d d.issued e

/-- The next row of descriptor `d` in flight, and what it counts. -/
def Blk.flyRow (b : Blk) (t : Nat) (d : Desc) (e : List Ecc) : Blk :=
  let r := b.computeRow t d e
  (List.range r.1.mism).foldl (fun b _ => b.onCtl fun c =>
      ((c.bump (vecPage t) F.VEC_ACC_MISMATCH_COUNT).errHw (vecPage t) 0x05).raise (vecPage t) 3)
    (r.2.onTile t fun x => { x with vec := { x.vec with rows := x.vec.rows ++ [r.1] } })

/-- VECTOR_ROW once the cycles it waited for an operand are counted. -/
def Blk.rowIssue (b : Blk) (t late : Nat) (d : Desc) (e : List Ecc) : Blk :=
  if !b.ctl.tokensReady t d.hdr || decide (4 ≤ min late (b.tile t).vec.rows.length) || (b.tile t).vec.full then b
  else if !(b.accWaits t d d.issued).isEmpty then
    b.setTile t { b.tile t with vec := { (b.tile t).vec with waits := some (b.accWaits t d d.issued) } }
  else (b.flyRow t d e).issue t 5 d

/-- The cycles a row waited for an operand counted in the VEC page. -/
def Blk.countWait (b : Blk) (t n : Nat) : Blk := b.onCtl fun c => c.bump (vecPage t) F.VEC_STALL_IN_CYCLES n

section
variable {b : Blk} {t n late : Nat} {d : Desc} {e : List Ecc}

theorem Blk.countWait_tile : (b.countWait t n).tile t = b.tile t := b.onCtl_tile _ t

theorem Blk.countWait_tokens (w : Word) : (b.countWait t n).ctl.tokensReady t w = b.ctl.tokensReady t w :=
  (Ctl.PageOnly.bump .refl (by decide)).tokensReady (.inr rfl) w

theorem Blk.onCtl_accWaits (b : Blk) (f : Ctl → Ctl) (t : Nat) (d : Desc) (k : Nat) : (b.onCtl f).accWaits t d k = b.accWaits t d k := rfl

theorem Blk.countWait_accWaits (k : Nat) : (b.countWait t n).accWaits t d k = b.accWaits t d k := b.onCtl_accWaits _ t d k

theorem Blk.rowIssue_stops (h : ¬ min late (b.tile t).vec.rows.length < 4 ∨ (b.tile t).vec.full = true) : b.rowIssue t late d e = b := by
  rw [Blk.rowIssue, if_pos]
  rcases h with h | h
  · simp only [Bool.or_eq_true, decide_eq_true_eq]
    omega
  · simp [h]

section
variable (ht : b.ctl.tokensReady t d.hdr = true) (hl : min late (b.tile t).vec.rows.length < 4) (hf : (b.tile t).vec.full = false)
include ht hl hf

theorem Blk.rowIssue_waits (hw : b.accWaits t d d.issued ≠ []) : b.rowIssue t late d e =
    b.setTile t { b.tile t with vec := { (b.tile t).vec with waits := some (b.accWaits t d d.issued) } } := by
  rw [Blk.rowIssue, if_neg, if_pos]
  · simpa using hw
  · simp [ht, hf, Nat.not_le.mpr hl]

theorem Blk.rowIssue_issues (hw : b.accWaits t d d.issued = []) : b.rowIssue t late d e = (b.flyRow t d e).issue t 5 d := by
  rw [Blk.rowIssue, if_neg, if_neg]
  · simp [hw]
  · simp [ht, hf, Nat.not_le.mpr hl]

end

theorem Blk.computeRow_laned (b : Blk) (t : Nat) (d : Desc) (e : List Ecc) : b.Laned t (b.computeRow t d e).2 := by
  have h : b.Laned t (b.setTile t { b.tile t with vec := { (b.tile t).vec with waits := none } }) := Blk.Laned.refl.setTile rfl
  rw [Blk.computeRow]
  split_ifs
  · exact h
  · exact h.trans (Blk.vecRow_laned _ t d _ e)

/-- A row computed is of its descriptor, in its turn, void where the descriptor is. -/
theorem Blk.computeRow_row (b : Blk) (t : Nat) (d : Desc) (e : List Ecc) :
    (b.computeRow t d e).1.ser = d.ser ∧ (b.computeRow t d e).1.row = d.issued ∧ (b.computeRow t d e).1.void = d.void := by
  rw [Blk.computeRow]
  split_ifs with h
  · exact ⟨rfl, rfl, h.symm⟩
  · exact ⟨rfl, rfl, ((Bool.not_eq_true _).mp h).symm⟩

/-- The row in flight, and all the rest as computing it left it but for registers. -/
theorem Blk.flyRow_tile (b : Blk) (t : Nat) (d : Desc) (e : List Ecc) : SameOthers (b.computeRow t d e).2 (b.flyRow t d e) t ∧
    (b.flyRow t d e).tile t = { (b.computeRow t d e).2.tile t with vec := { ((b.computeRow t d e).2.tile t).vec with
      rows := ((b.computeRow t d e).2.tile t).vec.rows ++ [(b.computeRow t d e).1] } } := by
  rw [Blk.flyRow]
  refine List.foldlRecOn (motive := fun c : Blk => SameOthers (b.computeRow t d e).2 c t ∧ c.tile t = _) _ _
    ⟨SameOthers.refl.onTile _, Blk.onTile_tile_same _ t _⟩ fun c hc _ _ => ⟨hc.1.onCtl _, ?_⟩
  rw [Blk.onCtl_tile, hc.2]

end

/-! ### What the command does -/

section
variable {s : State} {t : TileId} {late n : Nat} {e : List Ecc} {d : Desc}

theorem vectorRow_runs (hl : s.blk.live t = true) (hd : s.blk.current t 5 = some d) :
    Runs (.vectorRow t late n e) s ((s.blk.countWait t n).rowIssue t late d e) := by
  show execVectorRow t late n e s = _
  simp only [execVectorRow, State.on_eq, hl, hd, Blk.countWait]
  generalize s.blk.onCtl _ = b
  rfl

theorem vectorRow_stops (hl : s.blk.live t = true) (hd : s.blk.current t 5 = some d)
    (h : ¬ min late (s.blk.tile t).vec.rows.length < 4 ∨ (s.blk.tile t).vec.full = true) :
    ∃ b, Runs (.vectorRow t late n e) s b ∧ SameStore s.blk b := by
  have hr := vectorRow_runs (late := late) (n := n) (e := e) hl hd
  rw [Blk.rowIssue_stops (by rw [Blk.countWait_tile]; exact h)] at hr
  exact ⟨_, hr, s.blk.onCtl_tiles _, s.blk.onCtl_hbm _⟩

section
variable (hl : s.blk.live t = true) (hd : s.blk.current t 5 = some d) (ht : s.blk.ctl.tokensReady t d.hdr = true)
  (h4 : min late (s.blk.tile t).vec.rows.length < 4) (hf : (s.blk.tile t).vec.full = false)
include hl hd ht h4 hf

theorem vectorRow_waits (hw : s.blk.accWaits t d d.issued ≠ []) : ∃ b, Runs (.vectorRow t late n e) s b ∧ SameOthers s.blk b t ∧
    b.tile t = { s.blk.tile t with vec := { (s.blk.tile t).vec with waits := some (s.blk.accWaits t d d.issued) } } := by
  have hr := vectorRow_runs (late := late) (n := n) (e := e) hl hd
  rw [Blk.rowIssue_waits (by rw [Blk.countWait_tokens, ht]) (by rwa [Blk.countWait_tile]) (by rw [Blk.countWait_tile, hf])
    (by rwa [Blk.countWait_accWaits])] at hr
  refine ⟨_, hr, (SameOthers.refl.onCtl _).setTile _, ?_⟩
  rw [Blk.setTile_tile_same, Blk.countWait_tile, Blk.countWait_accWaits]

/-- The row is computed from the tile as it stands, and joins those in flight. -/
theorem vectorRow_issues (hw : s.blk.accWaits t d d.issued = []) : ∃ b, Runs (.vectorRow t late n e) s b ∧ SameOthers s.blk b t ∧
    (b.tile t).sp.mem = (s.blk.tile t).sp.mem ∧ (b.tile t).vec.fifo = (s.blk.tile t).vec.fifo ∧
    ∃ r, (b.tile t).vec.rows = (s.blk.tile t).vec.rows ++ [r] ∧ r.ser = d.ser ∧ r.row = d.issued ∧ r.void = d.void := by
  have hr := vectorRow_runs (late := late) (n := n) (e := e) hl hd
  rw [Blk.rowIssue_issues (by rw [Blk.countWait_tokens, ht]) (by rwa [Blk.countWait_tile]) (by rw [Blk.countWait_tile, hf])
    (by rwa [Blk.countWait_accWaits])] at hr
  have hx : (s.blk.countWait t n).tile t = s.blk.tile t := Blk.countWait_tile
  have hb : SameOthers s.blk (s.blk.countWait t n) t := SameOthers.refl.onCtl _
  generalize s.blk.countWait t n = b at hr hx hb
  have hc := b.computeRow_laned t d e
  obtain ⟨ho, hy⟩ := b.flyRow_tile t d e
  have hi := (b.flyRow t d e).issue_stepped t 5 d
  have hv := Tile.vec_of_bare hi.bare
  refine ⟨_, hr, ((hb.trans hc.others).trans ho).trans hi.others, ?_, ?_, (b.computeRow t d e).1, ?_, b.computeRow_row t d e⟩
  · rw [Tile.mem_of_bare hi.bare, hy, ← hx, ← hc.mem]
  · rw [hv, hy, ← hx, ← hc.fifo]
  · rw [hv, hy, ← hx, ← hc.rows]

end

end

end Sys2Proof.Machine
end

section
/-!
PROOF. A vector row completes: its writes, its counts and its summary; and the vector unit's statement (05 R109, R123 to R129, R145).
-/
namespace Sys2Proof.Machine

/-! ### The writes of a unit (06 R145, R151) -/

/-- Memory after a unit's write of `r` at `a`: words written in part and found uncorrectable are poisoned. -/
def Mem.unitStore (m : Mem) (a : Nat) (r : Run) (e : List Ecc) : Mem :=
  let ws := partWords a r.bytes.length
  (checks ws (ws.filter fun w => !m.isWritten w) e).foldl (fun m x => if x.2 = .uncorr then m.setBad x.1 true else m) (m.write a r)

/-- Memory after writes of a unit in order, each with the outcomes of its own words. -/
def Mem.unitStores (m : Mem) (e : List Ecc) : List VWrite → Mem
  | [] => m
  | w :: l => (m.unitStore w.addr w.run e).unitStores (e.drop (partWords w.addr w.run.bytes.length).length) l

/-- No word that is checked is found uncorrectable. -/
theorem NoLoss.checks {e : List Ecc} (h : NoLoss e) {ws colds : List Nat} {x : Nat × Ecc} (hx : x ∈ checks ws colds e) : x.2 ≠ .uncorr := by
  have hm := (List.of_mem_zip (List.mem_filter.1 hx).1).2
  rcases List.mem_append.1 hm with hm | hm
  · exact h _ hm
  · rw [List.eq_of_mem_replicate hm]
    decide

theorem NoLoss.unitStore {e : List Ecc} (h : NoLoss e) (m : Mem) (a : Nat) (r : Run) : m.unitStore a r e = m.write a r := by
  rw [Mem.unitStore]
  refine List.foldlRecOn (motive := fun k : Mem => k = m.write a r) _ _ rfl fun k hk x hx => ?_
  rw [if_neg (h.checks hx), hk]

theorem NoLoss.unitStores {e : List Ecc} (h : NoLoss e) (l : List VWrite) (m : Mem) :
    m.unitStores e l = l.foldl (fun m w => m.write w.addr w.run) m := by
  induction l generalizing m e with
  | nil => rfl
  | cons w l ih =>
    have hd : NoLoss (e.drop (partWords w.addr w.run.bytes.length).length) := fun x hx => h x (List.mem_of_mem_drop hx)
    rw [Mem.unitStores, h.unitStore, ih hd, List.foldl_cons]

theorem Blk.spStore_tile (b : Blk) (t a : Nat) (r : Run) (e : List Ecc) : SameOthers b (b.spStore t a r e) t ∧
    ((b.spStore t a r e).tile t).vec = (b.tile t).vec ∧ ((b.spStore t a r e).tile t).sp.mem = (b.tile t).sp.mem.unitStore a r e := by
  refine ⟨(SameOthers.refl.onCtl _).setTile _, ?_, ?_⟩
  all_goals rw [Blk.spStore, Blk.setTile_tile_same]
  · rfl
  · rfl

/-- Writes of a unit change its tile's scratchpad only. -/
theorem Blk.spStores_tile (t : Nat) (l : List VWrite) (b : Blk) (e : List Ecc) : SameOthers b (b.spStores t e l) t ∧
    ((b.spStores t e l).tile t).vec = (b.tile t).vec ∧ ((b.spStores t e l).tile t).sp.mem = (b.tile t).sp.mem.unitStores e l := by
  induction l generalizing b e with
  | nil => exact ⟨.refl, rfl, rfl⟩
  | cons w l ih =>
    obtain ⟨ho, hv, hm⟩ := b.spStore_tile t w.addr w.run e
    obtain ⟨ho', hv', hm'⟩ := ih (b.spStore t w.addr w.run e) (e.drop (partWords w.addr w.run.bytes.length).length)
    exact ⟨ho.trans ho', hv'.trans hv, by rw [Blk.spStores, hm', hm, Mem.unitStores]⟩

/-! ### The summary FIFO (05 R126) -/

/-- A summary enters the FIFO. -/
def Vec.push (v : Vec) (m : Summary) : Vec := { v with fifo := v.fifo ++ [m] }

/-- A summary offered to the FIFO: it enters, or is held where the FIFO is full or others are held. -/
def Vec.offer (v : Vec) (m : Summary) : Vec := if v.full then { v with held := v.held ++ [m] } else v.push m

theorem Vec.full_iff (v : Vec) : v.full = true ↔ v.held ≠ [] ∨ 16 ≤ v.fifo.length := by
  simp [Vec.full, or_comm]

theorem Vec.offer_rows (v : Vec) (m : Summary) : (v.offer m).rows = v.rows := by
  rw [Vec.offer]
  split_ifs <;> rfl

theorem Vec.offer_enters {v : Vec} (m : Summary) (h0 : v.held = []) (h : v.fifo.length < 16) :
    (v.offer m).fifo = v.fifo ++ [m] ∧ (v.offer m).held = [] := by
  have hf : ¬ v.full = true := fun hf => ((Vec.full_iff v).1 hf).elim (· h0) (by omega)
  rw [Vec.offer, if_neg hf]
  exact ⟨rfl, h0⟩

theorem Vec.offer_held {v : Vec} (m : Summary) (h : v.held ≠ [] ∨ 16 ≤ v.fifo.length) :
    (v.offer m).fifo = v.fifo ∧ (v.offer m).held = v.held ++ [m] := by
  rw [Vec.offer, if_pos ((Vec.full_iff v).2 h)]
  exact ⟨rfl, rfl⟩

/-- What a summary offered leaves: but for the vector unit's own state, the block differs in registers only, and no 64-bit quantity of the VEC
page changes past its header. -/
structure Blk.Offered (t : Nat) (v : Vec) (b b' : Blk) : Prop where
  others : SameOthers b b' t
  tile : b'.tile t = { b.tile t with vec := v }
  regs : ∀ off, 0x18 < off → b'.ctl.rd64 (vecPage t + off) = b.ctl.rd64 (vecPage t + off)

section
variable {d : Desc}

theorem Ctl.rd64_raise (c : Ctl) (p n off : Nat) (h : 0x18 < off) : (c.raise p n).rd64 (p + off) = c.rd64 (p + off) := by
  have h0 : p + off ≠ p + 0x18 := by omega
  have h4 : p + off + 4 ≠ p + 0x18 := by omega
  rw [Ctl.rd64, Ctl.rd64, Ctl.rd_raise, Ctl.rd_raise, if_neg h0, if_neg h4]

theorem Blk.pushSummary_offered (b : Blk) (t : Nat) (m : Summary) : b.Offered t ((b.tile t).vec.push m) (b.pushSummary t m) := by
  rw [Blk.pushSummary]
  split_ifs
  · exact ⟨(SameOthers.refl.setTile _).onCtl _, by rw [Blk.onCtl_tile, Blk.setTile_tile_same]; rfl, fun off h => Ctl.rd64_raise _ _ _ off h⟩
  · exact ⟨SameOthers.refl.setTile _, Blk.setTile_tile_same _ _ _, fun _ _ => rfl⟩

theorem Blk.offerSummary_offered (b : Blk) (t : Nat) (m : Summary) : b.Offered t ((b.tile t).vec.offer m) (b.offerSummary t m) := by
  rw [Blk.offerSummary, Vec.offer]
  split_ifs
  · exact ⟨SameOthers.refl.setTile _, Blk.setTile_tile_same _ _ _, fun _ _ => rfl⟩
  · exact b.pushSummary_offered t m

/-- The first summary of a row offered to the FIFO, where its descriptor sends summaries there. -/
def Blk.offerRow (b : Blk) (t : Nat) (d : Desc) (sums : List (Nat × Summary)) : Blk :=
  match vdSumDst d % 2, sums with
  | 1, (_, m) :: _ => b.offerSummary t m
  | _, _ => b

/-- The vector unit once a row's summaries are offered. -/
def Vec.offerRow (v : Vec) (d : Desc) (sums : List (Nat × Summary)) : Vec :=
  match vdSumDst d % 2, sums with
  | 1, (_, m) :: _ => v.offer m
  | _, _ => v

theorem Vec.offerRow_rows (v : Vec) (d : Desc) (sums : List (Nat × Summary)) : (v.offerRow d sums).rows = v.rows := by
  unfold Vec.offerRow
  split
  · exact v.offer_rows _
  · rfl

theorem Vec.offerRow_cons (v : Vec) (i : Nat) (m : Summary) (l : List (Nat × Summary)) (h : vdSumDst d % 2 = 1) :
    v.offerRow d ((i, m) :: l) = v.offer m := by
  simp only [Vec.offerRow, h]

theorem Blk.offerRow_offered (b : Blk) (t : Nat) (d : Desc) (sums : List (Nat × Summary)) :
    b.Offered t ((b.tile t).vec.offerRow d sums) (b.offerRow t d sums) := by
  unfold Blk.offerRow Vec.offerRow
  split
  · exact b.offerSummary_offered t _
  · exact ⟨.refl, rfl, fun _ _ => rfl⟩

end

/-! ### The oldest row completes (05 R109, R123 to R129) -/

/-- The oldest row out of flight, and the running reduction after it. -/
def Vec.retire (v : Vec) (d : Desc) (r : VRow) (rest : List VRow) : Vec := { v with rows := rest, red := (rowSummaries d r v.red).2 }

/-- The results and the summaries of row `r` stored, the row no longer in flight. -/
def Blk.storeRow (b : Blk) (t : Nat) (d : Desc) (r : VRow) (rest : List VRow) (e : List Ecc) : Blk :=
  (b.setTile t { b.tile t with vec := (b.tile t).vec.retire d r rest }).spStores t e
    (r.writes ++ sumWrites d (rowSummaries d r (b.tile t).vec.red).1)

/-- What a row that completes counts, and the LFSR after it in LFSR_STATE. -/
def Ctl.closeRow (c : Ctl) (t n : Nat) (r : VRow) : Ctl :=
  let p := vecPage t
  let c := c.bump p F.VEC_STALL_OUT_CYCLES n
  let c := (c.bumpWrap p F.VEC_ROWS_COUNT).perf t 0x04 1
  let c := c.bump p F.VEC_CSUM_SKIP_COUNT r.skip
  let c := c.bump p F.VEC_CVT_REPLACED_COUNT r.replaced
  let c := c.bump p F.VEC_SLICE_LOST_COUNT r.lost
  let c := c.guardFails t r.row r.guard r.fails
  let c := if r.bad then (c.bump p F.VEC_POISON_OUT_COUNT).raise p 4 else c
  c.put64 p F.VEC_LFSR_STATE_LO_STATE_LO r.lfsr

theorem Ctl.closeRow_lfsr (c : Ctl) (t n : Nat) (r : VRow) : (c.closeRow t n r).rd64 (vecPage t + 0x50) = r.lfsr % 2 ^ 64 :=
  Ctl.rd64_wr64 _ _ _

section
variable {s : State} {t : TileId} {n : Nat} {e : List Ecc} {d : Desc} {r : VRow} {rest : List VRow} {m : Summary} {held : List Summary}

theorem vectorRowComplete_runs (hl : s.blk.live t = true) (hr : (s.blk.tile t).vec.rows = r :: rest)
    (hd : ((s.blk.tile t).queue 5).find r.ser = some d) : Runs (.vectorRowComplete t n e) s
      ((((s.blk.storeRow t d r rest e).onCtl fun c => c.closeRow t n r).offerRow t d
        (rowSummaries d r (s.blk.tile t).vec.red).1).stepDone t 5 r.ser) := by
  show execVectorRowComplete t n e s = _
  simp only [execVectorRowComplete, State.on_eq, hl, hr, hd]
  rfl

theorem Blk.storeRow_tile (b : Blk) : SameOthers b (b.storeRow t d r rest e) t ∧
    ((b.storeRow t d r rest e).tile t).vec = (b.tile t).vec.retire d r rest ∧
    ((b.storeRow t d r rest e).tile t).sp.mem =
      (b.tile t).sp.mem.unitStores e (r.writes ++ sumWrites d (rowSummaries d r (b.tile t).vec.red).1) := by
  obtain ⟨ho, hv, hm⟩ := Blk.spStores_tile t (r.writes ++ sumWrites d (rowSummaries d r (b.tile t).vec.red).1)
    (b.setTile t { b.tile t with vec := (b.tile t).vec.retire d r rest }) e
  rw [Blk.setTile_tile_same] at hv hm
  exact ⟨(SameOthers.refl.setTile _).trans ho, hv, hm⟩

/-- What the completion of a row makes of the vector unit, of memory and of LFSR_STATE. -/
theorem vectorRowComplete_completes (hl : s.blk.live t = true) (hr : (s.blk.tile t).vec.rows = r :: rest)
    (hd : ((s.blk.tile t).queue 5).find r.ser = some d) : ∃ b, Runs (.vectorRowComplete t n e) s b ∧ SameOthers s.blk b t ∧
      (b.tile t).vec = ((s.blk.tile t).vec.retire d r rest).offerRow d (rowSummaries d r (s.blk.tile t).vec.red).1 ∧
      b.ctl.rd64 (vecPage t + 0x50) = r.lfsr % 2 ^ 64 ∧
      (b.tile t).sp.mem =
        (s.blk.tile t).sp.mem.unitStores e (r.writes ++ sumWrites d (rowSummaries d r (s.blk.tile t).vec.red).1) := by
  have hrun := vectorRowComplete_runs (n := n) (e := e) hl hr hd
  obtain ⟨ho, hv, hm⟩ := s.blk.storeRow_tile (t := t) (d := d) (r := r) (rest := rest) (e := e)
  have hc := Ctl.closeRow_lfsr (s.blk.storeRow t d r rest e).ctl t n r
  generalize s.blk.storeRow t d r rest e = k at hrun ho hv hm hc
  have hf := (k.onCtl fun c => c.closeRow t n r).offerRow_offered t d (rowSummaries d r (s.blk.tile t).vec.red).1
  have hs := ((k.onCtl fun c => c.closeRow t n r).offerRow t d (rowSummaries d r (s.blk.tile t).vec.red).1).stepDone_stepped t 5 r.ser
  refine ⟨_, hrun, ((ho.onCtl _).trans hf.others).trans hs.others, ?_, ?_, ?_⟩
  · rw [Tile.vec_of_bare hs.bare, hf.tile, Blk.onCtl_tile, hv]
  · rw [hs.engines.rd64, hf.regs _ (by decide)]
    · exact hc
    all_goals simp only [arrPage, vecPage, spdPage, tilePage]; omega
  · rw [Tile.mem_of_bare hs.bare, hf.tile, Blk.onCtl_tile, hm]

/-! ### A summary held (05 R126) -/

/-- The cycles the engine stopped for the summary FIFO counted. -/
def Blk.countSum (b : Blk) (t n : Nat) : Blk := b.onCtl fun c => c.bump (vecPage t) F.VEC_STALL_SUM_CYCLES n

theorem summaryPush_runs (hl : s.blk.live t = true) (hm : (s.blk.tile t).vec.held = m :: held) : Runs (.summaryPush t n) s
    (if 16 ≤ (s.blk.tile t).vec.fifo.length then s.blk.countSum t n
      else ((s.blk.countSum t n).setTile t { s.blk.tile t with vec := { (s.blk.tile t).vec with held := held } }).pushSummary t m) := by
  show execSummaryPush t n s = _
  simp only [execSummaryPush, State.on_eq, hl, hm]
  split_ifs <;> rfl

theorem summaryPush_enters (hl : s.blk.live t = true) (hm : (s.blk.tile t).vec.held = m :: held)
    (h : (s.blk.tile t).vec.fifo.length < 16) : ∃ b, Runs (.summaryPush t n) s b ∧ SameOthers s.blk b t ∧ (b.tile t).vec.held = held ∧
      (b.tile t).vec.fifo = (s.blk.tile t).vec.fifo ++ [m] ∧ (b.tile t).sp = (s.blk.tile t).sp := by
  have hr := summaryPush_runs (n := n) hl hm
  rw [if_neg (Nat.not_le.mpr h)] at hr
  have hp := ((s.blk.countSum t n).setTile t { s.blk.tile t with vec := { (s.blk.tile t).vec with held := held } }).pushSummary_offered t m
  have ht := hp.tile
  rw [Blk.setTile_tile_same] at ht
  refine ⟨_, hr, ((SameOthers.refl.onCtl _).setTile _).trans hp.others, ?_, ?_, ?_⟩
  all_goals rw [ht]
  all_goals rfl

theorem summaryPush_waits (hl : s.blk.live t = true) (hm : (s.blk.tile t).vec.held = m :: held)
    (h : 16 ≤ (s.blk.tile t).vec.fifo.length) : ∃ b, Runs (.summaryPush t n) s b ∧ SameStore s.blk b := by
  have hr := summaryPush_runs (n := n) hl hm
  rw [if_pos h] at hr
  exact ⟨_, hr, s.blk.onCtl_tiles _, s.blk.onCtl_hbm _⟩

end

/-- Settles O14, command by command: what VECTOR_DESCRIPTOR takes from the queue, what VECTOR_ROW waits for and puts in flight, what
VECTOR_ROW_COMPLETE stores, and where a summary goes. An operand on its way, `late`, is timing (log 9). -/
theorem theVectorUnitRunsItsDescriptors : Obligations.TheVectorUnitRunsItsDescriptors := by
  unfold Obligations.TheVectorUnitRunsItsDescriptors
  refine ⟨fun s t e d b' hl hd => ⟨vectorDescriptor_takes hl hd, fun _ => vectorDescriptor_halts hl hd⟩,
    fun s t late n e d hl hd ht => ⟨vectorRow_issues hl hd ht, vectorRow_waits hl hd ht, vectorRow_stops hl hd⟩,
    fun s t n e hl => ⟨fun r rest d hr hd => ?_, fun m held hm => ⟨summaryPush_enters hl hm, summaryPush_waits hl hm⟩⟩⟩
  obtain ⟨b, hrun, ho, hv, hlfsr, hmem⟩ := vectorRowComplete_completes (n := n) (e := e) hl hr hd
  refine ⟨b, hrun, ho, ?_, hlfsr, ?_, fun he => by rw [hmem, he.unitStores], fun i m l hdst hsum => ?_⟩
  · rw [hv, Vec.offerRow_rows]
    rfl
  · rw [hmem]
    exact (Blk.spStores_tile t _ s.blk e).2.2.symm
  · rw [hsum, Vec.offerRow_cons _ i m l hdst] at hv
    rw [hv]
    exact ⟨Vec.offer_enters (v := (s.blk.tile t).vec.retire d r rest) m, Vec.offer_held (v := (s.blk.tile t).vec.retire d r rest) m⟩

end Sys2Proof.Machine
end

section
/-!
PROOF. What every operation on the block keeps: the canonical form of each memory (06 R149 to R151, 11 R281, R288) and the shape of each tile
(07 R159, R181). Here the relation, and the operations of a tile's scratchpad, slates, queues and shots.
-/
namespace Sys2Proof.Machine

/-! ### The relation -/

/-- What every step of a fold keeps holds at its end. -/
theorem foldl_invariant {α β : Type} {P : β → Prop} {f : β → α → β} {l : List α} {y : β} (h : P y) (hf : ∀ y i, P y → P (f y i)) :
    P (l.foldl f y) := by
  induction l generalizing y with
  | nil => exact h
  | cons i l ih => exact ih (hf y i h)

/-- `y` may follow `x`: a scratchpad in canonical form stays in it, a tile in its shape keeps it. -/
structure Tile.Kept (x y : Tile) : Prop where
  mem : x.sp.mem.wf = true → y.sp.mem.wf = true
  shape : x.Shaped → y.Shaped

/-- `b` may follow `a`: every memory in canonical form stays in it, every tile in its shape keeps it. -/
structure Blk.Kept (a b : Blk) : Prop where
  tile : ∀ t, (a.tile t).Kept (b.tile t)
  stack : ∀ h, (a.stack h).wf = true → (b.stack h).wf = true

section
variable {x y z : Tile} {a b c : Blk}

theorem Tile.Kept.refl : x.Kept x := ⟨id, id⟩

theorem Tile.Kept.trans (h : x.Kept y) (g : y.Kept z) : x.Kept z := ⟨g.mem ∘ h.mem, g.shape ∘ h.shape⟩

theorem Tile.Kept.ite {p : Prop} [Decidable p] (h : x.Kept y) (g : x.Kept z) : x.Kept (if p then y else z) := by
  split
  · exact h
  · exact g

/-- A tile at its reset value, whatever its router holds. -/
theorem Tile.Kept.fresh (m : Mix) : x.Kept { mix := m } := ⟨fun _ => rfl, fun _ => ⟨rfl, rfl, rfl⟩⟩

/-- What `Tile.Kept` speaks of. -/
def Tile.shape (x : Tile) : Mem × Nat × Nat × Nat := (x.sp.mem, x.queues.length, x.core0.x.length, x.core1.x.length)

/-- A change of anything else. -/
theorem Tile.Kept.of_eq (h : y.shape = x.shape) : x.Kept y := by
  simp only [Tile.shape, Prod.mk.injEq] at h
  obtain ⟨hm, hq, h0, h1⟩ := h
  exact ⟨fun h => hm ▸ h, fun ⟨g, g0, g1⟩ => ⟨hq.trans g, h0.trans g0, h1.trans g1⟩⟩

theorem Tile.Kept.setQueue {u : Nat} {q : Queue} (h : x.Kept y) : x.Kept (y.setQueue u q) :=
  ⟨h.mem, fun hx => ⟨List.length_set.trans (h.shape hx).1, (h.shape hx).2⟩⟩

theorem Blk.Kept.refl : a.Kept a := ⟨fun _ => .refl, fun _ => id⟩

theorem Blk.Kept.trans (h : a.Kept b) (g : b.Kept c) : a.Kept c := ⟨fun t => (h.tile t).trans (g.tile t), fun k => g.stack k ∘ h.stack k⟩

theorem Blk.Kept.ite {p : Prop} [Decidable p] (h : a.Kept b) (g : a.Kept c) : a.Kept (if p then b else c) := by
  split
  · exact h
  · exact g

theorem Blk.Kept.foldl {α : Type} {f : Blk → α → Blk} {l : List α} (h : a.Kept b) (hf : ∀ b i, a.Kept b → a.Kept (f b i)) :
    a.Kept (l.foldl f b) := foldl_invariant h hf

/-- Of what an operation answers, the block. -/
theorem Blk.Kept.of_ite {α : Type} {p : Prop} [Decidable p] {f : α → Blk} {u v : α} (h : a.Kept (f u)) (g : a.Kept (f v)) :
    a.Kept (f (if p then u else v)) := by
  split
  · exact h
  · exact g

/-- The control plane replaced. -/
theorem Blk.Kept.ctl {d : Ctl} (h : a.Kept b) : a.Kept { b with ctl := d } := ⟨h.tile, h.stack⟩

theorem Blk.Kept.onCtl {f : Ctl → Ctl} (h : a.Kept b) : a.Kept (b.onCtl f) := h.ctl

theorem Blk.Kept.setTile {t : Nat} {y : Tile} (h : a.Kept b) (hy : (b.tile t).Kept y) : a.Kept (b.setTile t y) where
  tile u := by
    rw [Blk.setTile_tile]
    split
    · next hu => exact (h.tile u).trans (hu ▸ hy)
    · exact h.tile u
  stack := h.stack

theorem Blk.Kept.onCtl_setTile {f : Ctl → Ctl} {t : Nat} {y : Tile} (h : a.Kept b) (hy : (b.tile t).Kept y) : a.Kept ((b.onCtl f).setTile t y) :=
  .setTile h.onCtl hy

theorem Blk.Kept.onTile {t : Nat} {f : Tile → Tile} (h : a.Kept b) (hf : (b.tile t).Kept (f (b.tile t))) : a.Kept (b.onTile t f) := h.setTile hf

theorem Blk.Kept.setStack {k : Nat} {m : Mem} (h : a.Kept b) (hm : (b.stack k).wf = true → m.wf = true) : a.Kept (b.setStack k m) where
  tile := h.tile
  stack j := by
    have e : (b.setStack k m).stack j = if j = k then m else b.stack j := SMap.get_set ({} : Mem) b.hbm k j m
    rw [e]
    split
    · next hj => exact fun g => hm (hj ▸ h.stack j g)
    · exact h.stack j

/-- Every tile at its reset value. -/
theorem Blk.Kept.noTiles (h : a.Kept b) : a.Kept { b with tiles := [] } := ⟨fun _ => .fresh _, h.stack⟩

theorem Blk.Kept.noHbm (h : a.Kept b) : a.Kept { b with hbm := [] } := ⟨h.tile, fun _ _ => rfl⟩
end

/-! ### The scratchpad's operations (06 R143, R149 to R151) -/

section
variable {x y : Tile} {a b : Blk} {t u n k v ad ser row lo hi : Nat} {e : List Ecc} {r : Run} {d : Desc}

theorem Tile.Kept.spWrite (h : x.Kept y) : x.Kept (y.spWrite ad r) := ⟨fun hx => Mem.wf_write (h.mem hx) ad r, h.shape⟩

theorem Tile.Kept.present {q : SpReq} (h : x.Kept y) : x.Kept (y.present q) := h.trans (.of_eq rfl)

theorem Blk.Kept.spRead (h : a.Kept b) : a.Kept (b.spRead t ad n e).2 := h.ctl.setTile (.of_eq rfl)

theorem Blk.Kept.stagedPart (h : a.Kept b) : a.Kept (b.stagedPart t u ser row lo hi e).blk := h.ctl.setTile (.of_eq rfl)

theorem Blk.Kept.stagedRead (h : a.Kept b) : a.Kept (b.stagedRead t u ser ad n e).blk := by
  rw [Blk.stagedRead]
  split
  · exact h
  · exact foldl_invariant (P := fun f : Fetched => a.Kept f.blk) h fun _ _ hf => hf.stagedPart

theorem Blk.Kept.spStore (h : a.Kept b) : a.Kept (b.spStore t ad r e) :=
  h.onCtl.setTile ⟨fun hx => foldl_invariant (P := fun m : Mem => m.wf = true) (Mem.wf_write hx ad r) fun m w hm => by
    split
    · exact Mem.wf_setBad hm w.1 true
    · exact hm, id⟩

/-! ### Slates (07 R176 to R178) -/

theorem Blk.Kept.slateReach (h : a.Kept b) : a.Kept (b.slateReach t n) := by
  rw [Blk.slateReach]
  exact h.onCtl.onTile (.of_eq rfl)

theorem Blk.Kept.slateAdd (h : a.Kept b) : a.Kept (b.slateAdd t n v) := h.onCtl.slateReach.ite h.onCtl

theorem Blk.Kept.slateEval (h : a.Kept b) : a.Kept (b.slateEval t n) := h.slateReach.ite (h.onCtl.onTile (.of_eq rfl))

/-! ### Steps (07 R163, R164) -/

theorem Blk.Kept.setQueue {f : Tile → Queue} (h : a.Kept b) : a.Kept (b.onTile t fun x => x.setQueue u (f x)) := h.onTile Tile.Kept.refl.setQueue

theorem Blk.Kept.unprobe (h : a.Kept b) : a.Kept (b.unprobe t) := h.onTile (.of_eq rfl)

theorem Blk.Kept.issue (h : a.Kept b) : a.Kept (b.issue t u d) := ((h.onCtl.onCtl.ite h.onCtl).onTile Tile.Kept.refl.setQueue).unprobe

theorem Blk.Kept.complete (h : a.Kept b) : a.Kept (b.complete t u d n) := by
  induction n generalizing b d with
  | zero => exact h.onTile Tile.Kept.refl.setQueue
  | succ n ih => exact ih (h.onCtl.slateAdd.ite h.onCtl)

theorem Blk.Kept.stepDone (h : a.Kept b) : a.Kept (b.stepDone t u ser) := by
  rw [Blk.stepDone]
  split
  · exact h.complete
  · exact h

theorem Blk.Kept.stepDoneInOrder (h : a.Kept b) : a.Kept (b.stepDoneInOrder t u ser k) := by
  rw [Blk.stepDoneInOrder]
  split
  · exact h.complete
  · exact h

theorem Blk.Kept.issueTo (h : a.Kept b) : a.Kept (b.issueTo t u k n) := by
  induction n generalizing b with
  | zero => exact h
  | succ n ih =>
    rw [Blk.issueTo]
    split
    · exact (ih h.issue).ite h
    · exact h

/-! ### Halts (03 R81, 07 R169) -/

theorem Blk.Kept.seqHalt (h : a.Kept b) : a.Kept (b.seqHalt t u k) := by
  rw [Blk.seqHalt]
  exact h.setQueue.onCtl

theorem Blk.Kept.arrHalt (h : a.Kept b) : a.Kept (b.arrHalt t u k) := by
  rw [Blk.arrHalt]
  exact h.setQueue.onCtl

theorem Blk.Kept.vecHalt (h : a.Kept b) : a.Kept (b.vecHalt t k) := by
  rw [Blk.vecHalt]
  exact h.setQueue.onCtl

theorem Blk.Kept.gathHalt (h : a.Kept b) : a.Kept (b.gathHalt t k) := by
  rw [Blk.gathHalt]
  exact h.setQueue.onCtl

theorem Blk.Kept.poisonHalt (h : a.Kept b) : a.Kept (b.poisonHalt t u) := h.onCtl.seqHalt

/-! ### Descriptors (07 R160, R163) -/

theorem Blk.Kept.readBody {q : Queue} (h : a.Kept b) : a.Kept (b.readBody t u q e).2 := by
  dsimp only [Blk.readBody]
  split
  · exact h
  · split
    · exact h.spRead
    · dsimp only
      exact h.spRead.setQueue

/-- The block a taken descriptor leaves. -/
def Taken.blk : Taken → Blk
  | .stay b => b
  | .ready _ b => b

theorem Blk.Kept.takeHead (h : a.Kept b) : a.Kept (b.takeHead t u e).blk := by
  dsimp only [Blk.takeHead]
  split
  · refine .of_ite h.poisonHalt (.of_ite h.seqHalt (.of_ite h.seqHalt (.of_ite h.seqHalt (.of_ite (h.setTile Tile.Kept.refl.setQueue) ?_))))
    have hr : a.Kept (b.readBody t u ((b.tile t).queue u).retire e).2 := h.readBody
    split
    · next b' hb => exact (hb ▸ hr : a.Kept (_, b').2).poisonHalt
    · next b' hb => exact .of_ite (hb ▸ hr : a.Kept (_, b').2) (hb ▸ hr : a.Kept (_, b').2)
  · exact h

theorem Blk.Kept.stayed {c : Blk} (h : a.Kept b) (hc : b.takeHead t u e = .stay c) : a.Kept c := by
  simpa only [hc, Taken.blk] using h.takeHead (t := t) (u := u) (e := e)

theorem Blk.Kept.taken {c : Blk} (h : a.Kept b) (hc : b.takeHead t u e = .ready d c) : a.Kept c := by
  simpa only [hc, Taken.blk] using h.takeHead (t := t) (u := u) (e := e)

theorem Blk.Kept.install (h : a.Kept b) : a.Kept (b.install t u d n) := h.onTile Tile.Kept.refl.setQueue

/-! ### Shots (07 R167) -/

theorem Blk.Kept.shotHalt (h : a.Kept b) : a.Kept (b.shotHalt t u k) := by
  dsimp only [Blk.shotHalt]
  exact .onCtl (.onTile h (.ite (.of_eq rfl) (.setQueue .refl)))

theorem Blk.Kept.startShot (h : a.Kept b) : a.Kept (b.startShot t row e) := by
  dsimp only [Blk.startShot]
  have hr : a.Kept (b.onTile t fun x => { x with shotRun := true }) := h.onTile (.of_eq rfl)
  refine hr.shotHalt.ite (.ite (.shotHalt (.onCtl hr.spRead)) ?_)
  split
  · exact hr.spRead.shotHalt
  · exact .onTile (.onCtl hr.spRead) (foldl_invariant (P := Tile.Kept _) (.of_eq rfl) fun y u hy => hy.ite hy.setQueue)
end

/-! ### Packets and messages of a tile (10 R242 to R249, R262) -/

section
variable {x y : Tile} {a b : Blk} {t u n k v ad ser row lo hi i : Nat} {e : List Ecc} {r : Run} {d : Desc} {m : Msg}

theorem Blk.Kept.submitFetch (h : a.Kept b) : a.Kept (b.submitFetch t ad n e) := by
  dsimp only [Blk.submitFetch]
  exact (h.onTile (.of_eq rfl)).ite h.spRead.onCtl

theorem Blk.Kept.tc0 (h : a.Kept b) : a.Kept (b.tc0 t k m).1 := by
  simp only [Blk.tc0, apply_ite Prod.fst]
  exact .ite (h.onCtl_setTile (.of_eq rfl)) (h.onCtl_setTile (.of_eq rfl))

theorem Blk.Kept.tc0Rim (h : a.Kept b) : a.Kept (b.tc0Rim t k m).1 := h.tc0

/-! ### Cores (07 R181, R182) -/

theorem Tile.Kept.setCore {c : Core} (h : x.Kept y) (hc : c.x.length = (y.core k).x.length) : x.Kept (y.setCore k c) := by
  refine h.trans ⟨fun g => ?_, fun ⟨g, g0, g1⟩ => ?_⟩
  · rw [Tile.setCore]
    split <;> exact g
  · by_cases hk : k = 0
    · simp only [Tile.core, Tile.setCore, hk, if_true] at hc ⊢
      exact ⟨g, hc.trans g0, g1⟩
    · simp only [Tile.core, Tile.setCore, hk, if_false] at hc ⊢
      exact ⟨g, g0, hc.trans g1⟩

theorem Blk.Kept.onCore {f : Core → Core} (h : a.Kept b) (hf : ∀ c : Core, (f c).x.length = c.x.length) : a.Kept (b.onCore t k f) :=
  h.onTile (.setCore .refl (hf _))

theorem Blk.Kept.setReg {v : Word} (h : a.Kept b) : a.Kept (b.onCore t k fun c => c.setReg n v) := h.onCore fun c => c.setReg_length n v

theorem Blk.Kept.coreAnswer {store err : Bool} (h : a.Kept b) : a.Kept (b.coreAnswer t n store err r) := by
  dsimp only [Blk.coreAnswer]
  split
  · exact h
  · next w _ =>
    have hw : a.Kept (b.onCore t (n % 4) fun c => { c with awaits := c.awaits.erase w }) := h.onCore fun _ => rfl
    exact .ite (.onCore hw fun _ => rfl) (.ite hw (.ite (.onCore (.onCtl hw) fun _ => rfl) hw.setReg))

/-! ### Shots and slates (07 R160, R167, R168, R176) -/

theorem Blk.Kept.prefetch (h : a.Kept b) : a.Kept (b.prefetch t u e) := by
  dsimp only [Blk.prefetch]
  exact .ite h.spRead.setQueue h

theorem Blk.Kept.requestShot (h : a.Kept b) : a.Kept (b.requestShot t row e).1 := by
  dsimp only [Blk.requestShot]
  exact .of_ite (f := Prod.fst) h.startShot (.of_ite (f := Prod.fst) (.setTile h (.of_eq rfl)) h)

theorem Blk.Kept.releaseShotStall (h : a.Kept b) : a.Kept (b.releaseShotStall t) := by
  dsimp only [Blk.releaseShotStall]
  split
  · exact h.setTile (.of_eq rfl)
  · exact h.setTile (.of_eq rfl)
  · exact h

theorem Blk.Kept.slateRelease (h : a.Kept b) : a.Kept (b.slateRelease t n) := by
  dsimp only [Blk.slateRelease]
  refine .ite h (.onCtl (.setTile h ⟨id, fun ⟨g, g0, g1⟩ => ⟨List.length_map _ |>.trans g, ?_, ?_⟩⟩))
  · dsimp only
    split
    · exact g0
    · exact g0
  · dsimp only
    split
    · exact g1
    · exact g1

/-! ### Transfers (07 R171 to R175) -/

theorem Blk.Kept.readPieces {l : List (Nat × Nat)} (h : a.Kept b) : a.Kept (b.readPieces t e l).2 := by
  induction l generalizing b e with
  | nil => exact h
  | cons p l ih => exact ih h.spRead

theorem Blk.Kept.writePieces {l : List (Nat × Nat)} (h : a.Kept b) : a.Kept (b.writePieces t r e l) := by
  induction l generalizing b e r with
  | nil => exact h
  | cons p l ih => exact ih h.spStore

theorem Blk.Kept.mvData (h : a.Kept b) : a.Kept (b.mvData t d i e).2 := by
  dsimp only [Blk.mvData]
  exact .of_ite (f := Prod.snd) h.readPieces h.stagedRead

theorem Blk.Kept.grantLoop (h : a.Kept b) : a.Kept (b.grantLoop t n) := by
  induction n generalizing b with
  | zero => exact h
  | succ n ih =>
    dsimp only [Blk.grantLoop]
    split
    · exact h
    · exact .ite (ih (.onCtl (.setTile h (.of_eq rfl)))) h

theorem Blk.Kept.grant (h : a.Kept b) : a.Kept (b.grant t) := h.grantLoop

theorem Blk.Kept.freeUnits {f : Xfer} (h : a.Kept b) : a.Kept (b.freeUnits t f) := .grant (.onTile h (.of_eq rfl))

theorem Blk.Kept.ackXfer {f : Xfer} (h : a.Kept b) : a.Kept (b.ackXfer t f) := .ite h.onCtl h.onCtl

theorem Blk.Kept.writeXfer {f : Xfer} (h : a.Kept b) : a.Kept (b.writeXfer t d k f e) := h.writePieces

end

end Sys2Proof.Machine
end

section
/-!
PROOF. The commands of the sequencer, of the mover and the receiver and of the arrays keep every memory and every tile's shape.
-/
namespace Sys2Proof.Machine

/-- What command `s` comes to, if it goes on, may follow `s`. -/
structure State.Keeps (s : State) (o : Host.Outcome State Fault Refusal) : Prop where
  kept : ∀ u, o = .next u → s.blk.Kept u.blk

section
variable {s : State}

theorem State.Keeps.on {f : Blk → Blk} (h : s.blk.Kept (f s.blk)) : s.Keeps (s.on f) := by
  constructor
  rintro _ ⟨⟩
  exact h

theorem State.Keeps.onCtl {f : Ctl → Ctl} : s.Keeps (s.onCtl f) := .on (.onCtl .refl)

theorem State.Keeps.absent {p : Prop} [Decidable p] {f : Blk → Blk} (h : s.blk.Kept (f s.blk)) :
    s.Keeps (if p then .fault .noSuchUnit else s.on f) := by
  split
  · exact ⟨fun _ hu => nomatch hu⟩
  · exact .on h
end

section
variable {a b : Blk} {s : State} {t : TileId} {e : List Ecc}

/-! ### The sequencer (07 R160, R166 to R168, R176 to R180) -/

theorem keeps_descriptorPrefetch (u : Fin 8) : s.Keeps (execDescriptorPrefetch t u e s) := .on (.prefetch .refl)

theorem keeps_pendingShotStart : s.Keeps (execPendingShotStart t e s) := .on <| by
  dsimp only
  split
  · exact .ite (.releaseShotStall (.startShot (.setTile .refl (.of_eq rfl)))) .refl
  · exact .refl

theorem keeps_shotComplete : s.Keeps (execShotComplete t s) := .on <| by
  have h : s.blk.Kept (s.blk.setTile t { s.blk.tile t with shotRun := false }) := .setTile .refl (.of_eq rfl)
  exact .ite (.onCtl (.ite h.slateAdd h)) .refl

theorem keeps_slateWaitRelease (r : SlateRef) : s.Keeps (execSlateWaitRelease r s) := .on <| by
  dsimp only
  split
  · exact .slateRelease .refl
  · exact .ite (.onCtl .refl) .refl

theorem keeps_slateRearm (r : SlateRef) : s.Keeps (execSlateRearm r s) := .on <| by
  dsimp only
  split
  · exact .ite (.slateEval (.onCtl (.onTile (.slateRelease .refl) (.of_eq rfl)))) .refl
  · exact .ite (.onCtl .refl) .refl

theorem keeps_slateAddMessage (i : Nat) : s.Keeps (execSlateAddMessage i s) := .on <| by
  dsimp only
  split
  · exact .ite (.ite (.slateAdd (.onCtl .refl)) (.onCtl .refl)) .refl
  · exact .ite (.onCtl .refl) .refl
  · exact .refl

theorem keeps_predicateToken (i : Nat) : s.Keeps (execPredicateToken i s) := .on <| by
  dsimp only
  split
  · exact .ite (.ite (.onCtl (.onCtl .refl)) (.onCtl .refl)) .refl
  · exact .refl

theorem keeps_rimSlateBroadcast (i : Fin 1024) : s.Keeps (execRimSlateBroadcast i s) := .on <| by
  dsimp only
  split
  · exact .ite .refl (.foldl (.onCtl .refl) fun _ _ h => .ite h.slateAdd h)
  · exact .refl

/-! ### The mover and the receiver (07 R171 to R175) -/

theorem keeps_moverDescriptor : s.Keeps (execMoverDescriptor t e s) := .on <| by
  refine .ite .refl ?_
  split
  · next hc => exact Blk.Kept.refl.stayed hc
  · next hc =>
    have h := Blk.Kept.refl.taken hc
    split
    · exact h.seqHalt
    · exact h.install

theorem keeps_moverTransferSend (n m : Nat) : s.Keeps (execMoverTransferSend t n m e s) := .on <| by
  dsimp only
  split
  · next d _ _ =>
    have h : s.blk.Kept (s.blk.onCtl fun c => (c.bump (seqPage t) F.SEQ_STALL_TRACK n).bump (seqPage t) F.SEQ_STALL_CREDIT m) := .onCtl .refl
    refine .ite h (.ite ?_ (.ite ?_ ?_))
    · exact .ite (.stepDone (.onCtl h.issue)) (.ite h (.onTile (.onCtl (.issue h.mvData)) (.of_eq rfl)))
    · exact .onTile (.foldl h fun _ _ h => h.onCtl) (.of_eq rfl)
    · exact .onCtl (.onTile (.issue (.of_ite (f := Prod.snd) h h.mvData)) (.of_eq rfl))
  · exact .refl

theorem keeps_creditRequest (i : Nat) : s.Keeps (execCreditRequest i s) := .on <| by
  dsimp only
  split
  · exact .ite (.ite (.grant (.onTile (.onCtl .refl) (.of_eq rfl))) (.onCtl (.onCtl .refl))) .refl
  · exact .refl

theorem keeps_creditGrant (i : Nat) : s.Keeps (execCreditGrant i s) := .on <| by
  dsimp only
  split
  · exact .ite (.ite (.onTile (.onCtl .refl) (.of_eq rfl)) (.onCtl .refl)) .refl
  · exact .refl

theorem keeps_transferArrive (i : Nat) : s.Keeps (execTransferArrive i s) := .on <| by
  dsimp only
  split
  · exact .ite (.ite .refl (.ite (.onTile (.onCtl .refl) (.of_eq rfl)) (.onCtl (.onCtl .refl)))) .refl
  · exact .refl

theorem keeps_receiverDescriptor : s.Keeps (execReceiverDescriptor t e s) := .on <| by
  refine .ite .refl ?_
  split
  · next hc => exact Blk.Kept.refl.stayed hc
  · next hc =>
    have h := Blk.Kept.refl.taken hc
    split
    · exact h.seqHalt
    · exact h.install

theorem Blk.Kept.dropXfer {f : Xfer} {t : Nat} (h : a.Kept b) : a.Kept (b.onTile t fun x => { x with recvQ := x.recvQ.erase f }) := h.onTile (.of_eq rfl)

theorem keeps_receiverWrite : s.Keeps (execReceiverWrite t e s) := .on <| by
  dsimp only
  split
  · next d _ _ =>
    split
    · next f _ =>
      refine .ite (.freeUnits (.ackXfer (.onCtl (.dropXfer .refl)))) ?_
      have h : s.blk.Kept (if d.issued ≤ (rvMatch d f).getD 0 then s.blk.issueTo t 7 ((rvMatch d f).getD 0) ((rvMatch d f).getD 0 + 1) else s.blk) :=
        .ite (.issueTo .refl) .refl
      split
      · refine .ite h (.stepDoneInOrder (.onCtl (.freeUnits (.ackXfer ?_))))
        refine .ite (.slateAdd ?_) ?_ <;> refine .ite (.onCtl ?_) ?_ <;> exact .ite h.dropXfer (.writeXfer h.dropXfer)
      · exact h
    · exact .refl
  · exact .refl

theorem keeps_transferAck (i : Nat) : s.Keeps (execTransferAck i s) := .on <| by
  dsimp only
  split
  · refine .ite (.ite (.coreAnswer (.onCtl .refl)) (.onCtl .refl)) (.ite ?_ .refl)
    split
    · exact .ite (.seqHalt (.onCtl (.setTile (.onCtl .refl) (.of_eq rfl))))
        (.ite (.stepDone (.setTile (.onCtl .refl) (.of_eq rfl))) (.setTile (.onCtl .refl) (.of_eq rfl)))
    · exact .onCtl .refl
  · exact .refl

/-! ### The weight loader and the feeders (03 R75 to R78) -/

theorem Blk.Kept.startBlock {t : Nat} (h : a.Kept b) : a.Kept (b.startBlock t) := by
  obtain he | ⟨k, he⟩ | ⟨d, k, -, he⟩ := b.startBlock_cases t <;> rw [he]
  · exact h
  · exact h.arrHalt
  · exact .onTile h.issue (.of_eq rfl)

theorem keeps_weightLoaderDescriptor : s.Keeps (execWeightLoaderDescriptor t e s) := .absent <| by
  refine .ite .refl ?_
  split
  · next hc => exact Blk.Kept.refl.stayed hc
  · next hc => exact .startBlock (.install (Blk.Kept.refl.taken hc))

theorem keeps_weightBlockUsable : s.Keeps (execWeightBlockUsable t e s) := .absent <| by
  dsimp only
  split
  · exact .startBlock (.stepDone (.onCtl (.onTile (.stagedRead .refl) (.of_eq rfl))))
  · exact .refl

theorem keeps_weightBufferFree : s.Keeps (execWeightBufferFree t s) := .absent <| by
  refine .ite .refl (.startBlock ?_)
  split
  · exact .setTile .refl (.of_eq rfl)
  · exact .refl

theorem Tile.Kept.setFeeder {x y : Tile} {n : Nat} {v : Feeder} (h : x.Kept y) : x.Kept (y.setFeeder n v) := .trans h (.ite (.of_eq rfl) (.of_eq rfl))

theorem keeps_feederRowRequest (f : Fin 2) (scale : Bool) : s.Keeps (execFeederRowRequest t f scale s) := .absent <| by
  refine .ite .refl (.ite ?_ ?_)
  · split
    · exact .ite .refl (.setTile .refl (.setFeeder (.present .refl)))
    · exact .refl
  · split
    · refine .ite .refl ?_
      split
      · exact .ite .refl (.issueTo (.setTile .refl (.setFeeder (.present .refl))))
      · exact .refl
    · exact .refl

theorem keeps_feederDescriptorCross (f : Fin 2) : s.Keeps (execFeederDescriptorCross t f e s) := .absent <| by
  refine .ite .refl ?_
  split
  · next hc => exact Blk.Kept.refl.stayed hc
  · next hc =>
    have h := Blk.Kept.refl.taken hc
    dsimp only
    split
    · exact h.arrHalt
    · exact .onTile h.install (.setFeeder .refl)

/-! ### The arrays (03 R59, R76, R80) -/

theorem Blk.Kept.recordDrops {t n m : Nat} {w : WBlock} (h : a.Kept b) : a.Kept (b.recordDrops t w n m) := .ite h h.onCtl

theorem keeps_matrixInstruction : s.Keeps (execMatrixInstruction t e s) := .absent <| by
  refine .ite .refl ?_
  split
  · next hc => exact Blk.Kept.refl.stayed hc
  · next hc =>
    have h := Blk.Kept.refl.taken hc
    split
    · exact h.arrHalt
    · refine .ite h.arrHalt ?_
      split
      · exact h
      · refine .ite h.arrHalt (.ite h.arrHalt (.ite h ?_))
        split
        · exact h.arrHalt
        · exact h.arrHalt
        · exact .recordDrops (.onTile h.install (.of_eq rfl))

theorem Blk.Kept.feedRow {t : Nat} {z : Nat × Desc × ARow} (h : a.Kept b) : a.Kept (b.feedRow t z) := by
  dsimp only [Blk.feedRow, Tile.freeSlots]
  exact .onTile (.stepDone (.ite h.issueTo h)) (.setFeeder .refl)

theorem Blk.Kept.enterRow {t : Nat} {d : Desc} {j : RowJob} {l : List (Nat × Desc × ARow)} (h : a.Kept b) : a.Kept (b.enterRow t d j l) := by
  have hl : a.Kept (l.foldl (fun b z => b.feedRow t z) b) := .foldl h fun _ _ h => h.feedRow
  dsimp only [Blk.enterRow]
  exact .ite (.onTile hl (.of_eq rfl)) (.onCtl (.onTile hl (.of_eq rfl)))

theorem keeps_arrayRowEnter (n m k : Nat) : s.Keeps (execArrayRowEnter t n m k s) := .absent <| by
  dsimp only
  split
  · split
    · exact .arrHalt (.onCtl .refl)
    · refine .ite (.onCtl .refl) ?_
      split
      · exact .enterRow (.onCtl .refl)
      · exact .ite (.onCtl .refl) (.enterRow (.issue (.onCtl .refl)))
      · exact .onCtl .refl
  · exact .refl

theorem writeRow_kept (x : Tile) (d : Desc) (w : WBlock) (n i : Nat) (l : List ARow) : x.Kept (writeRow x d w n i l).tile := by
  dsimp only [writeRow]
  split
  · exact (.of_eq rfl)
  · exact .ite (.of_eq rfl) (.of_eq rfl)

theorem keeps_accRowWrite : s.Keeps (execAccRowWrite t s) := .absent <| by
  dsimp only
  split
  · refine .ite (.onCtl (.stepDone ?_)) (.stepDone ?_) <;>
      exact .foldl (.onTile .refl (.of_eq rfl)) fun _ _ h => .onCtl (.setTile h (writeRow_kept ..))
  · exact .refl

/-! ### The router's mixdown and the TC0 limit (10 R256 to R260, R262) -/

section
variable {n k : Nat}

theorem keeps_mixFlitArrive (i : Nat) (lo hi : Ecc) : s.Keeps (execMixFlitArrive i lo hi s) := .on <| by
  dsimp only
  split
  · exact .ite (.onTile (.onCtl .refl) (.of_eq rfl)) (.onCtl (.onCtl .refl))
  · exact .refl

theorem Blk.Kept.oweCredit (h : a.Kept b) : a.Kept (b.oweCredit n k) := by
  rw [Blk.oweCredit]
  split
  · exact h.onTile (.of_eq rfl)
  · exact h

theorem Blk.Kept.eject {z : Chunk} (h : a.Kept b) : a.Kept (b.eject n k z) := by
  dsimp only [Blk.eject]
  exact .ite (h.setTile (.of_eq rfl)) (.ite (.onCtl (h.setTile (.of_eq rfl))) (h.setTile (.of_eq rfl)))

theorem keeps_mixSlotFire (p : Fin 256) : s.Keeps (execMixSlotFire t p s) := .on <| by
  dsimp only
  have hp : s.blk.Kept (s.blk.pastSlot t p) := .onTile .refl (.of_eq rfl)
  refine .ite .refl ?_
  split
  · refine .ite (.eject (.onCtl ?_)) (.onCtl (.onTile (.onCtl ?_) (.of_eq rfl))) <;>
      exact .foldl (hp.setTile (.of_eq rfl)) fun _ _ h => h.oweCredit
  · exact hp.onCtl

theorem keeps_mixCreditReturn (out : Fin 5) : s.Keeps (execMixCreditReturn t out s) := .on (.onTile .refl (.ite .refl (.of_eq rfl)))

theorem Blk.Kept.mixAckOne {err : Bool} {f : Nat × Nat × Nat} (h : a.Kept b) : a.Kept (b.mixAckOne err f) := by
  dsimp only [Blk.mixAckOne]
  split
  · exact .ite (.seqHalt (.onCtl (h.setTile (.of_eq rfl)))) (.ite (.stepDone (h.setTile (.of_eq rfl))) (h.setTile (.of_eq rfl)))
  · exact h

theorem keeps_mixAck : s.Keeps (execMixAck s) := .on <| by
  split
  · exact .refl
  · exact .foldl (.onCtl .refl) fun _ _ h => h.mixAckOne

theorem keeps_mixScheduleStop : s.Keeps (execMixScheduleStop t s) := .on (.ite (.onTile .refl (.of_eq rfl)) .refl)

theorem keeps_tc0LimitRelease (m : Nat) : s.Keeps (execTc0LimitRelease t m s) := .on <| by
  dsimp only
  split
  · exact .ite (.onCtl (.setTile .refl (.ite (.setCore (.of_eq rfl) rfl) (.of_eq rfl)))) (.setTile .refl (.of_eq rfl))
  · exact .setTile .refl (.of_eq rfl)

end

end

end Sys2Proof.Machine
end

section
/-!
PROOF. The HBM stacks keep their canonical form (11 R280 to R284, R288), and the operations on the fabric that read or write them or a scratchpad
keep every memory and every tile's shape.
-/
namespace Sys2Proof.Machine

section
variable {a b : Blk} {s : State} {t : TileId} {e : List Ecc} {h k l n ad : Nat} {r : Run}

/-! ### The stacks (11 R280 to R284, R288) -/

/-- The address of the map's byte is a variable here as in `Blk.setDirty_cases`. -/
theorem Blk.Kept.setDirty {d : Bool} (g : a.Kept b) : a.Kept (b.setDirty n k d) := by
  have key : ∀ f, f = @Blk.setDirty → a.Kept (f b n k d) := by
    delta Blk.setDirty
    generalize @Ctl.dirtyAt = place
    revert place
    refine id ?_
    rintro place _ rfl
    dsimp only
    split
    · exact g.setStack fun hm => Mem.wf_setByte hm _ _
    · exact g
  exact key _ rfl

theorem Blk.Kept.markDirty (g : a.Kept b) : a.Kept (b.markDirty h l) := by
  rw [Blk.markDirty]
  split
  · exact .ite g.setDirty g
  · exact g

theorem Blk.Kept.hbmEcc {x : Ecc} (g : a.Kept b) : a.Kept (b.hbmEcc h k x) := by
  dsimp only [Blk.hbmEcc]
  cases x with
  | ok => exact g
  | corr => exact g.onCtl
  | onDie => exact g.onCtl
  | uncorr => exact .setStack g.onCtl fun hm => Mem.wf_setBad (Mem.wf_setBad hm _ _) _ _

theorem Blk.Kept.hbmChecks {ks : List Nat} (g : a.Kept b) : a.Kept (b.hbmChecks h ks e) := .foldl g fun _ _ g => g.hbmEcc

theorem Blk.Kept.stackRead (g : a.Kept b) : a.Kept (b.stackRead h l n e).2 := g.hbmChecks

theorem Blk.Kept.stackWrite (g : a.Kept b) : a.Kept (b.stackWrite h l r e) := by
  dsimp only [Blk.stackWrite]
  have hw : a.Kept ((b.hbmChecks h (partBursts l r.bytes.length) e).setStack h (((b.hbmChecks h (partBursts l r.bytes.length) e).stack h).store l r)) :=
    g.hbmChecks.setStack fun hm => Mem.wf_store hm l r
  exact .ite hw.onCtl (.markDirty hw.onCtl)

/-- The stage address is a variable here as in `Blk.setDirty_cases`. -/
theorem Blk.Kept.stgRead (g : a.Kept b) : a.Kept (b.stgRead n ad k e).2 := by
  have key : ∀ f, f = @Blk.stgRead → a.Kept (f b n ad k e).2 := by
    delta Blk.stgRead
    generalize @Ctl.stageAddr = place
    revert place
    refine id ?_
    rintro place _ rfl
    refine foldl_invariant (P := fun x : Run × List Ecc × Blk => a.Kept x.2.2) g fun x i hx => ?_
    dsimp only
    split
    · refine .of_ite (f := fun x : Run × List Ecc × Blk => x.2.2) hx.stackRead ?_
      dsimp only
      exact hx.onCtl
    · exact hx
  exact key _ rfl

theorem Blk.Kept.stgWrite (g : a.Kept b) : a.Kept (b.stgWrite n ad r e) :=
  Blk.stgWrite_preserves g (fun _ _ _ _ _ hb => hb.stackWrite) fun _ _ hb => hb.onCtl

theorem Blk.Kept.stackAdd {f : Bool} (g : a.Kept b) : a.Kept (b.stackAdd h l f r e) := by
  dsimp only [Blk.stackAdd]
  refine .markDirty (.onCtl (g.hbmChecks.setStack fun hm => foldl_invariant (P := fun m : Mem => m.wf = true) hm fun m i hm => ?_))
  split
  · exact Mem.wf_setBad hm _ _
  · exact Mem.wf_setBad (Mem.wf_store hm _ _) _ _

theorem keeps_hbmReadRequest (i n : Nat) : s.Keeps (execHbmReadRequest i e n s) := .on <| by
  dsimp only
  split
  · split
    · exact .onCtl (.onCtl .refl)
    · exact .onCtl (.stackRead (.onCtl .refl))
  · exact .refl

theorem keeps_hbmWriteRequest (i : Nat) : s.Keeps (execHbmWriteRequest i e s) := .on <| by
  dsimp only
  split
  · split
    · exact .onCtl (.onCtl .refl)
    · exact .onCtl (.stackWrite (.onCtl .refl))
  · exact .refl

theorem keeps_hbmAddRequest (i : Nat) : s.Keeps (execHbmAddRequest i e s) := .on <| by
  dsimp only
  split
  · split
    · exact .onCtl (.onCtl .refl)
    · exact .ite (.onCtl (.onCtl .refl)) (.onCtl (.stackAdd (.onCtl .refl)))
  · exact .refl

theorem keeps_hbmPatrolScrub (k : StackId) (n : Nat) : s.Keeps (execHbmPatrolScrub k e n s) := .on <|
  .ite (.onCtl (.onCtl (.hbmChecks .refl))) .refl

theorem keeps_hbmZeroFillComplete (k : StackId) (ok : Bool) : s.Keeps (execHbmZeroFillComplete k ok s) := .on <|
  .ite (.ite (.onCtl (.setStack .refl fun _ => Mem.wf_empty)) (.onCtl .refl)) .refl

/-! ### Messages of the fabric (12 R309 to R325) -/

section
variable {w : Option Nat} {x : Ring} {m : TxMsg} {q : RxMsg} {p : RxPart} {why : Nat}

theorem Blk.Kept.memRead (g : a.Kept b) : a.Kept (b.memRead k w ad n e).2 := by
  cases w
  · exact g.stgRead
  · exact g.spRead

theorem Blk.Kept.memWrite (g : a.Kept b) : a.Kept (b.memWrite k w ad r e) := by
  cases w
  · exact g.stgWrite
  · exact .ite (g.onTile (.of_eq rfl)) g.spStore

theorem Blk.Kept.signal {v : Word} (g : a.Kept b) : a.Kept (b.signal k v) := .ite g (.ite (.ite g.onCtl g) (.ite g.slateAdd g))

theorem Blk.Kept.msgDone (g : a.Kept b) : a.Kept (b.msgDone m) := by
  have hc : a.Kept (((b.onCtl fun c => c.dropMsg m.id).signal m.stage m.comp).onCtl fun c => c.bump (stagePage m.stage) F.STAGE_TX_MSGS_COUNT) :=
    .onCtl (.signal g.onCtl)
  dsimp only [Blk.msgDone]
  split
  · exact g.onCtl
  · exact hc
  all_goals exact hc.onCtl

theorem Blk.Kept.failed (g : a.Kept b) : a.Kept (b.failed m why) := by
  dsimp only [Blk.failed]
  split
  · exact g
  · exact .onCtl g.signal
  · exact .onCtl (.onCtl g.signal)
  · exact .onCtl (.onCtl g.signal)
  · exact .onCtl g.signal
  · exact .onCtl (.onCtl g.signal)

theorem Blk.Kept.msgFail (g : a.Kept b) : a.Kept (b.msgFail m why) := .failed g.onCtl

theorem Blk.Kept.checkDone (g : a.Kept b) : a.Kept (b.checkDone m) := .ite g.msgDone g

theorem Blk.Kept.takePost (g : a.Kept b) : a.Kept (b.takePost k x e n).blk := by
  induction n generalizing b x e with
  | zero => exact g
  | succ n ih =>
    dsimp only [Blk.takePost]
    refine .of_ite (f := Post.blk) g (.of_ite (f := Post.blk) (ih g.memRead) ?_)
    exact g.memRead

theorem Blk.Kept.writeCq {st by_ : Nat} {last : Bool} (g : a.Kept b) : a.Kept (b.writeCq k n q p st by_ last e).2 := by
  dsimp only [Blk.writeCq]
  exact .ite (.onCtl (.signal (.signal (.onCtl g.memWrite)))) (.signal (.onCtl g.memWrite))

theorem Blk.Kept.truncate (g : a.Kept b) : a.Kept (b.truncate k q e).2 :=
  foldl_invariant (P := fun x : List Ecc × Blk => a.Kept x.2) (by dsimp only; exact g.onCtl) fun _ _ hx => hx.writeCq

theorem Blk.Kept.ctxDrain (g : a.Kept b) : a.Kept (b.ctxDrain n why) := by
  refine .foldl (.foldl g fun _ _ g => g.msgFail) fun b m g => ?_
  dsimp only
  split
  · exact g.truncate
  · exact g.onCtl

theorem Blk.Kept.mirrorLost (g : a.Kept b) : a.Kept (b.mirrorLost n) :=
  .foldl g fun _ _ g => .ite (.onCtl (.foldl g fun _ _ g => g.failed)) g

theorem Blk.Kept.ctxStop (g : a.Kept b) : a.Kept (b.ctxStop n k) := by
  dsimp only [Blk.ctxStop]
  exact .ite (.mirrorLost (.onCtl g.ctxDrain)) (.onCtl g.ctxDrain)

theorem Blk.Kept.mirrorAll (g : a.Kept b) : a.Kept (b.mirrorAll n) := .foldl g fun _ _ g => g.setDirty

theorem Blk.Kept.resynced (g : a.Kept b) : a.Kept (b.resynced n) := .ite g.onCtl g

theorem Blk.Kept.ctxOpened (g : a.Kept b) : a.Kept (b.ctxOpened n) := .foldl g.onCtl fun _ _ g => .ite (.resynced g.mirrorAll) g

theorem Blk.Kept.msgData (g : a.Kept b) : a.Kept (b.msgData m ad n e).2 := .of_ite (f := Prod.snd) g.stgRead (.of_ite (f := Prod.snd) g.spRead g)

theorem Blk.Kept.buildFrame {ty psn : Nat} {retx : Bool} (g : a.Kept b) : a.Kept (b.buildFrame m ty psn ad n retx e).2 := by
  dsimp only [Blk.buildFrame]
  exact .of_ite (f := Prod.snd) g.msgData (.of_ite (f := Prod.snd) g g)

theorem Blk.Kept.sendNext {ty : Nat} (g : a.Kept b) : a.Kept (b.sendNext m ty ad n e) := by
  dsimp only [Blk.sendNext]
  exact .onCtl g.buildFrame

theorem Blk.Kept.resend {u : TxFrame} (g : a.Kept b) : a.Kept (b.resend n u e) := by
  dsimp only [Blk.resend]
  split
  · exact .ite (.ctxStop (.onCtl g.buildFrame)) (.onCtl g.buildFrame)
  · exact g

end

end

end Sys2Proof.Machine
end

section
/-!
PROOF. The commands of the fabric (12 R301 to R333) keep every memory and every tile's shape.
-/
namespace Sys2Proof.Machine

section
variable {a b c : Blk} {s : State} {e : List Ecc} {k l n st ad why : Nat} {r : Run} {x : Ring} {f : Frame} {p : PortId} {w : List Byte} {i : RxInfo}

/-! ### Frames that arrive (12 R301 to R304, R313 to R315) -/

/-- The block after the steps that every frame takes. -/
def Rx.blk : Rx → Blk
  | .stop b => b
  | .go b _ _ _ => b

theorem Blk.Kept.receive {ty : Nat} (g : a.Kept b) : a.Kept (b.receive n ty w i).blk := by
  dsimp only [Blk.receive]
  split
  · refine .of_ite g ?_
    split
    · exact g.ctl
    · refine .of_ite g.ctl (.of_ite g.ctl (.of_ite g.ctl ?_))
      split
      · exact g.ctl
      · exact .of_ite g.ctl g.ctl
  · exact g.ctl

theorem Blk.Kept.stopped {ty : Nat} (g : a.Kept b) (hc : b.receive n ty w i = .stop c) : a.Kept c := by
  simpa only [hc, Rx.blk] using g.receive (n := n) (ty := ty) (w := w) (i := i)

theorem Blk.Kept.received {ty : Nat} {d : List Byte} (g : a.Kept b) (hc : b.receive n ty w i = .go c st f d) : a.Kept c := by
  simpa only [hc, Rx.blk] using g.receive (n := n) (ty := ty) (w := w) (i := i)

theorem Blk.Kept.refuse (g : a.Kept b) : a.Kept (b.refuse st f why e) := by
  dsimp only [Blk.refuse]
  split
  · exact .onCtl g.truncate
  · exact g.onCtl

/-! ### Buffers (12 R319, R320) -/

/-- The buffer taken for a part is a variable here, as the address is in `Blk.setDirty_cases`. -/
theorem Blk.Kept.takeParts {ks : List Nat} (g : a.Kept b) : a.Kept (b.takeParts st x e ks).blk := by
  have key : ∀ f, f = @Blk.takeParts → a.Kept (f b st x e ks).blk := by
    delta Blk.takeParts Blk.takeParts._f
    have ht : ∀ b x e n, a.Kept b → a.Kept (Blk.takePost b st x e n).blk := fun _ _ _ _ g => g.takePost
    revert ht
    generalize @Blk.takePost = take
    revert take
    refine id ?_
    rintro take ht _ rfl
    induction ks generalizing b x e with
    | nil => exact g
    | cons k ks ih =>
      dsimp only at ih ⊢
      have hg : a.Kept (take b st x e 65537).blk := ht _ _ _ _ g
      generalize take b st x e 65537 = y at hg
      split
      · exact hg
      · exact ih hg
  exact key _ rfl

theorem Blk.Kept.placePart {off : Nat} {fresh : Bool} {q : RxPart} (g : a.Kept b) : a.Kept (b.placePart st x off r fresh q e).blk := by
  dsimp only [Blk.placePart]
  exact .of_ite g g.memWrite

theorem Blk.Kept.placeFrame {m : RxMsg} {off : Nat} (g : a.Kept b) : a.Kept (b.placeFrame st m off r e) := by
  have hp (q : List RxPart) : a.Kept (q.foldl (fun (y : List RxPart × List Ecc × Blk) q =>
      (y.1 ++ [(y.2.2.placePart st (b.ctl.ring m.ring) off r (!m.seen.contains off) q y.2.1).part],
        (y.2.2.placePart st (b.ctl.ring m.ring) off r (!m.seen.contains off) q y.2.1).rest,
        (y.2.2.placePart st (b.ctl.ring m.ring) off r (!m.seen.contains off) q y.2.1).blk)) (([] : List RxPart), e, b)).2.2 :=
    foldl_invariant (P := fun y : List RxPart × List Ecc × Blk => a.Kept y.2.2) g fun _ _ hy => hy.placePart
  dsimp only [Blk.placeFrame]
  refine .ite (.onCtl ?_) ?_ <;> refine foldl_invariant (P := fun y : List Ecc × Blk => a.Kept y.2) ?_ fun _ _ hy => hy.writeCq
  all_goals
    dsimp only
    exact .onCtl (hp _)

theorem keeps_dataFrame : s.Keeps (execDataFrame p w i e s) := .on <| by
  dsimp only
  split
  · next hc => exact Blk.Kept.refl.stopped hc
  · next hc =>
    have g := Blk.Kept.refl.received hc
    refine .ite g.refuse (.ite g.refuse (.ite g.onCtl ?_))
    split
    · exact .ite (.onCtl g.placeFrame) g.onCtl
    · exact g.onCtl
    · refine .ite g.onCtl (.ite (.onCtl (.refuse g.onCtl)) (.ite (.onCtl (.placeFrame (.onCtl (.takeParts g.onCtl)))) ?_))
      exact .onCtl (.refuse (.onCtl (.onCtl (.takeParts g.onCtl))))

theorem keeps_rtsFrame : s.Keeps (execRtsFrame p w i e s) := .on <| by
  dsimp only
  split
  · next hc => exact Blk.Kept.refl.stopped hc
  · next hc =>
    have g := Blk.Kept.refl.received hc
    refine .ite g.refuse (.ite g.refuse (.ite g.onCtl (.onCtl ?_)))
    split
    · exact g.onCtl
    · exact .ite g (.onCtl g.truncate)

/-- The buffer taken is a variable here as in `Blk.Kept.takeParts`. -/
theorem keeps_ringGrant (m : Fin 256) : s.Keeps (execRingGrant m e s) := by
  have key : ∀ f, f = @execRingGrant → s.Keeps (f m e s) := by
    delta execRingGrant
    have ht : ∀ st x e n, s.blk.Kept (Blk.takePost s.blk st x e n).blk := fun _ _ _ _ => .takePost .refl
    revert ht
    generalize @Blk.takePost = take
    revert take
    refine id ?_
    rintro take ht _ rfl
    refine .on ?_
    dsimp only
    split
    · refine .ite .refl ?_
      split
      · exact .onCtl (ht ..)
      · exact .ite (.onCtl (.onCtl (.onCtl (ht ..)))) (.onCtl (.onCtl (ht ..)))
    · exact .refl
  exact key _ rfl

/-! ### Acknowledgements and retransmission (12 R311, R316 to R318) -/

theorem keeps_ackFrame (halve gap : Bool) : s.Keeps (execAckFrame p w i halve gap e s) := .on <| by
  dsimp only
  split
  · next hc => exact Blk.Kept.refl.stopped hc
  · next hc =>
    have g := Blk.Kept.refl.received hc
    refine .ite (.foldl ?_ fun _ _ g => g.resend) ?_ <;> refine .foldl g.onCtl fun b id g => ?_
    all_goals
      split
      · exact g.checkDone
      · exact g

theorem keeps_nakFrame : s.Keeps (execNakFrame p w i s) := .on <| by
  dsimp only
  split
  · next hc => exact Blk.Kept.refl.stopped hc
  · next hc =>
    have g := Blk.Kept.refl.received hc
    split
    · exact g.onCtl
    · exact .ite (.ite g.onCtl (.onCtl g.onCtl)) (.msgFail g.onCtl)

theorem keeps_grantFrame : s.Keeps (execGrantFrame p w i s) := .on <| by
  split
  · next hc => exact Blk.Kept.refl.stopped hc
  · next hc =>
    have g := Blk.Kept.refl.received hc
    split
    · exact g.onCtl
    · exact g

theorem keeps_retxTimeout (m : Fin 4096) : s.Keeps (execRetxTimeout m e s) := .on <| by
  dsimp only
  split
  · exact .foldl (.onCtl .refl) fun _ _ g => g.resend
  · exact .refl

theorem keeps_frameSend (m : Fin 4096) : s.Keeps (execFrameSend m e s) := .on <| by
  split
  · exact .sendNext (.onCtl .refl)
  · exact .refl

/-! ### Windows (12 R321 to R324) -/

theorem Blk.Kept.refuseWindow (g : a.Kept b) : a.Kept (b.refuseWindow st f) := .ite (.onCtl g.refuse) g.refuse

theorem Blk.Kept.serveWindow (g : a.Kept b) : a.Kept (b.serveWindow st f) := .ite (.onCtl g.onCtl) g.onCtl

theorem Blk.Kept.readRows {base row : Nat} {ids : List Nat} (g : a.Kept b) : a.Kept (b.readRows st base row e ids).2 := by
  induction ids generalizing b e with
  | nil => exact g
  | cons k ids ih => exact ih g.stgRead

theorem keeps_wreadFrame : s.Keeps (execWreadFrame p w i e s) := .on <| by
  dsimp only
  split
  · next hc => exact Blk.Kept.refl.stopped hc
  · next hc =>
    have g := Blk.Kept.refl.received hc
    exact .ite g.refuse (.ite g.refuseWindow (.serveWindow (.onCtl g.readRows)))

theorem keeps_rrespFrame : s.Keeps (execRrespFrame p w i e s) := .on <| by
  dsimp only
  split
  · next hc => exact Blk.Kept.refl.stopped hc
  · next hc =>
    have g := Blk.Kept.refl.received hc
    split
    · exact g.refuse
    · exact g.onCtl
    · split <;> dsimp only
      · exact .ite (.msgDone (.onCtl g.onCtl)) (.onCtl g.onCtl)
      · exact .ite (.msgDone (.onCtl (.memWrite g.onCtl))) (.onCtl (.memWrite g.onCtl))

theorem keeps_wwriteFrame : s.Keeps (execWwriteFrame p w i e s) := .on <| by
  dsimp only
  split
  · next hc => exact Blk.Kept.refl.stopped hc
  · next hc =>
    have g := Blk.Kept.refl.received hc
    exact .ite g.refuse (.ite g.refuseWindow (.serveWindow g.stgWrite))

/-- The stage address is a variable here as in `Blk.setDirty_cases`. -/
theorem Blk.Kept.addPieces {bf16 : Bool} {off : Nat} (g : a.Kept b) : a.Kept (b.addPieces st ad bf16 r e n off) := by
  have key : ∀ f, f = @Blk.addPieces → a.Kept (f b st ad bf16 r e n off) := by
    delta Blk.addPieces Blk.addPieces._f
    generalize @Ctl.stageAddr = place
    revert place
    refine id ?_
    rintro place _ rfl
    induction n generalizing b e off with
    | zero => exact g
    | succ n ih =>
      dsimp only at ih ⊢
      refine .ite g (ih ?_)
      split
      · exact .ite (.onCtl g.stackAdd) g.onCtl
      · exact g
  exact key _ rfl

theorem keeps_waddFrame : s.Keeps (execWaddFrame p w i e s) := .on <| by
  dsimp only
  split
  · next hc => exact Blk.Kept.refl.stopped hc
  · next hc =>
    have g := Blk.Kept.refl.received hc
    exact .ite g.refuse (.ite g.refuseWindow (.serveWindow g.addPieces))

/-! ### Marks and contexts (12 R305 to R308, R326 to R328) -/

theorem keeps_markFrame : s.Keeps (execMarkFrame p w i e s) := .on <| by
  dsimp only
  split
  · next hc => exact Blk.Kept.refl.stopped hc
  · next hc =>
    have g := Blk.Kept.refl.received hc
    exact .ite g.refuse g.onCtl

theorem keeps_openFrame : s.Keeps (execOpenFrame p w i s) := .on <| by
  dsimp only
  split
  · next hc => exact Blk.Kept.refl.stopped hc
  · next hc =>
    have g := Blk.Kept.refl.received hc
    exact .onCtl (.ite (.onCtl g.ctxDrain) g.ctxOpened)

theorem keeps_openAckFrame : s.Keeps (execOpenAckFrame p w i s) := .on <| by
  split
  · next hc => exact Blk.Kept.refl.stopped hc
  · next hc =>
    have g := Blk.Kept.refl.received hc
    exact .ite g.ctxOpened g

/-! ### Requests (12 R309, R310) -/

theorem Blk.Kept.takeRequest {mine : Nat → Bool} {room : Ctl → Nat → Bool} {queue : Blk → TxMsg → Blk} (g : a.Kept b)
    (hq : ∀ b m, a.Kept b → a.Kept (queue b m)) : a.Kept (b.takeRequest n mine room queue) := by
  dsimp only [Blk.takeRequest]
  split
  · exact .ite g (.ite (.onCtl g.onCtl) (.ite (.onCtl (.onCtl g.onCtl)) (.onCtl (.ite (.failed g.onCtl) (hq _ _ g.onCtl)))))
  · exact g

theorem keeps_sendRequest (j : Nat) : s.Keeps (execSendRequest j s) := .on (.takeRequest .refl fun _ _ g => g.onCtl)

theorem keeps_wreadRequest (j : Nat) : s.Keeps (execWreadRequest j s) := .on (.takeRequest .refl fun _ _ g => g.onCtl)

theorem keeps_wwriteRequest (j : Nat) : s.Keeps (execWwriteRequest j s) := .on (.takeRequest .refl fun _ _ g => g.onCtl)

theorem keeps_waddRequest (j : Nat) : s.Keeps (execWaddRequest j s) := .on (.takeRequest .refl fun _ _ g => g.onCtl)

theorem keeps_markRequest (j : Nat) : s.Keeps (execMarkRequest j s) := .on <| .takeRequest .refl fun b m g => by
  dsimp only [Blk.addMark]
  exact g.onCtl

/-! ### UCFG and mirroring (12 R306, R325 to R328) -/

theorem Blk.Kept.ucfgDo {cmd : Nat} (g : a.Kept b) : a.Kept (b.ucfgDo st cmd) := by
  dsimp only [Blk.ucfgDo]
  split
  · exact .onCtl g.onCtl
  · split
    · exact .onCtl g.onCtl
    · exact .onCtl (.onCtl g.onCtl)
    · exact .onCtl g.onCtl
    · exact .onCtl g.onCtl
  · exact .onCtl g.onCtl
  · exact .onCtl g.ctxStop
  · exact g

theorem keeps_mirrorGranuleSend (m : StageId) : s.Keeps (execMirrorGranuleSend m s) := .on <| by
  dsimp only
  refine .ite .refl ?_
  split
  · exact .resynced (.onCtl .refl)
  · split
    · exact .refl
    · exact .resynced (.onCtl (.setDirty .refl))

end

end Sys2Proof.Machine
end

section
/-!
PROOF. The scratchpad's own commands (06 R141 to R154), resets, bring-up and power (16 R413 to R440) keep every memory in its canonical form and
every tile in its shape.
-/
namespace Sys2Proof.Machine

section
variable {a b : Blk} {s : State} {t : TileId} {e : List Ecc} {k l n ad : Nat} {r : Run} {q : SpReq}

/-! ### The scratchpad (06 R141 to R154) -/

theorem Blk.Kept.grantWrite (g : a.Kept b) : a.Kept (b.grantWrite n q) := by
  rw [Blk.grantWrite]
  split
  · exact .onCtl (.onTile g (.spWrite .refl))
  · exact .ite (.onTile g ⟨fun h => Mem.wf_setBad h _ _, id⟩) g
  · exact g
  · exact .onTile g (.spWrite .refl)

theorem keeps_scratchpadGrant (others : List PortReq) : s.Keeps (execScratchpadGrant t others s) := .on <| by
  dsimp only
  exact .ite .refl (.foldl (.onCtl (.setTile .refl (.of_eq rfl))) fun _ _ g => g.grantWrite)

theorem keeps_requestPromote : s.Keeps (execRequestPromote t s) := .on <| by
  dsimp only
  exact .ite (.setTile .refl (.of_eq rfl)) (.onCtl (.setTile .refl (.of_eq rfl)))

theorem keeps_readDataReturn : s.Keeps (execReadDataReturn t e s) := .on <| by
  dsimp only
  split
  · split
    · exact .onTile (.onCtl (.setTile .refl (.of_eq rfl))) (.setFeeder .refl)
    · exact .onTile (.onCtl (.setTile .refl (.of_eq rfl))) (.setFeeder .refl)
    · exact .onCtl (.onCtl (.setTile .refl (.of_eq rfl)))
    · exact .onCtl (.onCtl (.setTile .refl (.of_eq rfl)))
    · exact .onCtl (.setTile .refl (.of_eq rfl))
  · exact .refl

theorem keeps_mergeWriteGrant : s.Keeps (execMergeWriteGrant t e s) := .on <| by
  dsimp only
  split
  · refine .ite .refl ?_
    split
    · exact .onCtl (.setTile .refl (.of_eq rfl))
    · exact .onCtl (.spStore (.onCtl (.setTile .refl (.of_eq rfl))))
    · exact .spStore (.onCtl (.setTile .refl (.of_eq rfl)))
  · exact .refl

theorem keeps_eccWriteback : s.Keeps (execEccWriteback t s) := .on <| by
  dsimp only
  split
  · exact .ite (.grantWrite (.onCtl (.setTile .refl (.of_eq rfl)))) .refl
  · exact .refl

theorem keeps_scrubRead : s.Keeps (execScrubRead t s) := .on <| by
  dsimp only
  refine .ite .refl ?_
  split
  · exact .setTile .refl (.of_eq rfl)
  · exact .refl

theorem keeps_spdInitComplete : s.Keeps (execSpdInitComplete t s) := .on <| by
  dsimp only
  refine .ite ?_ .refl
  have h : s.blk.Kept ((s.blk.tile t).sp.late.foldl (fun b w => b.spStore t w.1 w.2 [])
      (s.blk.setTile t { s.blk.tile t with init := false, sp := { (s.blk.tile t).sp with late := [], submit := none } })) :=
    .foldl (.setTile .refl (.of_eq rfl)) fun _ _ g => g.spStore
  split
  · exact h.submitFetch
  · exact h

theorem keeps_remoteAccessServe (i : Nat) : s.Keeps (execRemoteAccessServe i s) := .on <| by
  dsimp only
  split
  · exact .ite (.ite (.onTile (.onCtl .refl) (.of_eq rfl)) (.onCtl (.onCtl .refl)))
      (.ite (.ite (.onTile (.onCtl .refl) (.of_eq rfl)) (.onCtl (.onCtl .refl))) .refl)
  · exact .refl

theorem keeps_readReply (i : Nat) : s.Keeps (execReadReply i s) := .on <| by
  dsimp only
  split
  · exact .ite (.ite (.coreAnswer (.onCtl .refl)) (.onCtl .refl)) .refl
  · exact .refl

theorem Blk.Kept.indCommand (g : a.Kept b) : a.Kept (b.indCommand n k) := by
  dsimp only [Blk.indCommand]
  exact .ite g (.onTile (.onCtl g) (.present .refl))

theorem keeps_spdIndDone : s.Keeps (execSpdIndDone t s) := .on <| by
  dsimp only
  exact .ite .refl (.onCtl .refl)

/-! ### Tiles held and released (16 R413, R414) -/

theorem Blk.Kept.holdTile (g : a.Kept b) : a.Kept (b.holdTile n) := .setTile g.onCtl (.fresh _)

theorem Blk.Kept.holdTiles {ts : List Nat} (g : a.Kept b) : a.Kept (b.holdTiles ts) := .foldl g fun _ _ g => g.holdTile

theorem Blk.Kept.openTile (g : a.Kept b) : a.Kept (b.openTile n) := by
  dsimp only [Blk.openTile]
  refine .ite g (.setTile g (.of_eq ?_))
  split
  · rfl
  · rfl

theorem Blk.Kept.openTiles {ts : List Nat} (g : a.Kept b) : a.Kept (ts.foldl Blk.openTile b) := .foldl g fun _ _ g => g.openTile

theorem Blk.Kept.release {ts : List Nat} (g : a.Kept b) : a.Kept (b.release ts) := .ite g.onCtl g.openTiles

theorem Blk.Kept.tileResetDo {w : Word} (g : a.Kept b) : a.Kept (b.tileResetDo n w) := .ite g.holdTile (.ite g.release g)

theorem Blk.Kept.closeCtxs {ns : List Nat} (g : a.Kept b) : a.Kept (b.closeCtxs ns) := .foldl g fun _ _ g => g.ctxStop

theorem Blk.Kept.clearStageRim (g : a.Kept b) : a.Kept (b.clearStageRim n) := by
  dsimp only [Blk.clearStageRim]
  exact .onCtl g.closeCtxs

/-! ### Resets of the part (16 R415 to R422, R438) -/

theorem Blk.Kept.fullReset : a.Kept (b.fullReset n) := ⟨fun _ => .fresh _, fun _ _ => rfl⟩

theorem Blk.Kept.warmReset (g : a.Kept b) : a.Kept b.warmReset := by
  dsimp only [Blk.warmReset]
  exact .ite g (.noTiles (.onCtl g.closeCtxs))

theorem keeps_sensorRead (rs : List Int) : s.Keeps (execSensorRead rs s) := .on <| by
  dsimp only
  exact .ite .refl (.ite .fullReset (.onCtl .refl))

theorem keeps_powerOn : s.Keeps (execPowerOn s) := .on (.ite .refl .fullReset)

theorem keeps_pwrOkLoss : s.Keeps (execPwrOkLoss s) := .on (.ite .fullReset .refl)

theorem keeps_resetNAssert : s.Keeps (execResetNAssert s) := .on (.ite .fullReset .refl)

theorem keeps_vddAonLoss : s.Keeps (execVddAonLoss s) := .on ⟨fun _ => .fresh _, fun _ _ => rfl⟩

theorem keeps_powerGoodLoss (i : Fin 32) : s.Keeps (execPowerGoodLoss i s) := .on <| by
  dsimp only
  exact .ite .fullReset .refl

/-! ### Bring-up, clocks and time (15 R395, R408, 16 R426) -/

theorem Blk.Kept.restartMix (g : a.Kept b) : a.Kept (b.restartMix n) := .foldl g fun _ _ g => .ite (.onTile g (.of_eq rfl)) g

theorem keeps_freqStopBegin (c : Fin 36) : s.Keeps (execFreqStopBegin c s) := .on <| by
  dsimp only
  split
  · exact .ite (.onCtl .refl) .refl
  · exact .refl

theorem keeps_freqRestart (c : Fin 36) (ns : Nat) : s.Keeps (execFreqRestart c ns s) := .on <| by
  split
  · exact .ite (.restartMix (.onCtl .refl)) .refl
  · exact .refl

theorem keeps_freqChangeAbandon (c : Fin 36) : s.Keeps (execFreqChangeAbandon c s) := .on <| by
  split
  · exact .ite (.restartMix (.onCtl .refl)) .refl
  · exact .refl

theorem Blk.Kept.writeImage {i : Resident} (g : a.Kept b) : a.Kept (b.writeImage n i) := by
  dsimp only [Blk.writeImage]
  exact .onCtl (.onTile g (foldl_invariant (P := Tile.Kept _) (.of_eq rfl) fun _ _ h => h.spWrite))

theorem keeps_residentCallSheet (m m' : List (Nat × List Byte)) (regs : List (Nat × Word)) (ms : Nat) :
    s.Keeps (execResidentCallSheet m m' regs ms s) := .on <| by
  dsimp only
  exact .ite .refl (.onCtl (.openTiles (.foldl .refl fun _ _ g => g.writeImage)))

theorem keeps_vddmRetention : s.Keeps (execVddmRetention s) := .on <| by
  dsimp only
  exact .ite (.onCtl .refl) .refl

theorem keeps_syncTick (i : Nat) : s.Keeps (execSyncTick i s) := .on <| by
  dsimp only
  split
  · exact .ite (.ite (.onCtl .refl) (.onTile (.ctl (.onCtl .refl)) (.of_eq rfl))) .refl
  · exact .refl

end

end Sys2Proof.Machine
end

section
/-!
PROOF. The stage's commands (16 R428 to R431) and the known-answer shots and tests of a tile (17 R445 to R460) keep every memory and every
tile's shape.
-/
namespace Sys2Proof.Machine

section
variable {a b : Blk} {s : State} {t : TileId} {e : List Ecc} {k l n fn ad : Nat} {w : Word}

/-! ### The stage's registers and states (02 R51, 15 R395, 16 R428 to R431) -/

theorem Blk.Kept.rectDo (g : a.Kept b) : a.Kept (b.rectDo n fn ad w) := by
  dsimp only [Blk.rectDo]
  exact .ite g.onCtl (.onCtl (.ite g g.closeCtxs))

theorem Blk.Kept.portMaskDo (g : a.Kept b) : a.Kept (b.portMaskDo n fn ad w) := by
  dsimp only [Blk.portMaskDo]
  exact .ite g.onCtl (.onCtl g.closeCtxs)

theorem Blk.Kept.finishChange (g : a.Kept b) : a.Kept (b.finishChange n) := by
  dsimp only [Blk.finishChange]
  split
  · exact g
  · exact .ite g.onCtl (.restartMix g.ctl)

theorem Blk.Kept.stageReset (g : a.Kept b) : a.Kept (b.stageReset n) := by
  dsimp only [Blk.stageReset]
  exact .ite g (.ite g.onCtl (.onCtl (.clearStageRim (.holdTiles g.finishChange))))

theorem Blk.Kept.stageLoad (g : a.Kept b) : a.Kept (b.stageLoad n) := by
  dsimp only [Blk.stageLoad]
  exact .onCtl g.holdTiles

theorem Blk.Kept.onMix {f : Mix → Mix} (g : a.Kept b) : a.Kept (b.onMix n f) := .foldl g fun _ _ g => .ite g (.onTile g (.of_eq rfl))

theorem Blk.Kept.emptyMix (g : a.Kept b) : a.Kept (b.emptyMix n) := .onCtl g.onMix

theorem Blk.Kept.enterRun (g : a.Kept b) : a.Kept (b.enterRun n) := by
  dsimp only [Blk.enterRun]
  exact .onCtl (.openTiles (.ite (.foldl g.onMix fun _ _ g => .onTile g (.spWrite .refl)) g.onMix))

theorem Blk.Kept.stageStart (g : a.Kept b) : a.Kept (b.stageStart n) := .ite g.onCtl g.enterRun

theorem Blk.Kept.stageWrap (g : a.Kept b) : a.Kept (b.stageWrap n) := by
  dsimp only [Blk.stageWrap]
  exact .onCtl (.foldl g.finishChange fun _ _ g => .ite (.onTile g (.of_eq rfl)) g)

theorem Blk.Kept.stageCommand (g : a.Kept b) : a.Kept (b.stageCommand n k) := .ite g.onCtl (.ite g.stageStart g.stageWrap)

theorem Blk.Kept.doHeld (g : a.Kept b) : a.Kept b.doHeld := by
  dsimp only [Blk.doHeld]
  exact .foldl g.onCtl fun _ _ g => .ite (.ite g.stageStart g) (.ite g.stageWrap g)

theorem keeps_loadStepRelease (c : Fin 26) : s.Keeps (execLoadStepRelease c s) := .on (.doHeld (.onCtl .refl))

theorem Blk.Kept.runCommand (g : a.Kept b) : a.Kept (b.runCommand n fn ad w) := by
  dsimp only [Blk.runCommand]
  split
  · exact g
  · exact .ite g.stageLoad g.onCtl
  · exact .ite g.stageCommand g.onCtl
  · exact .ite g.stageCommand (.ite g g.onCtl)
  · exact g.stageReset
  · exact g.onCtl

theorem Blk.Kept.deviceWrap (g : a.Kept b) : a.Kept b.deviceWrap := .foldl g fun _ _ g => .ite g.stageWrap g

theorem keeps_wrapDrainComplete (i : StageId) : s.Keeps (execWrapDrainComplete i s) := .on (.ite (.onCtl (.emptyMix .refl)) .refl)

theorem keeps_stageRestartComplete (i : StageId) : s.Keeps (execStageRestartComplete i s) := .on (.ite (.onCtl (.emptyMix .refl)) .refl)

theorem keeps_vddmRaiseDone : s.Keeps (execVddmRaiseDone s) := .on <| by
  dsimp only
  exact .ite .refl (.foldl (.openTiles (.onCtl .refl)) fun _ _ g => .ite g.enterRun g)

/-! ### Known-answer shots (17 R445 to R449) -/

theorem Tile.Kept.kasRan {x y : Tile} (h : x.Kept y) : x.Kept (y.kasRan n k) := by
  rw [Tile.kasRan]
  generalize List.range 0x8000 = l
  revert l
  exact id fun l => ⟨fun hx => Mem.wf_write (h.mem hx) _ _, h.shape⟩

theorem keeps_kasRun : s.Keeps (execKasRun t s) := .on <| by
  dsimp only
  split
  · exact .refl
  · exact .ite .refl (.onCtl (.onTile (.ite .refl (.holdTile .refl)) (.kasRan .refl)))

theorem Blk.Kept.confirm {x : Kas} (g : a.Kept b) : a.Kept (b.confirm x) := by
  dsimp only [Blk.confirm]
  exact .ite g.onCtl (.onCtl (.deviceWrap g.onCtl))

theorem keeps_kasComplete (same : Bool) : s.Keeps (execKasComplete t same s) := .on <| by
  dsimp only
  split
  · exact .refl
  · refine .ite .refl ?_
    split
    · exact .onCtl (.onCtl .refl)
    · exact .onCtl (.onCtl .refl)
    · exact .onCtl (.onCtl .refl)
    · exact .onCtl (.confirm (.onCtl .refl))

/-! ### Tests (17 R450 to R457) -/

theorem Blk.Kept.testGo (g : a.Kept b) : a.Kept (b.testGo fn ad) := by
  dsimp only [Blk.testGo]
  exact .ite g.onCtl (.ite g.onCtl (.onCtl (.ite g.holdTiles g)))

theorem Blk.Kept.afterStress (g : a.Kept b) : a.Kept (b.afterStress n) := by
  dsimp only [Blk.afterStress]
  exact .ite g.onCtl (.release (.foldl g.onCtl fun _ _ g => g.writeImage))

theorem Blk.Kept.testEnd {x : TestRun} (g : a.Kept b) : a.Kept (b.testEnd x n) := by
  dsimp only [Blk.testEnd]
  split
  · exact .ite (.holdTile g.onCtl) g.onCtl
  · exact .onCtl g.onCtl
  · exact .afterStress g.onCtl
  · exact .setStack g.onCtl fun _ => Mem.wf_empty
  · exact .onCtl g.onCtl
  · exact g.onCtl

theorem Blk.Kept.testWatch (g : a.Kept b) : a.Kept b.testWatch := by
  rw [Blk.testWatch]
  split
  · exact .ite g g.testEnd
  · exact g

theorem Blk.Kept.testAbort (g : a.Kept b) : a.Kept b.testAbort := by
  rw [Blk.testAbort]
  split
  · exact g.testEnd
  · exact g

theorem keeps_testComplete (pass : Bool) (count : Nat) : s.Keeps (execTestComplete pass count s) := .on <| by
  dsimp only
  split
  · exact .refl
  · exact .ite (.testEnd .refl) (.ite .refl (.testEnd (.onCtl .refl)))

/-! ### Checks of memory (17 R461 to R465) -/

/-- The stage address is a variable here as in `Blk.setDirty_cases`. -/
theorem Blk.Kept.cveBlock {j : CveJob} {spi : List (List Byte)} {x : Run × Blk} (g : a.Kept b) (hx : b.cveBlock j spi n ad e = some x) :
    a.Kept x.2 := by
  have key : ∀ f, f = @Blk.cveBlock → f b j spi n ad e = some x → a.Kept x.2 := by
    delta Blk.cveBlock
    generalize @Ctl.stageAddr = place
    revert place
    refine id ?_
    rintro place _ rfl hx
    dsimp only at hx
    split at hx <;> obtain ⟨-, hx⟩ := Option.ite_none_left_eq_some.mp hx <;> cases hx
    · exact g.stgRead
    · exact g.stackRead
    · exact g.spRead
    · exact g
    · exact g
  exact key _ rfl hx

theorem Blk.Kept.scan {j : CveJob} {spi : List (List Byte)} {v : Scan} (g : a.Kept b) : a.Kept (Blk.scan j spi e n k (v, b)).2 := by
  induction n generalizing b e k v with
  | zero => exact g
  | succ n ih =>
    dsimp only [Blk.scan]
    split
    · exact g
    · next hx => exact ih (g.cveBlock hx)

theorem keeps_cveJobComplete (i : Fin 4) (spi : List (List Byte)) : s.Keeps (execCveJobComplete i spi e s) := .on <| by
  dsimp only
  split
  · exact .refl
  · exact .onCtl (.scan .refl)

end

end Sys2Proof.Machine
end

section
/-!
PROOF. The row fetcher (08 R209, R210, 11 R274 to R278), the deadlock detector (10 R250 to R255), the gather engine (09 R218 to R237) and the
host's accesses and resets (13 R339 to R348) keep every memory and every tile's shape.
-/
namespace Sys2Proof.Machine

section
variable {a b : Blk} {s : State} {t : TileId} {e : List Ecc} {k l n st ad fn : Nat} {r : Run} {d : Desc}

/-! ### The row fetcher (08 R209, R210, 11 R274 to R278) -/

theorem Blk.Kept.fetchBlock {e0 j m : Nat} {x : FetchBlk} (g : a.Kept b) : a.Kept (b.fetchBlock st k r e0 m j x e) := by
  dsimp only [Blk.fetchBlock]
  refine .onCtl ?_
  split <;> dsimp only
  · exact g.stgRead
  · exact g
  · exact g

theorem Blk.Kept.fetchBranch {e0 m : Nat} {xs : List FetchBlk} (g : a.Kept b) : a.Kept (b.fetchBranch st k r e0 m xs e).1 :=
  .of_ite (f := Prod.fst) g (foldl_invariant (P := fun y : Blk × List Ecc => a.Kept y.1) g fun _ _ hy => hy.fetchBlock)

/-- What a read of the stage and a branch give are variables here as the address is in `Blk.setDirty_cases`. -/
theorem keeps_fetchPassStart (p : Fin 256) : s.Keeps (execFetchPassStart p e s) := by
  have key : ∀ f, f = @execFetchPassStart → s.Keeps (f p e s) := by
    delta execFetchPassStart
    have hr {b st ad n e} (g : s.blk.Kept b) : s.blk.Kept (Blk.stgRead b st ad n e).2 := g.stgRead
    have hb {b st p r e0 n l e} (g : s.blk.Kept b) : s.blk.Kept (Blk.fetchBranch b st p r e0 n l e).1 := g.fetchBranch
    revert hr hb
    generalize @Blk.stgRead = read, @Blk.fetchBranch = branch
    revert read branch
    refine id ?_
    rintro read branch hr hb _ rfl
    refine .on ?_
    dsimp only
    split
    · refine .ite (.onCtl (hr (.onCtl .refl))) (.ite (.onCtl (hr (.onCtl .refl))) (.ite (hb (hb (hr (.onCtl .refl)))) ?_))
      refine .ite (hb (hb (.onCtl (.onCtl (hr (.onCtl .refl))))))
        (.ite (hb (hb (.onCtl (.onCtl (hr (.onCtl .refl))))))
          (hb (hb (.onCtl (.onCtl (hr (.onCtl .refl)))))))
    · exact .refl
  exact key _ rfl

theorem Blk.Kept.fetchGo {busy : Bool} (g : a.Kept b) : a.Kept (b.fetchGo n fn ad busy e) := by
  dsimp only [Blk.fetchGo]
  exact .ite g.onCtl (.ite g.onCtl (.submitFetch g.onCtl))

/-! ### Deadlock (10 R250 to R255) -/

theorem keeps_stallProbe : s.Keeps (execStallProbe t s) := .on <| by
  dsimp only
  exact .ite .refl (.tc0Rim (.onCtl (.onTile .refl (.of_eq rfl))))

theorem keeps_probeArrive (i : Nat) : s.Keeps (execProbeArrive i s) := .on <| by
  dsimp only
  split
  · refine .ite .refl ?_
    split
    · exact .ctl .refl
    · exact .ite (.ctl .refl) (.ctl .refl)
  · exact .refl

theorem keeps_confirmQuery (i : Nat) : s.Keeps (execConfirmQuery i s) := .on <| by
  dsimp only
  split
  · exact .ite .refl (.ite (.onCtl .refl) (.tc0Rim (.onCtl .refl)))
  · exact .refl

theorem Blk.Kept.spillCycle {ts : List Nat} (g : a.Kept b) : a.Kept (b.spillCycle st ts) := .foldl g.onCtl fun _ _ g => .onCtl (.onTile g (.of_eq rfl))

theorem keeps_confirmAnswer (i : Nat) : s.Keeps (execConfirmAnswer i s) := .on <| by
  dsimp only
  split
  · exact .ite .refl (.ite (.onCtl .refl) (.ite (.onCtl (.spillCycle (.onCtl .refl))) (.onCtl (.onCtl .refl))))
  · exact .refl

theorem keeps_probeNoCycle : s.Keeps (execProbeNoCycle t s) := .on <| by
  dsimp only
  split
  · exact .refl
  · exact .ite .refl (.onCtl .refl)

theorem keeps_spillRecordWrite : s.Keeps (execSpillRecordWrite t s) := .on <| by
  dsimp only
  split
  · exact .ite (.freeUnits (.onCtl (.onTile .refl (.of_eq rfl)))) (.freeUnits (.onCtl (.foldl (.onTile .refl (.of_eq rfl)) fun _ _ g => g.stgWrite)))
  · exact .refl

/-- What a read of the stage gives is a variable here as in `keeps_fetchPassStart`. -/
theorem keeps_outtakesRefill : s.Keeps (execOuttakesRefill t e s) := by
  have key : ∀ f, f = @execOuttakesRefill → s.Keeps (f t e s) := by
    delta execOuttakesRefill
    have hr : ∀ b st ad n e, s.blk.Kept b → s.blk.Kept (Blk.stgRead b st ad n e).2 := fun _ _ _ _ _ g => g.stgRead
    revert hr
    generalize @Blk.stgRead = read
    revert read
    refine id ?_
    rintro read hr _ rfl
    refine .on ?_
    dsimp only
    split
    · split
      · exact .refl
      · refine .ite .refl (.onTile (.onCtl ?_) (.of_eq rfl))
        refine foldl_invariant (P := fun y : Run × Blk => s.blk.Kept y.2) .refl fun _ _ hy => ?_
        dsimp only
        exact hr _ _ _ _ _ hy
    · exact .refl
  exact key _ rfl

/-! ### The gather engine (09 R218 to R237) -/

section
variable {w : Work}

theorem Blk.Kept.onGath {f : Gath → Gath} (g : a.Kept b) : a.Kept (b.onGath n f) := .onTile g (.of_eq rfl)

theorem keeps_gatherDescriptor : s.Keeps (execGatherDescriptor t e s) := .absent <| by
  refine .ite .refl ?_
  split
  · next hc => exact Blk.Kept.refl.stayed hc
  · next hc =>
    have g := Blk.Kept.refl.taken hc
    split
    · exact g.gathHalt
    · exact .ite (.onGath g.install) g.install

theorem Blk.Kept.narrowRead (g : a.Kept b) : a.Kept (b.narrowRead n ad k e).blk := g.spRead

/-- The gradient read of an UPDATE bag, if the bag is one. -/
theorem Blk.Kept.gradRead {f : Fetched} {ser row m : Nat} {p : Prop} [Decidable p] (g : a.Kept f.blk) :
    a.Kept (if p then f.blk.stagedRead n k ser row m f.rest else { f with run := {} }).blk :=
  .of_ite (f := Fetched.blk) g.stagedRead g

theorem Blk.Kept.openBag (g : a.Kept b) : a.Kept (b.openBag n d k e).blk := by
  have hf := (g.narrowRead (n := n) (ad := gdOff d + 4 * k) (k := 8) (e := e)).gradRead (p := gdUpdate d) (n := n) (k := 8) (ser := d.ser)
    (row := gdRow d k) (m := gdRowBytes (b.narrowRead n (gdOff d + 4 * k) 8 e).blk.ctl n d)
  dsimp only [Blk.openBag]
  generalize (if gdUpdate d = true then _ else _ : Fetched) = f at hf ⊢
  refine .of_ite (f := Work.blk) hf (.of_ite (f := Work.blk) ?_ ?_)
  · dsimp only
    exact hf.onCtl
  refine .of_ite (f := Work.blk) ?_ ?_ <;> exact .of_ite (f := Fetched.blk) hf.narrowRead.narrowRead hf.narrowRead

theorem Blk.Kept.fetchRow {i : BagId} {win ctx : Nat} {remote : Bool} (g : a.Kept b) : a.Kept (b.fetchRow n k i win ctx remote).2 := by
  dsimp only [Blk.fetchRow]
  split
  · exact g
  · exact .ite g.onGath (.onCtl g.onGath)

end

end

end Sys2Proof.Machine
end

section
/-!
PROOF. The gather engine's rows and bags (09 R221 to R235) and the host's accesses and resets (13 R339 to R348) keep every memory and every
tile's shape.
-/
namespace Sys2Proof.Machine

section
variable {a b : Blk} {s : State} {t : TileId} {e : List Ecc} {k l n st ad fn : Nat} {r : Run} {d : Desc} {w : Work}

/-! ### Rows looked up (09 R221, R222, R230) -/

/-- An ID that could be hashed leaves a block that may follow. -/
def Blk.HashKept (a : Blk) (o : Option Hashed) : Prop := ∀ x, o = some x → a.Kept x.blk

theorem Blk.HashKept.none : a.HashKept none := fun _ h => nomatch h

theorem Blk.HashKept.some {i : Option BagId} (h : a.Kept b) : a.HashKept (some ⟨i, e, b⟩) := by
  rintro _ ⟨⟩
  exact h

theorem Blk.HashKept.ite {p : Prop} [Decidable p] {u v : Option Hashed} (h : a.HashKept u) (g : a.HashKept v) : a.HashKept (if p then u else v) := by
  split
  · exact h
  · exact g

/-- The word of the shard map read, if the row is another tile's. -/
theorem Blk.Kept.mapRead {p : Prop} [Decidable p] (g : a.Kept b) : a.Kept (if p then b.narrowRead n ad 4 e else ⟨{}, e, b⟩ : Fetched).blk :=
  .of_ite (f := Fetched.blk) g.narrowRead g

theorem Blk.Kept.hashId {id wt : Nat} {wbad : Bool} (g : a.Kept b) : a.HashKept (b.hashId n d id wt wbad e) := by
  dsimp only [Blk.hashId]
  refine .ite (.some g.onCtl) ?_
  split
  · split
    · exact .some (.onCtl (.onCtl g.mapRead))
    · exact .some (.onGath (.narrowRead (.onCtl (.onCtl g.mapRead))))
  · refine .ite .none (.ite (.some ?_) (.some ?_))
    · exact .ite (.onCtl (.onCtl g.mapRead)) (.onCtl g.mapRead)
    · refine .ite (.onGath (.fetchRow ?_)) (.fetchRow ?_) <;> exact .ite (.onCtl (.onCtl g.mapRead)) (.onCtl g.mapRead)

/-- What an ID hashed gives is a variable here, as the address is in `Blk.setDirty_cases`. -/
theorem Blk.Kept.hashIds {ids : List (Nat × Nat × Bool)} (g : a.Kept w.blk) : a.Kept (Blk.hashIds w n d ids).blk := by
  have key : ∀ f, f = @Blk.hashIds → a.Kept (f w n d ids).blk := by
    delta Blk.hashIds Blk.hashIds._f
    have hh {b n d id wt wbad e} (g : a.Kept b) : a.HashKept (Blk.hashId b n d id wt wbad e) := g.hashId
    revert hh
    generalize @Blk.hashId = hash
    revert hash
    refine id ?_
    rintro hash hh _ rfl
    induction ids generalizing w with
    | nil => exact g
    | cons i ids ih =>
      dsimp only at ih ⊢
      split
      · dsimp only
        exact g.onCtl
      · next hx => exact ih (hh g _ hx)
  exact key _ rfl

/-! ### Rows added (09 R233, R235) -/

theorem Blk.Kept.gatherMsg {m : TxMsg} (g : a.Kept b) : a.Kept (b.gatherMsg m) := by
  dsimp only [Blk.gatherMsg]
  exact .ite g.onCtl (.ite g.failed g.onCtl)

/-- The stage address is a variable here as in `Blk.setDirty_cases`. -/
theorem Blk.Kept.issueAdd {i : BagId} {v : List (Nat × Bool)} (g : a.Kept w.blk) : a.Kept (w.issueAdd n d i v).blk := by
  have key : ∀ f, f = @Work.issueAdd → a.Kept (f w n d i v).blk := by
    delta Work.issueAdd
    generalize @Ctl.stageAddr = place
    revert place
    refine id ?_
    rintro place _ rfl
    dsimp only
    split
    · exact g
    · have hf : ∀ p : Prop, ∀ _ : Decidable p, a.Kept (if p then (⟨{}, w.ecc, w.blk⟩ : Fetched) else
          w.blk.narrowRead n (w.blk.ctl.tblMap n (gdTable d) + 4 * i.shard) 4 w.ecc).blk :=
        fun p _ => .of_ite (f := Fetched.blk) g g.narrowRead
      refine .of_ite (f := Work.blk) (hf _ _) (.of_ite (f := Work.blk) ?_ ?_)
      · dsimp only
        exact .onCtl (.onGath (.onCtl (hf _ _)))
      · dsimp only
        exact .gatherMsg (.onCtl (hf _ _))
  exact key _ rfl

/-- Whether a row is dropped is a variable here, as the address is in `Blk.setDirty_cases`. -/
theorem Blk.Kept.issueAdds (g : a.Kept w.blk) : a.Kept (w.issueAdds n d).blk := by
  have key : ∀ f, f = @Work.issueAdds → a.Kept (f w n d).blk := by
    delta Work.issueAdds
    generalize @Ctl.rowDropped = drop
    revert drop
    refine id ?_
    rintro drop _ rfl
    dsimp only
    refine foldl_invariant (P := fun x : Work => a.Kept x.blk) ?_ fun _ _ hx => hx.issueAdd
    refine foldl_invariant (P := fun x : List BagId × Blk => a.Kept x.2) g fun _ _ hx => ?_
    refine .of_ite (f := Prod.snd) ?_ ?_ <;> dsimp only <;> exact hx.onCtl
  exact key _ rfl

/-! ### Bags (09 R221 to R233) -/

theorem keeps_gatherBag : s.Keeps (execGatherBag t e s) := .absent <| by
  dsimp -proj only
  split
  · exact .refl
  · split
    · exact .onGath (.hashIds .refl)
    · exact .refl
  · split
    · exact .refl
    · refine .ite .refl (.ite (.stepDone (.issue .refl)) (.ite .refl (.onGath ?_)))
      refine .of_ite (f := Work.blk) (.issueAdds ?_) (.hashIds ?_) <;> dsimp only <;> exact .onGath (.openBag (.issue .refl))

theorem keeps_gatherRemoteRequest (i : Fin 4) : s.Keeps (execGatherRemoteRequest t i k s) := .absent <| by
  dsimp only
  split
  · exact .ite .refl (.ite .refl (.ite (.onCtl .refl) (.gatherMsg (.onCtl (.onGath .refl)))))
  · exact .refl

theorem Blk.Kept.rowArrived {f : Fetch} {err : Bool} (g : a.Kept b) : a.Kept (b.rowArrived n f r err e) := by
  dsimp only [Blk.rowArrived]
  split
  · exact g.onGath
  · exact .ite (.onGath g.onGath) (.onGath (.spStore g.onGath))

theorem Blk.Kept.rowReply {p : Pkt} (g : a.Kept b) : a.Kept (b.rowReply n k p e) := by
  dsimp only [Blk.rowReply]
  split
  · exact .ite g.rowArrived g.onGath
  · exact foldl_invariant (P := fun x : List Ecc × Blk => a.Kept x.2) (.ite g.onCtl g) fun _ _ hx => hx.rowArrived

theorem keeps_gatherRowArrive (i : Nat) : s.Keeps (execGatherRowArrive i e s) := .on <| by
  dsimp only
  split
  · refine .ite .refl (.ite (.onCtl .refl) (.ite (.rowReply (.onCtl .refl)) (.onGath ?_)))
    exact .ite (.onCtl (.onCtl .refl)) (.onCtl .refl)
  · exact .refl

theorem keeps_gatherBagComplete : s.Keeps (execGatherBagComplete t e s) := .absent <| by
  dsimp only
  split
  · split
    · exact .refl
    · exact .stepDone (.onCtl (.ite (.onGath .refl) (.ite (.onCtl (.spStore (.onGath .refl))) (.spStore (.onGath .refl)))))
  · exact .refl

/-! ### The host (13 R339 to R348) -/

theorem keeps_bar2Read (f : Fn) (off : BitVec 36) (len : Fin 4097) : s.Keeps (execBar2Read f off len e s) := .on <| by
  dsimp only
  refine .ite .refl (.ite (.onCtl .refl) (.onCtl ?_))
  split
  · exact .stgRead .refl
  · exact .stackRead .refl

theorem keeps_bar2Write (f : Fn) (off : BitVec 36) (data : List Byte) (ep : Bool) : s.Keeps (execBar2Write f off data ep e s) := .on <| by
  dsimp only
  refine .ite .refl (.ite (.onCtl .refl) ?_)
  split
  · exact .stgWrite .refl
  · exact .stackWrite .refl

theorem keeps_vfFlr (i : StageId) : s.Keeps (execVfFlr i s) := .on <| by
  dsimp only
  exact .ite .refl (.stageReset (.onCtl .refl))

theorem keeps_pfFlr : s.Keeps (execPfFlr s) := .on (.warmReset .refl)

theorem keeps_hotReset : s.Keeps (execHotReset s) := .on (.ite (.warmReset .refl) .refl)

theorem keeps_pcieLinkDown : s.Keeps (execPcieLinkDown s) := .on (.ite (.warmReset .refl) .refl)

theorem keeps_perstNAssert : s.Keeps (execPerstNAssert s) := .on (.ite .refl (.onCtl (.warmReset .refl)))

end

end Sys2Proof.Machine
end

section
/-!
PROOF. Accesses of registers (02 R34 to R49) and call sheets (16 R434 to R436) keep every memory in its canonical form and every tile in its
shape.
-/
namespace Sys2Proof.Machine

section
variable {a b : Blk} {s : State} {t : TileId} {e : List Ecc} {k l n i base off st ad fn : Nat} {r : Run} {w v : Word} {q : Acc} {x : RegDef}
  {y : PageKind} {h : Option PairHold}

/-! ### Registers that are commands -/

theorem Blk.Kept.errAt (g : a.Kept b) : a.Kept (b.errAt q base k) := g.onCtl

/-- Where an operation has an effect of its own, it leaves a block that may follow. -/
def Blk.OptKept (a : Blk) (o : Option Blk) : Prop := ∀ b, o = some b → a.Kept b

theorem Blk.OptKept.some (h : a.Kept b) : a.OptKept (some b) := by
  rintro _ ⟨⟩
  exact h

theorem Blk.OptKept.none : a.OptKept none := fun _ h => nomatch h

theorem Blk.Kept.rimCommand (g : a.Kept b) : a.OptKept (b.rimCommand y i base off q x w) := by
  unfold Blk.rimCommand
  split
  · exact .some g.onCtl
  · exact .some (.ite .fullReset (.ite g.warmReset g.errAt))
  · exact .some (.ite g.onCtl g)
  · exact .some (.ite g.errAt g.onCtl)
  · exact .some g.onCtl
  · exact .some (.ite g.onCtl g)
  · exact .some (.ite g.onCtl g)
  · exact .some g.onCtl
  · have h : a.Kept (if bit w 30 then b.testAbort else b) := .ite g.testAbort g
    dsimp only
    exact .some <| .ite h.onCtl (.ite h.errAt (.ite h.errAt (.testGo h.onCtl)))
  · exact .some g.onCtl
  · exact .some g.onCtl
  · exact .some (.ite g.onCtl g)
  · exact .some g.onCtl
  · exact .some g.onCtl
  · exact .some g.onCtl
  · exact .none

theorem Blk.Kept.ucfgWrite (g : a.Kept b) : a.Kept (b.ucfgWrite q n k) := by
  rw [Blk.ucfgWrite]
  refine .ite g ?_
  split
  · exact g.errAt
  · exact g.ucfgDo

theorem Blk.Kept.addMark (g : a.Kept b) : a.Kept (b.addMark n v w) := by
  dsimp only [Blk.addMark]
  exact g.onCtl

theorem Blk.Kept.stageWrite (g : a.Kept b) : a.OptKept (b.stageWrite n base off q w) := by
  unfold Blk.stageWrite
  split
  · exact .some g.rectDo
  · exact .some g.runCommand
  · exact .some g.portMaskDo
  · exact .some g.onCtl
  · exact .some g.onCtl
  · exact .some g.onCtl
  · exact .some (.ite g.onCtl g)
  · exact .some g.ucfgWrite
  · exact .some (.ite g.errAt g.addMark)
  · exact .some (.ite g.onCtl g)
  · exact .some (.ite g.onCtl g)
  · exact .some (.ite g.onCtl g)
  · exact .none

theorem Blk.Kept.fetchWrite (g : a.Kept b) : a.Kept (b.fetchWrite n base q x w e) := by
  dsimp only [Blk.fetchWrite]
  exact .ite g.onCtl (.ite g.errAt (.ite g.errAt (.fetchGo g.onCtl)))

theorem Blk.Kept.tileWrite (g : a.Kept b) : a.OptKept (b.tileWrite y n base off q x w e) := by
  unfold Blk.tileWrite
  split
  · exact .some g.fetchWrite
  · exact .some (.ite g.errAt g.tileResetDo)
  · exact .some (.ite g (.ite g.requestShot g.errAt))
  · exact .some g.onCtl
  · exact .some (.ite g.errAt (.ite g.errAt g.indCommand))
  · exact .some (.ite (.onTile g (.of_eq rfl)) g)
  · split
    · exact .some g.slateAdd
    · exact .none
  · exact .none

theorem Blk.Kept.command (g : a.Kept b) : a.OptKept (b.command y i base off q x w e) := by
  unfold Blk.command
  split
  · exact g.stageWrite
  case h_8 => exact g.rimCommand
  all_goals exact g.tileWrite

/-! ### A write (02 R45) -/

theorem Blk.Kept.afterStore (g : a.Kept b) : a.Kept (b.afterStore y i base off v w) := by
  unfold Blk.afterStore
  split
  · exact .ite g.onCtl g
  · exact .ite g.onCtl g
  · exact .ite g.mirrorAll g
  · exact .ite g.onCtl g
  · exact .ite (.onTile g (.of_eq rfl)) g
  · exact .ite (.onTile g (.of_eq rfl)) g
  · exact .ite g.slateEval g
  · exact g

theorem Blk.Kept.plainWrite (g : a.Kept b) : a.Kept (b.plainWrite y i base off q x w h) := by
  dsimp only [Blk.plainWrite]
  exact .ite g.errAt (.ite g.onCtl (.ite (.ite g.errAt g.onCtl) (.afterStore g.onCtl)))

theorem Blk.Kept.apply (g : a.Kept b) : a.Kept (b.apply y i base off q x w h e) := by
  unfold Blk.apply
  split
  · exact g.onCtl
  · exact g.onCtl
  · exact .ite g.onCtl g
  · refine .ite (.ite g.onCtl g) ?_
    have hc := g.command (y := y) (i := i) (base := base) (off := off) (q := q) (x := x) (w := w) (e := e)
    show a.Kept (match b.command y i base off q x w e with | some b' => b' | none => b.plainWrite y i base off q x w h)
    split
    · next hb => exact hc _ hb
    · exact g.plainWrite

theorem Blk.Kept.pageWrite {be : Bool} (g : a.Kept b) : a.Kept (b.pageWrite y i base off q be w e) := by
  dsimp only [Blk.pageWrite]
  have hg : a.Kept (b.onCtl fun c => c.unpair base) := g.onCtl
  refine .ite hg.onCtl (.ite hg.errAt ?_)
  split
  · exact hg.errAt
  · exact .ite hg (.ite hg.errAt (.ite hg.errAt (.ite hg.onCtl (.ite (.ite hg.errAt (.apply hg.errAt)) hg.apply))))

theorem Blk.Kept.busWrite {be : Bool} (g : a.Kept b) : a.Kept (b.busWrite n ad be w e) := by
  rw [Blk.busWrite]
  split
  · exact g
  · exact g.errAt
  · exact .errAt g.onCtl
  · exact g.pageWrite

end

end Sys2Proof.Machine
end

section
/-!
PROOF. Reads of registers, the cores' instructions (07 R181, R182), call sheets (16 R434 to R436) and the vector unit (05 R109 to R129) keep
every memory in its canonical form and every tile in its shape.
-/
namespace Sys2Proof.Machine

section
variable {a b : Blk} {s : State} {t : TileId} {e : List Ecc} {k l n st ad fn : Nat} {r : Run} {w v : Word} {d : Desc}

/-! ### Accesses of registers (02 R34 to R49) -/

theorem Blk.Kept.busRead (g : a.Kept b) : a.Kept (b.busRead n ad).2 := by
  dsimp only [Blk.busRead]
  split
  · refine .of_ite (f := Prod.snd) ?_ (.of_ite (f := Prod.snd) ?_ ?_)
    · dsimp only
      exact g.onCtl
    · dsimp only
      exact .onCtl g.onCtl
    · split <;> dsimp only <;> exact g.onCtl
  · exact g

theorem Blk.Kept.busWrites {ws : List (Bool × Word)} (g : a.Kept b) : a.Kept (b.busWrites n ad ws) := by
  induction ws generalizing b ad with
  | nil => exact g
  | cons x ws ih => exact ih g.busWrite

theorem Blk.Kept.busReads (g : a.Kept b) : a.Kept (b.busReads n ad k).2 := by
  induction k generalizing b ad with
  | zero => exact g
  | succ k ih => exact ih g.busRead

theorem State.Keeps.write {f : Fn} : s.Keeps (s.write f ad w e) := .on (.busWrite .refl)

theorem keeps_registerWrite (f : Fn) (x : Addr) (be : Bool) (more : List (Bool × Word)) : s.Keeps (execRegisterWrite f x be w more s) :=
  .on (.busWrites .refl)

theorem keeps_pairLowRead (f : Fn) (x : Addr) (m : Fin 4097) : s.Keeps (execPairLowRead f x m s) := .on <| by
  dsimp only
  exact .onCtl (.busReads .refl)

theorem keeps_lfsrSeedWrite (f : Fn) (hi : Word) : s.Keeps (execLfsrSeedWrite f t w hi s) := .on (.busWrite (.busWrite .refl))

/-! ### A core's instructions (07 R181, R182) -/

section
variable {c : Fin 2} {rs : List Reg} {x y z : Reg} {op : MemOp}

theorem State.Keeps.onCore {f : Blk → Blk} (h : s.blk.Kept (f s.blk)) : s.Keeps (s.onCore t c rs f) := .absent (.ite h .refl)

theorem Blk.Kept.advance (g : a.Kept b) : a.Kept (b.retire n k) := .onCtl (.onCore g fun _ => rfl)

theorem Blk.Kept.retireTo (g : a.Kept b) : a.Kept (b.retireTo n k x v) := .advance g.setReg

theorem Blk.Kept.trap {q : CoreTrap} (g : a.Kept b) : a.Kept (b.trap n k q) := .onCore g fun _ => rfl

theorem Blk.Kept.localAccess (g : a.Kept b) : a.Kept (b.localAccess n k op x ad l e) := by
  dsimp only [Blk.localAccess]
  exact .ite g (.ite (.advance g.spStore) (.ite (.trap (.onCtl g.spRead)) (.retireTo g.spRead)))

theorem Blk.Kept.refuseAccess (g : a.Kept b) : a.Kept (b.refuseAccess n k l op ad) := .trap g.onCtl

theorem Blk.Kept.remoteAccess (g : a.Kept b) : a.Kept (b.remoteAccess n k op x ad e) := by
  dsimp only [Blk.remoteAccess]
  exact .ite g.refuseAccess (.ite g.refuseAccess (.ite g.localAccess (.ite g (.advance (.onCtl (.onCore g fun _ => rfl))))))

theorem Blk.Kept.blockAccess (g : a.Kept b) : a.Kept (b.blockAccess n k op x ad e) := by
  dsimp only [Blk.blockAccess]
  exact .ite (.ite (.trap g.busWrite) (.advance g.busWrite)) (.retireTo g.busRead)

theorem keeps_coreLoadStore (i : BitVec 12) : s.Keeps (execCoreLoadStore t c op x y i e s) := .onCore <| by
  dsimp only
  exact .ite (.trap .refl) (.ite (.ite (.refuseAccess .refl) (.localAccess .refl)) (.ite (.remoteAccess .refl)
    (.ite (.blockAccess .refl) (.trap .refl))))

theorem keeps_fenceI : s.Keeps (execFenceI t c s) := .onCore (.advance (.onCore .refl fun _ => rfl))

theorem keeps_shotStart : s.Keeps (execShotStart t c x e s) := .onCore <| by
  dsimp only
  exact .ite (.advance (.requestShot .refl)) (.onCore .refl fun _ => rfl)

theorem keeps_slAdd : s.Keeps (execSlAdd t c x y s) := .onCore (.advance (.slateAdd .refl))

theorem keeps_slWait : s.Keeps (execSlWait t c x s) := .onCore (.ite (.advance .refl) (.onCore .refl fun _ => rfl))

theorem keeps_slRead : s.Keeps (execSlRead t c x y s) := .onCore (.retireTo .refl)

theorem keeps_slArm : s.Keeps (execSlArm t c x y s) := .onCore (.advance (.slateEval (.onCtl .refl)))

theorem keeps_slPoll : s.Keeps (execSlPoll t c x y s) := .onCore (.retireTo .refl)

theorem Blk.Kept.sendFrom {m : Blk × Bool} (g : a.Kept m.1) : a.Kept (Blk.sendFrom n k m) := .ite g.advance (.onCore g fun _ => rfl)

theorem Blk.Kept.notOurs (g : a.Kept b) : a.Kept (b.notOurs n k) := .advance g.onCtl

theorem keeps_slSig : s.Keeps (execSlSig t c x y s) := .onCore <| by
  dsimp only
  exact .ite .refl (.ite (.ite (.sendFrom (.tc0Rim .refl)) (.notOurs .refl)) (.ite (.sendFrom (.tc0 .refl)) (.notOurs .refl)))

theorem keeps_predSet : s.Keeps (execPredSet t c x y s) := .onCore <| by
  dsimp only
  exact .ite (.advance (.onCtl .refl)) (.ite .refl (.ite (.sendFrom (.tc0 .refl)) (.notOurs .refl)))

theorem keeps_predClr : s.Keeps (execPredClr t c x s) := .onCore (.advance (.onCtl .refl))

theorem keeps_sumTake : s.Keeps (execSumTake t c x s) := .absent <| by
  dsimp only
  have g : s.blk.Kept (s.blk.onTile t fun y =>
      if (y.core c).stall = .sum x then y.setCore c { y.core c with stall := .none } else y) := .onTile .refl (.ite (.setCore .refl rfl) .refl)
  refine .ite g ?_
  split
  · exact .onCore g fun _ => rfl
  · exact .ite (.trap (.onCtl (.onTile g (.of_eq rfl)))) (.retireTo (.onTile g (.of_eq rfl)))

theorem keeps_sumFlags : s.Keeps (execSumFlags t c x s) := .onCore (.retireTo .refl)

end

/-! ### Call sheets, recovery and the digest (16 R434 to R437, 17 R470) -/

theorem Blk.Kept.sheetWrite {x : SheetRec} (g : a.Kept b) : a.Kept (b.sheetWrite n x r) := by
  refine .foldl g fun b t g => .ite (.onTile g ?_) (.foldl g fun _ _ g => .ite g.busWrite g)
  exact Tile.Kept.spWrite (.of_eq rfl)

/-- What a read of the stage gives, its size and the sheet's address are variables here as in `keeps_fetchPassStart`. -/
theorem Blk.Kept.sheetHeader (g : a.Kept b) : a.Kept (b.sheetHeader n e).2 := by
  have key : ∀ f, f = @Blk.sheetHeader → a.Kept (f b n e).2 := by
    delta Blk.sheetHeader
    have hr {b st ad n e} (g : a.Kept b) : a.Kept (Blk.stgRead b st ad n e).2 := g.stgRead
    revert hr
    generalize @Blk.stgRead = read, @Ctl.stageBytes = bytes, @Ctl.sheetBase = base
    revert read bytes base
    refine id ?_
    rintro read bytes base hr _ rfl
    dsimp only
    refine .of_ite (f := Prod.snd) g (.of_ite (f := Prod.snd) (hr g) (.of_ite (f := Prod.snd) (hr g) ?_))
    exact .of_ite (f := Prod.snd) (hr (hr g)) (hr (hr g))
  exact key _ rfl

/-- What a read of the stage and the header give are variables here as in `keeps_fetchPassStart`. -/
theorem keeps_callSheetRecord (i : StageId) : s.Keeps (execCallSheetRecord i e s) := by
  have key : ∀ f, f = @execCallSheetRecord → s.Keeps (f i e s) := by
    delta execCallSheetRecord
    have hr {b st ad n e} (g : s.blk.Kept b) : s.blk.Kept (Blk.stgRead b st ad n e).2 := g.stgRead
    have hh {b n e} (g : s.blk.Kept b) : s.blk.Kept (Blk.sheetHeader b n e).2 := g.sheetHeader
    revert hr hh
    generalize @Blk.stgRead = read, @Blk.sheetHeader = header
    revert read header
    refine id ?_
    rintro read header hr hh _ rfl
    refine .on ?_
    dsimp only
    split
    · exact .refl
    · next x _ =>
      refine .ite .refl ?_
      have h0 : s.blk.Kept (if x.records = 0 then header s.blk i e else (.inl x.records, s.blk)).2 :=
        .of_ite (f := Prod.snd) (hh .refl) .refl
      split
      · exact h0.onCtl
      · exact .ite (.onCtl (hr h0)) (.ite (.onCtl (hr h0)) (.ite (.onCtl (hr (hr h0))) (.onCtl (.sheetWrite (hr (hr h0))))))
  exact key _ rfl

theorem keeps_recoveryVerify (ok : Bool) : s.Keeps (execRecoveryVerify ok s) := .on <| by
  dsimp only
  exact .ite .refl (.ite .fullReset (.onCtl .refl))

theorem keeps_digestCompute (fw img : List Byte) (mixed : Bool) : s.Keeps (execDigestCompute fw img mixed s) := .on <| by
  dsimp only
  exact .ite .refl (.onCtl (.of_ite (f := Prod.snd) (.ctl .refl) .refl))

/-! ### The vector unit (05 R109 to R129) -/

theorem keeps_vectorDescriptor : s.Keeps (execVectorDescriptor t e s) := .on <| by
  dsimp only
  refine .ite .refl ?_
  split
  · next hc => exact Blk.Kept.refl.stayed hc
  · next hc =>
    have g := Blk.Kept.refl.taken hc
    split
    · exact g.vecHalt
    · exact .onTile g.install (.of_eq rfl)

theorem Tile.Kept.accSource {x y : Tile} (h : x.Kept y) : x.Kept (y.accSource d k).2 := by
  dsimp only [Tile.accSource]
  refine .ite ?_ h
  exact foldl_invariant (P := Tile.Kept x) h fun _ _ h => foldl_invariant (P := Tile.Kept x) h fun _ _ h => h.trans (.of_eq rfl)

theorem Blk.Kept.vecSource {i : Nat} (g : a.Kept b) : a.Kept (b.vecSource n d i k e).blk := by
  rw [Blk.vecSource]
  split
  split
  · exact g
  · exact g.stagedRead

theorem Blk.Kept.vecRow (g : a.Kept b) : a.Kept (b.vecRow n d k e).2 := by
  rw [Blk.vecRow]
  split
  next rds b1 h1 =>
  have hb1 : a.Kept b1 := by
    split_ifs at h1
    · injection h1 with _ h1
      exact h1 ▸ g.setTile (.accSource .refl)
    · injection h1 with _ h1
      exact h1 ▸ g
  extract_lets z first exps b2 src ra rb rc y
  have hfirst : a.Kept first.blk := by
    unfold first
    split_ifs
    · exact hb1.stagedRead
    · exact hb1
  have hb2 : a.Kept b2 := .ite (.onTile hfirst (.of_eq rfl)) hb1
  have hsrc {c : Blk} {e : List Ecc} {i : Nat} (h : a.Kept c) : a.Kept (src c e i).blk := by
    unfold src
    split_ifs
    · exact h
    · exact h
    · exact h.vecSource
  have hrc : a.Kept rc.blk := hsrc (hsrc (hsrc hb2))
  exact hrc.setTile (.of_eq rfl)

theorem keeps_vectorRow (late stall : Nat) : s.Keeps (execVectorRow t late stall e s) := .on <| by
  dsimp only
  split
  · refine .ite (.onCtl .refl) (.ite (.setTile (.onCtl .refl) (.of_eq rfl)) (.issue (.foldl (.onTile ?_ (.of_eq rfl)) fun _ _ g => g.onCtl)))
    exact .of_ite (f := Prod.snd) (.setTile (.onCtl .refl) (.of_eq rfl)) (.vecRow (.setTile (.onCtl .refl) (.of_eq rfl)))
  · exact .refl

theorem Blk.Kept.pushSummary {m : Summary} (g : a.Kept b) : a.Kept (b.pushSummary n m) := by
  dsimp only [Blk.pushSummary]
  exact .ite (.onCtl (.setTile g (.of_eq rfl))) (.setTile g (.of_eq rfl))

theorem Blk.Kept.offerSummary {m : Summary} (g : a.Kept b) : a.Kept (b.offerSummary n m) := .ite (.setTile g (.of_eq rfl)) g.pushSummary

theorem Blk.Kept.spStores {ws : List VWrite} (g : a.Kept b) : a.Kept (b.spStores n e ws) := by
  induction ws generalizing b e with
  | nil => exact g
  | cons w ws ih => exact ih g.spStore

theorem keeps_vectorRowComplete (stall : Nat) : s.Keeps (execVectorRowComplete t stall e s) := .on <| by
  dsimp only
  split
  · split
    · refine .stepDone ?_
      split
      · exact .offerSummary (.onCtl (.spStores (.setTile .refl (.of_eq rfl))))
      · exact .onCtl (.spStores (.setTile .refl (.of_eq rfl)))
    · exact .setTile .refl (.of_eq rfl)
  · exact .refl

theorem keeps_summaryPush (stall : Nat) : s.Keeps (execSummaryPush t stall s) := .on <| by
  dsimp only
  split
  · exact .ite (.onCtl .refl) (.pushSummary (.onCtl_setTile .refl (.of_eq rfl)))
  · exact .refl

/-! ### Time (15 R391) -/

theorem keeps_idle : s.Keeps (idle s) := .on (.ite .refl (.onCtl (.testWatch .refl)))

end

end Sys2Proof.Machine
end

section
/-!
PROOF. Every step keeps the canonical form of each memory and the shape of each tile (06 R149 to R151, 11 R281, R288), and so do both hold of
every state that a run from power-on reaches.
-/
namespace Sys2Proof.Machine

/-- Every command keeps them: one of the control plane alone changes no tile and no stack, and a write of a register is a write on the bus. -/
theorem exec_keeps (i : Instr) (s : State) : s.Keeps (exec i s) := by
  by_cases h : onlyControl i = true
  · obtain ⟨f, hf⟩ := onlyControl_onCtl i s h
    exact hf ▸ .onCtl
  cases i
  case lockPage | unlockPage | errCountClear | irqStatusWrite | irqEnableWrite | perfCntClear | rectWrite | portMaskWrite | stageLoad |
      stageStart | stageWrap | stageReset | arrCntClear | sparseCtrlClear | vecCntClear | spdIndRead | spdIndWrite | spdCntClear |
      seqShotStart | chCfgWrite | seqCntClear | slateAddWrite | slateCountWrite | slateThreshWrite | fetchCmdGo | scoutClear |
      hitCacheInvalidate | hcCfgWrite | gathCntClear | rtrCntClear | hbmCntClear | poisonConsumedClear | ucfgRead | ucfgWrite | contextOpen |
      contextClose | mirrorEnable | mirrorMark | uamClear | portCntClear | pcieCntClear | bar2ErrClear | dmaErrClear | cuePush | cueFlush |
      ballastWrite | energySnapshot | windowArm | pwrCntClear | cueCntClear | freqReqWrite | timeCntClear | softwareFullReset | warmReset |
      vbClear | tileResetAssert | tileResetRelease | keepWrite | recoveryStart | recoveryData | stepMark | flagsClr | testGo | testAbort |
      rasCntClear | logCntClear | cveGo | cveAbort | secGo =>
    exact .write
  case registerWrite => exact keeps_registerWrite ..
  case pairLowRead => exact keeps_pairLowRead ..
  case wrapDrainComplete => exact keeps_wrapDrainComplete ..
  case stageRestartComplete => exact keeps_stageRestartComplete ..
  case matrixInstruction => exact keeps_matrixInstruction ..
  case arrayRowEnter => exact keeps_arrayRowEnter ..
  case accRowWrite => exact keeps_accRowWrite ..
  case weightLoaderDescriptor => exact keeps_weightLoaderDescriptor ..
  case weightBufferFree => exact keeps_weightBufferFree ..
  case weightBlockUsable => exact keeps_weightBlockUsable ..
  case feederRowRequest => exact keeps_feederRowRequest ..
  case feederDescriptorCross => exact keeps_feederDescriptorCross ..
  case vectorDescriptor => exact keeps_vectorDescriptor ..
  case vectorRow => exact keeps_vectorRow ..
  case vectorRowComplete => exact keeps_vectorRowComplete ..
  case summaryPush => exact keeps_summaryPush ..
  case lfsrSeedWrite => exact keeps_lfsrSeedWrite ..
  case scratchpadGrant => exact keeps_scratchpadGrant ..
  case requestPromote => exact keeps_requestPromote ..
  case readDataReturn => exact keeps_readDataReturn ..
  case mergeWriteGrant => exact keeps_mergeWriteGrant ..
  case eccWriteback => exact keeps_eccWriteback ..
  case scrubRead => exact keeps_scrubRead ..
  case spdInitComplete => exact keeps_spdInitComplete ..
  case remoteAccessServe => exact keeps_remoteAccessServe ..
  case readReply => exact keeps_readReply ..
  case spdIndDone => exact keeps_spdIndDone ..
  case descriptorPrefetch => exact keeps_descriptorPrefetch ..
  case shotStart => exact keeps_shotStart ..
  case pendingShotStart => exact keeps_pendingShotStart ..
  case shotComplete => exact keeps_shotComplete ..
  case coreLoadStore => exact keeps_coreLoadStore ..
  case fenceI => exact keeps_fenceI ..
  case slAdd => exact keeps_slAdd ..
  case slWait => exact keeps_slWait ..
  case slRead => exact keeps_slRead ..
  case slSig => exact keeps_slSig ..
  case sumTake => exact keeps_sumTake ..
  case predSet => exact keeps_predSet ..
  case slArm => exact keeps_slArm ..
  case slPoll => exact keeps_slPoll ..
  case sumFlags => exact keeps_sumFlags ..
  case predClr => exact keeps_predClr ..
  case slateWaitRelease => exact keeps_slateWaitRelease ..
  case slateRearm => exact keeps_slateRearm ..
  case slateAddMessage => exact keeps_slateAddMessage ..
  case predicateToken => exact keeps_predicateToken ..
  case rimSlateBroadcast => exact keeps_rimSlateBroadcast ..
  case moverDescriptor => exact keeps_moverDescriptor ..
  case moverTransferSend => exact keeps_moverTransferSend ..
  case creditRequest => exact keeps_creditRequest ..
  case creditGrant => exact keeps_creditGrant ..
  case transferArrive => exact keeps_transferArrive ..
  case receiverDescriptor => exact keeps_receiverDescriptor ..
  case receiverWrite => exact keeps_receiverWrite ..
  case transferAck => exact keeps_transferAck ..
  case stallProbe => exact keeps_stallProbe ..
  case probeArrive => exact keeps_probeArrive ..
  case confirmQuery => exact keeps_confirmQuery ..
  case confirmAnswer => exact keeps_confirmAnswer ..
  case probeNoCycle => exact keeps_probeNoCycle ..
  case spillRecordWrite => exact keeps_spillRecordWrite ..
  case outtakesRefill => exact keeps_outtakesRefill ..
  case fetchPassStart => exact keeps_fetchPassStart ..
  case gatherDescriptor => exact keeps_gatherDescriptor ..
  case gatherBag => exact keeps_gatherBag ..
  case gatherRemoteRequest => exact keeps_gatherRemoteRequest ..
  case gatherRowArrive => exact keeps_gatherRowArrive ..
  case gatherBagComplete => exact keeps_gatherBagComplete ..
  case mixFlitArrive => exact keeps_mixFlitArrive ..
  case mixSlotFire => exact keeps_mixSlotFire ..
  case mixCreditReturn => exact keeps_mixCreditReturn ..
  case mixAck => exact keeps_mixAck ..
  case mixScheduleStop => exact keeps_mixScheduleStop ..
  case tc0LimitRelease => exact keeps_tc0LimitRelease ..
  case hbmReadRequest => exact keeps_hbmReadRequest ..
  case hbmWriteRequest => exact keeps_hbmWriteRequest ..
  case hbmAddRequest => exact keeps_hbmAddRequest ..
  case hbmPatrolScrub => exact keeps_hbmPatrolScrub ..
  case hbmZeroFillComplete => exact keeps_hbmZeroFillComplete ..
  case dataFrame => exact keeps_dataFrame ..
  case ackFrame => exact keeps_ackFrame ..
  case nakFrame => exact keeps_nakFrame ..
  case rtsFrame => exact keeps_rtsFrame ..
  case grantFrame => exact keeps_grantFrame ..
  case wreadFrame => exact keeps_wreadFrame ..
  case rrespFrame => exact keeps_rrespFrame ..
  case wwriteFrame => exact keeps_wwriteFrame ..
  case waddFrame => exact keeps_waddFrame ..
  case markFrame => exact keeps_markFrame ..
  case openFrame => exact keeps_openFrame ..
  case openAckFrame => exact keeps_openAckFrame ..
  case sendRequest => exact keeps_sendRequest ..
  case wreadRequest => exact keeps_wreadRequest ..
  case wwriteRequest => exact keeps_wwriteRequest ..
  case waddRequest => exact keeps_waddRequest ..
  case markRequest => exact keeps_markRequest ..
  case frameSend => exact keeps_frameSend ..
  case retxTimeout => exact keeps_retxTimeout ..
  case ringGrant => exact keeps_ringGrant ..
  case mirrorGranuleSend => exact keeps_mirrorGranuleSend ..
  case bar2Read => exact keeps_bar2Read ..
  case bar2Write => exact keeps_bar2Write ..
  case vfFlr => exact keeps_vfFlr ..
  case pfFlr => exact keeps_pfFlr ..
  case hotReset => exact keeps_hotReset ..
  case pcieLinkDown => exact keeps_pcieLinkDown ..
  case perstNAssert => exact keeps_perstNAssert ..
  case loadStepRelease => exact keeps_loadStepRelease ..
  case sensorRead => exact keeps_sensorRead ..
  case freqStopBegin => exact keeps_freqStopBegin ..
  case freqRestart => exact keeps_freqRestart ..
  case freqChangeAbandon => exact keeps_freqChangeAbandon ..
  case syncTick => exact keeps_syncTick ..
  case powerOn => exact keeps_powerOn ..
  case pwrOkLoss => exact keeps_pwrOkLoss ..
  case resetNAssert => exact keeps_resetNAssert ..
  case powerGoodLoss => exact keeps_powerGoodLoss ..
  case residentCallSheet => exact keeps_residentCallSheet ..
  case vddmRetention => exact keeps_vddmRetention ..
  case vddmRaiseDone => exact keeps_vddmRaiseDone ..
  case callSheetRecord => exact keeps_callSheetRecord ..
  case recoveryVerify => exact keeps_recoveryVerify ..
  case kasRun => exact keeps_kasRun ..
  case kasComplete => exact keeps_kasComplete ..
  case testComplete => exact keeps_testComplete ..
  case cveJobComplete => exact keeps_cveJobComplete ..
  case digestCompute => exact keeps_digestCompute ..
  case vddAonLoss => exact keeps_vddAonLoss ..
  all_goals exact absurd rfl h

/-- A step's outcome may follow its state. -/
theorem step_kept {s u : State} (h : step s = .next u) : s.blk.Kept u.blk := by
  unfold step at h
  split at h
  · exact keeps_idle.kept u h
  · next i rest _ => exact (exec_keeps i { s with pending := rest }).kept u h

/-- Settles O58: just after power-on no tile and no stack holds anything (the model's choice of that state: log 1). -/
theorem theInvariantsHoldAtReset : Obligations.TheInvariantsHoldAtReset := by
  unfold Obligations.TheInvariantsHoldAtReset
  exact ⟨⟨fun _ => rfl, fun _ => rfl⟩, fun _ => ⟨rfl, rfl, rfl⟩⟩

/-- Settles O59: what every operation of the block keeps (`Blk.Kept`) every step keeps. -/
theorem memoriesStayCanonical : Obligations.MemoriesStayCanonical := by
  unfold Obligations.MemoriesStayCanonical
  intro s u hs hu
  have hk := step_kept hu
  exact ⟨fun t => (hk.tile t).mem (hs.1 t), fun n => hk.stack n (hs.2 n)⟩

end Sys2Proof.Machine
end

section
/-!
PROOF. What a port grants (06 R141, R145, R146, R148, R153): the candidates sorted, and the narrow grants that each leave those before them in
place.
-/
namespace Sys2Proof.Machine

/-! ### Sorting by a key -/

section
variable {α : Type} {key : α → Nat}

theorem insertBy_perm (x : α) (l : List α) : (insertBy key x l).Perm (x :: l) := by
  induction l with
  | nil => exact .refl _
  | cons y l ih =>
    rw [insertBy]
    split
    · exact .refl _
    · exact (ih.cons y).trans (.swap x y l)

theorem insertBy_sorted {l : List α} (h : l.Pairwise (key · ≤ key ·)) (x : α) : (insertBy key x l).Pairwise (key · ≤ key ·) := by
  induction l with
  | nil => exact List.pairwise_singleton ..
  | cons y l ih =>
    obtain ⟨hy, hl⟩ := List.pairwise_cons.mp h
    rw [insertBy]
    split
    · next hxy =>
      refine List.pairwise_cons.mpr ⟨fun z hz => ?_, h⟩
      obtain rfl | hz := List.mem_cons.mp hz
      · exact hxy.le
      · exact hxy.le.trans (hy z hz)
    · next hxy =>
      refine List.pairwise_cons.mpr ⟨fun z hz => ?_, ih hl⟩
      obtain rfl | hz := List.mem_cons.mp ((insertBy_perm x l).subset hz)
      · exact Nat.le_of_not_lt hxy
      · exact hy z hz

theorem sortBy_perm (l : List α) : (sortBy key l).Perm l := by
  have h (l r : List α) : (l.foldl (fun r x => insertBy key x r) r).Perm (l ++ r) := by
    induction l generalizing r with
    | nil => exact .refl _
    | cons x l ih => exact ((ih _).trans ((insertBy_perm x r).append_left l)).trans List.perm_middle
  simpa [sortBy] using h l []

theorem sortBy_sorted (l : List α) : (sortBy key l).Pairwise (key · ≤ key ·) :=
  List.foldlRecOn (motive := fun r : List α => r.Pairwise (key · ≤ key ·)) l _ .nil fun _ hr x _ => insertBy_sorted hr x

theorem mem_sortBy {l : List α} {x : α} : x ∈ sortBy key l ↔ x ∈ l := (sortBy_perm l).mem_iff

/-- The first of the sorted list has the lowest key. -/
theorem sortBy_head_le {l r : List α} {x y : α} (h : sortBy key l = x :: r) (hy : y ∈ l) : key x ≤ key y := by
  have hs : (x :: r).Pairwise (key · ≤ key ·) := h ▸ sortBy_sorted l
  obtain rfl | hr := List.mem_cons.mp (h ▸ mem_sortBy.mpr hy : y ∈ x :: r)
  · exact le_rfl
  · exact List.rel_of_pairwise_cons hs hr

end

/-! ### Narrow grants (06 R141, R153) -/

/-- A candidate whose bank is free of those held and of those granted, and whose source has fewer than two grants. -/
def Cand.Fits (held : List Nat) (got : List Cand) (c : Cand) : Prop :=
  c.bank ∉ held ∧ (∀ g ∈ got, g.bank ≠ c.bank) ∧ (c.src.isSome = true → (got.filter fun g => g.src == c.src).length < 2)

/-- Narrow grants in order: each candidate is granted where it fits what is granted so far. -/
theorem narrowGrants_cons (held : List Nat) (c : Cand) (cs got : List Cand) [Decidable (c.Fits held got)] :
    narrowGrants held (c :: cs) got = narrowGrants held cs (if c.Fits held got then got ++ [c] else got) := by
  have h : (held.contains c.bank || got.any (fun g => g.bank == c.bank) ||
      c.src.isSome && decide (2 ≤ (got.filter fun g => g.src == c.src).length)) = true ↔ ¬ c.Fits held got := by
    simp only [Cand.Fits, Bool.or_eq_true, Bool.and_eq_true, List.contains_iff_mem, List.any_eq_true, beq_iff_eq, decide_eq_true_eq]
    grind
  rw [narrowGrants]
  simp only [h, ite_not]

/-- What every grant of a fitting candidate keeps holds of the narrow grants. -/
theorem narrowGrants_invariant {P : List Cand → Prop} {held : List Nat} {cs got : List Cand} (h : P got)
    (hP : ∀ got, P got → ∀ c ∈ cs, c.Fits held got → P (got ++ [c])) : P (narrowGrants held cs got) := by
  classical
  induction cs generalizing got with
  | nil => exact h
  | cons c cs ih =>
    rw [narrowGrants_cons]
    refine ih ?_ fun got hg x hx => hP got hg x (List.mem_cons_of_mem _ hx)
    split
    · next hc => exact hP got h c List.mem_cons_self hc
    · exact h

theorem narrowGrants_mem {held : List Nat} {cs : List Cand} {c : Cand} (h : c ∈ narrowGrants held cs []) : c ∈ cs ∧ c.bank ∉ held := by
  refine narrowGrants_invariant (P := fun got => ∀ c ∈ got, c ∈ cs ∧ c.bank ∉ held) (by simp) (fun got hg x hx hf c hc => ?_) c h
  obtain hc | hc := List.mem_append.mp hc
  · exact hg c hc
  · cases List.mem_singleton.mp hc
    exact ⟨hx, hf.1⟩

theorem narrowGrants_banks (held : List Nat) (cs : List Cand) : (narrowGrants held cs []).Pairwise (·.bank ≠ ·.bank) :=
  narrowGrants_invariant (P := List.Pairwise (·.bank ≠ ·.bank)) .nil fun got hg c _ hf =>
    List.pairwise_append.mpr ⟨hg, List.pairwise_singleton .., by simpa using hf.2.1⟩

theorem narrowGrants_source (held : List Nat) (cs : List Cand) (n : Nat) : ((narrowGrants held cs []).filter fun c => c.src == some n).length ≤ 2 :=
  narrowGrants_invariant (P := fun got => (got.filter fun c => c.src == some n).length ≤ 2) (Nat.zero_le _) fun got hg c _ hf => by
    rw [List.filter_append, List.length_append]
    by_cases hc : c.src = some n
    · have hlt := hf.2.2 (by rw [hc]; rfl)
      rw [hc] at hlt
      simpa [hc] using hlt
    · simpa [hc] using hg

/-- With no bank held the first candidate is granted. -/
theorem narrowGrants_ne_nil {cs : List Cand} (h : cs ≠ []) : narrowGrants [] cs [] ≠ [] := by
  classical
  obtain ⟨c, cs, rfl⟩ := List.exists_cons_of_ne_nil h
  have hf : c.Fits [] [] := by simp [Cand.Fits]
  rw [narrowGrants_cons, if_pos hf]
  exact narrowGrants_invariant (P := (· ≠ [])) (by simp) fun _ _ _ _ _ => by simp

/-! ### A port's grants (06 R146, R148) -/

/-- A port grants one wide candidate, or the narrow grants of candidates that are narrow; none of the latter only where there is no
candidate. -/
theorem portGrant_cases (held : List Nat) (cs : List Cand) :
    (∃ w ∈ cs, w.wide = true ∧ portGrant held cs = [w]) ∨
      ∃ l, portGrant held cs = narrowGrants held l [] ∧ (∀ c ∈ l, c ∈ cs ∧ c.wide = false) ∧ (l = [] → cs = []) := by
  unfold portGrant
  dsimp only
  cases hp : sortBy (fun c : Cand => c.promo.getD 0) (cs.filter fun c => c.promo.isSome) with
  | cons p r =>
    have hmem {c : Cand} (hc : c ∈ p :: r) : c ∈ cs := (List.mem_filter.mp (mem_sortBy.mp (hp ▸ hc))).1
    dsimp only
    split
    · next hw => exact .inl ⟨p, hmem List.mem_cons_self, hw, rfl⟩
    · next hw =>
      refine .inr ⟨_, rfl, fun c hc => ?_, fun hl => absurd hl (by simp [hw])⟩
      obtain hc | hc := List.mem_append.mp hc
      · exact ⟨hmem (List.mem_filter.mp hc).1, by simpa using (List.mem_filter.mp hc).2⟩
      · obtain ⟨hc, hn⟩ := List.mem_filter.mp (mem_sortBy.mp hc)
        exact ⟨(List.mem_filter.mp hc).1, by simpa using hn⟩
  | nil =>
    dsimp only
    split
    · next w r hw =>
      obtain ⟨hm, hwide⟩ := List.mem_filter.mp (mem_sortBy.mp (hw ▸ List.mem_cons_self : w ∈ _))
      exact .inl ⟨w, (List.mem_filter.mp hm).1, hwide, rfl⟩
    · next hw =>
      refine .inr ⟨_, rfl, fun c hc => ?_, fun hl => ?_⟩
      · obtain ⟨hc, hn⟩ := List.mem_filter.mp (mem_sortBy.mp hc)
        exact ⟨(List.mem_filter.mp hc).1, by simpa using hn⟩
      · refine List.eq_nil_iff_forall_not_mem.mpr fun c hc => ?_
        cases hpr : c.promo with
        | some n =>
          have hm := List.mem_filter (p := fun c : Cand => c.promo.isSome).mpr ⟨hc, by rw [hpr]; rfl⟩
          exact absurd (mem_sortBy (key := fun c : Cand => c.promo.getD 0).mpr hm) (hp ▸ List.not_mem_nil)
        | none =>
          have hrest := List.mem_filter (p := fun c : Cand => c.promo.isNone).mpr ⟨hc, by rw [hpr]; rfl⟩
          cases hcw : c.wide with
          | true => exact absurd (mem_sortBy.mpr (List.mem_filter.mpr ⟨hrest, hcw⟩)) (hw ▸ List.not_mem_nil)
          | false => exact absurd (mem_sortBy.mpr (List.mem_filter.mpr ⟨hrest, by rw [hcw]; rfl⟩)) (hl ▸ List.not_mem_nil)

/-- Where nothing is promoted, the wide candidate of lowest rank is granted. -/
theorem portGrant_wide {held : List Nat} {cs : List Cand} (h : ∀ c ∈ cs, c.promo = none) (hw : ∃ c ∈ cs, c.wide = true) :
    ∃ w, portGrant held cs = [w] ∧ w.wide = true ∧ ∀ c ∈ cs, c.wide = true → w.rank ≤ c.rank := by
  have hp : cs.filter (fun c => c.promo.isSome) = [] := List.filter_eq_nil_iff.mpr fun c hc => by simp [h c hc]
  have hr : cs.filter (fun c => c.promo.isNone) = cs := List.filter_eq_self.mpr fun c hc => by simp [h c hc]
  have hg : portGrant held cs = match sortBy (·.rank) (cs.filter (·.wide)) with
      | w :: _ => [w]
      | [] => narrowGrants held (sortBy (·.rank) (cs.filter fun c => !c.wide)) [] := by
    simp only [portGrant, hp, hr]
    rfl
  obtain ⟨c, hc, hcw⟩ := hw
  have hmem := mem_sortBy (key := (·.rank)).mpr (List.mem_filter.mpr ⟨hc, hcw⟩)
  rw [hg]
  split
  · next w r hs =>
    have hwide := (List.mem_filter.mp (mem_sortBy.mp (hs ▸ List.mem_cons_self : w ∈ _))).2
    exact ⟨w, rfl, hwide, fun x hx hxw => sortBy_head_le hs (List.mem_filter.mpr ⟨hx, hxw⟩)⟩
  · next hs => exact absurd hmem (hs ▸ List.not_mem_nil)

/-- Settles O15, from the two forms a port's grants have. -/
theorem portGrantsNeverConflict : Obligations.PortGrantsNeverConflict := by
  unfold Obligations.PortGrantsNeverConflict
  intro held cs
  obtain ⟨w, hw, hwide, hg⟩ | ⟨l, hg, hl, hne⟩ := portGrant_cases held cs
  · refine ⟨?_, ?_, ?_, ?_, ?_, fun n => ?_, portGrant_wide⟩ <;> rw [hg]
    · simpa using hw
    · simp
    · simp [hwide]
    · simp
    · simp
    · exact (List.length_filter_le _ _).trans (by simp)
  · have hmem {c : Cand} (hc : c ∈ narrowGrants held l []) := narrowGrants_mem hc
    refine ⟨?_, ?_, ?_, ?_, ?_, fun n => ?_, portGrant_wide⟩ <;> rw [hg]
    · exact fun c hc => (hl c (hmem hc).1).1
    · rintro rfl hcs
      exact narrowGrants_ne_nil (mt hne hcs)
    · exact fun c hc _ => (hmem hc).2
    · exact fun w hw hwide => absurd ((hl w (hmem hw).1).2.symm.trans hwide) Bool.false_ne_true
    · exact narrowGrants_banks held l
    · exact narrowGrants_source held l n

end Sys2Proof.Machine
end

section
/-!
PROOF. One cycle of the scratchpad's ports, and requests promoted (06 R144 to R150).
-/
namespace Sys2Proof.Machine

/-! ### A write granted (06 R144, R150, R153) -/

/-- A returned read but for the words written since. -/
def SpRet.bare (q : SpRet) : SpRet := { q with stale := [] }

/-- The tile after a whole write is granted. -/
def Tile.grantWrite (x : Tile) (r : SpReq) : Tile :=
  match r.who with
  | .writeback bad => if bad then { x with sp := { x.sp with mem := x.sp.mem.setBad r.word true } } else x
  | .unit _ => x
  | _ => x.spWrite (r.word * 32) r.run

/-- `y` may follow `x` by granted writes: write-backs that one makes void are gone, and no more. -/
structure Tile.PortKept (x y : Tile) : Prop where
  reqs : (y.sp.reqs.filter fun r => !r.isBack) = x.sp.reqs.filter fun r => !r.isBack
  rets : y.sp.rets.map SpRet.bare = x.sp.rets.map SpRet.bare
  merges : y.sp.merges = x.sp.merges

theorem Tile.PortKept.refl {x : Tile} : x.PortKept x := ⟨rfl, rfl, rfl⟩

theorem Tile.PortKept.trans {x y z : Tile} (h : x.PortKept y) (g : y.PortKept z) : x.PortKept z :=
  ⟨g.reqs.trans h.reqs, g.rets.trans h.rets, g.merges.trans h.merges⟩

theorem Tile.spWrite_portKept (x : Tile) (a : Nat) (r : Run) : x.PortKept (x.spWrite a r) where
  reqs := by
    simp only [Tile.spWrite, List.filter_filter]
    refine List.filter_congr fun q _ => ?_
    cases h : q.who <;> simp [SpReq.isBack, h]
  rets := by
    simp only [Tile.spWrite, List.map_map]
    rfl
  merges := rfl

theorem Tile.grantWrite_portKept (x : Tile) (r : SpReq) : x.PortKept (x.grantWrite r) := by
  unfold Tile.grantWrite
  split
  · split
    · exact ⟨rfl, rfl, rfl⟩
    · exact .refl
  · exact .refl
  · exact x.spWrite_portKept _ _

theorem Blk.grantWrite_tile (b : Blk) (t : Nat) (r : SpReq) : (b.grantWrite t r).tile t = (b.tile t).grantWrite r := by
  unfold Blk.grantWrite Tile.grantWrite
  cases r.who with
  | writeback bad => cases bad <;> simp
  | _ => simp

theorem Blk.grantWrite_others {a b : Blk} {t : Nat} (h : SameOthers a b t) (r : SpReq) : SameOthers a (b.grantWrite t r) t := by
  unfold Blk.grantWrite
  split
  · exact (h.onTile _).onCtl _
  · split
    · exact h.onTile _
    · exact h
  · exact h
  · exact h.onTile _

/-- Writes granted in one cycle. -/
theorem Blk.grantWrites_kept {a b : Blk} {t : Nat} (h : SameOthers a b t) (l : List SpReq) :
    SameOthers a (l.foldl (fun b r => b.grantWrite t r) b) t ∧ (b.tile t).PortKept ((l.foldl (fun b r => b.grantWrite t r) b).tile t) := by
  induction l generalizing b with
  | nil => exact ⟨h, .refl⟩
  | cons r l ih =>
    obtain ⟨ho, hk⟩ := ih (Blk.grantWrite_others h r)
    exact ⟨ho, .trans (b.grantWrite_tile t r ▸ (b.tile t).grantWrite_portKept r) hk⟩

theorem Tile.mem_capture {x y : Tile} {r : SpReq} (h : x.PortKept y) {z : Tile} (hr : z.capture r ∈ x.sp.rets) :
    ∃ q ∈ y.sp.rets, { q with stale := [] } = z.capture r := by
  have hm : z.capture r ∈ y.sp.rets.map SpRet.bare := h.rets ▸ List.mem_map.mpr ⟨_, hr, rfl⟩
  exact List.mem_map.mp hm

/-! ### One cycle (06 R141, R144 to R149) -/

/-- A tile in a cycle in which units present the requests `o`. -/
def Tile.presented (x : Tile) (o : List PortReq) : Tile := { x with sp := { x.sp with reqs := x.sp.reqs ++ o.map PortReq.req } }

/-- The requests at the places `l`. -/
def Tile.picked (x : Tile) (l : List Nat) : List SpReq := l.filterMap fun i => x.sp.reqs[i]?

/-- The places of the requests that the read port grants, and those that the write port does. -/
def Tile.readIdx (x : Tile) : List Nat := x.readGrants.map (·.idx)
def Tile.writeIdx (x : Tile) : List Nat := x.writeGrants.map (·.idx)

/-- The tile after the grants of a cycle, before the writes granted take effect. -/
def Tile.afterGrants (y : Tile) : Tile :=
  { y with sp := { y.sp with
    reqs := (y.sp.reqs.zipIdx.filter fun e => !y.readIdx.contains e.2 && !y.writeIdx.contains e.2).map fun e => { e.1 with waited := e.1.waited + 1 }
    rets := y.sp.rets ++ ((y.picked y.readIdx).filter fun r => !r.wr && !r.isUnit).map y.capture
    merges := y.sp.merges ++ (y.picked y.readIdx).filter (·.wr)
    wbusy := if (y.writeGrants.filter (·.wide)).length = 0 then y.writeGrants.map (·.bank) else List.range 16 } }

/-- The cycle's counts. -/
def Ctl.countGrants (c : Ctl) (t : Nat) (y : Tile) : Ctl :=
  let wide (l : List Cand) : Nat := (l.filter (·.wide)).length
  ((c.perf t 0x05 (wide y.readGrants)).perf t 0x06 (wide y.writeGrants)).perf t 0x07
    (y.readGrants.length + y.writeGrants.length - wide y.readGrants - wide y.writeGrants)

/-- The block after a cycle of tile `t` in which units present the requests `o`. -/
def Blk.portCycle (b : Blk) (t : Nat) (o : List PortReq) : Blk :=
  if !b.ctl.tileGood t || (b.tile t).init then b
  else (((b.tile t).presented o).picked ((b.tile t).presented o).writeIdx).foldl (fun b r => b.grantWrite t r)
    ((b.setTile t ((b.tile t).presented o).afterGrants).onCtl fun c => c.countGrants t ((b.tile t).presented o))

theorem scratchpadGrant_runs {s : State} {t : TileId} {o : List PortReq} {b : Blk} :
    Runs (.scratchpadGrant t o) s b ↔ s.blk.portCycle t o = b :=
  runs_iff_of_on (f := fun b => b.portCycle t o) rfl

theorem Tile.mem_picked {x : Tile} {l : List Nat} {i : Nat} {r : SpReq} (hi : i ∈ l) (hr : x.sp.reqs[i]? = some r) : r ∈ x.picked l :=
  List.mem_filterMap.mpr ⟨i, hi, hr⟩

section
variable {b : Blk} {t : Nat} {o : List PortReq}

/-- The block of a cycle before the writes granted take effect. -/
def Blk.afterGrants (b : Blk) (t : Nat) (y : Tile) : Blk := (b.setTile t y.afterGrants).onCtl fun c => c.countGrants t y

theorem Blk.afterGrants_tile (y : Tile) : (b.afterGrants t y).tile t = y.afterGrants := b.setTile_tile_same t _

theorem Blk.portCycle_eq (hg : b.ctl.tileGood t = true) (hi : (b.tile t).init = false) : b.portCycle t o =
    (((b.tile t).presented o).picked ((b.tile t).presented o).writeIdx).foldl (fun b r => b.grantWrite t r) (b.afterGrants t ((b.tile t).presented o)) := by
  rw [Blk.portCycle, if_neg (by simp [hg, hi])]
  rfl

theorem Blk.portCycle_kept (hg : b.ctl.tileGood t = true) (hi : (b.tile t).init = false) :
    SameOthers b (b.portCycle t o) t ∧ ((b.tile t).presented o).afterGrants.PortKept ((b.portCycle t o).tile t) := by
  have h := Blk.grantWrites_kept (a := b) (b := b.afterGrants t ((b.tile t).presented o)) (t := t)
    (SameOthers.onCtl (SameOthers.refl.setTile _) _) (((b.tile t).presented o).picked ((b.tile t).presented o).writeIdx)
  rwa [Blk.afterGrants_tile, ← Blk.portCycle_eq hg hi] at h

theorem Blk.portCycle_no_write (hg : b.ctl.tileGood t = true) (hi : (b.tile t).init = false) (hw : ((b.tile t).presented o).writeIdx = []) :
    b.portCycle t o = b.afterGrants t ((b.tile t).presented o) := by
  rw [Blk.portCycle_eq hg hi, hw]
  rfl

theorem Blk.portCycle_one_write {i : Nat} {r : SpReq} (hg : b.ctl.tileGood t = true) (hi : (b.tile t).init = false)
    (hw : ((b.tile t).presented o).writeIdx = [i]) (hr : ((b.tile t).presented o).sp.reqs[i]? = some r) :
    b.portCycle t o = (b.afterGrants t ((b.tile t).presented o)).grantWrite t r := by
  rw [Blk.portCycle_eq hg hi, hw, Tile.picked, List.filterMap_cons_some hr]
  rfl

end

/-! ### Promotion (06 R148) -/

/-- A request that is to be promoted. -/
def SpReq.due (r : SpReq) : Bool := r.promo.isNone && decide (64 ≤ r.waited)

/-- The order of promotion: wide before narrow, then by rank. -/
def promoKey (e : SpReq × Nat) : Nat := (if e.1.wide then 0 else 16) + e.1.rank

/-- The requests to be promoted, with their places, in that order. -/
def Tile.promoted (x : Tile) : List (SpReq × Nat) := sortBy promoKey (x.sp.reqs.zipIdx.filter fun e => e.1.due)

/-- The place among the promoted that request `i` is to have. -/
def Tile.promoOf (x : Tile) (i : Nat) : Option Nat := (x.promoted.findIdx? fun e => e.2 == i).map (x.sp.promos + ·)

/-- A request with its place among the promoted, if it is given one. -/
def SpReq.promote (r : SpReq) (n : Option Nat) : SpReq := match n with | some n => { r with promo := some n } | none => r

/-- The tile after promotion. -/
def Tile.promote (x : Tile) : Tile :=
  { x with sp := { x.sp with
    reqs := x.sp.reqs.zipIdx.map fun e => e.1.promote (x.promoOf e.2), promos := x.sp.promos + x.promoted.length } }

/-- What is in memory after a whole write is granted. -/
theorem Tile.grantWrite_mem (x : Tile) (r : SpReq) : (x.grantWrite r).sp.mem = match r.who with
    | .unit _ => x.sp.mem
    | .writeback bad => if bad then x.sp.mem.setBad r.word true else x.sp.mem
    | _ => x.sp.mem.write (r.word * 32) r.run := by
  unfold Tile.grantWrite
  cases r.who with
  | writeback bad => cases bad <;> rfl
  | _ => rfl

theorem Ctl.perf_net (c : Ctl) (t code n : Nat) : (c.perf t code n).net = c.net := by
  rw [Ctl.perf]
  split_ifs
  · rfl
  · refine List.foldlRecOn (motive := fun d : Ctl => d.net = c.net) _ _ rfl fun d hd k _ => ?_
    split_ifs
    · exact (Ctl.put64_net ..).trans hd
    · exact hd

theorem Ctl.countGrants_net (c : Ctl) (t : Nat) (y : Tile) : (c.countGrants t y).net = c.net := by
  simp only [Ctl.countGrants, Ctl.perf_net]

/-- The block after promotion. -/
def Blk.promote (b : Blk) (t : Nat) : Blk :=
  if (b.tile t).promoted.isEmpty then b.setTile t (b.tile t).promote
  else (b.setTile t (b.tile t).promote).onCtl fun c => c.bump (spdPage t) F.SPD_PROMOTE_COUNT (b.tile t).promoted.length

/-- The search for a request's place is a variable here, as the address is in `Blk.setDirty_cases`. -/
theorem execRequestPromote_eq (t : TileId) (s : State) : execRequestPromote t s = s.on fun b => b.promote t := by
  have key : ∀ f, f = @execRequestPromote → ∀ g, g = Blk.promote → f t s = s.on fun b => g b t := by
    delta execRequestPromote Blk.promote Tile.promote Tile.promoOf SpReq.promote
    generalize @List.findIdx? (SpReq × Nat) = find
    revert find
    refine id ?_
    rintro find _ rfl _ rfl
    rfl
  exact key _ rfl _ rfl

theorem requestPromote_runs {s : State} {t : TileId} {b : Blk} : Runs (.requestPromote t) s b ↔ s.blk.promote t = b :=
  runs_iff_of_on (f := fun b => b.promote t) (execRequestPromote_eq t s)

theorem Blk.promote_tile (b : Blk) (t : Nat) : SameOthers b (b.promote t) t ∧ (b.promote t).tile t = (b.tile t).promote := by
  unfold Blk.promote
  split
  · exact ⟨SameOthers.refl.setTile _, b.setTile_tile_same t _⟩
  · exact ⟨SameOthers.onCtl (SameOthers.refl.setTile _) _, by rw [Blk.onCtl_tile, Blk.setTile_tile_same]⟩

section
variable {x : Tile} {i : Nat} {r : SpReq}

theorem Tile.mem_promoted {e : SpReq × Nat} : e ∈ x.promoted ↔ x.sp.reqs[e.2]? = some e.1 ∧ e.1.due = true := by
  rw [Tile.promoted, mem_sortBy, List.mem_filter, List.mem_zipIdx_iff_getElem?]

theorem Tile.promote_getElem? (h : x.sp.reqs[i]? = some r) : x.promote.sp.reqs[i]? = some (r.promote (x.promoOf i)) := by
  simp [Tile.promote, List.getElem?_map, List.getElem?_zipIdx, h]

/-- A request that is due is given a place, that of its entry in the order. -/
theorem Tile.promoOf_due (h : x.sp.reqs[i]? = some r) (hd : r.due = true) :
    ∃ k, x.promoOf i = some (x.sp.promos + k) ∧ x.promoted[k]? = some (r, i) := by
  have hm : (r, i) ∈ x.promoted := Tile.mem_promoted.mpr ⟨h, hd⟩
  obtain ⟨k, hk⟩ := Option.isSome_iff_exists.mp (List.findIdx?_isSome (p := fun e : SpReq × Nat => e.2 == i) ▸ List.any_eq_true.mpr ⟨_, hm, by simp⟩)
  refine ⟨k, by rw [Tile.promoOf, hk]; rfl, ?_⟩
  obtain ⟨hlt, hki, -⟩ := List.findIdx?_eq_some_iff_getElem.mp hk
  have he : (x.promoted[k]).2 = i := by simpa using hki
  have hr := (Tile.mem_promoted.mp (List.getElem_mem hlt)).1
  rw [he, h] at hr
  rw [List.getElem?_eq_getElem hlt, ← he, Option.some.inj hr]

/-- One that is not due is given none. -/
theorem Tile.promoOf_not_due (h : x.sp.reqs[i]? = some r) (hd : r.due = false) : x.promoOf i = none := by
  rw [Tile.promoOf, Option.map_eq_none_iff, List.findIdx?_eq_none_iff]
  intro e he
  obtain ⟨hg, hdue⟩ := Tile.mem_promoted.mp he
  by_contra hi
  have hi : e.2 = i := by simpa using hi
  rw [hi, h] at hg
  cases Option.some.inj hg
  exact Bool.false_ne_true (hd.symm.trans hdue)

/-- Of two in the order, the one with the lower key has the lower place. -/
theorem Tile.promoted_lt {j k l : Nat} {q : SpReq} (hk : x.promoted[k]? = some (r, i)) (hl : x.promoted[l]? = some (q, j))
    (h : promoKey (r, i) < promoKey (q, j)) : k < l := by
  obtain ⟨hkl, hke⟩ := List.getElem?_eq_some_iff.mp hk
  obtain ⟨hll, hle⟩ := List.getElem?_eq_some_iff.mp hl
  by_contra hn
  have hs : x.promoted.Pairwise (promoKey · ≤ promoKey ·) := sortBy_sorted _
  obtain hlt | heq := Nat.lt_or_eq_of_le (Nat.le_of_not_lt hn)
  · have hle' := List.pairwise_iff_getElem.mp hs l k hll hkl hlt
    rw [hke, hle] at hle'
    exact absurd h (Nat.not_lt.mpr hle')
  · subst heq
    rw [hk] at hl
    cases hl
    exact absurd h (lt_irrefl _)

end

/-- Settles O16. A granted write changes neither what a read of the cycle captured nor the requests but for write-backs (`Tile.PortKept`);
the promoted are in the order `promoKey` sorts them into. -/
theorem scratchpadRequestsAreGranted : Obligations.ScratchpadRequestsAreGranted := by
  unfold Obligations.ScratchpadRequestsAreGranted
  refine ⟨fun s t o => ?_, fun s t => ?_⟩
  · intro x y rd wr left
    refine ⟨fun hg hi => ?_, fun h => ?_⟩
    · obtain ⟨ho, hk⟩ := Blk.portCycle_kept (o := o) hg hi
      refine ⟨s.blk.portCycle t o, scratchpadGrant_runs.mpr rfl, ho, hk.reqs, fun i hi r hr => ⟨fun hw hu => ?_, fun hw => ?_⟩, fun hw => ?_,
        fun i r hw hr => ?_⟩
      · have hread : r ∈ (y.picked rd).filter fun r => !r.wr && !r.isUnit := List.mem_filter.mpr ⟨Tile.mem_picked hi hr, by simp [hw, hu]⟩
        exact Tile.mem_capture hk (z := y) (List.mem_append_right _ (List.mem_map_of_mem hread))
      · have hmerge : r ∈ (y.picked rd).filter (·.wr) := List.mem_filter.mpr ⟨Tile.mem_picked hi hr, hw⟩
        rw [hk.merges]
        exact List.mem_append_right _ hmerge
      · rw [Blk.portCycle_no_write hg hi hw, Blk.afterGrants_tile]
        exact ⟨rfl, rfl, Ctl.countGrants_net ..⟩
      · rw [Blk.portCycle_one_write hg hi hw hr, Blk.grantWrite_tile, Blk.afterGrants_tile]
        exact Tile.grantWrite_mem ..
    · refine scratchpadGrant_runs.mpr (if_pos ?_)
      obtain h | h := h
      · simp [h]
      · simp [show (s.blk.tile t).init = true from h]
  · intro x due
    have hdue {r : SpReq} : r.due = true ↔ due r := by simp [SpReq.due, due]
    have hb : Runs (.requestPromote t) s (s.blk.promote t) := requestPromote_runs.mpr rfl
    obtain ⟨ho, ht⟩ := s.blk.promote_tile t
    refine ⟨_, hb, ho, ?_⟩
    rw [ht]
    refine ⟨by simp [Tile.promote, x], rfl, fun i r hr => ⟨fun hd => ?_, fun hd => ?_⟩, fun i j r q m n hr hq hdr hdq hwr hwq hrank hm hn => ?_⟩
    · obtain ⟨k, hk, hkr⟩ := Tile.promoOf_due hr (hdue.mpr hd)
      refine ⟨_, Nat.le_add_right _ k, ?_, ?_⟩
      · exact Nat.add_lt_add_left (List.getElem?_eq_some_iff.mp hkr).1 _
      · rw [Tile.promote_getElem? hr, hk]
        rfl
    · rw [Tile.promote_getElem? hr, Tile.promoOf_not_due hr (by simpa using mt hdue.mp hd)]
      rfl
    · obtain ⟨k, hk, hkr⟩ := Tile.promoOf_due hr (hdue.mpr hdr)
      obtain ⟨l, hl, hlq⟩ := Tile.promoOf_due hq (hdue.mpr hdq)
      have hlt := Tile.promoted_lt hkr hlq (by
        have := hrank r (List.mem_of_getElem? hr)
        simp [promoKey, hwr, hwq]
        omega)
      rw [Tile.promote_getElem? hr, hk] at hm
      rw [Tile.promote_getElem? hq, hl] at hn
      have hm : x.sp.promos + k = m := by simpa [SpReq.promote] using hm
      have hn : x.sp.promos + l = n := by simpa [SpReq.promote] using hn
      omega

end Sys2Proof.Machine
end

section
/-!
PROOF. What follows a grant of the scratchpad's ports: returns, merges, write-backs; the staging buffers, the scrubber and the clearing of
the tags (06 R143 to R145, R149 to R151, R154).
-/
namespace Sys2Proof.Machine

/-! ### Counts leave the mesh alone (06 R150) -/

theorem Ctl.Quiet.net {c d : Ctl} (h : c.Quiet d) : d.net = c.net := by
  obtain ⟨r, o, g, l, rfl⟩ := h
  rfl

theorem Ctl.raise_net (c : Ctl) (p n : Nat) : (c.raise p n).net = c.net := (Ctl.Quiet.raise c p n).net
theorem Ctl.errHw_net (c : Ctl) (p k : Nat) : (c.errHw p k).net = c.net := (Ctl.Quiet.errHw c p k).net

theorem Ctl.countCold_net (c : Ctl) (t n : Nat) : (c.countCold t n).net = c.net := by
  simp only [Ctl.countCold]
  split_ifs
  · rfl
  · rw [Ctl.raise_net, Ctl.bump_net]
  · rw [Ctl.bump_net]

theorem Ctl.countEcc_net (c : Ctl) (t : Nat) (e : Ecc) : (c.countEcc t e).net = c.net := by
  cases e with
  | ok => rfl
  | onDie => rfl
  | corr => rw [Ctl.countEcc, Ctl.raise_net, Ctl.bump_net]
  | uncorr => rw [Ctl.countEcc, Ctl.raise_net, Ctl.errHw_net, Ctl.bump_net]

theorem Ctl.countEccs_net (c : Ctl) (t : Nat) (l : List (Nat × Ecc)) : (c.countEccs t l).net = c.net :=
  List.foldlRecOn (motive := fun d : Ctl => d.net = c.net) _ _ rfl fun _ hd _ _ => (Ctl.countEcc_net ..).trans hd

/-! ### A read returns (06 R144, R150, R151, R153, R154) -/

section
variable {s : State} {t : TileId} {e : List Ecc} {r : SpRet} {rest : List SpRet}

/-- The errors found in the words that the requester of `r` uses. -/
def Blk.retErrs (b : Blk) (t : Nat) (r : SpRet) (e : List Ecc) : List (Nat × Ecc) := checks (b.retUsed t r) r.colds e

/-- What the requester of `r` receives. -/
def Blk.retView (b : Blk) (t : Nat) (r : SpRet) (e : List Ecc) : Run :=
  r.view (b.retUsed t r) (b.ctl.flag (spdPage t) F.SPD_CTRL_COLD_POISON) e

/-- The tile once `r` has returned, its write-backs presented and `rest` still to return. -/
def Blk.retTile (b : Blk) (t : Nat) (r : SpRet) (rest : List SpRet) (e : List Ecc) : Tile :=
  ({ b.tile t with sp := { (b.tile t).sp with rets := rest } } : Tile).oweBack ((b.retErrs t r e).filter fun z => !r.stale.contains z.1)

/-- The block then, before the requester has its data. -/
def Blk.returned (b : Blk) (t : Nat) (r : SpRet) (rest : List SpRet) (e : List Ecc) : Blk :=
  (b.setTile t (b.retTile t r rest e)).onCtl fun c =>
    (c.countCold t (if r.who = .scrub then 0 else (r.colds.filter (b.retUsed t r).contains).length)).countEccs t (b.retErrs t r e)

/-- The registers once an indirect read has returned `v`. -/
def Ctl.indRead (c : Ctl) (p : Nat) (r : SpRet) (v : Run) : Ctl :=
  (((List.range 8).foldl (fun c n => c.putN p F.SPD_IND_DATA_DATA n (v.slice (4 * n) 4).nat) c).put p F.SPD_IND_CMD_COLD
    (ofBool (r.colds.contains r.word))).put p F.SPD_IND_CMD_POISON (ofBool v.anyBad)

/-- The reply to a remote read that has returned `v`. -/
def SpRet.reply (r : SpRet) (src tag : Nat) (v : Run) : Pkt :=
  { kind := 3, cls := 1, rsp := true, dest := src, tag := tag, bytes := r.size, run := v.slice r.off r.size }

/-- The requester of `r` has its data `v`. -/
def Blk.handRead (b : Blk) (t : Nat) (r : SpRet) (v : Run) : Blk :=
  match r.who with
  | .feedData f ser al => b.onTile t fun x => x.setFeeder f ((x.feeder f).fill false ser al v)
  | .feedScale f ser al => b.onTile t fun x => x.setFeeder f ((x.feeder f).fill true ser al v)
  | .indirect => b.onCtl fun c => c.indRead (spdPage t) r v
  | .remote src tag => b.onCtl fun c => c.sendPkt t (r.reply src tag v)
  | _ => b

theorem readDataReturn_runs (hg : s.blk.ctl.tileGood t = true) (hr : (s.blk.tile t).sp.rets = r :: rest) :
    Runs (.readDataReturn t e) s ((s.blk.returned t r rest e).handRead t r (s.blk.retView t r e)) := by
  show execReadDataReturn t e s = _
  rw [execReadDataReturn, State.on_eq]
  simp only [hg, hr]
  rfl

theorem Blk.handRead_others {a b : Blk} (h : SameOthers a b t) (v : Run) : SameOthers a (b.handRead t r v) t := by
  unfold Blk.handRead
  split
  · exact h.onTile _
  · exact h.onTile _
  · exact h.onCtl _
  · exact h.onCtl _
  · exact h

theorem Blk.handRead_sp (b : Blk) (t : Nat) (r : SpRet) (v : Run) : ((b.handRead t r v).tile t).sp = (b.tile t).sp := by
  rw [Blk.handRead]
  cases r.who with
  | feedData f ser al => exact (congrArg Tile.sp (b.onTile_tile_same t _)).trans (Tile.setFeeder_sp ..)
  | feedScale f ser al => exact (congrArg Tile.sp (b.onTile_tile_same t _)).trans (Tile.setFeeder_sp ..)
  | indirect => exact congrArg Tile.sp (b.onCtl_tile _ t)
  | remote src tag => exact congrArg Tile.sp (b.onCtl_tile _ t)
  | scrub => rfl
  | writeback bad => rfl
  | unit u => rfl

theorem Blk.returned_tile (b : Blk) (t : Nat) (r : SpRet) (rest : List SpRet) (e : List Ecc) :
    (b.returned t r rest e).tile t = b.retTile t r rest e := b.setTile_tile_same t _

/-- A register of `IND_DATA` after an indirect read. -/
theorem Ctl.getN_indRead (c : Ctl) (p : Nat) (v : Run) {n : Nat} (hn : n < 8) :
    (c.indRead p r v).getN p F.SPD_IND_DATA_DATA n = (v.slice (4 * n) 4).nat % 2 ^ 32 := by
  have other (f : Fld) (d : Ctl) (w : Nat) (hf : f.off = 0x58) (m : Nat) (hm : m = 0) :
      (d.putN p f m w).getN p F.SPD_IND_DATA_DATA n = d.getN p F.SPD_IND_DATA_DATA n :=
    Ctl.getN_putN_other _ _ _ _ _ _ _ _ (by subst hm; rw [hf]; simp only [F.SPD_IND_DATA_DATA]; omega)
  have loop (k : Nat) : ∀ m, m < k → ((List.range k).foldl (fun c n => c.putN p F.SPD_IND_DATA_DATA n (v.slice (4 * n) 4).nat) c).getN p
      F.SPD_IND_DATA_DATA m = (v.slice (4 * m) 4).nat % 2 ^ 32 := by
    induction k with
    | zero => intro m hm; omega
    | succ k ih =>
      intro m hm
      rw [List.range_succ, List.foldl_append, List.foldl_cons, List.foldl_nil]
      rcases Nat.lt_succ_iff_lt_or_eq.mp hm with hlt | rfl
      · rw [Ctl.getN_putN_other _ _ _ _ _ _ _ _ (by simp only [F.SPD_IND_DATA_DATA]; omega), ih m hlt]
      · exact Ctl.getN_putN_same _ _ _ _ _ (by decide)
  rw [Ctl.indRead, Ctl.put, other _ _ _ rfl _ rfl, Ctl.put, other _ _ _ rfl _ rfl, loop 8 n hn]

theorem Tile.feeder_setFeeder_same (x : Tile) (f : Nat) (v : Feeder) : (x.setFeeder f v).feeder f = v := by
  rw [Tile.feeder, Tile.setFeeder]
  split_ifs <;> rfl

end

/-! ### The write half of a merge (06 R145, R151) -/

section
variable {s : State} {t : TileId} {e : List Ecc} {r : SpReq} {rest : List SpReq}

/-- The block when the oldest merge `r` has its bank, before its bytes are stored. -/
def Blk.mergeTaken (b : Blk) (t : Nat) (r : SpReq) (rest : List SpReq) : Blk :=
  (b.setTile t { b.tile t with sp := { (b.tile t).sp with merges := rest, wbusy := bankOf r.word :: (b.tile t).sp.wbusy } }).onCtl fun c =>
    c.perf t 0x07 1

/-- The write half of a merge takes effect. -/
def Blk.mergeStore (b : Blk) (t : Nat) (r : SpReq) (e : List Ecc) : Blk :=
  match r.who with
  | .unit _ => b
  | .remote src tag => (b.spStore t (r.word * 32 + r.off) r.run e).onCtl fun c => c.ackRemote t src tag false
  | _ => b.spStore t (r.word * 32 + r.off) r.run e

theorem mergeWriteGrant_waits (hg : s.blk.ctl.tileGood t = true) (hr : (s.blk.tile t).sp.merges = r :: rest)
    (hb : (s.blk.tile t).sp.wbusy.contains (bankOf r.word) = true) : Runs (.mergeWriteGrant t e) s s.blk := by
  show execMergeWriteGrant t e s = _
  rw [execMergeWriteGrant, State.on_eq]
  simp only [hg, hr, hb, if_true]

theorem mergeWriteGrant_runs (hg : s.blk.ctl.tileGood t = true) (hr : (s.blk.tile t).sp.merges = r :: rest)
    (hb : (s.blk.tile t).sp.wbusy.contains (bankOf r.word) = false) :
    Runs (.mergeWriteGrant t e) s ((s.blk.mergeTaken t r rest).mergeStore t r e) := by
  show execMergeWriteGrant t e s = _
  rw [execMergeWriteGrant, State.on_eq]
  simp only [hg, hr, hb, Bool.false_eq_true, if_false]
  rfl

theorem Blk.mergeStore_others {a b : Blk} (h : SameOthers a b t) : SameOthers a (b.mergeStore t r e) t := by
  have hs := h.trans (b.spStore_tile t (r.word * 32 + r.off) r.run e).1
  unfold Blk.mergeStore
  split
  · exact h
  · exact hs.onCtl _
  · exact hs

theorem Blk.spStore_merges (b : Blk) (t a : Nat) (r : Run) (e : List Ecc) : ((b.spStore t a r e).tile t).sp.merges = (b.tile t).sp.merges := by
  rw [Blk.spStore, Blk.setTile_tile_same]
  rfl

theorem Blk.mergeStore_merges (b : Blk) (t : Nat) (r : SpReq) (e : List Ecc) :
    ((b.mergeStore t r e).tile t).sp.merges = (b.tile t).sp.merges := by
  unfold Blk.mergeStore
  split
  · rfl
  · exact b.spStore_merges ..
  · exact b.spStore_merges ..

theorem Blk.mergeStore_mem (b : Blk) (t : Nat) (r : SpReq) (e : List Ecc) : ((b.mergeStore t r e).tile t).sp.mem =
    if r.isUnit then (b.tile t).sp.mem else (b.tile t).sp.mem.unitStore (r.word * 32 + r.off) r.run e := by
  rw [Blk.mergeStore, SpReq.isUnit]
  have hs := (b.spStore_tile t (r.word * 32 + r.off) r.run e).2.2
  cases r.who with
  | unit u => rfl
  | _ => exact hs

/-- A write within a word and not of the whole of it touches that word in part. -/
theorem partWords_within {w off n : Nat} (h0 : 0 < n) (h1 : n < 32) (h2 : off + n ≤ 32) : partWords (w * 32 + off) n = [w] := by
  have hw : wordsOf (w * 32 + off) n = [w] := by
    rw [wordsOf, if_neg (by omega), show (w * 32 + off + n - 1) / 32 - (w * 32 + off) / 32 + 1 = 1 by omega]
    simp
    omega
  rw [partWords, hw, List.filter_cons_of_pos (by simp; omega), List.filter_nil]

/-- A write of part of a word written, found uncorrectable, stores it poisoned. -/
theorem Mem.unitStore_uncorr {m : Mem} {w off : Nat} {q : Run} (he : e.head? = some .uncorr) (hw : m.isWritten w = true)
    (h0 : 0 < q.bytes.length) (h1 : q.bytes.length < 32) (h2 : off + q.bytes.length ≤ 32) :
    m.unitStore (w * 32 + off) q e = (m.write (w * 32 + off) q).setBad w true := by
  obtain ⟨l, rfl⟩ := List.head?_eq_some_iff.mp he
  rw [Mem.unitStore, partWords_within h0 h1 h2]
  simp [checks, hw]

end

/-! ### Write-backs (06 R146, R150) -/

section
variable {s : State} {t : TileId} {r : SpReq} {i : Nat} {bad : Bool}

/-- The write port gives the write-back at place `i` its turn. -/
def Tile.backTurn (x : Tile) (i : Nat) (r : SpReq) : Bool := x.writeGrants.any (fun c => c.idx == i) && !x.sp.wbusy.contains (bankOf r.word)

/-- The block when the write-back at place `i` has its bank. -/
def Blk.backTaken (b : Blk) (t i : Nat) (r : SpReq) : Blk :=
  (b.setTile t { b.tile t with sp := { (b.tile t).sp with
    reqs := (b.tile t).sp.reqs.eraseIdx i, wbusy := bankOf r.word :: (b.tile t).sp.wbusy } }).onCtl fun c => c.perf t 0x07 1

theorem eccWriteback_runs (hg : s.blk.ctl.tileGood t = true)
    (hf : ((s.blk.tile t).sp.reqs.zipIdx.find? fun q => q.1.isBack) = some (r, i)) :
    Runs (.eccWriteback t) s (if (s.blk.tile t).backTurn i r then (s.blk.backTaken t i r).grantWrite t r else s.blk) := by
  show execEccWriteback t s = _
  rw [execEccWriteback, State.on_eq]
  simp only [hg, hf]
  rfl

theorem Tile.grantWrite_back (x : Tile) (hw : r.who = .writeback bad) :
    x.grantWrite r = if bad then { x with sp := { x.sp with mem := x.sp.mem.setBad r.word true } } else x := by
  rw [Tile.grantWrite, hw]

theorem Blk.grantWrite_back_ctl (b : Blk) (t : Nat) (hw : r.who = .writeback bad) : (b.grantWrite t r).ctl = b.ctl := by
  rw [Blk.grantWrite, hw]
  cases bad <;> rfl

end

/-! ### Staging buffers (06 R143, R150) -/

section
variable (b : Blk) (t u ser row lo hi : Nat) (e : List Ecc)

/-- The row unit `u` holds when it reads part of aligned row `row` for descriptor `ser`. -/
def Tile.stagedRow (x : Tile) (u ser row : Nat) : Staged :=
  let new : Staged := { ser := ser, row := row, run := x.sp.mem.read (row * 512) 512, colds := x.sp.mem.coldList (row * 512) 512 }
  match SMap.find? x.sp.staged u with
  | some z => if z.ser = ser ∧ z.row = row then z else new
  | none => new

theorem Tile.stagedRow_held {x : Tile} {z : Staged} (hz : SMap.find? x.sp.staged u = some z) (h1 : z.ser = ser) (h2 : z.row = row) :
    x.stagedRow u ser row = z := by
  simp only [Tile.stagedRow, hz, if_pos (And.intro h1 h2)]

theorem Tile.stagedRow_new {x : Tile} (hz : ∀ z, SMap.find? x.sp.staged u = some z → ¬ (z.ser = ser ∧ z.row = row)) :
    x.stagedRow u ser row =
      { ser := ser, row := row, run := x.sp.mem.read (row * 512) 512, colds := x.sp.mem.coldList (row * 512) 512 } := by
  simp only [Tile.stagedRow]
  cases h : SMap.find? x.sp.staged u with
  | none => rfl
  | some z => exact if_neg (hz z h)

theorem Blk.stagedPart_bytes : (b.stagedPart t u ser row lo hi e).run.bytes =
    (((b.tile t).stagedRow u ser row).run.slice (lo - row * 512) (hi - lo)).bytes := rfl

theorem Blk.stagedPart_holds : ∃ z, SMap.find? ((b.stagedPart t u ser row lo hi e).blk.tile t).sp.staged u = some z ∧
    z.ser = ((b.tile t).stagedRow u ser row).ser ∧ z.row = ((b.tile t).stagedRow u ser row).row ∧
    z.run = ((b.tile t).stagedRow u ser row).run := by
  rw [Blk.stagedPart, Blk.setTile_tile_same]
  exact ⟨_, (SMap.find?_put ..).trans (if_pos rfl), rfl, rfl, rfl⟩

end

/-! ### The scrubber and the clearing of the tags (06 R149, R150) -/

/-- The word the scrubber reads next. -/
def Spd.nextScrub (p : Spd) : Option Nat := (p.mem.written.find? fun w => decide (p.scrubAt ≤ w)).or p.mem.written.head?

theorem Spd.nextScrub_spec {p : Spd} (h : p.mem.written ≠ []) :
    ∃ w ∈ p.mem.written, p.nextScrub = some w ∧ (p.scrubAt ≤ w ∨ ∀ q ∈ p.mem.written, q < p.scrubAt) := by
  rw [Spd.nextScrub]
  cases hf : p.mem.written.find? fun w => decide (p.scrubAt ≤ w) with
  | some w => exact ⟨w, List.mem_of_find?_eq_some hf, rfl, .inl (by simpa using List.find?_some hf)⟩
  | none =>
    obtain ⟨w, l, hl⟩ := List.exists_cons_of_ne_nil h
    refine ⟨w, hl ▸ List.mem_cons_self, by rw [hl]; rfl, .inr fun q hq => ?_⟩
    simpa using List.find?_eq_none.mp hf q hq

section
variable {s : State} {t : TileId}

theorem scrubRead_runs {w : Nat} (hg : s.blk.ctl.tileGood t = true) (hi : (s.blk.tile t).init = false)
    (hs : s.blk.ctl.flag (spdPage t) F.SPD_CTRL_SCRUB_EN = true) (hw : (s.blk.tile t).sp.nextScrub = some w) :
    Runs (.scrubRead t) s (s.blk.setTile t (({ s.blk.tile t with sp := { (s.blk.tile t).sp with scrubAt := w + 1 } } : Tile).present
      { rank := 7, who := .scrub, word := w })) := by
  show execScrubRead t s = _
  rw [Spd.nextScrub] at hw
  rw [execScrubRead, State.on_eq]
  simp only [hg, hi, hs, hw, Bool.not_true, Bool.or_self, Bool.false_eq_true, if_false]

/-- The block whose tags are clear, before what waited for that is done. -/
def Blk.tagsClear (b : Blk) (t : Nat) : Blk :=
  b.setTile t { b.tile t with init := false, sp := { (b.tile t).sp with late := [], submit := none } }

/-- The writes that waited for the tags are done. -/
def Blk.lateStores (b : Blk) (t : Nat) (l : List (Nat × Run)) : Blk := l.foldl (fun b w => b.spStore t w.1 w.2 []) b

/-- The submission that waited for the tags is done. -/
def Blk.lateSubmit (b : Blk) (t : Nat) : Option (Nat × Nat) → Blk
  | some (a, n) => b.submitFetch t a n []
  | none => b

theorem spdInitComplete_runs (hg : s.blk.ctl.tileGood t = true) (hi : (s.blk.tile t).init = true) : Runs (.spdInitComplete t) s
    (((s.blk.tagsClear t).lateStores t (s.blk.tile t).sp.late).lateSubmit t (s.blk.tile t).sp.submit) := by
  show execSpdInitComplete t s = _
  rw [execSpdInitComplete, State.on_eq]
  simp only [hg, hi, Bool.and_self, if_true]
  cases (s.blk.tile t).sp.submit <;> rfl

theorem spdInitComplete_idle (hi : (s.blk.tile t).init = false) : Runs (.spdInitComplete t) s s.blk := by
  show execSpdInitComplete t s = _
  rw [execSpdInitComplete, State.on_eq]
  simp only [hi, Bool.and_false, Bool.false_eq_true, if_false]

end

/-- `y` may follow `x` by writes and reads of the scratchpad's units: neither the clearing of the tags nor what waits for it changes. -/
structure Tile.TagsKept (x y : Tile) : Prop where
  init : y.init = x.init
  late : y.sp.late = x.sp.late
  submit : y.sp.submit = x.sp.submit

theorem Blk.lateStores_tile (b : Blk) (t : Nat) (l : List (Nat × Run)) : SameOthers b (b.lateStores t l) t ∧
    (b.tile t).TagsKept ((b.lateStores t l).tile t) ∧
    ((b.lateStores t l).tile t).sp.mem = l.foldl (fun m w => m.write w.1 w.2) (b.tile t).sp.mem := by
  induction l generalizing b with
  | nil => exact ⟨.refl, ⟨rfl, rfl, rfl⟩, rfl⟩
  | cons w l ih =>
    obtain ⟨ho, hk, hm⟩ := ih (b.spStore t w.1 w.2 [])
    obtain ⟨ho', -, hm'⟩ := b.spStore_tile t w.1 w.2 []
    have hk' : (b.tile t).TagsKept ((b.spStore t w.1 w.2 []).tile t) := by
      rw [Blk.spStore, Blk.setTile_tile_same]
      exact ⟨rfl, rfl, rfl⟩
    refine ⟨ho'.trans ho, ⟨hk.init.trans hk'.init, hk.late.trans hk'.late, hk.submit.trans hk'.submit⟩, hm.trans ?_⟩
    rw [hm', NoLoss.unitStore (fun x hx => by cases hx)]
    rfl

theorem Blk.spRead_tagsKept (b : Blk) (t a n : Nat) (e : List Ecc) : SameOthers b (b.spRead t a n e).2 t ∧
    (b.tile t).TagsKept ((b.spRead t a n e).2.tile t) ∧ ((b.spRead t a n e).2.tile t).sp.mem = (b.tile t).sp.mem := by
  obtain ⟨c, l, -, hb⟩ := b.spRead_eq t a n e
  rw [hb]
  refine ⟨SameOthers.setTile ⟨fun _ _ => rfl, rfl⟩ _, ?_⟩
  rw [Blk.setTile_tile_same]
  exact ⟨⟨rfl, rfl, rfl⟩, rfl⟩

theorem Blk.lateSubmit_tile (b : Blk) (t : Nat) (q : Option (Nat × Nat)) (h : (b.tile t).init = false) : SameOthers b (b.lateSubmit t q) t ∧
    (b.tile t).TagsKept ((b.lateSubmit t q).tile t) ∧ ((b.lateSubmit t q).tile t).sp.mem = (b.tile t).sp.mem := by
  cases q with
  | none => exact ⟨.refl, ⟨rfl, rfl, rfl⟩, rfl⟩
  | some q =>
    rw [Blk.lateSubmit, Blk.submitFetch, h]
    exact b.spRead_tagsKept t q.1 q.2 []

/-! ### The obligation -/

/-- The oldest granted read returns (06 R144, R150). -/
theorem readDataReturn_returns {s : State} {t : TileId} {e : List Ecc} {r : SpRet} {rest : List SpRet} (hg : s.blk.ctl.tileGood t = true)
    (hr : (s.blk.tile t).sp.rets = r :: rest) : ∃ b, Runs (.readDataReturn t e) s b ∧ SameOthers s.blk b t ∧ (b.tile t).sp.rets = rest ∧
      (b.tile t).sp.mem = (s.blk.tile t).sp.mem ∧
      (b.tile t).sp.reqs = (s.blk.tile t).sp.reqs ++
        ((s.blk.retErrs t r e).filter fun z => !r.stale.contains z.1).map (fun z => writeback z.1 (z.2 == .uncorr)) ∧
      (r.who = .indirect → ∀ n < 8, b.ctl.getN (spdPage t) F.SPD_IND_DATA_DATA n = ((s.blk.retView t r e).slice (4 * n) 4).nat % 2 ^ 32) ∧
      (∀ f ser al, r.who = .feedData f ser al → (b.tile t).feeder f = ((s.blk.tile t).feeder f).fill false ser al (s.blk.retView t r e)) ∧
      (∀ f ser al, r.who = .feedScale f ser al → (b.tile t).feeder f = ((s.blk.tile t).feeder f).fill true ser al (s.blk.retView t r e)) ∧
      (∀ src tag, r.who = .remote src tag → b.ctl.net = s.blk.ctl.net ++ [pktOf t (r.reply src tag (s.blk.retView t r e))]) := by
  have hsp := (s.blk.returned t r rest e).handRead_sp t r (s.blk.retView t r e)
  rw [Blk.returned_tile] at hsp
  refine ⟨_, readDataReturn_runs hg hr, Blk.handRead_others (SameOthers.onCtl (SameOthers.refl.setTile _) _) _, (congrArg Spd.rets hsp :),
    (congrArg Spd.mem hsp :), (congrArg Spd.reqs hsp :), fun hw n hn => ?_, fun f ser al hw => ?_, fun f ser al hw => ?_, fun src tag hw => ?_⟩
  · rw [Blk.handRead, hw]
    exact Ctl.getN_indRead _ _ _ hn
  · rw [Blk.handRead, hw]
    dsimp only
    rw [Blk.onTile_tile_same, Tile.feeder_setFeeder_same, Blk.returned_tile]
    rfl
  · rw [Blk.handRead, hw]
    dsimp only
    rw [Blk.onTile_tile_same, Tile.feeder_setFeeder_same, Blk.returned_tile]
    rfl
  · rw [Blk.handRead, hw]
    show (Ctl.countEccs _ t _).net ++ _ = _
    rw [Ctl.countEccs_net, Ctl.countCold_net]
    rfl

/-- The oldest merge waits for its bank, then stores its bytes (06 R145, R151). -/
theorem mergeWriteGrant_stores {s : State} {t : TileId} {e : List Ecc} {r : SpReq} {rest : List SpReq} (hg : s.blk.ctl.tileGood t = true)
    (hr : (s.blk.tile t).sp.merges = r :: rest) (hb : (s.blk.tile t).sp.wbusy.contains (bankOf r.word) = false) :
    ∃ b, Runs (.mergeWriteGrant t e) s b ∧ SameOthers s.blk b t ∧ (b.tile t).sp.merges = rest ∧ (b.tile t).sp.mem =
      if r.isUnit then (s.blk.tile t).sp.mem else (s.blk.tile t).sp.mem.unitStore (r.word * 32 + r.off) r.run e := by
  refine ⟨_, mergeWriteGrant_runs hg hr hb, Blk.mergeStore_others (SameOthers.onCtl (SameOthers.refl.setTile _) _), ?_, ?_⟩
  · rw [Blk.mergeStore_merges, Blk.mergeTaken, Blk.onCtl_tile, Blk.setTile_tile_same]
  · rw [Blk.mergeStore_mem, Blk.mergeTaken, Blk.onCtl_tile, Blk.setTile_tile_same]

/-- The oldest write-back, with its turn, poisons an uncorrectable word and leaves the data (06 R146, R150). -/
theorem eccWriteback_marks {s : State} {t : TileId} {r : SpReq} {i : Nat} {bad : Bool} (hg : s.blk.ctl.tileGood t = true)
    (hf : ((s.blk.tile t).sp.reqs.zipIdx.find? fun q => q.1.isBack) = some (r, i)) (hw : r.who = .writeback bad)
    (ht : (s.blk.tile t).backTurn i r = true) : ∃ b, Runs (.eccWriteback t) s b ∧ SameOthers s.blk b t ∧ b.ctl.net = s.blk.ctl.net ∧
      (b.tile t).sp.reqs = (s.blk.tile t).sp.reqs.eraseIdx i ∧ (b.tile t).sp.mem.cells = (s.blk.tile t).sp.mem.cells ∧
      ∀ q, (b.tile t).sp.mem.isBad q = ((s.blk.tile t).sp.mem.isBad q || (bad && q == r.word)) := by
  have hrun := eccWriteback_runs hg hf
  rw [if_pos ht] at hrun
  have htile := (s.blk.backTaken t i r).grantWrite_tile t r
  rw [Tile.grantWrite_back _ hw, Blk.backTaken, Blk.onCtl_tile, Blk.setTile_tile_same] at htile
  refine ⟨_, hrun, Blk.grantWrite_others (SameOthers.onCtl (SameOthers.refl.setTile _) _) r, ?_, ?_⟩
  · rw [Blk.grantWrite_back_ctl _ _ hw, Blk.backTaken, Blk.onCtl_ctl, Ctl.perf_net, Blk.setTile_ctl]
  · rw [Blk.backTaken, htile]
    cases bad with
    | false => exact ⟨rfl, rfl, fun q => by simp⟩
    | true =>
      refine ⟨rfl, rfl, fun q => ?_⟩
      dsimp only [if_true]
      rw [if_pos rfl, Mem.isBad_setBad]
      by_cases h : q = r.word <;> simp [h]

/-- The clearing of the tags ends, and what waited for it is done (06 R149). -/
theorem spdInitComplete_ends {s : State} {t : TileId} (hg : s.blk.ctl.tileGood t = true) (hi : (s.blk.tile t).init = true) :
    ∃ b, Runs (.spdInitComplete t) s b ∧ SameOthers s.blk b t ∧ (b.tile t).init = false ∧ (b.tile t).sp.late = [] ∧
      (b.tile t).sp.submit = none ∧
      (b.tile t).sp.mem = (s.blk.tile t).sp.late.foldl (fun m w => m.write w.1 w.2) (s.blk.tile t).sp.mem ∧
      ((s.blk.tile t).sp.late = [] → (s.blk.tile t).sp.submit = none →
        b.ctl = s.blk.ctl ∧ b.tile t = { s.blk.tile t with init := false }) := by
  have hclear := s.blk.setTile_tile_same t
    { s.blk.tile t with init := false, sp := { (s.blk.tile t).sp with late := [], submit := none } }
  obtain ⟨ho, hk, hm⟩ := (s.blk.tagsClear t).lateStores_tile t (s.blk.tile t).sp.late
  rw [Blk.tagsClear, hclear, ← Blk.tagsClear] at hk hm
  obtain ⟨ho', hk', hm'⟩ := ((s.blk.tagsClear t).lateStores t (s.blk.tile t).sp.late).lateSubmit_tile t (s.blk.tile t).sp.submit hk.init
  refine ⟨_, spdInitComplete_runs hg hi, ((SameOthers.refl.setTile _).trans ho).trans ho', hk'.init.trans hk.init, hk'.late.trans hk.late,
    hk'.submit.trans hk.submit, hm'.trans hm, fun hl hs => ?_⟩
  rw [hl, hs]
  refine ⟨rfl, hclear.trans ?_⟩
  rw [← hl, ← hs]

/-- Settles O17, a read, a merge and a write-back each by the block it leaves; the staging buffer, per source, is the model's choice (log
48). -/
theorem scratchpadReturnsAndTheScrubber : Obligations.ScratchpadReturnsAndTheScrubber := by
  unfold Obligations.ScratchpadReturnsAndTheScrubber
  refine ⟨fun s t e hg => ⟨fun r rest hr => readDataReturn_returns hg hr, fun r rest hr => ⟨mergeWriteGrant_waits hg hr, fun hb => ?_⟩,
    fun r i bad hf hw => ⟨fun ht => eccWriteback_marks hg hf hw ht, fun ht => ?_⟩⟩, fun b t u ser row lo hi e => ⟨?_, ?_, ?_, ?_⟩,
    fun s t hg => ⟨fun hi hs hw => ?_, spdInitComplete_ends hg, spdInitComplete_idle⟩⟩
  · obtain ⟨b, hb, ho, hrest, hm⟩ := mergeWriteGrant_stores (e := e) hg hr hb
    refine ⟨b, hb, ho, hrest, fun hu => by rw [hm, if_pos hu], fun hu he => ?_, fun hu he hw h0 h1 h2 => ?_⟩
    · rw [hm, if_neg (Bool.eq_false_iff.mp hu), he.unitStore]
    · rw [hm, if_neg (Bool.eq_false_iff.mp hu), Mem.unitStore_uncorr he hw h0 h1 h2]
  · have ht : ¬ (s.blk.tile t).backTurn i r = true := Bool.eq_false_iff.mp ht
    simpa only [if_neg ht] using eccWriteback_runs hg hf
  · intro z hz h1 h2
    rw [Blk.stagedPart_bytes, Tile.stagedRow_held _ _ _ hz h1 h2]
  · intro hz
    obtain ⟨z, hf, h1, h2, h3⟩ := b.stagedPart_holds t u ser row lo hi e
    rw [Tile.stagedRow_new _ _ _ hz] at h1 h2 h3
    exact ⟨by rw [Blk.stagedPart_bytes, Tile.stagedRow_new _ _ _ hz], z, hf, h1, h2, h3⟩
  · exact Tile.mem_of_bare (b.stagedPart_streamed t u ser row lo hi e).bare
  · exact (b.stagedPart_streamed t u ser row lo hi e).others
  · obtain ⟨w, hmem, hn, hspec⟩ := Spd.nextScrub_spec hw
    refine ⟨_, w, scrubRead_runs hg hi hs hn, SameOthers.refl.setTile _, rfl, hmem, ?_, ?_, hspec⟩
    · rw [Blk.setTile_tile_same]
      rfl
    · rw [Blk.setTile_tile_same]
      rfl

end Sys2Proof.Machine
end

section
/-!
PROOF. Remote accesses served and answered, and the indirect commands (06 R151 to R154, 16 R414).
-/
namespace Sys2Proof.Machine

/-! ### What stands at a tile (06 R152, R153, 10 R243, 16 R414) -/

theorem Blk.onCore_core (b : Blk) (t k : Nat) (f : Core → Core) : ((b.onCore t k f).tile t).core k = f ((b.tile t).core k) := by
  rw [Blk.onCore, Blk.onTile_tile_same, Tile.core_setCore]

theorem SameOthers.onCore {a b : Blk} {t : Nat} (h : SameOthers a b t) (k : Nat) (f : Core → Core) : SameOthers a (b.onCore t k f) t := h.onTile _

section
variable {s : State} {i t : Nat} {p : Pkt}

/-- The request that the packet `p`, a remote access that has arrived, presents. -/
def Pkt.access (p : Pkt) : SpReq :=
  if p.kind = 1 then { rank := 5, who := .remote p.src p.tag, word := p.addr / 32, off := p.addr % 32, size := p.bytes }
  else
    { wr := true, rank := 5, who := .remote p.src p.tag, word := p.addr / 32, off := p.addr % 32, size := p.bytes, run := p.run }

/-- A held tile's answer to the remote access `p`. -/
def Ctl.refuseRemote (c : Ctl) (t : Nat) (p : Pkt) : Ctl :=
  if p.kind = 1 then c.sendPkt t { kind := 3, cls := 1, rsp := true, dest := p.src, tag := p.tag, err := true }
  else c.ackRemote t p.src p.tag true

theorem remoteAccessServe_runs (hi : s.blk.ctl.atTile i = some (t, .pkt p)) (hk : p.kind = 1 ∨ p.kind = 2) :
    Runs (.remoteAccessServe i) s (if s.blk.live t then (s.blk.onCtl fun c => c.takeNet i).onTile t fun x => x.present p.access
      else (s.blk.onCtl fun c => c.takeNet i).onCtl fun c => c.refuseRemote t p) := by
  show execRemoteAccessServe i s = _
  rw [execRemoteAccessServe, State.on_eq]
  rcases hk with hk | hk
  · simp only [hi, hk, if_true, Pkt.access, Ctl.refuseRemote]
    rfl
  · simp only [hi, hk, if_true, Pkt.access, Ctl.refuseRemote, show ¬ (2 : Nat) = 1 by decide, if_false]
    rfl

theorem remoteAccessServe_presents (hi : s.blk.ctl.atTile i = some (t, .pkt p)) (hk : p.kind = 1 ∨ p.kind = 2) (hl : s.blk.live t = true) :
    ∃ b, Runs (.remoteAccessServe i) s b ∧ SameOthers s.blk b t ∧ b.ctl.net = s.blk.ctl.net.eraseIdx i ∧
      (b.tile t).sp.reqs = (s.blk.tile t).sp.reqs ++ [p.access] := by
  have hrun := remoteAccessServe_runs hi hk
  rw [if_pos hl] at hrun
  refine ⟨_, hrun, SameOthers.onTile (SameOthers.onCtl SameOthers.refl _) _, rfl, ?_⟩
  rw [Blk.onTile_tile_same]
  rfl

theorem remoteAccessServe_refuses (hi : s.blk.ctl.atTile i = some (t, .pkt p)) (hk : p.kind = 1 ∨ p.kind = 2) (hl : s.blk.live t = false) :
    ∃ b, Runs (.remoteAccessServe i) s b ∧ SameStore s.blk b ∧ b.ctl = (s.blk.ctl.takeNet i).refuseRemote t p := by
  have hrun := remoteAccessServe_runs hi hk
  rw [if_neg (Bool.eq_false_iff.mp hl)] at hrun
  exact ⟨_, hrun, ⟨rfl, rfl⟩, rfl⟩

/-- The await that an answer of tag `tag` ends. -/
def Core.awaitOf (c : Core) (tag : Nat) (store : Bool) : Option CoreWait := c.awaits.find? fun w => w.tag == tag / 4 && w.store == store

theorem readReply_runs (hi : s.blk.ctl.atTile i = some (t, .pkt p)) (hk : p.kind = 3) (hc : p.tag % 4 < 2) (hl : s.blk.live t = true) :
    Runs (.readReply i) s ((s.blk.onCtl fun c => c.takeNet i).coreAnswer t p.tag false p.err p.run) := by
  show execReadReply i s = _
  rw [execReadReply, State.on_eq]
  simp only [hi, hk, hc, and_self, if_true]
  have hl' : (s.blk.onCtl fun c => c.takeNet i).live t = true := hl
  simp only [hl', if_true]

section
variable {tag : Nat} {q : Run} {w : CoreWait}

/-- A core's access has been answered: it awaits that no longer. -/
def Core.answered (c : Core) (w : CoreWait) : Core := { c with awaits := c.awaits.erase w }

theorem Blk.coreAnswer_err (b : Blk) (h : ((b.tile t).core (tag % 4)).awaitOf tag false = some w) (q : Run) : b.coreAnswer t tag false true q =
    (b.onCore t (tag % 4) fun c => c.answered w).onCore t (tag % 4) fun c => c.raiseTrap (.loadAccess w.addr) := by
  rw [Core.awaitOf] at h
  simp only [Blk.coreAnswer, h, if_true, Bool.false_eq_true, if_false]
  rfl

theorem Blk.coreAnswer_load (b : Blk) (h : ((b.tile t).core (tag % 4)).awaitOf tag false = some w) (hq : q.anyBad = false) :
    b.coreAnswer t tag false false q =
      (b.onCore t (tag % 4) fun c => c.answered w).onCore t (tag % 4) fun c => c.setReg w.rd (loadExt w.size w.sext q.nat) := by
  rw [Core.awaitOf] at h
  simp only [Blk.coreAnswer, h, hq, Bool.false_eq_true, if_false]
  rfl

end

theorem Core.setReg_awaits (c : Core) (r : Nat) (v : Word) : (c.setReg r v).awaits = c.awaits := by
  rw [Core.setReg]
  split_ifs <;> rfl

theorem Core.setReg_pc (c : Core) (r : Nat) (v : Word) : (c.setReg r v).pc = c.pc := by
  rw [Core.setReg]
  split_ifs <;> rfl

theorem Tile.Shaped.core_length {x : Tile} (h : x.Shaped) (k : Nat) : (x.core k).x.length = 32 := by
  rw [Tile.core]
  split_ifs
  · exact h.2.1
  · exact h.2.2

theorem readReply_loads {w : CoreWait} (hi : s.blk.ctl.atTile i = some (t, .pkt p)) (hk : p.kind = 3) (hc : p.tag % 4 < 2)
    (hl : s.blk.live t = true) (hw : ((s.blk.tile t).core (p.tag % 4)).awaitOf p.tag false = some w) (hx : (s.blk.tile t).Shaped)
    (hr : w.rd < 32) (he : p.err = false) (hb : p.run.anyBad = false) : ∃ b, Runs (.readReply i) s b ∧ SameOthers s.blk b t ∧
      b.ctl.net = s.blk.ctl.net.eraseIdx i ∧
      ((b.tile t).core (p.tag % 4)).awaits = ((s.blk.tile t).core (p.tag % 4)).awaits.erase w ∧
      ((b.tile t).core (p.tag % 4)).pc = ((s.blk.tile t).core (p.tag % 4)).pc ∧
      (w.rd ≠ 0 → ((b.tile t).core (p.tag % 4)).reg w.rd = loadExt w.size w.sext p.run.nat) := by
  have hrun := readReply_runs hi hk hc hl
  rw [he, Blk.coreAnswer_load (s.blk.onCtl fun c => c.takeNet i) hw hb] at hrun
  refine ⟨_, hrun, ((SameOthers.onCtl SameOthers.refl _).onCore _ _).onCore _ _, rfl, ?_, ?_, fun h0 => ?_⟩ <;>
    rw [Blk.onCore_core, Blk.onCore_core, Blk.onCtl_tile]
  · rw [Core.setReg_awaits]
    rfl
  · rw [Core.setReg_pc]
    rfl
  · have hreg := ((s.blk.tile t).core (p.tag % 4)).answered w |>.reg_setReg (hx.core_length _) ⟨w.rd, hr⟩ ⟨w.rd, hr⟩
      (loadExt w.size w.sext p.run.nat)
    exact hreg.trans (if_pos ⟨rfl, fun h => h0 (congrArg Fin.val h)⟩)

theorem readReply_traps {w : CoreWait} (hi : s.blk.ctl.atTile i = some (t, .pkt p)) (hk : p.kind = 3) (hc : p.tag % 4 < 2)
    (hl : s.blk.live t = true) (hw : ((s.blk.tile t).core (p.tag % 4)).awaitOf p.tag false = some w) (he : p.err = true) :
    ∃ b, Runs (.readReply i) s b ∧ SameOthers s.blk b t ∧ ((b.tile t).core (p.tag % 4)).trap = some (.loadAccess w.addr) ∧
      ((b.tile t).core (p.tag % 4)).x = ((s.blk.tile t).core (p.tag % 4)).x := by
  have hrun := readReply_runs hi hk hc hl
  rw [he, Blk.coreAnswer_err (s.blk.onCtl fun c => c.takeNet i) hw] at hrun
  refine ⟨_, hrun, ((SameOthers.onCtl SameOthers.refl _).onCore _ _).onCore _ _, ?_, ?_⟩ <;>
    rw [Blk.onCore_core, Blk.onCore_core, Blk.onCtl_tile] <;> rfl

end

/-! ### Indirect commands (06 R146, R154) -/

theorem onlyRegs_put (b : Blk) (p : Nat) (f : Fld) (v : Nat) : OnlyRegs b (b.onCtl fun c => c.put p f v) [p + f.off] :=
  ⟨rfl, fun _ hr => (Ctl.rd_put ..).trans (if_neg (by simpa using hr))⟩

/-- The four bytes of a number, lowest first. -/
def quadBytes (v : Nat) : List Byte := (List.range 4).map fun k => BitVec.ofNat 8 (v / 256 ^ k)

theorem Run.leN_quadBytes (v : Nat) : Run.nat.leN (quadBytes v) = v % 2 ^ 32 := by
  simp only [quadBytes, List.range, List.range.loop, List.map_cons, List.map_nil, Run.nat.leN, BitVec.toNat_ofNat]
  omega

/-- The bytes of the eight words of `IND_DATA`. -/
def indBytes (g : Nat → Nat) : List Byte := (List.range 8).flatMap fun n => quadBytes (g n)

theorem indBytes_length (g : Nat → Nat) : (indBytes g).length = 32 := rfl

theorem indBytes_slice (g : Nat → Nat) {n : Nat} (hn : n < 8) : ((indBytes g).drop (4 * n)).take 4 = quadBytes (g n) := by
  interval_cases n <;> rfl

theorem Ctl.indBusy_put (c : Ctl) (p : Nat) : (c.put p F.SPD_STATUS_IND_BUSY 1).flag p F.SPD_STATUS_IND_BUSY = true := by
  rw [Ctl.flag_put_same _ _ _ _ (by decide)]
  decide

theorem Ctl.indBusy_clear (c : Ctl) (p : Nat) : (c.put p F.SPD_STATUS_IND_BUSY 0).flag p F.SPD_STATUS_IND_BUSY = false := by
  rw [Ctl.flag_put_same _ _ _ _ (by decide)]
  decide

/-- The request that an indirect command presents. -/
def Ctl.indReq (c : Ctl) (t cmd : Nat) : SpReq :=
  if cmd = 2 then { wr := true, rank := 6, who := .indirect, word := c.get (spdPage t) F.SPD_IND_ADDR_WORD
                    run := runOf (indBytes fun n => c.getN (spdPage t) F.SPD_IND_DATA_DATA n) false }
  else { rank := 6, who := .indirect, word := c.get (spdPage t) F.SPD_IND_ADDR_WORD }

theorem Blk.indCommand_eq (b : Blk) (t : Nat) {cmd : Nat} (h : cmd ≠ 0) : b.indCommand t cmd =
    (b.onCtl fun c => c.put (spdPage t) F.SPD_STATUS_IND_BUSY 1).onTile t fun x => x.present (b.ctl.indReq t cmd) := by
  rw [Blk.indCommand, if_neg h]
  rfl

section
variable {s : State} {fn : Fn} {t : TileId}

/-- What a write of IND_CMD comes to. -/
def Blk.indWrite (b : Blk) (fn : Fn) (t cmd : Nat) : Blk :=
  if b.ctl.flag (spdPage t) F.SPD_STATUS_IND_BUSY then b.onCtl fun c => c.err (spdPage t) 0x05 fn.num (spdPage t + 0x58)
  else if spBytes t ≤ b.ctl.get (spdPage t) F.SPD_IND_ADDR_WORD * 32 then b.onCtl fun c => c.err (spdPage t) 0x04 fn.num (spdPage t + 0x58)
  else b.indCommand t cmd

theorem Blk.tileWrite_ind (b : Blk) (fn : Fn) (t : Nat) (d : RegDef) (w : Word) (e : List Ecc) (h0 : bits w 31 30 ≠ 0) (h3 : bits w 31 30 ≠ 3) :
    b.tileWrite .spd t (spdPage t) 0x58 { who := fn.num, addr := spdPage t + 0x58 } d w e = some (b.indWrite fn t (bits w 31 30)) := by
  simp only [Blk.tileWrite, Blk.indWrite, Blk.errAt, Ctl.errAt_host, h3, h0, ne_eq, not_false_eq_true, true_and, false_or]

/-- A block whose SPD page has nothing latched for a pair. -/
def Blk.spdUnpaired (b : Blk) (t : Nat) : Blk := b.onCtl fun c => c.unpair (spdPage t)

theorem indCmd_runs {i : Instr} {w : Word} (hi : exec i s = s.write fn (spdPage t + 0x58) w) (h : s.blk.ctl.reaches fn (spdPage t))
    (h0 : bits w 31 30 ≠ 0) (h3 : bits w 31 30 ≠ 3) :
    Runs i s ((s.blk.spdUnpaired t).indWrite fn t (bits w 31 30)) := by
  have ht := t.isLt
  have hrun := write_runs (k := .spd) (n := t) (off := 0x58) hi h (place_tile ht (k := 4) (by decide) rfl (by decide))
    (by simp only [spdPage, tilePage]; omega) (by decide) rfl (d := ⟨0x58, 1, 0, 0, 0, 0, 0, 0, 0, 0xc0000000, 0⟩) rfl
    (Ctl.mirynGone_other ⟨by decide, by decide⟩ _) rfl rfl rfl (by decide) (.inl rfl)
  rw [Blk.apply_eq (by decide) rfl, Blk.command, Blk.tileWrite_ind _ _ _ _ _ _ h0 h3] at hrun
  exact hrun

theorem spdIndRead_runs (h : s.blk.ctl.reaches fn (spdPage t)) :
    Runs (.spdIndRead fn t) s ((s.blk.spdUnpaired t).indWrite fn t 1) :=
  indCmd_runs (i := .spdIndRead fn t) (w := 0x40000000) rfl h (by decide) (by decide)

theorem spdIndWrite_runs (h : s.blk.ctl.reaches fn (spdPage t)) :
    Runs (.spdIndWrite fn t) s ((s.blk.spdUnpaired t).indWrite fn t 2) :=
  indCmd_runs (i := .spdIndWrite fn t) (w := 0x80000000) rfl h (by decide) (by decide)

section
variable {b : Blk} {cmd : Nat}

theorem Blk.indWrite_busy (hb : b.ctl.flag (spdPage t) F.SPD_STATUS_IND_BUSY = true) :
    b.indWrite fn t cmd = b.onCtl fun c => c.err (spdPage t) 0x05 fn.num (spdPage t + 0x58) := if_pos hb

theorem Blk.indWrite_past (hb : b.ctl.flag (spdPage t) F.SPD_STATUS_IND_BUSY = false)
    (hp : spBytes t ≤ b.ctl.get (spdPage t) F.SPD_IND_ADDR_WORD * 32) :
    b.indWrite fn t cmd = b.onCtl fun c => c.err (spdPage t) 0x04 fn.num (spdPage t + 0x58) :=
  (if_neg (Bool.eq_false_iff.mp hb)).trans (if_pos hp)

/-- An indirect command accepted. -/
theorem Blk.indWrite_accepted (hb : b.ctl.flag (spdPage t) F.SPD_STATUS_IND_BUSY = false)
    (hp : b.ctl.get (spdPage t) F.SPD_IND_ADDR_WORD * 32 < spBytes t) (hc : cmd ≠ 0) : SameOthers b (b.indWrite fn t cmd) t ∧
      (b.indWrite fn t cmd).ctl.flag (spdPage t) F.SPD_STATUS_IND_BUSY = true ∧
      ((b.indWrite fn t cmd).tile t).sp.mem = (b.tile t).sp.mem ∧
      ((b.indWrite fn t cmd).tile t).sp.reqs = (b.tile t).sp.reqs ++ [b.ctl.indReq t cmd] := by
  rw [Blk.indWrite, if_neg (Bool.eq_false_iff.mp hb), if_neg hp.not_ge, Blk.indCommand_eq _ _ hc, Blk.onTile_tile_same]
  refine ⟨SameOthers.onTile (SameOthers.onCtl SameOthers.refl _) _, ?_, ?_⟩
  · rw [Blk.onTile_ctl, Blk.onCtl_ctl, Ctl.indBusy_put]
  · rw [Blk.onCtl_tile]
    exact ⟨rfl, rfl⟩

end

theorem Blk.spdUnpaired_flag (b : Blk) (t : Nat) (f : Fld) : (b.spdUnpaired t).ctl.flag (spdPage t) f = b.ctl.flag (spdPage t) f := rfl
theorem Blk.spdUnpaired_getN (b : Blk) (t n : Nat) (f : Fld) : (b.spdUnpaired t).ctl.getN (spdPage t) f n = b.ctl.getN (spdPage t) f n := rfl
theorem Blk.spdUnpaired_get (b : Blk) (t : Nat) (f : Fld) : (b.spdUnpaired t).ctl.get (spdPage t) f = b.ctl.get (spdPage t) f := rfl
theorem Blk.spdUnpaired_tile (b : Blk) (t : Nat) : (b.spdUnpaired t).tile t = b.tile t := rfl
theorem Blk.spdUnpaired_indReq (b : Blk) (t cmd : Nat) : (b.spdUnpaired t).ctl.indReq t cmd = b.ctl.indReq t cmd := rfl
theorem Blk.spdUnpaired_err (b : Blk) (t k f a : Nat) : ((b.spdUnpaired t).onCtl fun c => c.err (spdPage t) k f a) =
    { b with ctl := (b.ctl.unpair (spdPage t)).err (spdPage t) k f a } := rfl

theorem Blk.spdUnpaired_accepted {b : Blk} {cmd : Nat} (hb : b.ctl.flag (spdPage t) F.SPD_STATUS_IND_BUSY = false)
    (hp : b.ctl.get (spdPage t) F.SPD_IND_ADDR_WORD * 32 < spBytes t) (hc : cmd ≠ 0) :
    SameOthers b ((b.spdUnpaired t).indWrite fn t cmd) t ∧
      ((b.spdUnpaired t).indWrite fn t cmd).ctl.flag (spdPage t) F.SPD_STATUS_IND_BUSY = true ∧
      (((b.spdUnpaired t).indWrite fn t cmd).tile t).sp.mem = (b.tile t).sp.mem ∧
      (((b.spdUnpaired t).indWrite fn t cmd).tile t).sp.reqs = (b.tile t).sp.reqs ++ [b.ctl.indReq t cmd] := by
  rw [← Blk.spdUnpaired_flag] at hb
  rw [← Blk.spdUnpaired_get] at hp
  have h := Blk.indWrite_accepted (fn := fn) hb hp hc
  rw [Blk.spdUnpaired_tile, Blk.spdUnpaired_indReq] at h
  exact ⟨(SameOthers.onCtl SameOthers.refl _).trans h.1, h.2⟩

/-- The words of an indirect write are those of IND_DATA. -/
theorem Ctl.indReq_word (c : Ctl) (t : Nat) {n : Nat} (hn : n < 8) :
    ((c.indReq t 2).run.slice (4 * n) 4).nat = c.getN (spdPage t) F.SPD_IND_DATA_DATA n := by
  show Run.nat.leN (((indBytes _).drop (4 * n)).take 4) = _
  rw [indBytes_slice _ hn, Run.leN_quadBytes]
  exact Nat.mod_eq_of_lt (bits_lt ..)

/-- An indirect command in progress is done once neither its request nor its data is there. -/
theorem spdIndDone_runs (h1 : ∀ r ∈ (s.blk.tile t).sp.reqs, r.who ≠ .indirect) (h2 : ∀ r ∈ (s.blk.tile t).sp.rets, r.who ≠ .indirect) :
    Runs (.spdIndDone t) s (s.blk.onCtl fun c => c.put (spdPage t) F.SPD_STATUS_IND_BUSY 0) := by
  have hr : ((s.blk.tile t).sp.reqs.any fun r => r.who == .indirect) = false := List.any_eq_false.mpr fun r hr => by simpa using h1 r hr
  have ht : ((s.blk.tile t).sp.rets.any fun r => r.who == .indirect) = false := List.any_eq_false.mpr fun r hr => by simpa using h2 r hr
  show execSpdIndDone t s = _
  rw [execSpdIndDone, State.on_eq]
  simp only [hr, ht, Bool.or_self, Bool.false_eq_true, if_false]

end

/-- Settles O18: an access is a request presented or an error answered; an error response that raises a load access fault is the model's
deduction (log 8). -/
theorem remoteAndIndirectAccessesAreServed : Obligations.RemoteAndIndirectAccessesAreServed := by
  unfold Obligations.RemoteAndIndirectAccessesAreServed
  refine ⟨fun s i t p hi => ⟨fun hk hl => ?_, fun hk hl => ?_, fun hk hl => ?_, fun hk hl hs => ?_, fun w hk hc hl hw hx hr => ⟨?_, ?_⟩⟩,
    fun s fn t => ⟨fun h hb hp => ?_, fun h hb hp => ?_, fun h hb => ?_, fun h hb hp => ?_, fun h1 h2 => ?_⟩⟩
  · simpa only [Pkt.access, hk, if_true] using remoteAccessServe_presents hi (.inl hk) hl
  · simpa only [Pkt.access, hk, if_neg (show ¬ (2 : Nat) = 1 by decide)] using remoteAccessServe_presents hi (.inr hk) hl
  · obtain ⟨b, hb, hs, hc⟩ := remoteAccessServe_refuses hi (.inl hk) hl
    exact ⟨b, hb, hs, by rw [hc, Ctl.refuseRemote, if_pos hk]; rfl⟩
  · obtain ⟨b, hb, hss, hc⟩ := remoteAccessServe_refuses hi (.inr hk) hl
    refine ⟨b, hb, hss, ?_⟩
    rw [hc, Ctl.refuseRemote, if_neg (by omega), Ctl.ackRemote, Ctl.sendAck, if_neg (by omega)]
    rfl
  · exact fun he hb => readReply_loads hi hk hc hl hw hx hr he hb
  · exact fun he => readReply_traps hi hk hc hl hw he
  · exact ⟨_, spdIndRead_runs h, Blk.spdUnpaired_accepted hb hp (by decide)⟩
  · obtain ⟨ho, hbusy, hm, hq⟩ := Blk.spdUnpaired_accepted (fn := fn) (cmd := 2) hb hp (by decide)
    exact ⟨_, spdIndWrite_runs h, ho, hbusy, hm, _, hq, rfl, rfl, rfl, rfl, fun n hn => Ctl.indReq_word _ t hn⟩
  · have hw (cmd : Nat) := (Blk.indWrite_busy (b := s.blk.spdUnpaired t) (fn := fn) (cmd := cmd) hb).trans (Blk.spdUnpaired_err ..)
    exact ⟨(hw 1).subst (spdIndRead_runs h), (hw 2).subst (spdIndWrite_runs h)⟩
  · have hw (cmd : Nat) := (Blk.indWrite_past (b := s.blk.spdUnpaired t) (fn := fn) (cmd := cmd) hb hp).trans (Blk.spdUnpaired_err ..)
    exact ⟨(hw 1).subst (spdIndRead_runs h), (hw 2).subst (spdIndWrite_runs h)⟩
  · refine ⟨_, spdIndDone_runs h1 h2, onlyRegs_put .., ?_⟩
    rw [Blk.onCtl_ctl, Ctl.indBusy_clear]

end Sys2Proof.Machine
end

section
/-!
PROOF. The loads and stores of the control cores (06 R145, R149, R151 to R153, R155, R158, 07 R181).
-/
namespace Sys2Proof.Machine

/-! ### An instruction of a core -/

section
variable {i : Instr} {s : State} {t : TileId} {k : Fin 2} {a b c : Blk}

/-- A core whose tile has it, and that may execute the instruction, executes it. -/
theorem onCore_runs {rs : List Reg} {f : Blk → Blk} (hi : exec i s = s.onCore t k rs f) (hk : k = 0 ∨ isSTile t = true)
    (hr : s.blk.coreReady t k rs = true) : Runs i s (f s.blk) := by
  have hu : ¬ (k = 1 ∧ (!isSTile t) = true) := by
    rintro ⟨rfl, h⟩
    rcases hk with hk | hk
    · exact absurd hk (by decide)
    · rw [hk] at h
      cases h
  rw [Runs, hi, State.onCore, if_neg hu, State.on_eq, if_pos hr]

/-- `b` follows from `a` by what changes neither another tile nor the registers and the program counter of core `k` of tile `t`. -/
structure Blk.CoreKept (t k : Nat) (a b : Blk) : Prop where
  others : SameOthers a b t
  pc : ((b.tile t).core k).pc = ((a.tile t).core k).pc
  x : ((b.tile t).core k).x = ((a.tile t).core k).x

theorem Blk.CoreKept.of_tile (ho : SameOthers a b t) (h : (b.tile t).core k = (a.tile t).core k) : a.CoreKept t k b :=
  ⟨ho, congrArg Core.pc h, congrArg Core.x h⟩

theorem Blk.CoreKept.onCtl (h : a.CoreKept t k b) (f : Ctl → Ctl) : a.CoreKept t k (b.onCtl f) := ⟨h.others.onCtl f, h.pc, h.x⟩

theorem Core.reg_of_x {u v : Core} (h : u.x = v.x) (r : Nat) : u.reg r = v.reg r := by rw [Core.reg, Core.reg, h]

theorem Blk.retire_core (b : Blk) (t k : Nat) : ((b.retire t k).tile t).core k = ((b.tile t).core k).advance := b.onCore_core t k _

theorem Blk.retire_others (h : SameOthers a b t) : SameOthers a (b.retire t k) t := (h.onCore k _).onCtl _

/-- A tile but for its control cores. -/
def Tile.sansCores (x : Tile) : Tile := { x with core0 := {}, core1 := {} }

theorem Tile.setCore_sansCores (x : Tile) (k : Nat) (c : Core) : (x.setCore k c).sansCores = x.sansCores := by
  rw [Tile.setCore]
  split_ifs <;> rfl

theorem Blk.onCore_sp (b : Blk) (t k : Nat) (f : Core → Core) : ((b.onCore t k f).tile t).sp = (b.tile t).sp := by
  rw [Blk.onCore, Blk.onTile_tile_same]
  exact (congrArg Tile.sp (Tile.setCore_sansCores _ k _) :)

theorem Blk.retire_sp (b : Blk) (t k : Nat) : ((b.retire t k).tile t).sp = (b.tile t).sp := b.onCore_sp t k _
theorem Blk.retireTo_sp (b : Blk) (t k : Nat) (r : Reg) (v : Word) : ((b.retireTo t k r v).tile t).sp = (b.tile t).sp :=
  (Blk.retire_sp ..).trans (b.onCore_sp t k _)
theorem Blk.trap_sp (b : Blk) (t k : Nat) (e : CoreTrap) : ((b.trap t k e).tile t).sp = (b.tile t).sp := b.onCore_sp t k _

theorem Blk.trap_ctl (b : Blk) (t k : Nat) (e : CoreTrap) : (b.trap t k e).ctl = b.ctl := rfl

theorem Blk.retire_net (b : Blk) (t k : Nat) : (b.retire t k).ctl.net = b.ctl.net := by
  rw [Blk.retire, Blk.onCtl_ctl, Ctl.perf_net]
  rfl

theorem coreDone_retire (hrun : Runs i s (b.retire t k)) (h : s.blk.CoreKept t k b) : CoreDone i s t k none (b.retire t k) := by
  refine ⟨hrun, Blk.retire_others h.others, ?_, ?_, fun r => ?_⟩ <;> rw [Blk.retire_core]
  · rw [Core.advance, h.pc]
  · rfl
  · exact Core.reg_of_x h.x r

theorem coreDone_retireTo {r : Reg} {v : Word} (hrun : Runs i s (b.retireTo t k r v)) (h : s.blk.CoreKept t k b)
    (hx : (s.blk.tile t).Shaped) : CoreDone i s t k (some (r, v)) (b.retireTo t k r v) := by
  have hl : ((b.tile t).core k).x.length = 32 := h.x ▸ hx.core_length k
  refine ⟨hrun, Blk.retire_others (h.others.onCore k _), ?_, ?_, fun q => ?_⟩ <;> rw [Blk.retireTo, Blk.retire_core, Blk.onCore_core]
  · rw [Core.advance, Core.setReg_pc, h.pc]
  · rfl
  · have hq := ((b.tile t).core k).reg_setReg hl r q v
    rw [Core.reg_of_x h.x q] at hq
    exact hq

/-- A trap leaves the core's registers. -/
theorem Blk.trap_core (b : Blk) (t k : Nat) (e : CoreTrap) : (((b.trap t k e).tile t).core k).trap = some e ∧
    (((b.trap t k e).tile t).core k).x = ((b.tile t).core k).x := by
  rw [Blk.trap, Blk.onCore_core]
  exact ⟨rfl, rfl⟩

theorem Blk.trap_others {e : CoreTrap} (h : SameOthers a b t) : SameOthers a (b.trap t k e) t := h.onCore k _

/-! ### Loads and stores by their address (06 R152, 07 R181) -/

/-- The address that a load or store of core `k` accesses. -/
def Blk.memAddr (b : Blk) (t k : Nat) (base : Reg) (imm : BitVec 12) : Nat := (b.reg32 t k base + imm.signExtend 32).toNat

/-- What a load or store of core `k` at address `a` does. -/
def Blk.memAccess (b : Blk) (t k : Nat) (op : MemOp) (r : Reg) (a : Nat) (e : List Ecc) : Blk :=
  if a % memSize op ≠ 0 then b.trap t k (memFault op a)
  else if 0x10000000 ≤ a ∧ a < 0x20000000 then
    if spBytes t ≤ a - 0x10000000 then b.refuseAccess t k 0x02 op a else b.localAccess t k op r a (a - 0x10000000) e
  else if 0x20000000 ≤ a ∧ a < 0x21000000 then b.remoteAccess t k op r a e
  else if 0x30000000 ≤ a ∧ a < 0x30010000 then b.blockAccess t k op r a e
  else b.trap t k (memFault op a)

variable {op : MemOp} {r base : Reg} {imm : BitVec 12} {e : List Ecc}

theorem coreLoadStore_runs (hk : k = 0 ∨ isSTile t = true) (hr : s.blk.coreReady t k [r, base] = true) :
    Runs (.coreLoadStore t k op r base imm e) s (s.blk.memAccess t k op r (s.blk.memAddr t k base imm) e) :=
  onCore_runs (f := fun b => b.memAccess t k op r (b.memAddr t k base imm) e) rfl hk hr

section
variable {m : Nat}

theorem Blk.memAccess_own (b : Blk) (h : m % memSize op = 0) (h1 : 0x10000000 ≤ m) (h2 : m < 0x10000000 + spBytes t) (h3 : m < 0x20000000) :
    b.memAccess t k op r m e = b.localAccess t k op r m (m - 0x10000000) e := by
  rw [Blk.memAccess, if_neg (by omega), if_pos ⟨h1, h3⟩, if_neg (by omega)]

theorem Blk.memAccess_past (b : Blk) (h : m % memSize op = 0) (h1 : 0x10000000 + spBytes t ≤ m) (h2 : m < 0x20000000) :
    b.memAccess t k op r m e = b.refuseAccess t k 0x02 op m := by
  rw [Blk.memAccess, if_neg (by omega), if_pos ⟨by omega, h2⟩, if_pos (by omega)]

theorem Blk.memAccess_window (b : Blk) (h : m % memSize op = 0) (h1 : 0x20000000 ≤ m) (h2 : m < 0x21000000) :
    b.memAccess t k op r m e = b.remoteAccess t k op r m e := by
  rw [Blk.memAccess, if_neg (by omega), if_neg (by omega), if_pos ⟨h1, h2⟩]

theorem Blk.memAccess_block (b : Blk) (h : m % memSize op = 0) (h1 : 0x30000000 ≤ m) (h2 : m < 0x30010000) :
    b.memAccess t k op r m e = b.blockAccess t k op r m e := by
  rw [Blk.memAccess, if_neg (by omega), if_neg (by omega), if_neg (by omega), if_pos ⟨h1, h2⟩]

theorem Blk.memAccess_unmapped (b : Blk)
    (h : m % memSize op ≠ 0 ∨ m < 0x10000000 ∨ (0x21000000 ≤ m ∧ m < 0x30000000) ∨ 0x30010000 ≤ m) :
    b.memAccess t k op r m e = b.trap t k (memFault op m) := by
  rw [Blk.memAccess]
  by_cases h0 : m % memSize op = 0
  · rw [if_neg (not_not_intro h0), if_neg (by omega), if_neg (by omega), if_neg (by omega)]
  · rw [if_pos h0]

end

theorem spBytes_le (t : Nat) : spBytes t ≤ 0x400000 := by
  rw [spBytes]
  split_ifs <;> decide

/-! ### The own scratchpad (06 R145, R149, R151) -/

theorem memSize_cases (op : MemOp) : memSize op = 1 ∨ memSize op = 2 ∨ memSize op = 4 := by cases op <;> decide

theorem leBytes_length (n v : Nat) : (leBytes n v).length = n := by
  induction n generalizing v with
  | zero => rfl
  | succ n ih => rw [leBytes, List.length_cons, ih]

/-- An aligned access of a core lies within a word. -/
theorem mem_within {o : Nat} (h : o % memSize op = 0) : 0 < memSize op ∧ memSize op < 32 ∧ o % 32 + memSize op ≤ 32 := by
  rcases memSize_cases op with hn | hn | hn <;> rw [hn] at h ⊢ <;> omega

theorem Blk.spStore_core (b : Blk) (t m : Nat) (q : Run) (e : List Ecc) (k : Nat) : ((b.spStore t m q e).tile t).core k = (b.tile t).core k := by
  rw [Blk.spStore, Blk.setTile_tile_same]
  rfl

theorem Blk.spRead_core (b : Blk) (t m n : Nat) (e : List Ecc) (k : Nat) : ((b.spRead t m n e).2.tile t).core k = (b.tile t).core k := by
  obtain ⟨c, l, -, hb⟩ := b.spRead_eq t m n e
  rw [hb, Blk.setTile_tile_same]
  rfl

section
variable {m o : Nat}

theorem Blk.localAccess_init (b : Blk) (hi : (b.tile t).init = true) : b.localAccess t k op r m o e = b := by
  rw [Blk.localAccess, if_pos hi]

theorem localAccess_stores (hrun : Runs i s (s.blk.localAccess t k op r m o e)) (hi : (s.blk.tile t).init = false) (hs : memStore op = true)
    (ho : o % memSize op = 0) : ∃ b, CoreDone i s t k none b ∧
      (NoLoss e → (b.tile t).sp.mem = (s.blk.tile t).sp.mem.write o (s.blk.storeRun t k op r)) ∧
      (e.head? = some .uncorr → (s.blk.tile t).sp.mem.isWritten (o / 32) = true →
        (b.tile t).sp.mem = ((s.blk.tile t).sp.mem.write o (s.blk.storeRun t k op r)).setBad (o / 32) true) := by
  rw [Blk.localAccess, if_neg (Bool.eq_false_iff.mp hi), if_pos hs] at hrun
  obtain ⟨hoth, -, hm⟩ := s.blk.spStore_tile t o (s.blk.storeRun t k op r) e
  have hlen : (s.blk.storeRun t k op r).bytes.length = memSize op := leBytes_length ..
  obtain ⟨h0, h1, h2⟩ := mem_within ho
  refine ⟨_, coreDone_retire hrun (.of_tile hoth (Blk.spStore_core ..)), fun he => ?_, fun he hw => ?_⟩
  · rw [Blk.retire_sp, hm, he.unitStore]
  · rw [Blk.retire_sp, hm]
    have h := Mem.unitStore_uncorr (off := o % 32) he hw (hlen.symm ▸ h0) (hlen.symm ▸ h1) (hlen.symm ▸ h2)
    rwa [Nat.mul_comm, Nat.div_add_mod] at h

/-- What a core's load of its own scratchpad finds at byte `o`. -/
def Blk.coreView (b : Blk) (t : Nat) (op : MemOp) (o : Nat) (e : List Ecc) : Run :=
  spView (b.tile t).sp.mem (b.ctl.flag (spdPage t) F.SPD_CTRL_COLD_POISON) o (memSize op) e

theorem Blk.localAccess_load (b : Blk) (hi : (b.tile t).init = false) (hs : memStore op = false) :
    b.localAccess t k op r m o e =
      if (b.coreView t op o e).anyBad then
        ((b.spRead t o (memSize op) e).2.onCtl fun c => c.tilePoison t 1).trap t k (.loadAccess m)
      else (b.spRead t o (memSize op) e).2.retireTo t k r (loadExt (memSize op) (memSext op) (b.coreView t op o e).nat) := by
  rw [Blk.localAccess, if_neg (Bool.eq_false_iff.mp hi), if_neg (Bool.eq_false_iff.mp hs)]
  rfl

theorem localAccess_loads (hrun : Runs i s (s.blk.localAccess t k op r m o e)) (hi : (s.blk.tile t).init = false) (hs : memStore op = false)
    (hx : (s.blk.tile t).Shaped) (hv : (s.blk.coreView t op o e).anyBad = false) :
    ∃ b, CoreDone i s t k (some (r, loadExt (memSize op) (memSext op) (s.blk.coreView t op o e).nat)) b ∧
      (b.tile t).sp.mem = (s.blk.tile t).sp.mem := by
  rw [Blk.localAccess_load _ hi hs, if_neg (Bool.eq_false_iff.mp hv)] at hrun
  obtain ⟨ho, -, hm⟩ := s.blk.spRead_tagsKept t o (memSize op) e
  exact ⟨_, coreDone_retireTo hrun (.of_tile ho (Blk.spRead_core ..)) hx, by rw [Blk.retireTo_sp, hm]⟩

theorem localAccess_poisoned (hrun : Runs i s (s.blk.localAccess t k op r m o e)) (hi : (s.blk.tile t).init = false)
    (hs : memStore op = false) (hv : (s.blk.coreView t op o e).anyBad = true) : ∃ b, Runs i s b ∧ SameOthers s.blk b t ∧
      (b.tile t).sp.mem = (s.blk.tile t).sp.mem ∧ ((b.tile t).core k).trap = some (.loadAccess m) ∧
      ((b.tile t).core k).x = ((s.blk.tile t).core k).x := by
  rw [Blk.localAccess_load _ hi hs, if_pos hv] at hrun
  obtain ⟨ho, -, hm⟩ := s.blk.spRead_tagsKept t o (memSize op) e
  obtain ⟨htrap, hreg⟩ := ((s.blk.spRead t o (memSize op) e).2.onCtl fun c => c.tilePoison t 1).trap_core t k (.loadAccess m)
  refine ⟨_, hrun, Blk.trap_others (ho.onCtl _), ?_, htrap, hreg.trans ?_⟩
  · rw [Blk.trap_sp, Blk.onCtl_tile, hm]
  · rw [Blk.onCtl_tile, Blk.spRead_core]

end

/-! ### Accesses refused (06 R152, R155, R158) -/

theorem bump_counts (c : Ctl) (p : Nat) (f : Fld) (h : f.hi < 32) : (c.bump p f 1).get p f = satAdd (fldTop f) (c.get p f) 1 := by
  refine (Ctl.getN_putN_same c p f 0 _ h).trans (Nat.mod_eq_of_lt ?_)
  exact lt_of_le_of_lt (Nat.min_le_left ..) (by rw [fldTop]; have := Nat.two_pow_pos (f.hi + 1 - f.lo); omega)

/-- The registers once an access is refused with `code`. -/
def Ctl.accessErr (c : Ctl) (t code : Nat) : Ctl := ((c.bump (spdPage t) F.SPD_REMOTE_ERR_COUNT).errHw (spdPage t) code).raise (spdPage t) 4

theorem Ctl.accessErr_net (c : Ctl) (t code : Nat) : (c.accessErr t code).net = c.net := by
  rw [Ctl.accessErr, Ctl.raise_net, Ctl.errHw_net, Ctl.bump_net]

theorem Ctl.accessErr_irq (c : Ctl) (t code : Nat) : bit ((c.accessErr t code).rd (spdPage t + 0x18)) 4 = true := by
  rw [Ctl.accessErr, Ctl.rd_raise, if_pos rfl, bit_or_two_pow _ (by decide)]
  simp

theorem Ctl.accessErr_counts (c : Ctl) (t code : Nat) : c.Counts (c.accessErr t code) (spdPage t) F.SPD_REMOTE_ERR_COUNT := by
  have hr : (c.accessErr t code).rd (spdPage t + F.SPD_REMOTE_ERR_COUNT.off) =
      (c.bump (spdPage t) F.SPD_REMOTE_ERR_COUNT).rd (spdPage t + F.SPD_REMOTE_ERR_COUNT.off) := by
    rw [Ctl.accessErr, Ctl.rd_raise, if_neg (by simp only [F.SPD_REMOTE_ERR_COUNT]; omega), Ctl.rd_errHw]
    simp [errRegs, F.SPD_REMOTE_ERR_COUNT, spdPage, tilePage, devPage, logPage]
    omega
  rw [Ctl.Counts, Ctl.get_congr hr, bump_counts _ _ _ (by decide)]

theorem Blk.refuseAccess_eq (b : Blk) (t k code : Nat) (op : MemOp) (m : Nat) :
    b.refuseAccess t k code op m = (b.onCtl fun c => c.accessErr t code).trap t k (memFault op m) := rfl

theorem refuseAccess_refuses {m code : Nat} (hrun : Runs i s (s.blk.refuseAccess t k code op m)) : ∃ b, Runs i s b ∧ SameOthers s.blk b t ∧
    (b.tile t).sp = (s.blk.tile t).sp ∧ b.ctl.net = s.blk.ctl.net ∧ ((b.tile t).core k).trap = some (memFault op m) ∧
    ((b.tile t).core k).x = ((s.blk.tile t).core k).x ∧ bit (b.ctl.rd (spdPage t + 0x18)) 4 = true ∧
    s.blk.ctl.Counts b.ctl (spdPage t) F.SPD_REMOTE_ERR_COUNT := by
  obtain ⟨htrap, hreg⟩ := (s.blk.onCtl fun c => c.accessErr t code).trap_core t k (memFault op m)
  rw [Blk.refuseAccess_eq] at hrun
  refine ⟨_, hrun, Blk.trap_others (SameOthers.onCtl SameOthers.refl _), ?_, ?_, htrap, ?_, ?_, ?_⟩
  · rw [Blk.trap_sp, Blk.onCtl_tile]
  · rw [Blk.trap_ctl, Blk.onCtl_ctl, Ctl.accessErr_net]
  · rw [hreg, Blk.onCtl_tile]
  · rw [Blk.trap_ctl, Blk.onCtl_ctl, Ctl.accessErr_irq]
  · rw [Blk.trap_ctl, Blk.onCtl_ctl]
    exact Ctl.accessErr_counts ..

/-! ### Remote windows (06 R152, R153) -/

/-- The configuration of the window that address `m` is in, the tile it names and the byte of its scratchpad. -/
def Blk.windowCfg (b : Blk) (t m : Nat) : Word := b.ctl.rd (spdPage t + 0x44 + 4 * (m / 0x400000 % 4))
def Blk.windowTile (b : Blk) (t m : Nat) : Nat := bits (b.windowCfg t m) 10 0

/-- The window that address `m` is in leads to a tile of the stage. -/
def Blk.windowOpen (b : Blk) (t m : Nat) : Prop :=
  bit (b.windowCfg t m) 31 = true ∧ (b.ctl.tileStage t).isSome = true ∧ b.ctl.tileStage (b.windowTile t m) = b.ctl.tileStage t ∧
    b.ctl.tileOff (b.windowTile t m) = false

/-- The word of the stage's tiles that an access through a window is to. -/
def Blk.windowTarget (b : Blk) (t m : Nat) : Nat := b.windowTile t m * 2 ^ 17 + m % 0x400000 / 32

/-- What core `k` waits for once its access at `m` has left. -/
def Blk.windowWait (b : Blk) (t k : Nat) (op : MemOp) (r : Reg) (m : Nat) : CoreWait :=
  { tag := ((b.tile t).core k).tag, store := memStore op, rd := r, size := memSize op, sext := memSext op, addr := m
    target := b.windowTarget t m }

/-- The packet of that access. -/
def Blk.windowPkt (b : Blk) (t k : Nat) (op : MemOp) (r : Reg) (m : Nat) : Pkt :=
  { kind := if memStore op then 2 else 1, cls := 1, dest := b.windowTile t m, tag := coreTag k ((b.tile t).core k).tag, addr := m % 0x400000
    bytes := memSize op, run := if memStore op then b.storeRun t k op r else {} }

/-- A core that waits for `w` too. -/
def Core.waiting (c : Core) (w : CoreWait) : Core := { c with tag := (c.tag + 1) % 2 ^ 16, awaits := c.awaits ++ [w] }

/-- A window that leads to no tile of the stage, as `remoteAccess` finds it. -/
def Blk.windowShut (b : Blk) (t m : Nat) : Bool :=
  !bit (b.windowCfg t m) 31 || (match b.ctl.tileStage t with | some s => b.ctl.tileStage (b.windowTile t m) != some s | none => true) ||
    b.ctl.tileOff (b.windowTile t m)

theorem Blk.windowShut_eq_false (b : Blk) (t m : Nat) : b.windowShut t m = false ↔ b.windowOpen t m := by
  rw [Blk.windowShut, Blk.windowOpen]
  cases h : b.ctl.tileStage t <;> simp [and_assoc]

theorem Blk.remoteAccess_eq (b : Blk) (t k : Nat) (op : MemOp) (r : Reg) (m : Nat) (e : List Ecc) : b.remoteAccess t k op r m e =
    if b.windowShut t m then b.refuseAccess t k 0x01 op m
    else if spBytes (b.windowTile t m) < m % 0x400000 + memSize op then b.refuseAccess t k 0x02 op m
    else if b.windowTile t m = t then b.localAccess t k op r m (m % 0x400000) e
    else if ((b.tile t).core k).awaits.any fun x => x.target == b.windowTarget t m then b
    else ((b.onCore t k fun c => c.waiting (b.windowWait t k op r m)).onCtl fun c => c.sendPkt t (b.windowPkt t k op r m)).retire t k := by
  rw [Blk.remoteAccess]
  rfl

section
variable {m : Nat}

theorem remoteAccess_refuses (hrun : Runs i s (s.blk.remoteAccess t k op r m e))
    (h : ¬ s.blk.windowOpen t m ∨ spBytes (s.blk.windowTile t m) < m % 0x400000 + memSize op) : ∃ code, Runs i s (s.blk.refuseAccess t k code op m) := by
  rw [Blk.remoteAccess_eq] at hrun
  split_ifs at hrun with h1 h2
  · exact ⟨_, hrun⟩
  · exact ⟨_, hrun⟩
  all_goals exact absurd h (not_or_intro (not_not_intro ((Blk.windowShut_eq_false ..).mp (Bool.eq_false_iff.mpr h1))) h2)

/-- An access through an open window, within the scratchpad of its tile. -/
theorem Blk.remoteAccess_open (b : Blk) (h : b.windowOpen t m) (hm : m % 0x400000 + memSize op ≤ spBytes (b.windowTile t m)) :
    b.remoteAccess t k op r m e =
      if b.windowTile t m = t then b.localAccess t k op r m (m % 0x400000) e
      else if ((b.tile t).core k).awaits.any fun x => x.target == b.windowTarget t m then b
      else ((b.onCore t k fun c => c.waiting (b.windowWait t k op r m)).onCtl fun c => c.sendPkt t (b.windowPkt t k op r m)).retire t k := by
  rw [Blk.remoteAccess_eq, if_neg (Bool.eq_false_iff.mp ((b.windowShut_eq_false t m).mpr h)), if_neg hm.not_gt]

theorem remoteAccess_sends (hrun : Runs i s (((s.blk.onCore t k fun c => c.waiting (s.blk.windowWait t k op r m)).onCtl fun c =>
      c.sendPkt t (s.blk.windowPkt t k op r m)).retire t k)) :
    ∃ b, CoreDone i s t k none b ∧ (b.tile t).sp = (s.blk.tile t).sp ∧
      b.ctl.net = s.blk.ctl.net ++ [pktOf t (s.blk.windowPkt t k op r m)] ∧
      ((b.tile t).core k).awaits = ((s.blk.tile t).core k).awaits ++ [s.blk.windowWait t k op r m] := by
  have hcore := s.blk.onCore_core t k fun c => c.waiting (s.blk.windowWait t k op r m)
  refine ⟨_, coreDone_retire hrun (.onCtl ⟨SameOthers.refl.onCore k _, (congrArg Core.pc hcore :), (congrArg Core.x hcore :)⟩ _), ?_, ?_, ?_⟩
  · rw [Blk.retire_sp, Blk.onCtl_tile, Blk.onCore_sp]
  · rw [Blk.retire_net]
    rfl
  · rw [Blk.retire_core, Blk.onCtl_tile, hcore]
    rfl

end

/-! ### The tile's own block (07 R181) -/

/-- The register of the tile's block that an access at `m` is to, and the word that a store writes there. -/
def memReg (t m : Nat) : Nat := tilePage t 0 + m % 0x10000 - m % 4
def Blk.memWord (b : Blk) (t k : Nat) (r : Reg) (m : Nat) : Word := BitVec.ofNat 32 ((b.reg32 t k r).toNat * 256 ^ (m % 4))

theorem Blk.blockAccess_eq (b : Blk) (t k : Nat) (op : MemOp) (r : Reg) (m : Nat) (e : List Ecc) : b.blockAccess t k op r m e =
    if memStore op then
      if b.coreDrops (memReg t m) (memSize op == 4) (b.memWord t k r m) e then
        (b.busWrite 15 (memReg t m) (memSize op == 4) (b.memWord t k r m) e).trap t k (.storeAccess m)
      else (b.busWrite 15 (memReg t m) (memSize op == 4) (b.memWord t k r m) e).retire t k
    else (b.busRead 15 (memReg t m)).2.retireTo t k r
      (loadExt (memSize op) (memSext op) ((b.busRead 15 (memReg t m)).1.toNat / 256 ^ (m % 4))) := by
  rw [Blk.blockAccess]
  rfl

/-- A read of the register file changes what is latched for pairs only. -/
theorem Blk.busRead_sameStore (b : Blk) (who m : Nat) : SameStore b (b.busRead who m).2 := by
  rw [Blk.busRead]
  split
  · split_ifs
    · exact ⟨rfl, rfl⟩
    · exact ⟨rfl, rfl⟩
    · dsimp only
      split <;> exact ⟨rfl, rfl⟩
  · exact ⟨rfl, rfl⟩

theorem SameStore.tile {u v : Blk} (h : SameStore u v) (t : Nat) : v.tile t = u.tile t := by rw [Blk.tile, h.1, Blk.tile]

theorem blockAccess_loads {m : Nat} (hrun : Runs i s (s.blk.blockAccess t k op r m e)) (hs : memStore op = false) (hx : (s.blk.tile t).Shaped) :
    ∃ b, CoreDone i s t k (some (r, loadExt (memSize op) (memSext op) ((s.blk.busRead 15 (memReg t m)).1.toNat / 256 ^ (m % 4)))) b ∧
      (b.tile t).sp = (s.blk.tile t).sp := by
  rw [Blk.blockAccess_eq, if_neg (Bool.eq_false_iff.mp hs)] at hrun
  have hss := s.blk.busRead_sameStore 15 (memReg t m)
  exact ⟨_, coreDone_retireTo hrun (.of_tile (SameOthers.of_sameStore hss) (by rw [hss.tile])) hx, by rw [Blk.retireTo_sp, hss.tile]⟩

theorem blockAccess_stores {m : Nat} (hrun : Runs i s (s.blk.blockAccess t k op r m e)) (hs : memStore op = true) :
    (s.blk.coreDrops (memReg t m) (memSize op == 4) (s.blk.memWord t k r m) e = false →
      Runs i s ((s.blk.busWrite 15 (memReg t m) (memSize op == 4) (s.blk.memWord t k r m) e).retire t k)) ∧
    (s.blk.coreDrops (memReg t m) (memSize op == 4) (s.blk.memWord t k r m) e = true →
      Runs i s ((s.blk.busWrite 15 (memReg t m) (memSize op == 4) (s.blk.memWord t k r m) e).trap t k (.storeAccess m))) := by
  rw [Blk.blockAccess_eq, if_pos hs] at hrun
  constructor <;> intro hd <;> simpa only [hd, Bool.false_eq_true, if_true, if_false] using hrun

end

theorem memFault_load {op : MemOp} (h : memStore op = false) (m : Nat) : memFault op m = .loadAccess m := by
  rw [memFault, if_neg (Bool.eq_false_iff.mp h)]

/-- Settles O23, range by range of the map. That an access past the end of the core's own scratchpad is counted and faults is the model's
choice (log 22), as are the program counter of an instruction done (log 20) and the fault at an address not aligned (log 8). -/
theorem coreLoadsAndStoresReachTheirMemory : Obligations.CoreLoadsAndStoresReachTheirMemory := by
  unfold Obligations.CoreLoadsAndStoresReachTheirMemory
  intro s t k op r base imm e x core a n run fault cmd hk hx hr own refused
  have hrun : Runs cmd s (s.blk.memAccess t k op r a e) := coreLoadStore_runs hk hr
  have hbytes := spBytes_le t
  have hown (o : Nat) (ho : o % n = 0) (h : Runs cmd s (s.blk.localAccess t k op r a o e)) : own o := by
    refine ⟨fun hi => ?_, fun hi hs => localAccess_stores h hi hs ho, fun hi hs hv => localAccess_loads h hi hs hx hv, fun hi hs hv => ?_⟩
    · rwa [Blk.localAccess_init _ hi] at h
    · rw [show fault = .loadAccess a from memFault_load hs a]
      exact localAccess_poisoned h hi hs hv
  have halign {o : Nat} (q : Nat) (ha : a % n = 0) (ho : a = o + 4 * q) : o % n = 0 := by
    rcases memSize_cases op with hn | hn | hn <;> rw [show n = _ from hn] at ha ⊢ <;> omega
  refine ⟨fun ha h1 h2 => ?_, fun ha h1 h2 => ?_, fun ha h1 h2 => ?_, fun ha h1 h2 => ?_, fun ha => ?_⟩
  · rw [Blk.memAccess_own _ ha h1 h2 (by omega)] at hrun
    exact hown _ (halign 0x4000000 ha (by omega)) hrun
  · rw [Blk.memAccess_past _ ha h1 h2] at hrun
    exact refuseAccess_refuses hrun
  · rw [Blk.memAccess_window _ ha h1 h2] at hrun
    refine ⟨fun h => ?_, fun h hm (hd : s.blk.windowTile t a = t) => ?_, fun h hm (hd : s.blk.windowTile t a ≠ t) hw => ?_,
      fun h hm (hd : s.blk.windowTile t a ≠ t) hw => ?_⟩
    · obtain ⟨code, hc⟩ := remoteAccess_refuses hrun h
      exact refuseAccess_refuses hc
    · rw [Blk.remoteAccess_open _ h hm, if_pos hd] at hrun
      exact hown _ (halign (a / 0x400000 * 0x100000) ha (by omega)) hrun
    · rw [Blk.remoteAccess_open _ h hm, if_neg hd, if_pos] at hrun
      · exact hrun
      · obtain ⟨w, hw, ht⟩ := hw
        exact List.any_eq_true.mpr ⟨w, hw, beq_iff_eq.mpr ht⟩
    · rw [Blk.remoteAccess_open _ h hm, if_neg hd, if_neg] at hrun
      · exact remoteAccess_sends hrun
      · rw [Bool.not_eq_true, List.any_eq_false]
        exact fun w hm he => hw w hm (beq_iff_eq.mp he)
  · rw [Blk.memAccess_block _ ha h1 h2] at hrun
    exact ⟨fun hs => blockAccess_loads hrun hs hx, fun hs => (blockAccess_stores hrun hs).1, fun hs => (blockAccess_stores hrun hs).2⟩
  · rw [Blk.memAccess_unmapped _ ha] at hrun
    exact ⟨_, hrun, Blk.trap_others SameOthers.refl, rfl, (s.blk.trap_core t k _).1, Blk.trap_sp ..⟩

end Sys2Proof.Machine
end

section
/-!
PROOF. Registers that what the sequencer counts, reads and issues leaves as they were (02 R43, 06 R150, 07 R163, R176).
-/
namespace Sys2Proof.Machine

/-! ### What changes registers only (02 R43, 06 R150, 07 R163) -/

section
variable {c d e : Ctl}

theorem Ctl.Quiet.clk (h : c.Quiet d) : d.clk = c.clk := by
  obtain ⟨r, o, g, l, rfl⟩ := h
  rfl

theorem Ctl.Quiet.tileOff (h : c.Quiet d) (t : Nat) : d.tileOff t = c.tileOff t := by
  obtain ⟨r, o, g, l, rfl⟩ := h
  rfl

theorem Ctl.Quiet.foldl {α : Type} {f : Ctl → α → Ctl} {l : List α} (h : c.Quiet d) (hf : ∀ (d : Ctl) (x : α), d.Quiet (f d x)) :
    c.Quiet (l.foldl f d) := List.foldlRecOn l f h fun d h x _ => h.trans (hf d x)

theorem Ctl.Quiet.countCold (c : Ctl) (t n : Nat) : c.Quiet (c.countCold t n) := by
  simp only [Ctl.countCold]
  split_ifs
  · exact .refl c
  · exact (Ctl.Quiet.bump ..).trans (.raise ..)
  · exact .bump ..

theorem Ctl.Quiet.countEcc (c : Ctl) (t : Nat) (e : Ecc) : c.Quiet (c.countEcc t e) := by
  cases e with
  | ok => exact .refl c
  | onDie => exact .refl c
  | corr => exact (Ctl.Quiet.bump ..).trans (.raise ..)
  | uncorr => exact ((Ctl.Quiet.bump ..).trans (.errHw ..)).trans (.raise ..)

theorem Ctl.Quiet.countEccs (c : Ctl) (t : Nat) (l : List (Nat × Ecc)) : c.Quiet (c.countEccs t l) :=
  (Ctl.Quiet.refl c).foldl fun d _ => .countEcc d t _

theorem Ctl.Quiet.perf (c : Ctl) (t code n : Nat) : c.Quiet (c.perf t code n) := by
  rw [Ctl.perf]
  split_ifs
  · exact .refl c
  · refine (Ctl.Quiet.refl c).foldl fun d k => ?_
    split_ifs
    · exact (Ctl.Quiet.wr ..).trans (.wr ..)
    · exact .refl d

theorem Ctl.Quiet.stepIssue (c : Ctl) (t : Nat) (h : Word) : c.Quiet (c.stepIssue t h) := by
  simp only [Ctl.stepIssue]
  split_ifs
  · exact .refl c
  · exact .putN ..
  · exact .putN ..
  · exact (Ctl.Quiet.putN ..).trans (.putN ..)

theorem Ctl.Quiet.stepTokens (c : Ctl) (t : Nat) (h : Word) : c.Quiet (c.stepTokens t h) := by
  simp only [Ctl.stepTokens]
  split_ifs
  · exact .refl c
  · exact .putN ..
  · exact .putN ..
  · exact (Ctl.Quiet.putN ..).trans (.putN ..)

end

theorem Blk.issue_quiet (b : Blk) (t u : Nat) (d : Desc) : b.ctl.Quiet (b.issue t u d).ctl := by
  have h := Ctl.Quiet.stepIssue b.ctl t d.hdr
  rw [Blk.issue, Blk.unprobe, Blk.onTile_ctl, Blk.onTile_ctl]
  split_ifs
  · exact h.trans (.bump ..)
  · exact h

theorem Blk.slateAdd_quiet (b : Blk) (t n v : Nat) : b.ctl.Quiet (b.slateAdd t n v).ctl := by
  simp only [Blk.slateAdd]
  split_ifs
  · exact (Ctl.Quiet.putN ..).trans (.putN ..)
  · exact .putN ..

theorem Blk.complete_quiet (t u n : Nat) (b : Blk) (d : Desc) : b.ctl.Quiet (b.complete t u d n).ctl := by
  induction n generalizing b d with
  | zero => exact .refl _
  | succ n ih =>
    refine .trans ?_ (ih _ _)
    have h := Ctl.Quiet.stepTokens b.ctl t d.hdr
    split_ifs
    · exact h.trans (Blk.slateAdd_quiet ..)
    · exact h

theorem Blk.stepDone_quiet (b : Blk) (t u ser : Nat) : b.ctl.Quiet (b.stepDone t u ser).ctl := by
  rw [Blk.stepDone]
  split
  · exact b.complete_quiet t u 1 _
  · exact .refl _

/-! ### A page's registers kept -/

/-- `d` follows from `c` with the registers of the page at `p` as they were. -/
def Ctl.PageKept (p : Nat) (c d : Ctl) : Prop := ∀ off, off < 0x1000 → d.rd (p + off) = c.rd (p + off)

/-- The page at `q` is another than that at `p`. -/
abbrev pageApart (p q : Nat) : Prop := p + 0x1000 ≤ q ∨ q + 0x1000 ≤ p

theorem tilePage_apart (t : Nat) {j k : Nat} (h : j ≠ k) : pageApart (tilePage t j) (tilePage t k) := by
  simp only [pageApart, tilePage]
  omega

theorem stagePage_apart {s t k : Nat} (h : s < 12) : pageApart (stagePage s) (tilePage t k) := by
  simp only [pageApart, tilePage, stagePage]
  omega

/-- The registers that the checks of a tile's scratchpad reads may change (06 R150). -/
def countRegs (t : Nat) : List Nat := [spdPage t + 0x84, spdPage t + 0x88, spdPage t + 0x8C] ++ errRegs (spdPage t)

section
variable {t a : Nat} {c d e : Ctl}

theorem Ctl.rd_bump_off (c : Ctl) (p n : Nat) (f : Fld) (h : a ≠ p + f.off) : (c.bump p f n).rd a = c.rd a :=
  (Ctl.rd_putN ..).trans (if_neg (by rwa [Nat.zero_mul, Nat.add_zero]))

theorem Ctl.rd_countCold (c : Ctl) (t n : Nat) (h : a ∉ countRegs t) : (c.countCold t n).rd a = c.rd a := by
  simp only [countRegs, errRegs, List.mem_append, List.mem_cons, List.not_mem_nil, or_false, not_or] at h
  obtain ⟨⟨h84, -, -⟩, h18, -⟩ := h
  have hb := c.rd_bump_off (spdPage t) n F.SPD_COLD_READS h84
  simp only [Ctl.countCold]
  split_ifs
  · rfl
  · rw [Ctl.rd_raise, if_neg h18, hb]
  · exact hb

theorem Ctl.rd_countEcc (c : Ctl) (t : Nat) (e : Ecc) (h : a ∉ countRegs t) : (c.countEcc t e).rd a = c.rd a := by
  have herr : a ∉ errRegs (spdPage t) := fun hm => h (List.mem_append_right _ hm)
  simp only [countRegs, errRegs, List.mem_append, List.mem_cons, List.not_mem_nil, or_false, not_or] at h
  obtain ⟨⟨-, h88, h8c⟩, h18, -⟩ := h
  cases e with
  | ok => rfl
  | onDie => rfl
  | corr => rw [Ctl.countEcc, Ctl.rd_raise, if_neg h18, Ctl.rd_bump_off _ _ _ _ h88]
  | uncorr => rw [Ctl.countEcc, Ctl.rd_raise, if_neg h18, Ctl.rd_errHw _ _ _ herr, Ctl.rd_bump_off _ _ _ _ h8c]

theorem Ctl.rd_countEccs (c : Ctl) (t : Nat) (l : List (Nat × Ecc)) (h : a ∉ countRegs t) : (c.countEccs t l).rd a = c.rd a :=
  List.foldlRecOn (motive := fun d : Ctl => d.rd a = c.rd a) _ _ rfl fun _ hd _ _ => (Ctl.rd_countEcc _ _ _ h).trans hd

end

section
variable {p q t : Nat} {c d e : Ctl}

theorem Ctl.PageKept.refl : c.PageKept p c := fun _ _ => rfl
theorem Ctl.PageKept.trans (h : c.PageKept p d) (g : d.PageKept p e) : c.PageKept p e := fun o ho => (g o ho).trans (h o ho)

theorem Ctl.PageKept.getN (h : c.PageKept p d) {f : Fld} {n : Nat} (hf : f.off + n * f.stride < 0x1000) : d.getN p f n = c.getN p f n := by
  rw [Ctl.getN, Nat.add_assoc, h _ hf, ← Nat.add_assoc, Ctl.getN]

theorem Ctl.PageKept.flag (h : c.PageKept p d) {f : Fld} (hf : f.off < 0x1000) : d.flag p f = c.flag p f := Ctl.flag_congr (h _ hf)

theorem Ctl.PageKept.of_rd (h : ∀ a, p ≤ a → a < p + 0x1000 → d.rd a = c.rd a) : c.PageKept p d := fun o ho => h (p + o) (by omega) (by omega)

theorem Ctl.PageKept.putN (hq : pageApart p q) {f : Fld} {n : Nat} (hf : f.off + n * f.stride < 0x1000) (v : Nat) :
    c.PageKept p (c.putN q f n v) :=
  .of_rd fun a h1 h2 => (Ctl.rd_putN ..).trans (if_neg (by simp only [pageApart] at hq; omega))

theorem Ctl.PageKept.bump (hq : pageApart p q) {f : Fld} (hf : f.off < 0x1000) (n : Nat) : c.PageKept p (c.bump q f n) :=
  .putN hq (by omega) _

theorem Ctl.PageKept.raise (hq : pageApart p q) (n : Nat) : c.PageKept p (c.raise q n) :=
  .of_rd fun a h1 h2 => (Ctl.rd_raise ..).trans (if_neg (by simp only [pageApart] at hq; omega))

/-- Neither a tile's page nor a stage's holds the registers that counting an error against another page concerns. -/
theorem not_mem_errRegs_of_apart (hq : pageApart p q) (hp : 0x12000 ≤ p) {a : Nat} (h1 : p ≤ a) (h2 : a < p + 0x1000) : a ∉ errRegs q := by
  simp only [errRegs, devPage, logPage, pageApart, List.mem_cons, List.not_mem_nil, or_false] at hq ⊢
  omega

theorem Ctl.PageKept.errHw (hq : pageApart p q) (hp : 0x12000 ≤ p) (k : Nat) : c.PageKept p (c.errHw q k) :=
  .of_rd fun _ h1 h2 => Ctl.rd_errHw _ _ _ (not_mem_errRegs_of_apart hq hp h1 h2)

theorem not_mem_countRegs_of_apart (hq : pageApart p (spdPage t)) (hp : 0x12000 ≤ p) {a : Nat} (h1 : p ≤ a) (h2 : a < p + 0x1000) :
    a ∉ countRegs t := by
  have he := not_mem_errRegs_of_apart hq hp h1 h2
  simp only [countRegs, pageApart, List.mem_append, List.mem_cons, List.not_mem_nil, or_false] at hq ⊢
  rintro (h | h)
  · omega
  · exact he h

theorem Ctl.PageKept.countCold (hq : pageApart p (spdPage t)) (hp : 0x12000 ≤ p) (n : Nat) : c.PageKept p (c.countCold t n) :=
  .of_rd fun _ h1 h2 => Ctl.rd_countCold _ _ _ (not_mem_countRegs_of_apart hq hp h1 h2)

theorem Ctl.PageKept.countEccs (hq : pageApart p (spdPage t)) (hp : 0x12000 ≤ p) (l : List (Nat × Ecc)) : c.PageKept p (c.countEccs t l) :=
  .of_rd fun _ h1 h2 => Ctl.rd_countEccs _ _ _ (not_mem_countRegs_of_apart hq hp h1 h2)

theorem Ctl.PageKept.wr64 (hq : pageApart p q) {o : Nat} (ho : o + 4 < 0x1000) (v : Nat) : c.PageKept p (c.wr64 (q + o) v) := by
  refine .of_rd fun a h1 h2 => ?_
  simp only [pageApart] at hq
  rw [Ctl.wr64, Ctl.rd_wr, if_neg (by omega), Ctl.rd_wr, if_neg (by omega)]

theorem Ctl.PageKept.perf (hq : pageApart p (perfPage t)) (k n : Nat) : c.PageKept p (c.perf t k n) := by
  rw [Ctl.perf]
  split_ifs
  · exact .refl
  · refine List.foldlRecOn (motive := c.PageKept p) _ _ .refl fun d hd i hi => ?_
    have hi := List.mem_range.mp hi
    split_ifs
    · refine hd.trans ?_
      rw [Ctl.add64, Ctl.put64, Nat.add_assoc]
      exact .wr64 hq (by simp only [F.PERF_EVT_LO_COUNT_LO]; omega) _
    · exact hd

/-- A field of the state of the channel that four bits of a header name. -/
theorem Ctl.PageKept.putCh (hq : pageApart p (seqPage t)) {w : Word} {hi lo : Nat} (hn : hi + 1 - lo = 4) {f : Fld} (hf : f.off = 0xA0)
    (hs : f.stride = 4) (v : Nat) : c.PageKept p (c.putN (seqPage t) f (bits w hi lo) v) := by
  have hb : bits w hi lo < 2 ^ 4 := hn ▸ bits_lt w hi lo
  exact .putN hq (by rw [hf, hs]; omega) v

theorem Ctl.PageKept.stepIssue (hq : pageApart p (seqPage t)) (w : Word) : c.PageKept p (c.stepIssue t w) := by
  simp only [Ctl.stepIssue]
  split_ifs
  · exact .refl
  · exact .putCh hq rfl rfl rfl _
  · exact .putCh hq rfl rfl rfl _
  · exact Ctl.PageKept.trans (.putCh hq rfl rfl rfl _) (.putCh hq rfl rfl rfl _)

theorem Ctl.PageKept.stepTokens (hq : pageApart p (seqPage t)) (w : Word) : c.PageKept p (c.stepTokens t w) := by
  simp only [Ctl.stepTokens]
  split_ifs
  · exact .refl
  · exact .putCh hq rfl rfl rfl _
  · exact .putCh hq rfl rfl rfl _
  · exact Ctl.PageKept.trans (.putCh hq rfl rfl rfl _) (.putCh hq rfl rfl rfl _)

/-- A tile is of the stage it was of where the STAGE pages are kept. -/
theorem Ctl.tileStage_of_kept (h : ∀ s < 12, c.PageKept (stagePage s) d) (t : Nat) : d.tileStage t = c.tileStage t := by
  rw [Ctl.tileStage, Ctl.tileStage, Ctl.clusterStage, Ctl.clusterStage, ← List.head?_filter, ← List.head?_filter]
  refine congrArg _ (List.filter_congr fun s hs => ?_)
  have hk := h s (List.mem_range.mp hs)
  rw [Ctl.valid, Ctl.valid, hk.flag (by decide), hk 0x40 (by decide)]

end

end Sys2Proof.Machine
end

section
/-!
PROOF. The mover: its descriptors, and its transfers sent (06 R143, 07 R163, R169, R171, R173, R174, 10 R256).
-/
namespace Sys2Proof.Machine

/-! ### Descriptors at the head of a queue (07 R160, R169) -/

section
variable {b b' : Blk} {t u : Nat} {e : List Ecc} {d : Desc}

/-- `d` follows from `c` by what the checks of tile `t`'s scratchpad reads count. -/
structure Ctl.Checked (t : Nat) (c d : Ctl) : Prop where
  quiet : c.Quiet d
  rd : ∀ a, a ∉ countRegs t → d.rd a = c.rd a

theorem Ctl.Checked.refl (t : Nat) (c : Ctl) : c.Checked t c := ⟨.refl c, fun _ _ => rfl⟩

theorem Ctl.Checked.trans {c d e : Ctl} (h : c.Checked t d) (g : d.Checked t e) : c.Checked t e :=
  ⟨h.quiet.trans g.quiet, fun a ha => (g.rd a ha).trans (h.rd a ha)⟩

theorem Ctl.Checked.page {c d : Ctl} {p : Nat} (h : c.Checked t d) (hq : pageApart p (spdPage t)) (hp : 0x12000 ≤ p) : c.PageKept p d :=
  .of_rd fun a h1 h2 => h.rd a (not_mem_countRegs_of_apart hq hp h1 h2)

theorem Ctl.Checked.tileStage {c d : Ctl} (h : c.Checked t d) (v : Nat) : d.tileStage v = c.tileStage v :=
  Ctl.tileStage_of_kept (fun s hs => h.page (stagePage_apart hs) (by simp only [stagePage]; omega)) v

/-- The counts of a read of tile `t`'s scratchpad. -/
theorem Ctl.checked_counts (c : Ctl) (t n : Nat) (l : List (Nat × Ecc)) : c.Checked t ((c.countCold t n).countEccs t l) :=
  ⟨(Ctl.Quiet.countCold ..).trans (.countEccs ..), fun _ ha => (Ctl.rd_countEccs _ _ _ ha).trans (Ctl.rd_countCold _ _ _ ha)⟩

theorem Blk.readBody_checked (b : Blk) (t u : Nat) (q : Queue) (e : List Ecc) : b.ctl.Checked t (b.readBody t u q e).2.ctl := by
  simp only [Blk.readBody]
  split
  · exact .refl ..
  · split_ifs
    · exact Ctl.checked_counts ..
    · exact Ctl.checked_counts ..

theorem Blk.takeHead_checked (h : b.takeHead t u e = .ready d b') : b.ctl.Checked t b'.ctl := by
  simp only [Blk.takeHead] at h
  split at h
  · split_ifs at h
    · split at h <;> cases h
    · split at h
      · cases h
      · next hr =>
        injection h with h1 h2
        subst h2
        have hc := b.readBody_checked t u ((b.tile t).queue u).retire e
        rwa [hr] at hc
  · cases h

theorem Blk.HeadRead.took (h : b.HeadRead t u b') (d : Desc) (n : Nat) : Took (b'.install t u d n) t u d n := by
  rw [Took, h.install_queue d n u, if_pos rfl]
  rfl

theorem Blk.seqHalt_tile (b : Blk) (t u code : Nat) :
    (b.seqHalt t u code).tile t = (b.tile t).setQueue u { (b.tile t).queue u with halted := true } := by
  rw [Blk.seqHalt, Blk.onCtl_tile, Blk.onTile_tile_same]

theorem seqPage_le (t : Nat) : 0x8000000 ≤ seqPage t := by
  simp only [seqPage, tilePage]
  omega

/-- SEQ.HALT_INFO where it showed no halt before. -/
theorem Ctl.rd_seqHaltInfo {c : Ctl} {t u code : Nat} (h : c.flag (seqPage t) F.SEQ_HALT_INFO_VALID = false) :
    (c.seqHaltInfo t u code false).rd (seqPage t + 0x54) = BitVec.ofNat 32 (0x80000000 + code * 0x10000 + u) := by
  rw [Ctl.seqHaltInfo, Ctl.rd_raise, if_neg (by omega), h]
  exact (Ctl.rd_wr ..).trans (if_pos rfl)

theorem seqHalted_seqHalt {a : Blk} {code : Nat} (hu : u < (b.tile t).queues.length)
    (hf : b.ctl.flag (seqPage t) F.SEQ_HALT_INFO_VALID = a.ctl.flag (seqPage t) F.SEQ_HALT_INFO_VALID) :
    SeqHalted a (b.seqHalt t u code) t u code := by
  refine ⟨?_, fun hv => ?_⟩
  · rw [Blk.seqHalt_tile, Tile.queue_setQueue_same _ _ hu]
  · rw [Blk.seqHalt, Blk.onCtl_ctl, Ctl.rd_seqHaltInfo]
    refine (Ctl.flag_congr (Ctl.rd_errHw _ _ _ (not_mem_errRegs ?_ ?_))).trans (hf.trans hv)
    · simp only [F.SEQ_HALT_INFO_VALID, List.mem_cons, List.not_mem_nil, or_false]
      omega
    · exact (seqPage_le t).trans (Nat.le_add_right ..)

theorem Blk.seqHalt_others {a : Blk} {code : Nat} (h : SameOthers a b t) : SameOthers a (b.seqHalt t u code) t := (h.onTile _).onCtl _

theorem Blk.takeHead_halts {code : Nat} (h : b.takeHead t u e = .ready d b') :
    SameOthers b (b'.seqHalt t u code) t ∧ SeqHalted b (b'.seqHalt t u code) t u code := by
  have hr := Blk.takeHead_headRead h
  exact ⟨Blk.seqHalt_others hr.others, seqHalted_seqHalt hr.there
    (((Blk.takeHead_checked h).page (tilePage_apart t (by decide)) ((seqPage_le t).trans' (by decide))).flag (by decide))⟩

theorem moverCheck_congr {c c' : Ctl} (hs : ∀ v, c'.tileStage v = c.tileStage v) (ho : ∀ v, c'.tileOff v = c.tileOff v) (t : Nat) (d : Desc) :
    moverCheck c' t d = moverCheck c t d := by
  simp only [moverCheck, Ctl.tileGood, hs, ho]
  rfl

end

section
variable {s : State} {t : TileId} {e : List Ecc} {d : Desc} {b' : Blk}

theorem moverDescriptor_runs (hl : s.blk.live t = true) (hd : s.blk.takeHead t 6 e = .ready d b') :
    Runs (.moverDescriptor t e) s (match moverCheck s.blk.ctl t d with
      | some code => b'.seqHalt t 6 code
      | none => b'.install t 6 d (mvSteps d)) := by
  have hc := Blk.takeHead_checked hd
  show execMoverDescriptor t e s = _
  simp only [execMoverDescriptor, State.on_eq, hl, hd, ← moverCheck_congr hc.tileStage hc.quiet.tileOff]
  cases moverCheck b'.ctl t d <;> rfl

theorem receiverDescriptor_runs (hl : s.blk.live t = true) (hd : s.blk.takeHead t 7 e = .ready d b') :
    Runs (.receiverDescriptor t e) s (match receiverCheck t d with
      | some code => b'.seqHalt t 7 code
      | none => b'.install t 7 d (rvSteps d)) := by
  show execReceiverDescriptor t e s = _
  simp only [execReceiverDescriptor, State.on_eq, hl, hd]
  cases receiverCheck t d <;> rfl

end

/-! ### What the mover reads (06 R143, R150) -/

/-- Two blocks show the units of tile `t` the same scratchpad. -/
structure Blk.SameSpd (t : Nat) (a b : Blk) : Prop where
  tile : b.tile t = a.tile t
  cold : b.ctl.flag (spdPage t) F.SPD_CTRL_COLD_POISON = a.ctl.flag (spdPage t) F.SPD_CTRL_COLD_POISON

theorem coldPoison_not_counted (t : Nat) : spdPage t + F.SPD_CTRL_COLD_POISON.off ∉ countRegs t := by
  simp only [countRegs, errRegs, F.SPD_CTRL_COLD_POISON, spdPage, tilePage, devPage, logPage, List.mem_append, List.mem_cons, List.not_mem_nil,
    or_false]
  omega

section
variable {a b c : Blk} {t : Nat}

theorem Ctl.Checked.cold {c d : Ctl} (h : c.Checked t d) :
    d.flag (spdPage t) F.SPD_CTRL_COLD_POISON = c.flag (spdPage t) F.SPD_CTRL_COLD_POISON :=
  Ctl.flag_congr (h.rd _ (coldPoison_not_counted t))

/-- `b` follows from `a` by reads of tile `t`'s scratchpad: what `Streamed` says of its tiles, and checks counted. -/
structure Blk.ReadBy (t : Nat) (a b : Blk) : Prop where
  streamed : a.Streamed t b
  checked : a.ctl.Checked t b.ctl

theorem Blk.ReadBy.refl : a.ReadBy t a := ⟨.refl, .refl ..⟩
theorem Blk.ReadBy.trans (h : a.ReadBy t b) (g : b.ReadBy t c) : a.ReadBy t c := ⟨h.streamed.trans g.streamed, h.checked.trans g.checked⟩

theorem Blk.spRead_readBy (b : Blk) (t n m : Nat) (e : List Ecc) : b.ReadBy t (b.spRead t n m e).2 := by
  refine ⟨⟨(b.spRead_tagsKept t n m e).1, ?_⟩, Ctl.checked_counts ..⟩
  obtain ⟨c, l, -, hb⟩ := b.spRead_eq t n m e
  rw [hb, Blk.setTile_tile_same]
  rfl

theorem Blk.stagedRead_readBy (b : Blk) (t u ser n m : Nat) (e : List Ecc) : b.ReadBy t (b.stagedRead t u ser n m e).blk := by
  rw [Blk.stagedRead]
  split_ifs
  · exact .refl
  · exact List.foldlRecOn (motive := fun f : Fetched => b.ReadBy t f.blk) _ _ .refl
      fun f hf i _ => hf.trans ⟨f.blk.stagedPart_streamed t u ser _ _ _ _, Ctl.checked_counts ..⟩

theorem Blk.readPieces_readBy (t : Nat) (l : List (Nat × Nat)) (b : Blk) (e : List Ecc) : b.ReadBy t (b.readPieces t e l).2 := by
  induction l generalizing b e with
  | nil => exact .refl
  | cons x l ih => exact (b.spRead_readBy t x.1 x.2 e).trans (ih ..)

theorem Blk.mvData_readBy (b : Blk) (t : Nat) (d : Desc) (i : Nat) (e : List Ecc) : b.ReadBy t (b.mvData t d i e).2 := by
  rw [Blk.mvData]
  split_ifs
  · exact b.readPieces_readBy ..
  · exact b.stagedRead_readBy ..

theorem Blk.SameSpd.spRead (h : a.SameSpd t b) (n m : Nat) (e : List Ecc) :
    (b.spRead t n m e).1 = (a.spRead t n m e).1 ∧ (a.spRead t n m e).2.SameSpd t (b.spRead t n m e).2 := by
  have hc (x : Blk) : (x.spRead t n m e).2.ctl.flag (spdPage t) F.SPD_CTRL_COLD_POISON = x.ctl.flag (spdPage t) F.SPD_CTRL_COLD_POISON :=
    (x.spRead_readBy t n m e).checked.cold
  refine ⟨?_, ?_, by rw [hc, hc, h.cold]⟩
  · rw [Blk.spRead, Blk.spRead, h.tile, h.cold]
  · rw [Blk.spRead, Blk.spRead, Blk.setTile_tile_same, Blk.setTile_tile_same, h.tile]

theorem Blk.SameSpd.readPieces (l : List (Nat × Nat)) (h : a.SameSpd t b) (e : List Ecc) :
    (b.readPieces t e l).1 = (a.readPieces t e l).1 := by
  induction l generalizing a b e with
  | nil => rfl
  | cons x l ih =>
    obtain ⟨h1, h2⟩ := h.spRead x.1 x.2 e
    exact congrArg₂ Run.append h1 (ih h2 _)

/-- Two staged reads that show the same so far. -/
structure Fetched.Same (t : Nat) (f g : Fetched) : Prop where
  run : g.run = f.run
  rest : g.rest = f.rest
  blk : f.blk.SameSpd t g.blk

theorem Blk.SameSpd.stagedPart (h : a.SameSpd t b) (u ser row lo hi : Nat) (e : List Ecc) :
    (a.stagedPart t u ser row lo hi e).Same t (b.stagedPart t u ser row lo hi e) := by
  have hc (x : Blk) : (x.stagedPart t u ser row lo hi e).blk.ctl.flag (spdPage t) F.SPD_CTRL_COLD_POISON =
      x.ctl.flag (spdPage t) F.SPD_CTRL_COLD_POISON := (Ctl.checked_counts x.ctl t _ _).cold
  refine ⟨?_, ?_, ?_, by rw [hc, hc, h.cold]⟩
  · rw [Blk.stagedPart, Blk.stagedPart, h.tile, h.cold]
  · rw [Blk.stagedPart, Blk.stagedPart, h.tile]
  · rw [Blk.stagedPart, Blk.stagedPart, Blk.setTile_tile_same, Blk.setTile_tile_same, h.tile]

theorem Blk.SameSpd.stagedRead (h : a.SameSpd t b) (u ser n m : Nat) (e : List Ecc) :
    (b.stagedRead t u ser n m e).run = (a.stagedRead t u ser n m e).run := by
  have loop (l : List Nat) (f g : Fetched) (hfg : f.Same t g) (step : Fetched → Nat → Fetched)
      (hs : ∀ f g i, Fetched.Same t f g → (step f i).Same t (step g i)) : (l.foldl step f).Same t (l.foldl step g) := by
    induction l generalizing f g with
    | nil => exact hfg
    | cons i l ih => exact ih _ _ (hs f g i hfg)
  rw [Blk.stagedRead, Blk.stagedRead]
  split_ifs
  · rfl
  · refine (loop _ ⟨{}, e, a⟩ ⟨{}, e, b⟩ ⟨rfl, rfl, h⟩ _ fun f g i hfg => ?_).run
    have hp := hfg.blk.stagedPart u ser (n / 512 + i) (max n ((n / 512 + i) * 512)) (min (n + m) ((n / 512 + i) * 512 + 512)) f.rest
    rw [hfg.rest]
    exact ⟨congrArg₂ Run.append hfg.run hp.run, hp.rest, hp.blk⟩

theorem Blk.SameSpd.mvData (h : a.SameSpd t b) (d : Desc) (i : Nat) (e : List Ecc) : (b.mvData t d i e).1 = (a.mvData t d i e).1 := by
  rw [Blk.mvData, Blk.mvData]
  split_ifs
  · exact h.readPieces ..
  · exact h.stagedRead ..

end

end Sys2Proof.Machine
end

section
/-!
PROOF. The mover: its transfers sent (07 R163, R171, R173, R174, 10 R256).
-/
namespace Sys2Proof.Machine

/-! ### The tokens of a step (07 R163) -/

section
variable {c d : Ctl} {t : Nat}

theorem Ctl.mayIssue_congr (hq : c.Quiet d) (hs : ∀ s < 12, c.PageKept (stagePage s) d) (t : Nat) : d.mayIssue t = c.mayIssue t := by
  have hg : (c.tileStage t).all (fun s => d.flag (stagePage s) F.STAGE_GATE_G) =
      (c.tileStage t).all (fun s => c.flag (stagePage s) F.STAGE_GATE_G) := by
    cases h : c.tileStage t with
    | none => rfl
    | some s =>
      rw [Ctl.tileStage, Ctl.clusterStage] at h
      exact (hs s (List.mem_range.mp (List.mem_of_find?_eq_some h))).flag (by decide)
  rw [Ctl.mayIssue, Ctl.mayIssue, Ctl.tileStage_of_kept hs, hg, hq.clk]

theorem Ctl.tokensReady_congr (hq : c.Quiet d) (hs : ∀ s < 12, c.PageKept (stagePage s) d)
    (hch : ∀ n < 16, d.rd (seqPage t + 0xA0 + n * 4) = c.rd (seqPage t + 0xA0 + n * 4)) (h : Word) : d.tokensReady t h = c.tokensReady t h := by
  have hav : d.getN (seqPage t) F.SEQ_CH_STATE_AVAIL (hInCh h) = c.getN (seqPage t) F.SEQ_CH_STATE_AVAIL (hInCh h) :=
    congrArg (fun w => bits w 31 16) (hch _ (bits_lt h 27 24))
  have hsp : d.getN (seqPage t) F.SEQ_CH_STATE_SPACE (hOutCh h) = c.getN (seqPage t) F.SEQ_CH_STATE_SPACE (hOutCh h) :=
    congrArg (fun w => bits w 15 0) (hch _ (bits_lt h 23 20))
  rw [Ctl.tokensReady, Ctl.tokensReady, Ctl.mayIssue_congr hq hs, hav, hsp]

end

/-- The cycles the mover waited counted (07 R170). -/
def Ctl.stallCounted (c : Ctl) (t n m : Nat) : Ctl := (c.bump (seqPage t) F.SEQ_STALL_TRACK n).bump (seqPage t) F.SEQ_STALL_CREDIT m
def Blk.stallCounted (b : Blk) (t n m : Nat) : Blk := b.onCtl fun c => c.stallCounted t n m

theorem Ctl.stallCounted_quiet (c : Ctl) (t n m : Nat) : c.Quiet (c.stallCounted t n m) := (Ctl.Quiet.bump ..).trans (.bump ..)

theorem Ctl.stallCounted_page (c : Ctl) {p t : Nat} (n m : Nat) (hp : pageApart p (seqPage t)) : c.PageKept p (c.stallCounted t n m) :=
  Ctl.PageKept.trans (.bump hp (by decide) _) (.bump hp (by decide) _)

theorem Ctl.stallCounted_tokensReady (c : Ctl) (t n m : Nat) (h : Word) : (c.stallCounted t n m).tokensReady t h = c.tokensReady t h := by
  refine Ctl.tokensReady_congr (c.stallCounted_quiet t n m) (fun s hs => c.stallCounted_page n m (stagePage_apart hs)) (fun k hk => ?_) h
  rw [Ctl.stallCounted, Ctl.rd_bump_off, Ctl.rd_bump_off] <;> simp only [F.SEQ_STALL_TRACK, F.SEQ_STALL_CREDIT] <;> omega

theorem Blk.stallCounted_sameSpd (b : Blk) (t n m : Nat) : b.SameSpd t (b.stallCounted t n m) where
  tile := b.onCtl_tile _ t
  cold := by
    rw [Blk.stallCounted, Blk.onCtl_ctl]
    exact (b.ctl.stallCounted_page n m (tilePage_apart t (by decide))).flag (by decide)

/-! ### One step of the mover (07 R171, R173, R174, 10 R256, log 53) -/

/-- The bytes that a step of `d` sends. -/
def Desc.bytesOut (d : Desc) : Nat := if d.void then 0 else xbOf d

section
variable (b : Blk) (t : Nat) (d : Desc) (e : List Ecc)

/-- The destinations that grant too little for a step of `d`, and those of them not asked yet. -/
def Blk.mvMiss : List Nat := missingGrants (b.tile t) (mvDests b.ctl d) (creditUnits d.bytesOut)
def Blk.mvAsk : List Nat := (b.mvMiss t d).filter fun u => !(b.tile t).asked.contains u

/-- A request for credit. -/
def askMsg (d : Desc) (u : Nat) : Msg := { type := 0xA, dest := u, value := creditUnits d.bytesOut }

/-- Requests leave for the credit that a step of `d` lacks. -/
def Blk.mvRequest : Blk :=
  ((b.mvAsk t d).foldl (fun b u => b.onCtl fun c => c.sendMsg9 t (askMsg d u)) b).onTile t fun x => { x with asked := x.asked ++ b.mvAsk t d }

/-- What a step of `d` sends: its data, and the block once they are read. -/
def Blk.mvRead : Run × Blk := if d.void then ({}, b) else b.mvData t d d.issued e

/-- What the tile keeps of a step of `d` sent. -/
def Desc.sent (d : Desc) (dests : List Nat) : Track :=
  { ser := d.ser, step := d.issued, stream := mvStream d, seq := mvSeq d d.issued, dests := dests }

/-- The packet of a step of `d` with data `r`. -/
def Desc.pkt (d : Desc) (dests : List Nat) (r : Run) : Pkt :=
  { kind := 0, cls := mvClass d, void := d.void, dmode := mvDmode d, dest := dests.headD (mvDest d), seq := mvSeq d d.issued
    stream := mvStream d, rsen := mvRsen d, rslate := mvRslate d, mcLast := mvLast d, bytes := d.bytesOut, run := r }

/-- The tile once a step of `d` has left. -/
def Tile.mvSent (x : Tile) (d : Desc) (dests : List Nat) : Tile :=
  { x with asked := [], grants := spendGrants x.grants dests (creditUnits d.bytesOut), tracked := x.tracked ++ [d.sent dests] }

/-- A step of `d` leaves as a transfer. -/
def Blk.mvSend : Blk :=
  (((b.mvRead t d e).2.issue t 6 d).onTile t fun x => x.mvSent d (mvDests b.ctl d)).onCtl fun c =>
    (c.perf t 0x08 1).sendPkt t (d.pkt (mvDests b.ctl d) (b.mvRead t d e).1)

/-- The chunks of a step of `d`. -/
def Blk.mvChunks : List Chunk := chunksOf (b.mvData t d d.issued e).1 (xbOf d) (t, d.ser, d.issued)

/-- The tile once the chunks `l` of a step of `d` are in its injection buffer. -/
def Tile.mvInjected (x : Tile) (d : Desc) (l : List Chunk) : Tile :=
  { x with
    mix := { x.mix with inj := x.mix.inj ++ l }
    tracked := x.tracked ++ [{ ser := d.ser, step := d.issued, stream := mvStream d, seq := mvSeq d d.issued, chunks := l.length }] }

/-- A step of `d` of class 0 fills the injection buffer. -/
def Blk.mvInject : Blk :=
  (((b.mvData t d d.issued e).2.issue t 6 d).onCtl fun c => c.perf t 0x08 1).onTile t fun x => x.mvInjected d (b.mvChunks t d e)

/-- A void step of class 0 has nothing to send, and completes. -/
def Blk.mvVoid : Blk := ((b.issue t 6 d).onCtl fun c => c.perf t 0x08 1).stepDone t 6 d.ser

/-- One step of the mover's head `d`, its tokens and a tracking entry there. -/
def Blk.mvStep : Blk :=
  if mvClass d = 0 then
    if d.void then b.mvVoid t d
    else if 256 < (b.tile t).mix.inj.length + (xbOf d + 63) / 64 then b else b.mvInject t d e
  else if !(b.mvMiss t d).isEmpty then b.mvRequest t d else b.mvSend t d e

end

section
variable {s : State} {t : TileId} {d : Desc} {e : List Ecc} {n m : Nat}

theorem moverTransferSend_runs (hl : s.blk.live t = true) (hd : s.blk.current t 6 = some d) (ht : s.blk.ctl.tokensReady t d.hdr = true)
    (hx : (s.blk.tile t).tracked.length < 1024) :
    Runs (.moverTransferSend t n m e) s ((s.blk.stallCounted t n m).mvStep t d e) := by
  have ht' : (s.blk.stallCounted t n m).ctl.tokensReady t d.hdr = true := (Ctl.stallCounted_tokensReady ..).trans ht
  have hno : ¬ (!(s.blk.stallCounted t n m).ctl.tokensReady t d.hdr || decide (1024 ≤ ((s.blk.stallCounted t n m).tile t).tracked.length)) = true := by
    rw [ht', (s.blk.stallCounted_sameSpd t n m).tile, Bool.not_true, Bool.false_or, decide_eq_true_eq]
    exact hx.not_ge
  show execMoverTransferSend t n m e s = _
  rw [execMoverTransferSend, State.on_eq]
  have hfold : (s.blk.onCtl fun c => (c.bump (seqPage t) F.SEQ_STALL_TRACK n).bump (seqPage t) F.SEQ_STALL_CREDIT m) =
    s.blk.stallCounted t n m := rfl
  simp only [hl, hd, hfold]
  refine congrArg (fun b : Blk => Host.Outcome.next { s with blk := b }) ((if_neg hno).trans ?_)
  generalize s.blk.stallCounted t n m = b
  rw [Blk.mvStep]
  by_cases hc : mvClass d = 0
  · rw [if_pos hc, if_pos hc]
    rfl
  · rw [if_neg hc, if_neg hc]
    simp only [Blk.mvMiss, Blk.mvRequest, Blk.mvAsk, askMsg, Blk.mvSend, Blk.mvRead, Desc.bytesOut, Desc.pkt, Tile.mvSent, Desc.sent]
    rfl

/-! ### What a step leaves (07 R171, R173, R174) -/

theorem mvDests_stallCounted (c : Ctl) (t n m : Nat) (d : Desc) : mvDests (c.stallCounted t n m) d = mvDests c d :=
  List.filter_congr fun u _ => congrArg (!·) ((c.stallCounted_quiet t n m).tileOff u)

theorem Blk.stallCounted_mvMiss (b : Blk) (t n m : Nat) (d : Desc) : (b.stallCounted t n m).mvMiss t d = b.mvMiss t d := by
  rw [Blk.mvMiss, (b.stallCounted_sameSpd t n m).tile, Blk.stallCounted, Blk.onCtl_ctl, mvDests_stallCounted, Blk.mvMiss]

theorem Blk.stallCounted_mvAsk (b : Blk) (t n m : Nat) (d : Desc) : (b.stallCounted t n m).mvAsk t d = b.mvAsk t d := by
  rw [Blk.mvAsk, Blk.stallCounted_mvMiss, (b.stallCounted_sameSpd t n m).tile, Blk.mvAsk]

theorem Blk.stallCounted_net (b : Blk) (t n m : Nat) : (b.stallCounted t n m).ctl.net = b.ctl.net := (b.ctl.stallCounted_quiet t n m).net

theorem Blk.stallCounted_others (b : Blk) (t n m : Nat) : SameOthers b (b.stallCounted t n m) t := SameOthers.onCtl SameOthers.refl _

/-- The items `l` put on the mesh. -/
def Ctl.sends (c : Ctl) (l : List Flight) : Ctl := { c with net := c.net ++ l }

theorem Ctl.sends_nil (c : Ctl) : c.sends [] = c := by rw [Ctl.sends, List.append_nil]
theorem Ctl.sends_sends (c : Ctl) (l k : List Flight) : (c.sends l).sends k = c.sends (l ++ k) := by
  simp only [Ctl.sends, List.append_assoc]

/-- Messages that a tile sends one after another. -/
theorem foldl_sendMsg9 {α : Type} (t : Nat) (g : α → Msg) (l : List α) (b : Blk) :
    l.foldl (fun b u => b.onCtl fun c => c.sendMsg9 t (g u)) b = b.onCtl fun c => c.sends (l.map fun u => msgOf t (g u)) := by
  induction l generalizing b with
  | nil => simp only [List.map_nil, List.foldl_nil, Ctl.sends_nil]; rfl
  | cons u l ih =>
    rw [List.foldl_cons, ih, List.map_cons, ← List.singleton_append]
    simp only [← Ctl.sends_sends]
    rfl

theorem Blk.stallCounted_sameStore (b : Blk) (t n m : Nat) : SameStore b (b.stallCounted t n m) :=
  ⟨b.onCtl_tiles _, b.onCtl_hbm _⟩

theorem moverTransferSend_asks (hl : s.blk.live t = true) (hd : s.blk.current t 6 = some d) (ht : s.blk.ctl.tokensReady t d.hdr = true)
    (hx : (s.blk.tile t).tracked.length < 1024) (hc : mvClass d ≠ 0) (hm : s.blk.mvMiss t d ≠ []) :
    ∃ b, Runs (.moverTransferSend t n m e) s b ∧ SameOthers s.blk b t ∧
      b.tile t = { s.blk.tile t with asked := (s.blk.tile t).asked ++ s.blk.mvAsk t d } ∧
      b.ctl.net = s.blk.ctl.net ++ (s.blk.mvAsk t d).map fun u => msgOf t (askMsg d u) := by
  have hrun := moverTransferSend_runs (e := e) (n := n) (m := m) hl hd ht hx
  rw [Blk.mvStep, if_neg hc, if_pos (by simpa [Blk.stallCounted_mvMiss] using hm), Blk.mvRequest, foldl_sendMsg9,
    Blk.stallCounted_mvAsk] at hrun
  refine ⟨_, hrun, SameOthers.onTile (SameOthers.onCtl (s.blk.stallCounted_others t n m) _) _, ?_, ?_⟩
  · rw [Blk.onTile_tile_same, Blk.onCtl_tile, (s.blk.stallCounted_sameSpd t n m).tile]
  · rw [Blk.onTile_ctl, Blk.onCtl_ctl]
    show (s.blk.stallCounted t n m).ctl.net ++ _ = _
    rw [Blk.stallCounted_net]

theorem Tile.tracked_of_bare {x y : Tile} (h : y.bare = x.bare) : y.tracked = x.tracked := (congrArg Tile.tracked h :)
theorem Tile.grants_of_bare {x y : Tile} (h : y.bare = x.bare) : y.grants = x.grants := (congrArg Tile.grants h :)
theorem Tile.mix_of_bare {x y : Tile} (h : y.bare = x.bare) : y.mix = x.mix := (congrArg Tile.mix h :)

/-- The data of a step read, the mover's step issues. -/
theorem Blk.ReadBy.issue {a b : Blk} {t : Nat} (h : a.ReadBy t b) (d : Desc) : SameOthers a (b.issue t 6 d) t ∧
    ((b.issue t 6 d).tile t).bare = (a.tile t).bare ∧ a.ctl.Quiet (b.issue t 6 d).ctl :=
  ⟨h.streamed.others.trans (b.issue_stepped t 6 d).others, (b.issue_stepped t 6 d).bare.trans h.streamed.bare,
    h.checked.quiet.trans (b.issue_quiet t 6 d)⟩

theorem Blk.mvRead_readBy (b : Blk) (t : Nat) (d : Desc) (e : List Ecc) : b.ReadBy t (b.mvRead t d e).2 := by
  rw [Blk.mvRead]
  split_ifs
  · exact .refl
  · exact b.mvData_readBy ..

theorem Blk.stallCounted_mvRead (b : Blk) (t n m : Nat) (d : Desc) (e : List Ecc) :
    ((b.stallCounted t n m).mvRead t d e).1 = if d.void then {} else (b.mvData t d d.issued e).1 := by
  rw [Blk.mvRead]
  split_ifs
  · rfl
  · exact (b.stallCounted_sameSpd t n m).mvData d d.issued e

theorem moverTransferSend_sends (hl : s.blk.live t = true) (hd : s.blk.current t 6 = some d) (ht : s.blk.ctl.tokensReady t d.hdr = true)
    (hx : (s.blk.tile t).tracked.length < 1024) (hc : mvClass d ≠ 0) (hm : s.blk.mvMiss t d = []) :
    ∃ b, Runs (.moverTransferSend t n m e) s b ∧ SameOthers s.blk b t ∧ (b.tile t).sp.mem = (s.blk.tile t).sp.mem ∧ (b.tile t).asked = [] ∧
      (b.tile t).grants = spendGrants (s.blk.tile t).grants (mvDests s.blk.ctl d) (creditUnits d.bytesOut) ∧
      (b.tile t).tracked = (s.blk.tile t).tracked ++ [d.sent (mvDests s.blk.ctl d)] ∧
      b.ctl.net = s.blk.ctl.net ++
        [pktOf t (d.pkt (mvDests s.blk.ctl d) (if d.void then {} else (s.blk.mvData t d d.issued e).1))] := by
  have hrun := moverTransferSend_runs (e := e) (n := n) (m := m) hl hd ht hx
  have hdests : mvDests (s.blk.stallCounted t n m).ctl d = mvDests s.blk.ctl d := mvDests_stallCounted ..
  rw [Blk.mvStep, if_neg hc, if_neg (by simp [Blk.stallCounted_mvMiss, hm]), Blk.mvSend, hdests, Blk.stallCounted_mvRead] at hrun
  obtain ⟨ho, hb, hq⟩ := ((s.blk.stallCounted t n m).mvRead_readBy t d e).issue d
  rw [(s.blk.stallCounted_sameSpd t n m).tile] at hb
  refine ⟨_, hrun, SameOthers.onCtl (SameOthers.onTile ((s.blk.stallCounted_others t n m).trans ho) _) _, ?_, ?_, ?_, ?_, ?_⟩
  · rw [Blk.onCtl_tile, Blk.onTile_tile_same]
    exact (Tile.mem_of_bare hb :)
  · rw [Blk.onCtl_tile, Blk.onTile_tile_same]
    rfl
  · rw [Blk.onCtl_tile, Blk.onTile_tile_same, Tile.mvSent, Tile.grants_of_bare hb]
  · rw [Blk.onCtl_tile, Blk.onTile_tile_same, Tile.mvSent, Tile.tracked_of_bare hb]
  · rw [Blk.onCtl_ctl, Blk.onTile_ctl]
    show (Ctl.perf _ t 0x08 1).net ++ _ = _
    rw [Ctl.perf_net, hq.net, Blk.stallCounted_net]
    rfl

theorem moverTransferSend_void (hl : s.blk.live t = true) (hd : s.blk.current t 6 = some d) (ht : s.blk.ctl.tokensReady t d.hdr = true)
    (hx : (s.blk.tile t).tracked.length < 1024) (hc : mvClass d = 0) (hv : d.void = true) :
    ∃ b, Runs (.moverTransferSend t n m e) s b ∧ SameOthers s.blk b t ∧ b.ctl.net = s.blk.ctl.net ∧
      (b.tile t).sansSteps = (s.blk.tile t).sansSteps := by
  have hrun := moverTransferSend_runs (e := e) (n := n) (m := m) hl hd ht hx
  rw [Blk.mvStep, if_pos hc, if_pos hv, Blk.mvVoid] at hrun
  have hi := (s.blk.stallCounted t n m).issue_stepped t 6 d
  have hs := (((s.blk.stallCounted t n m).issue t 6 d).onCtl fun c => c.perf t 0x08 1).stepDone_stepped t 6 d.ser
  refine ⟨_, hrun, ((s.blk.stallCounted_others t n m).trans (hi.others.onCtl _)).trans hs.others, ?_, ?_⟩
  · rw [(Blk.stepDone_quiet ..).net, Blk.onCtl_ctl, Ctl.perf_net, (Blk.issue_quiet ..).net, Blk.stallCounted_net]
  · rw [hs.sans, Blk.onCtl_tile, hi.sans, (s.blk.stallCounted_sameSpd t n m).tile]

theorem chunksOf_length (r : Run) (xb : Nat) (f : Nat × Nat × Nat) : (chunksOf r xb f).length = (xb + 63) / 64 := by
  rw [chunksOf, List.length_map, List.length_range]

theorem chunksOf_from {r : Run} {xb : Nat} {f : Nat × Nat × Nat} {h : Chunk} (hh : h ∈ chunksOf r xb f) : h.from_ = [f] := by
  obtain ⟨i, -, rfl⟩ := List.mem_map.mp hh
  rfl

theorem moverTransferSend_injects (hl : s.blk.live t = true) (hd : s.blk.current t 6 = some d) (ht : s.blk.ctl.tokensReady t d.hdr = true)
    (hx : (s.blk.tile t).tracked.length < 1024) (hc : mvClass d = 0) (hv : d.void = false)
    (hr : (s.blk.tile t).mix.inj.length + (xbOf d + 63) / 64 ≤ 256) : ∃ b, Runs (.moverTransferSend t n m e) s b ∧ SameOthers s.blk b t ∧
      b.ctl.net = s.blk.ctl.net ∧ (b.tile t).mix.inj = (s.blk.tile t).mix.inj ++ s.blk.mvChunks t d e := by
  have hrun := moverTransferSend_runs (e := e) (n := n) (m := m) hl hd ht hx
  have htile := (s.blk.stallCounted_sameSpd t n m).tile
  have hch : (s.blk.stallCounted t n m).mvChunks t d e = s.blk.mvChunks t d e := by
    rw [Blk.mvChunks, (s.blk.stallCounted_sameSpd t n m).mvData, Blk.mvChunks]
  rw [Blk.mvStep, if_pos hc, if_neg (Bool.eq_false_iff.mp hv), htile, if_neg hr.not_gt, Blk.mvInject, hch] at hrun
  obtain ⟨ho, hb, hq⟩ := ((s.blk.stallCounted t n m).mvData_readBy t d d.issued e).issue d
  rw [htile] at hb
  refine ⟨_, hrun, SameOthers.onTile (SameOthers.onCtl ((s.blk.stallCounted_others t n m).trans ho) _) _, ?_, ?_⟩
  · rw [Blk.onTile_ctl, Blk.onCtl_ctl, Ctl.perf_net, hq.net, Blk.stallCounted_net]
  · rw [Blk.onTile_tile_same, Blk.onCtl_tile, Tile.mvInjected, Tile.mix_of_bare hb]

theorem moverTransferSend_full (hl : s.blk.live t = true) (hd : s.blk.current t 6 = some d) (ht : s.blk.ctl.tokensReady t d.hdr = true)
    (hx : (s.blk.tile t).tracked.length < 1024) (hc : mvClass d = 0) (hv : d.void = false)
    (hr : 256 < (s.blk.tile t).mix.inj.length + (xbOf d + 63) / 64) : ∃ b, Runs (.moverTransferSend t n m e) s b ∧ SameStore s.blk b := by
  have hrun := moverTransferSend_runs (e := e) (n := n) (m := m) hl hd ht hx
  rw [Blk.mvStep, if_pos hc, if_neg (Bool.eq_false_iff.mp hv), (s.blk.stallCounted_sameSpd t n m).tile, if_pos hr] at hrun
  exact ⟨_, hrun, s.blk.stallCounted_sameStore t n m⟩

end

/-! ### Credit (07 R173, 16 R414) -/

section
variable {s : State} {i u : Nat} {g : Msg}

theorem creditRequest_runs (hi : s.blk.ctl.atTile i = some (u, .msg g)) (hg : g.type = 0xA) : Runs (.creditRequest i) s
    (if s.blk.live u then ((s.blk.onCtl fun c => c.takeNet i).onTile u fun x => { x with creditReqs := x.creditReqs ++ [⟨g.src, g.value⟩] }).grant u
      else (s.blk.onCtl fun c => c.takeNet i).onCtl fun c => c.sendMsg9 u { type := 0xB, dest := g.src, value := g.value }) := by
  show execCreditRequest i s = _
  rw [execCreditRequest, State.on_eq]
  simp only [hi, hg, if_true]
  rfl

/-- The one request that stands in a tile's list, granted or not. -/
theorem Blk.grant_one {b : Blk} {r : CreditReq} (h : (b.tile u).creditReqs = [r]) : b.grant u =
    if (b.tile u).granted + r.units ≤ 256 then
      (b.setTile u { b.tile u with creditReqs := [], granted := (b.tile u).granted + r.units }).onCtl fun c =>
        c.sendMsg9 u { type := 0xB, dest := r.src, value := r.units }
    else b := by
  rw [Blk.grant, h, List.length_singleton, Blk.grantLoop]
  simp only [h]
  rfl

theorem creditRequest_live (hi : s.blk.ctl.atTile i = some (u, .msg g)) (hg : g.type = 0xA) (hl : s.blk.live u = true)
    (hr : (s.blk.tile u).creditReqs = []) :
    ((s.blk.tile u).granted + g.value ≤ 256 → ∃ b, Runs (.creditRequest i) s b ∧ SameOthers s.blk b u ∧
      b.tile u = { s.blk.tile u with granted := (s.blk.tile u).granted + g.value } ∧
      b.ctl.net = s.blk.ctl.net.eraseIdx i ++ [msgOf u { type := 0xB, dest := g.src, value := g.value }]) ∧
    (256 < (s.blk.tile u).granted + g.value → ∃ b, Runs (.creditRequest i) s b ∧ SameOthers s.blk b u ∧
      b.tile u = { s.blk.tile u with creditReqs := [⟨g.src, g.value⟩] } ∧ b.ctl = s.blk.ctl.takeNet i) := by
  have hrun := creditRequest_runs hi hg
  have htile := (s.blk.onCtl fun c => c.takeNet i).onTile_tile_same u fun x => { x with creditReqs := x.creditReqs ++ [⟨g.src, g.value⟩] }
  rw [Blk.onCtl_tile, hr, List.nil_append] at htile
  rw [if_pos hl, Blk.grant_one (congrArg Tile.creditReqs htile), htile] at hrun
  refine ⟨fun h => ?_, fun h => ?_⟩
  · rw [if_pos h] at hrun
    refine ⟨_, hrun, SameOthers.onCtl (SameOthers.setTile (SameOthers.onTile (SameOthers.onCtl SameOthers.refl _) _) _) _, ?_, rfl⟩
    rw [Blk.onCtl_tile, Blk.setTile_tile_same, ← hr]
  · rw [if_neg h.not_ge] at hrun
    exact ⟨_, hrun, SameOthers.onTile (SameOthers.onCtl SameOthers.refl _) _, htile, rfl⟩

theorem creditGrant_takes (hi : s.blk.ctl.atTile i = some (u, .msg g)) (hg : g.type = 0xB) (hl : s.blk.live u = true)
    (hn : ∀ h ∈ (s.blk.tile u).grants, h.1 ≠ g.src) : ∃ b, Runs (.creditGrant i) s b ∧ SameOthers s.blk b u ∧ b.ctl = s.blk.ctl.takeNet i ∧
      (b.tile u).grants = (s.blk.tile u).grants ++ [(g.src, g.value)] ∧ g.src ∉ (b.tile u).asked := by
  have hl' : (s.blk.onCtl fun c => c.takeNet i).live u = true := hl
  have hany : ((s.blk.tile u).grants.any fun h => h.1 == g.src) = false := List.any_eq_false.mpr fun h hh => by simpa using hn h hh
  have hrun : Runs (.creditGrant i) s ((s.blk.onCtl fun c => c.takeNet i).onTile u fun x => { x with
      asked := x.asked.filter (· != g.src)
      grants := if x.grants.any fun h => h.1 == g.src then x.grants.map fun h => if h.1 = g.src then (h.1, h.2 + g.value) else h
        else x.grants ++ [(g.src, g.value)] }) := by
    show execCreditGrant i s = _
    rw [execCreditGrant, State.on_eq]
    simp only [hi, hg, if_true, hl']
  refine ⟨_, hrun, SameOthers.onTile (SameOthers.onCtl SameOthers.refl _) _, rfl, ?_, ?_⟩ <;> rw [Blk.onTile_tile_same, Blk.onCtl_tile]
  · exact if_neg (Bool.eq_false_iff.mp hany)
  · simp

end

end Sys2Proof.Machine
end

section
/-!
PROOF. Transfers received and acknowledged (06 R153, 07 R172 to R176, R183, 16 R414).
-/
namespace Sys2Proof.Machine

/-! ### Slates of a tile (07 R176, R178) -/

theorem slatePage_le (t : Nat) : 0x12000 ≤ slatePage t := by
  simp only [slatePage, tilePage]
  omega

theorem Blk.slateReach_ctl (b : Blk) (t n : Nat) : (b.slateReach t n).ctl = b.ctl.putN (slatePage t) F.SLATE_CTRL_REACHED n 1 := rfl

theorem Ctl.reached_iff (c : Ctl) (t n : Nat) : c.reached t n = true ↔ c.getN (slatePage t) F.SLATE_CTRL_REACHED n ≠ 0 := by
  rw [Ctl.reached, bne_iff_ne]

section
variable {t n : Nat}

/-- The count of a slate raised, before it is judged. -/
def Ctl.slateCounted (c : Ctl) (t n v : Nat) : Ctl :=
  c.putN (slatePage t) F.SLATE_COUNT_COUNT n (c.getN (slatePage t) F.SLATE_COUNT_COUNT n + v)

theorem Ctl.slateCounted_count (c : Ctl) (t n v : Nat) : (c.slateCounted t n v).getN (slatePage t) F.SLATE_COUNT_COUNT n =
    (c.getN (slatePage t) F.SLATE_COUNT_COUNT n + v) % 2 ^ 32 := Ctl.getN_putN_same _ _ _ _ _ (by decide)

/-- The other registers of a slate. -/
theorem Ctl.slateCounted_other (c : Ctl) (t n v : Nat) {f : Fld} (ho : f.off ≠ F.SLATE_COUNT_COUNT.off) (hs : f.stride = 16) :
    (c.slateCounted t n v).getN (slatePage t) f n = c.getN (slatePage t) f n :=
  Ctl.getN_putN_other _ _ _ _ _ _ _ _ (by rw [hs]; simp only [F.SLATE_COUNT_COUNT] at ho ⊢; omega)

theorem Blk.slateAdd_ctl (b : Blk) (t n v : Nat) : (b.slateAdd t n v).ctl =
    if b.ctl.getN (slatePage t) F.SLATE_CTRL_REACHED n = 0 ∧
        slateMet ((b.ctl.getN (slatePage t) F.SLATE_COUNT_COUNT n + v) % 2 ^ 32) (b.ctl.getN (slatePage t) F.SLATE_THRESH_THRESH n) then
      (b.ctl.slateCounted t n v).putN (slatePage t) F.SLATE_CTRL_REACHED n 1
    else b.ctl.slateCounted t n v := by
  have hr := b.ctl.slateCounted_other t n v (f := F.SLATE_CTRL_REACHED) (by decide) rfl
  have hm := b.ctl.slateCounted_other t n v (f := F.SLATE_THRESH_THRESH) (by decide) rfl
  rw [← hr, ← hm]
  simp only [Blk.slateAdd, apply_ite Blk.ctl]
  rfl

theorem Blk.slateAdd_added (b : Blk) (t n v : Nat) : b.ctl.SlateAdded (b.slateAdd t n v).ctl t n v := by
  have hcount := b.ctl.slateCounted_count t n v
  have hr := b.ctl.slateCounted_other t n v (f := F.SLATE_CTRL_REACHED) (by decide) rfl
  rw [Ctl.SlateAdded, Ctl.reached_iff, Ctl.reached_iff, Blk.slateAdd_ctl]
  split_ifs with h
  · refine ⟨?_, ?_⟩
    · rw [Ctl.getN_putN_other _ _ _ _ _ _ _ _ (by simp only [F.SLATE_COUNT_COUNT, F.SLATE_CTRL_REACHED]; omega), hcount]
    · rw [Ctl.getN_putN_same _ _ _ _ _ (by decide)]
      exact ⟨fun _ => .inr h.2, fun _ => by decide⟩
  · refine ⟨hcount, ?_⟩
    rw [hr]
    rw [not_and] at h
    exact ⟨.inl, fun g => g.elim id fun hm => fun h0 => h h0 hm⟩

/-- An increment among changes that leave the SLATE page alone. -/
theorem Ctl.SlateAdded.of_kept {c c' d' d : Ctl} {v : Nat} (hn : n < 16) (h : c.PageKept (slatePage t) c') (g : c'.SlateAdded d' t n v)
    (k : d'.PageKept (slatePage t) d) : c.SlateAdded d t n v := by
  have field {x y : Ctl} (h : x.PageKept (slatePage t) y) {f : Fld} (ho : f.off < 0x50) (hs : f.stride = 16) :
      y.getN (slatePage t) f n = x.getN (slatePage t) f n := h.getN (by rw [hs]; omega)
  rw [Ctl.SlateAdded, Ctl.reached_iff, Ctl.reached_iff] at g ⊢
  rw [field h (by decide) rfl, field h (by decide) rfl, field h (by decide) rfl] at g
  rwa [field k (by decide) rfl, field k (by decide) rfl]

end

/-! ### A transfer arrives (07 R173, R185, 16 R414) -/

section
variable {s : State} {i t : Nat} {p : Pkt}

/-- The transfer that the packet `p` brings, at `now` of its tile's reel. -/
def Pkt.xfer (p : Pkt) (now : Nat) : Xfer :=
  { src := p.src, stream := p.stream, seq := p.seq, void := p.void, rsen := p.rsen, rslate := p.rslate, run := p.run, arrival := now % 2 ^ 32 }

theorem transferArrive_runs (hi : s.blk.ctl.atTile i = some (t, .pkt p)) (hk : p.kind = 0) (hs : p.src ≠ 2047) : Runs (.transferArrive i) s
    (if s.blk.live t then (s.blk.onCtl fun c => c.takeNet i).onTile t fun x => { x with recvQ := x.recvQ ++ [p.xfer (s.blk.tileReel t)] }
      else (s.blk.onCtl fun c => c.takeNet i).onCtl fun c => c.sendAck t p.src (ackArg p.stream p.seq) true) := by
  have hrim : (p.src == 2047) = false := beq_eq_false_iff_ne.mpr hs
  show execTransferArrive i s = _
  rw [execTransferArrive, State.on_eq]
  simp only [hi, hk, hrim, if_true, Bool.false_and, Bool.false_eq_true, if_false, Nat.add_zero]
  rfl

theorem transferArrive_joins (hi : s.blk.ctl.atTile i = some (t, .pkt p)) (hk : p.kind = 0) (hs : p.src ≠ 2047) (hl : s.blk.live t = true) :
    ∃ b, Runs (.transferArrive i) s b ∧ SameOthers s.blk b t ∧ b.ctl = s.blk.ctl.takeNet i ∧ (b.tile t).sp = (s.blk.tile t).sp ∧
      (b.tile t).recvQ = (s.blk.tile t).recvQ ++ [p.xfer (s.blk.tileReel t)] := by
  have hrun := transferArrive_runs hi hk hs
  rw [if_pos hl] at hrun
  refine ⟨_, hrun, SameOthers.onTile (SameOthers.onCtl SameOthers.refl _) _, rfl, ?_, ?_⟩ <;> rw [Blk.onTile_tile_same, Blk.onCtl_tile]

theorem transferArrive_refused (hi : s.blk.ctl.atTile i = some (t, .pkt p)) (hk : p.kind = 0) (hs : p.src ≠ 2047) (hl : s.blk.live t = false)
    (hd : p.src < 1920) : ∃ b, Runs (.transferArrive i) s b ∧ SameStore s.blk b ∧ b.ctl.net = s.blk.ctl.net.eraseIdx i ++
      [msgOf t { type := 9, dest := p.src, arg := p.stream * 2 ^ 16 + p.seq, value := 1 }] := by
  have hrun := transferArrive_runs hi hk hs
  rw [if_neg (Bool.eq_false_iff.mp hl)] at hrun
  refine ⟨_, hrun, ⟨rfl, rfl⟩, ?_⟩
  rw [Blk.onCtl_ctl, Ctl.sendAck, if_neg (by omega)]
  rfl

end

/-! ### A transfer written (07 R172, R173, R175) -/

/-- A tile but for its scratchpad. -/
def Tile.sansSp (x : Tile) : Tile := { x with sp := {} }

/-- `b` follows from `a` by writes of tile `t`'s scratchpad: nothing else of the tiles changes, and the checks of the words written in part are
counted. -/
structure Blk.WrittenBy (t : Nat) (a b : Blk) : Prop where
  others : SameOthers a b t
  sans : (b.tile t).sansSp = (a.tile t).sansSp
  checked : a.ctl.Checked t b.ctl

section
variable {a b c : Blk} {t : Nat}

theorem Blk.WrittenBy.refl : a.WrittenBy t a := ⟨.refl, rfl, .refl ..⟩
theorem Blk.WrittenBy.trans (h : a.WrittenBy t b) (g : b.WrittenBy t c) : a.WrittenBy t c :=
  ⟨h.others.trans g.others, g.sans.trans h.sans, h.checked.trans g.checked⟩

theorem Blk.spStore_writtenBy (b : Blk) (t m : Nat) (r : Run) (e : List Ecc) : b.WrittenBy t (b.spStore t m r e) := by
  refine ⟨(b.spStore_tile t m r e).1, ?_, .countEccs .., fun _ ha => Ctl.rd_countEccs _ _ _ ha⟩
  rw [Blk.spStore, Blk.setTile_tile_same]
  rfl

theorem Blk.writePieces_writtenBy (t : Nat) (l : List (Nat × Nat)) (b : Blk) (r : Run) (e : List Ecc) :
    b.WrittenBy t (b.writePieces t r e l) := by
  induction l generalizing b r e with
  | nil => exact .refl
  | cons x l ih => exact (b.spStore_writtenBy ..).trans (ih ..)

/-- What writes make of a scratchpad depends on its contents alone. -/
theorem Blk.writePieces_mem (t : Nat) (l : List (Nat × Nat)) (a b : Blk) (h : (b.tile t).sp.mem = (a.tile t).sp.mem) (r : Run) (e : List Ecc) :
    ((b.writePieces t r e l).tile t).sp.mem = ((a.writePieces t r e l).tile t).sp.mem := by
  induction l generalizing a b r e with
  | nil => exact h
  | cons x l ih => exact ih _ _ (by rw [(b.spStore_tile ..).2.2, (a.spStore_tile ..).2.2, h]) ..

theorem Blk.writeXfer_writtenBy (b : Blk) (t : Nat) (d : Desc) (k : Nat) (f : Xfer) (e : List Ecc) : b.WrittenBy t (b.writeXfer t d k f e) :=
  b.writePieces_writtenBy ..

theorem Blk.writeXfer_mem (h : (b.tile t).sp.mem = (a.tile t).sp.mem) (d : Desc) (k : Nat) (f : Xfer) (e : List Ecc) :
    ((b.writeXfer t d k f e).tile t).sp.mem = ((a.writeXfer t d k f e).tile t).sp.mem := Blk.writePieces_mem t _ a b h _ _

end

section
variable (b : Blk) (t : Nat) (d : Desc) (f : Xfer) (k : Nat) (e : List Ecc)

/-- The transfer `f` taken from the queue. -/
def Blk.takeXfer : Blk := b.onTile t fun x => { x with recvQ := x.recvQ.erase f }

/-- Its data written, unless the step or the transfer is void. -/
def Blk.storeXfer : Blk := if d.void || f.void then b else b.writeXfer t d k f e

/-- A difference of lengths counted. -/
def Blk.countLength : Blk :=
  if !d.void && !f.void && f.run.bytes.length != xbOf d then
    b.onCtl fun c => (c.bump (seqPage t) F.SEQ_LEN_MISMATCH).errHw (seqPage t) 0x09 else b

/-- Its slate increment applied. -/
def Blk.signalXfer : Blk := if f.rsen then b.slateAdd t f.rslate 1 else b

/-- A transfer written as step `k` of `d`, its increment applied: all but its acknowledgement and the step's completion. -/
def Blk.placeXfer : Blk := (((b.takeXfer t f).storeXfer t d f k e).countLength t d f).signalXfer t f

/-- What a transfer written as step `k` of `d` does. -/
def Blk.receiveXfer : Blk :=
  ((((b.placeXfer t d f k e).ackXfer t f).freeUnits t f).onCtl fun c => c.perf t 0x09 1).stepDoneInOrder t 7 d.ser k

end

section
variable {s : State} {t : TileId} {d : Desc} {f : Xfer} {k : Nat} {e : List Ecc}

theorem receiverWrite_runs (hl : s.blk.live t = true) (hd : (s.blk.tile t).recvHead = some d)
    (hq : ((s.blk.tile t).queue 7).find d.ser = some d)
    (hf : ((s.blk.tile t).recvQ.find? fun f => (rvMatch d f).isSome && (!(s.blk.tile t).spill || f.refill)) = some f)
    (hk : rvMatch d f = some k) (h1 : d.done ≤ k) (h2 : k ∉ d.ahead) (h3 : k < d.issued) :
    Runs (.receiverWrite t e) s (s.blk.receiveXfer t d f k e) := by
  have hdup : ¬ (k < d.done ∨ d.ahead.contains k = true) := by simp [h1, h2]
  show execReceiverWrite t e s = _
  rw [execReceiverWrite, State.on_eq]
  simp only [hl, hd, hf, hk, Option.getD_some, if_neg hdup, if_neg h3.not_ge, hq]
  rfl

end

section
variable {b : Blk} {t : Nat} {d : Desc} {f : Xfer} {k : Nat} {e : List Ecc}

/-- An increment of a slate leaves its work to be done with the tile, and nothing else of the tiles. -/
theorem Blk.slateAdd_tile (b : Blk) (t n v : Nat) : SameOthers b (b.slateAdd t n v) t ∧
    ∃ fr re, (b.slateAdd t n v).tile t = { b.tile t with fresh := fr, rearm := re } := by
  simp only [Blk.slateAdd]
  split_ifs
  · refine ⟨SameOthers.onTile (SameOthers.onCtl (SameOthers.onCtl SameOthers.refl _) _) _, ?_⟩
    rw [Blk.slateReach, Blk.onTile_tile_same]
    exact ⟨_, _, rfl⟩
  · exact ⟨SameOthers.onCtl SameOthers.refl _, _, _, rfl⟩

theorem Tile.eq_of_sansSp {x y : Tile} (h : y.sansSp = x.sansSp) : y = { x with sp := y.sp } :=
  (congrArg (fun z : Tile => { z with sp := y.sp }) h :)

/-- Memory once `f` is written as step `k` of `d`. -/
def Blk.xferMem (b : Blk) (t : Nat) (d : Desc) (f : Xfer) (k : Nat) (e : List Ecc) : Mem :=
  if d.void || f.void then (b.tile t).sp.mem else ((b.writeXfer t d k f e).tile t).sp.mem

theorem Blk.takeXfer_tile (b : Blk) (t : Nat) (f : Xfer) :
    (b.takeXfer t f).tile t = { b.tile t with recvQ := (b.tile t).recvQ.erase f } := b.onTile_tile_same t _

theorem Blk.storeXfer_writtenBy (b : Blk) (t : Nat) (d : Desc) (f : Xfer) (k : Nat) (e : List Ecc) : b.WrittenBy t (b.storeXfer t d f k e) := by
  rw [Blk.storeXfer]
  split_ifs
  · exact .refl
  · exact b.writeXfer_writtenBy ..

theorem Blk.storeXfer_mem {a : Blk} (h : (b.tile t).sp.mem = (a.tile t).sp.mem) :
    ((b.storeXfer t d f k e).tile t).sp.mem = a.xferMem t d f k e := by
  rw [Blk.storeXfer, Blk.xferMem]
  split_ifs
  · exact h
  · exact Blk.writeXfer_mem h ..

theorem Blk.countLength_eq (b : Blk) (t : Nat) (d : Desc) (f : Xfer) : ∃ c, b.countLength t d f = { b with ctl := c } ∧ b.ctl.Quiet c ∧
    b.ctl.PageKept (slatePage t) c := by
  have ha : pageApart (slatePage t) (seqPage t) := tilePage_apart t (by decide)
  have hp := slatePage_le t
  rw [Blk.countLength]
  split_ifs
  · exact ⟨_, rfl, (Ctl.Quiet.bump ..).trans (.errHw ..), Ctl.PageKept.trans (.bump ha (by decide) _) (.errHw ha hp _)⟩
  · exact ⟨_, rfl, .refl _, .refl⟩

/-- What stands before the slate increment: the data written. -/
theorem Blk.storedXfer (b : Blk) (t : Nat) (d : Desc) (f : Xfer) (k : Nat) (e : List Ecc) :
    ∃ a : Blk, b.placeXfer t d f k e = a.signalXfer t f ∧ SameOthers b a t ∧
      (∃ q, a.tile t = { b.tile t with recvQ := (b.tile t).recvQ.erase f, sp := q } ∧ q.mem = b.xferMem t d f k e) ∧
      b.ctl.Quiet a.ctl ∧ b.ctl.PageKept (slatePage t) a.ctl := by
  have hw := (b.takeXfer t f).storeXfer_writtenBy t d f k e
  have hm := Blk.storeXfer_mem (b := b.takeXfer t f) (a := b) (t := t) (d := d) (f := f) (k := k) (e := e) (by rw [Blk.takeXfer_tile])
  have htile := Tile.eq_of_sansSp hw.sans
  rw [Blk.takeXfer_tile] at htile
  obtain ⟨c, hc, hq, hp⟩ := ((b.takeXfer t f).storeXfer t d f k e).countLength_eq t d f
  refine ⟨_, rfl, ?_, ⟨_, ?_, hm⟩, ?_, ?_⟩ <;> rw [hc]
  · exact (SameOthers.refl.onTile _).trans hw.others
  · exact htile
  · exact hw.checked.quiet.trans hq
  · exact (hw.checked.page (tilePage_apart t (by decide)) (slatePage_le t)).trans hp

/-- The data written and the increment applied. -/
theorem Blk.placeXfer_tile (b : Blk) (t : Nat) (d : Desc) (f : Xfer) (k : Nat) (e : List Ecc) :
    SameOthers b (b.placeXfer t d f k e) t ∧ b.ctl.Quiet (b.placeXfer t d f k e).ctl ∧
      ∃ q fr re, (b.placeXfer t d f k e).tile t =
        { b.tile t with recvQ := (b.tile t).recvQ.erase f, sp := q, fresh := fr, rearm := re } ∧ q.mem = b.xferMem t d f k e := by
  obtain ⟨a, ha, ho, ⟨q, htile, hm⟩, hq, -⟩ := b.storedXfer t d f k e
  rw [ha, Blk.signalXfer]
  split_ifs
  · obtain ⟨ho', fr, re, ht⟩ := a.slateAdd_tile t f.rslate 1
    rw [htile] at ht
    exact ⟨ho.trans ho', hq.trans (a.slateAdd_quiet ..), q, fr, re, ht, hm⟩
  · exact ⟨ho, hq, q, _, _, htile, hm⟩

theorem Blk.placeXfer_added (b : Blk) (d : Desc) (k : Nat) (e : List Ecc) (hr : f.rsen = true) (hn : f.rslate < 16) :
    b.ctl.SlateAdded (b.placeXfer t d f k e).ctl t f.rslate 1 := by
  obtain ⟨a, ha, -, -, -, hp⟩ := b.storedXfer t d f k e
  rw [ha, Blk.signalXfer, if_pos hr]
  exact .of_kept hn hp (a.slateAdd_added ..) .refl

/-- A step completed in its turn. -/
theorem Blk.stepDoneInOrder_stepped (b : Blk) (t u ser k : Nat) : b.Stepped t (b.stepDoneInOrder t u ser k) := by
  rw [Blk.stepDoneInOrder]
  split
  · exact b.complete_stepped ..
  · exact .refl

theorem Blk.stepDoneInOrder_quiet (b : Blk) (t u ser k : Nat) : b.ctl.Quiet (b.stepDoneInOrder t u ser k).ctl := by
  rw [Blk.stepDoneInOrder]
  split
  · exact b.complete_quiet ..
  · exact .refl _

/-- Steps of a descriptor that signals no slate. -/
theorem Blk.complete_slates (t u n : Nat) (b : Blk) (d : Desc) (hs : hSen d.hdr = false) :
    b.ctl.PageKept (slatePage t) (b.complete t u d n).ctl := by
  induction n generalizing b d with
  | zero => exact .refl
  | succ n ih =>
    rw [Blk.complete]
    simp only [hs, Bool.false_and, Bool.false_eq_true, if_false]
    exact Ctl.PageKept.trans (.stepTokens (tilePage_apart t (by decide)) _) (ih _ { d with done := d.done + 1 } hs)

theorem Blk.stepDoneInOrder_slates (h : ((b.tile t).queue 7).find d.ser = some d) (hs : hSen d.hdr = false) (k : Nat) :
    b.ctl.PageKept (slatePage t) (b.stepDoneInOrder t 7 d.ser k).ctl := by
  rw [Blk.stepDoneInOrder, h]
  exact Blk.complete_slates _ _ _ _ _ hs

/-- The units of a transfer freed where no request waits for them. -/
theorem Blk.freeUnits_eq (h : (b.tile t).creditReqs = []) (f : Xfer) :
    b.freeUnits t f = b.onTile t fun x => { x with granted := x.granted - creditUnits f.run.bytes.length } := by
  have hr : ((b.onTile t fun x => { x with granted := x.granted - creditUnits f.run.bytes.length }).tile t).creditReqs = [] := by
    rw [Blk.onTile_tile_same, h]
  rw [Blk.freeUnits, Blk.grant, hr]
  rfl

/-- The acknowledgement of a transfer from a tile. -/
def Xfer.ack (f : Xfer) : Msg := { type := 9, dest := f.src, arg := f.stream * 2 ^ 16 + f.seq }

theorem Blk.ackXfer_eq (b : Blk) (t : Nat) (he : f.eject = false) (hs : f.src < 1920) :
    b.ackXfer t f = b.onCtl fun c => c.sends [msgOf t f.ack] := by
  rw [Blk.ackXfer, he]
  simp only [Bool.false_eq_true, if_false, Ctl.sendAck, if_neg hs.not_ge]
  rfl

/-- The block before the step that a transfer is written by completes. -/
def Blk.ackedXfer (b : Blk) (t : Nat) (d : Desc) (f : Xfer) (k : Nat) (e : List Ecc) : Blk :=
  (((b.placeXfer t d f k e).onCtl fun c => c.sends [msgOf t f.ack]).onTile t fun x =>
    { x with granted := x.granted - creditUnits f.run.bytes.length }).onCtl fun c => c.perf t 0x09 1

theorem Blk.receiveXfer_eq (he : f.eject = false) (hs : f.src < 1920) (hr : (b.tile t).creditReqs = []) :
    b.receiveXfer t d f k e = (b.ackedXfer t d f k e).stepDoneInOrder t 7 d.ser k := by
  obtain ⟨-, -, q, fr, re, htile, -⟩ := b.placeXfer_tile t d f k e
  rw [Blk.receiveXfer, Blk.ackXfer_eq _ _ he hs, Blk.freeUnits_eq, Blk.ackedXfer]
  rw [Blk.onCtl_tile, htile, hr]

end

section
variable {s : State} {t : TileId} {d : Desc} {f : Xfer} {k : Nat} {e : List Ecc}

theorem Ctl.sends_page (c : Ctl) (p : Nat) (l : List Flight) : c.PageKept p (c.sends l) := fun _ _ => rfl

theorem Tile.recvQ_of_sansSteps {x y : Tile} (h : y.sansSteps = x.sansSteps) : y.recvQ = x.recvQ := (congrArg Tile.recvQ h :)
theorem Tile.granted_of_sansSteps {x y : Tile} (h : y.sansSteps = x.sansSteps) : y.granted = x.granted := (congrArg Tile.granted h :)

theorem receiveXfer_leaves (b : Blk) (t : Nat) (d : Desc) (k : Nat) (e : List Ecc) (he : f.eject = false) (hs : f.src < 1920)
    (hr : (b.tile t).creditReqs = []) (hq : ((b.tile t).queue 7).find d.ser = some d) :
    SameOthers b (b.receiveXfer t d f k e) t ∧ ((b.receiveXfer t d f k e).tile t).recvQ = (b.tile t).recvQ.erase f ∧
      ((b.receiveXfer t d f k e).tile t).granted = (b.tile t).granted - creditUnits f.run.bytes.length ∧
      ((b.receiveXfer t d f k e).tile t).sp.mem = b.xferMem t d f k e ∧
      (b.receiveXfer t d f k e).ctl.net = b.ctl.net ++ [msgOf t f.ack] ∧
      (f.rsen = true → f.rslate < 16 → hSen d.hdr = false → b.ctl.SlateAdded (b.receiveXfer t d f k e).ctl t f.rslate 1) := by
  obtain ⟨ho, hquiet, q, fr, re, htile, hm⟩ := b.placeXfer_tile t d f k e
  have hack : (b.ackedXfer t d f k e).tile t = { (b.placeXfer t d f k e).tile t with
      granted := ((b.placeXfer t d f k e).tile t).granted - creditUnits f.run.bytes.length } := by
    rw [Blk.ackedXfer, Blk.onCtl_tile, Blk.onTile_tile_same, Blk.onCtl_tile]
  have hctl : (b.ackedXfer t d f k e).ctl = ((b.placeXfer t d f k e).ctl.sends [msgOf t f.ack]).perf t 0x09 1 := by
    rw [Blk.ackedXfer, Blk.onCtl_ctl, Blk.onTile_ctl, Blk.onCtl_ctl]
  rw [htile] at hack
  have hacked : SameOthers b (b.ackedXfer t d f k e) t := SameOthers.onCtl (SameOthers.onTile (ho.onCtl _) _) _
  have hstep := (b.ackedXfer t d f k e).stepDoneInOrder_stepped t 7 d.ser k
  rw [Blk.receiveXfer_eq he hs hr]
  refine ⟨hacked.trans hstep.others, ?_, ?_, ?_, ?_, fun h1 h2 h3 => ?_⟩
  · rw [Tile.recvQ_of_sansSteps hstep.sans, hack]
  · rw [Tile.granted_of_sansSteps hstep.sans, hack]
  · rw [Tile.sp_of_sansSteps hstep.sans, hack, hm]
  · rw [(Blk.stepDoneInOrder_quiet ..).net, hctl, Ctl.perf_net, Ctl.sends, hquiet.net]
  · refine .of_kept h2 .refl (b.placeXfer_added d k e h1 h2) (.trans ?_ (Blk.stepDoneInOrder_slates ?_ h3 k))
    · rw [hctl]
      exact Ctl.PageKept.trans (Ctl.sends_page _ _ _) (.perf (tilePage_apart t (by decide)) _ _)
    · rw [hack]
      exact hq

end

/-! ### Acknowledgements (06 R153, 07 R174) -/

section
variable {s : State} {i t : Nat} {g : Msg} {r : Track}

/-- A step sent that an acknowledgement from `u` with key `a` is of. -/
def Tile.trackOf (x : Tile) (a u : Nat) : Option Track := x.tracked.find? fun r => ackArg r.stream r.seq == a && r.dests.contains u

/-- The registers once an acknowledgement with an error is counted. -/
def Ctl.xferErr (c : Ctl) (t : Nat) : Ctl := (c.bump (seqPage t) F.SEQ_XFER_ERR).raise (seqPage t) 5

/-- The block once an acknowledgement with an error has reached the mover. -/
def Blk.ackFailed (b : Blk) (t : Nat) (r : Track) : Blk :=
  ((b.setTile t { b.tile t with tracked := (b.tile t).tracked.erase r }).onCtl fun c => c.xferErr t).seqHalt t 6 0x0A

/-- The block once one without an error has. -/
def Blk.ackTaken (b : Blk) (t : Nat) (r : Track) (u : Nat) : Blk :=
  if (r.dests.filter (· != u)).isEmpty then (b.setTile t { b.tile t with tracked := (b.tile t).tracked.erase r }).stepDone t 6 r.ser
  else b.setTile t { b.tile t with
    tracked := (b.tile t).tracked.map fun q => if q = r then { r with dests := r.dests.filter (· != u) } else q }

theorem transferAck_runs (hi : s.blk.ctl.atTile i = some (t, .msg g)) (hg : g.type = 9) (hl : s.blk.live t = true) (ha : g.arg < 2 ^ 20)
    (hr : (s.blk.tile t).trackOf g.arg g.src = some r) : Runs (.transferAck i) s
      (if g.value % 2 = 1 then (s.blk.onCtl fun c => c.takeNet i).ackFailed t r
        else (s.blk.onCtl fun c => c.takeNet i).ackTaken t r g.src) := by
  have hl' : (s.blk.onCtl fun c => c.takeNet i).live t = true := hl
  have hno : ¬ (g.type = 9 ∧ 2 ^ 20 ≤ g.arg) := fun h => ha.not_ge h.2
  rw [Tile.trackOf] at hr
  show execTransferAck i s = _
  rw [execTransferAck, State.on_eq]
  simp only [hi, if_neg hno, if_pos hg, hl', Blk.onCtl_tile, hr]
  rfl

/-- Registers that a halt of the sequencer leaves. -/
theorem Ctl.rd_halt_off {c : Ctl} {u code off : Nat} (h : 0x24 < off ∧ off ≠ 0x54 ∧ off < 0x1000) :
    ((c.errHw (seqPage t) code).seqHaltInfo t u code false).rd (seqPage t + off) = c.rd (seqPage t + off) := by
  have herr : (c.errHw (seqPage t) code).rd (seqPage t + off) = c.rd (seqPage t + off) := by
    refine Ctl.rd_errHw _ _ _ (not_mem_errRegs ?_ ((seqPage_le t).trans (Nat.le_add_right ..)))
    simp only [List.mem_cons, List.not_mem_nil, or_false]
    omega
  rw [Ctl.seqHaltInfo, Ctl.rd_raise, if_neg (by omega)]
  split_ifs
  · exact herr
  · rw [Ctl.rd_wr, if_neg (by simp only [F.SEQ_HALT_INFO]; omega), herr]

theorem Ctl.xferErr_regs (c : Ctl) (t : Nat) : (c.xferErr t).rd (seqPage t + 0x54) = c.rd (seqPage t + 0x54) ∧
    (c.xferErr t).get (seqPage t) F.SEQ_XFER_ERR = satAdd (fldTop F.SEQ_XFER_ERR) (c.get (seqPage t) F.SEQ_XFER_ERR) 1 := by
  constructor
  · rw [Ctl.xferErr, Ctl.rd_raise, if_neg (by omega), Ctl.rd_bump_off _ _ _ _ (by simp only [F.SEQ_XFER_ERR]; omega)]
  · rw [← bump_counts _ _ _ (by decide)]
    exact Ctl.get_congr ((Ctl.rd_raise ..).trans (if_neg (by simp only [F.SEQ_XFER_ERR]; omega)))

theorem transferAck_fails (hi : s.blk.ctl.atTile i = some (t, .msg g)) (hg : g.type = 9) (hl : s.blk.live t = true) (ha : g.arg < 2 ^ 20)
    (hr : (s.blk.tile t).trackOf g.arg g.src = some r) (hv : g.value % 2 = 1) : ∃ b, Runs (.transferAck i) s b ∧ SameOthers s.blk b t ∧
      (b.tile t).tracked = (s.blk.tile t).tracked.erase r ∧ s.blk.ctl.Counts b.ctl (seqPage t) F.SEQ_XFER_ERR ∧
      ((6 : Nat) < (s.blk.tile t).queues.length → SeqHalted s.blk b t 6 0x0A) := by
  have hrun := transferAck_runs hi hg hl ha hr
  rw [if_pos hv] at hrun
  obtain ⟨hrd, hget⟩ := (s.blk.ctl.takeNet i).xferErr_regs t
  refine ⟨_, hrun, SameOthers.onCtl (SameOthers.onTile (SameOthers.onCtl (SameOthers.setTile (SameOthers.onCtl SameOthers.refl _) _) _) _) _,
    ?_, ?_, fun hu => seqHalted_seqHalt ?_ ?_⟩
  · rw [Blk.ackFailed, Blk.seqHalt_tile, Blk.onCtl_tile, Blk.setTile_tile_same]
    rfl
  · rw [Ctl.Counts, Blk.ackFailed, Blk.seqHalt, Blk.onCtl_ctl, Blk.onTile_ctl, Blk.onCtl_ctl, Blk.setTile_ctl, Blk.onCtl_ctl]
    exact (Ctl.get_congr (Ctl.rd_halt_off ⟨by simp [F.SEQ_XFER_ERR], by simp [F.SEQ_XFER_ERR], by simp [F.SEQ_XFER_ERR]⟩)).trans hget
  · rw [Blk.onCtl_tile, Blk.setTile_tile_same]
    exact hu
  · rw [Blk.onCtl_ctl, Blk.setTile_ctl, Blk.onCtl_ctl]
    exact (Ctl.flag_congr hrd).trans rfl

theorem transferAck_completes (hi : s.blk.ctl.atTile i = some (t, .msg g)) (hg : g.type = 9) (hl : s.blk.live t = true) (ha : g.arg < 2 ^ 20)
    (hr : (s.blk.tile t).trackOf g.arg g.src = some r) (hv : g.value % 2 = 0) (hd : ∀ u ∈ r.dests, u = g.src) :
    ∃ b, Runs (.transferAck i) s b ∧ SameOthers s.blk b t ∧ (b.tile t).tracked = (s.blk.tile t).tracked.erase r ∧
      (b.tile t).sp = (s.blk.tile t).sp := by
  have hrun := transferAck_runs hi hg hl ha hr
  have he : (r.dests.filter (· != g.src)).isEmpty = true := by
    rw [List.isEmpty_iff, List.filter_eq_nil_iff]
    exact fun u hu => by simp [hd u hu]
  rw [if_neg (by omega), Blk.ackTaken, if_pos he] at hrun
  have hs := ((s.blk.onCtl fun c => c.takeNet i).setTile t { s.blk.tile t with tracked := (s.blk.tile t).tracked.erase r }).stepDone_stepped
    t 6 r.ser
  refine ⟨_, hrun, (SameOthers.setTile (SameOthers.onCtl SameOthers.refl _) _).trans hs.others, ?_, ?_⟩
  · refine (Tile.tracked_of_bare hs.bare).trans ?_
    rw [Blk.setTile_tile_same]
  · refine (Tile.sp_of_sansSteps hs.sans).trans ?_
    rw [Blk.setTile_tile_same]

theorem transferAck_waits (hi : s.blk.ctl.atTile i = some (t, .msg g)) (hg : g.type = 9) (hl : s.blk.live t = true) (ha : g.arg < 2 ^ 20)
    (hr : (s.blk.tile t).trackOf g.arg g.src = some r) (hv : g.value % 2 = 0) (hd : ∃ u ∈ r.dests, u ≠ g.src) :
    ∃ b, Runs (.transferAck i) s b ∧ SameOthers s.blk b t ∧ b.ctl = s.blk.ctl.takeNet i ∧
      (b.tile t).tracked.length = (s.blk.tile t).tracked.length ∧
      ∃ q ∈ (b.tile t).tracked, q.ser = r.ser ∧ q.dests = r.dests.filter (· != g.src) := by
  have hrun := transferAck_runs hi hg hl ha hr
  have he : ¬ (r.dests.filter (· != g.src)).isEmpty = true := by
    obtain ⟨u, hu, hn⟩ := hd
    rw [List.isEmpty_iff, List.filter_eq_nil_iff]
    exact fun h => h u hu (by simpa using hn)
  have hmem : r ∈ (s.blk.tile t).tracked := List.mem_of_find?_eq_some hr
  rw [if_neg (by omega), Blk.ackTaken, if_neg he] at hrun
  refine ⟨_, hrun, SameOthers.setTile (SameOthers.onCtl SameOthers.refl _) _, rfl, ?_, ?_⟩ <;> rw [Blk.setTile_tile_same, Blk.onCtl_tile]
  · exact List.length_map _
  · exact ⟨_, List.mem_map.mpr ⟨r, hmem, if_pos rfl⟩, rfl, rfl⟩

theorem Blk.coreAnswer_store (b : Blk) {tag : Nat} {w : CoreWait} (h : ((b.tile t).core (tag % 4)).awaitOf tag true = some w) (q : Run) :
    b.coreAnswer t tag true false q = b.onCore t (tag % 4) fun c => c.answered w := by
  rw [Core.awaitOf] at h
  simp only [Blk.coreAnswer, h, if_true, Bool.false_eq_true, if_false]
  rfl

theorem transferAck_store {w : CoreWait} (hi : s.blk.ctl.atTile i = some (t, .msg g)) (hg : g.type = 9) (hl : s.blk.live t = true)
    (ha : 2 ^ 20 ≤ g.arg) (hw : ((s.blk.tile t).core ((g.arg - 2 ^ 20) % 4)).awaitOf (g.arg - 2 ^ 20) true = some w) (hv : g.value % 2 = 0) :
    ∃ b, Runs (.transferAck i) s b ∧ SameOthers s.blk b t ∧ b.ctl = s.blk.ctl.takeNet i ∧
      ((b.tile t).core ((g.arg - 2 ^ 20) % 4)).awaits = ((s.blk.tile t).core ((g.arg - 2 ^ 20) % 4)).awaits.erase w := by
  have hl' : (s.blk.onCtl fun c => c.takeNet i).live t = true := hl
  have hrun : Runs (.transferAck i) s ((s.blk.onCtl fun c => c.takeNet i).coreAnswer t (g.arg - 2 ^ 20) true false {}) := by
    show execTransferAck i s = _
    rw [execTransferAck, State.on_eq]
    simp only [hi, if_pos (And.intro hg ha), hl', if_true, hv]
    rfl
  rw [Blk.coreAnswer_store (s.blk.onCtl fun c => c.takeNet i) hw] at hrun
  refine ⟨_, hrun, SameOthers.onCore (SameOthers.onCtl SameOthers.refl _) _ _, rfl, ?_⟩
  rw [Blk.onCore_core, Blk.onCtl_tile, Core.answered]

end

/-! ### The obligation -/

/-- Settles O25, command by command; that a void step of class 0 sends nothing is the model's choice (log 53). -/
theorem transfersLeaveArriveAndAreAnswered : Obligations.TransfersLeaveArriveAndAreAnswered := by
  unfold Obligations.TransfersLeaveArriveAndAreAnswered
  refine ⟨fun s t n m i e hl => ⟨fun d b' hd => ⟨fun hc => ?_, fun code hc => ?_⟩, fun d b' hd => ⟨fun hc => ?_, fun code hc => ?_⟩,
    fun d hd ht hx => ⟨fun hc hm => ?_, moverTransferSend_sends hl hd ht hx, fun hc hv => ?_, fun hc hv hr => ?_,
      moverTransferSend_full hl hd ht hx⟩, fun u g hi => ⟨fun hg hl hr => creditRequest_live hi hg hl hr, fun hg hl => ?_,
      fun hg hl hn => creditGrant_takes hi hg hl hn⟩⟩,
    fun s t i => ⟨fun p hi hk hs => ⟨fun hl => ?_, fun hl hd => transferArrive_refused hi hk hs hl hd⟩,
      fun u d f k e hu hl hd hq hf hk h1 h2 h3 he hs hr => ?_, fun g hi hg hl => ⟨fun r ha hr => ⟨transferAck_fails hi hg hl ha hr,
        transferAck_completes hi hg hl ha hr, transferAck_waits hi hg hl ha hr⟩, fun w ha _ hw hv => transferAck_store hi hg hl ha hw hv⟩⟩⟩
  · have hrun := moverDescriptor_runs hl hd
    rw [hc] at hrun
    exact ⟨_, hrun, (Blk.takeHead_headRead hd).install_others .., (Blk.takeHead_headRead hd).took ..⟩
  · have hrun := moverDescriptor_runs hl hd
    rw [hc] at hrun
    exact ⟨_, hrun, Blk.takeHead_halts hd⟩
  · have hrun := receiverDescriptor_runs hl hd
    rw [hc] at hrun
    exact ⟨_, hrun, (Blk.takeHead_headRead hd).install_others .., (Blk.takeHead_headRead hd).took ..⟩
  · have hrun := receiverDescriptor_runs hl hd
    rw [hc] at hrun
    exact ⟨_, hrun, Blk.takeHead_halts hd⟩
  · obtain ⟨b, hb, ho, htile, hnet⟩ := moverTransferSend_asks (e := e) (n := n) (m := m) hl hd ht hx hc hm
    exact ⟨b, hb, ho, by rw [htile], by rw [htile], by rw [htile]; rfl, hnet⟩
  · obtain ⟨b, hb, ho, hnet, hs⟩ := moverTransferSend_void (e := e) (n := n) (m := m) hl hd ht hx hc hv
    exact ⟨b, hb, ho, hnet, (congrArg Tile.mix hs :), (congrArg Tile.tracked hs :), Tile.sp_of_sansSteps hs⟩
  · obtain ⟨b, hb, ho, hnet, hinj⟩ := moverTransferSend_injects (e := e) (n := n) (m := m) hl hd ht hx hc hv hr
    exact ⟨b, _, hb, ho, hnet, hinj, chunksOf_length .., rfl, fun h hh => chunksOf_from hh⟩
  · have hrun := creditRequest_runs hi hg
    rw [if_neg (Bool.eq_false_iff.mp hl)] at hrun
    exact ⟨_, hrun, ⟨rfl, rfl⟩, rfl⟩
  · obtain ⟨b, hb, ho, hctl, hsp, hq⟩ := transferArrive_joins hi hk hs hl
    exact ⟨b, hb, ho, hctl, hsp, _, hq, rfl, rfl, rfl, rfl, rfl⟩
  · subst hu
    exact ⟨_, receiverWrite_runs hl hd hq hf hk h1 h2 h3, receiveXfer_leaves s.blk u d k e he hs hr hq⟩

end Sys2Proof.Machine
end

section
/-!
PROOF. What leads to a pass of the row fetcher: FETCH_CMD.GO, and lists and starts accepted (08 R209, R210, 11 R276, R296).
-/
namespace Sys2Proof.Machine

/-! ### FETCH_CMD.GO (11 R296) -/

/-- FETCH_CMD as the register map has it. -/
def fetchCmdReg : RegDef := ⟨0x64, 1, 0, 0, 0, 0x1ff, 0, 0, 0, 0x80000000, 0x1ff⟩

/-- The word of FETCH_CMD.GO with `n` for LEN16_M1. -/
def goWord (n : Nat) : Word := BitVec.ofNat 32 (0x80000000 + n)

/-- A block whose TILE page of tile `t` has nothing latched for a pair. -/
def Blk.tileUnpaired (b : Blk) (t : Nat) : Blk := b.onCtl fun c => c.unpair (tilePage t 0)

/-- What a write of FETCH_CMD with GO does past its checks. -/
def Blk.fetchCommand (b : Blk) (fn : Fn) (t n : Nat) (e : List Ecc) : Blk :=
  b.fetchWrite t (tilePage t 0) { who := fn.num, addr := tilePage t 0 + 0x64 } fetchCmdReg (goWord n) e

/-- A block whose FETCH_CMD of tile `t` has taken `n` for LEN16_M1. -/
def Blk.fetchStored (b : Blk) (t n : Nat) : Blk := b.onCtl fun c => c.store fetchCmdReg (tilePage t 0 + 0x64) (goWord n)

/-- The low bits of a register that takes them from `w`. -/
theorem bits_masked (o w : Word) {k : Nat} (hk : k < 32) :
    bits ((o &&& ~~~BitVec.ofNat 32 (2 ^ (k + 1) - 1)) ||| (w &&& BitVec.ofNat 32 (2 ^ (k + 1) - 1))) k 0 = w.toNat % 2 ^ (k + 1) := by
  have hm {i : Nat} (hi : i < k + 1) : (BitVec.ofNat 32 (2 ^ (k + 1) - 1)).getLsbD i = true := by
    rw [BitVec.getLsbD_ofNat, Nat.testBit_two_pow_sub_one, decide_eq_true hi, decide_eq_true (by omega), Bool.and_self]
  generalize BitVec.ofNat 32 (2 ^ (k + 1) - 1) = m at hm ⊢
  refine Nat.eq_of_testBit_eq fun i => ?_
  rw [bits, Nat.shiftRight_zero, Nat.sub_zero, Nat.testBit_mod_two_pow, Nat.testBit_mod_two_pow]
  by_cases hi : i < k + 1
  · simp only [BitVec.testBit_toNat, BitVec.getLsbD_or, BitVec.getLsbD_and, BitVec.getLsbD_not, hm hi, Bool.not_true, Bool.and_false,
      Bool.and_true, Bool.false_or]
  · rw [decide_eq_false hi, Bool.false_and, Bool.false_and]

theorem goWord_go {n : Nat} (hn : n < 512) : bit (goWord n) 31 = true := by
  rw [goWord, bit, BitVec.toNat_ofNat, Nat.mod_eq_of_lt (by omega), Nat.testBit_eq_decide_div_mod_eq, decide_eq_true_eq]
  omega

section
variable {s : State} {fn : Fn} {t : TileId} {e : List Ecc}

theorem fetchCmdGo_runs (n : Fin 512) (h : s.blk.ctl.reaches fn (tilePage t 0)) (hu : s.blk.ctl.unlocked (tilePage t 0)) :
    Runs (.fetchCmdGo fn t n e) s ((s.blk.tileUnpaired t).fetchCommand fn t n e) := by
  have ht := t.isLt
  have hreach : reachCode { who := fn.num, addr := tilePage t 0 + 0x64 } .tile t 0x64 = 0 := by simp [reachCode]
  have hrun := write_runs (i := .fetchCmdGo fn t n e) (k := .tile) (n := t) (off := 0x64) (d := fetchCmdReg) rfl h
    (place_tile ht (by decide) rfl (by decide)) (by simp only [tilePage]; omega) (by decide) hreach rfl
    (Ctl.mirynGone_other ⟨by decide, by decide⟩ _) rfl rfl rfl (by decide) (.inr hu)
  rw [Blk.apply_eq (by decide) rfl] at hrun
  exact hrun

end

section
variable {b : Blk} {fn : Fn} {t n : Nat} {e : List Ecc}

theorem Ctl.fetchStore_len (c : Ctl) (hn : n < 512) :
    (c.store fetchCmdReg (tilePage t 0 + 0x64) (goWord n)).get (tilePage t 0) F.TILE_FETCH_CMD_LEN16_M1 = n := by
  have hr : (c.store fetchCmdReg (tilePage t 0 + 0x64) (goWord n)).rd (tilePage t 0 + 0x64) =
      (c.rd (tilePage t 0 + 0x64) &&& ~~~BitVec.ofNat 32 (2 ^ 9 - 1)) ||| (goWord n &&& BitVec.ofNat 32 (2 ^ 9 - 1)) :=
    (Ctl.rd_wr ..).trans (if_pos rfl)
  have hg : (goWord n).toNat % 2 ^ 9 = n := by
    rw [goWord, BitVec.toNat_ofNat]
    omega
  show bits ((c.store fetchCmdReg (tilePage t 0 + 0x64) (goWord n)).rd (tilePage t 0 + 0x64)) 8 0 = n
  rw [hr, bits_masked _ _ (by decide), hg]

theorem Ctl.fetchStore_src (c : Ctl) (n : Nat) :
    (c.store fetchCmdReg (tilePage t 0 + 0x64) (goWord n)).get (tilePage t 0) F.TILE_FETCH_SRC_ADDR16 =
      c.get (tilePage t 0) F.TILE_FETCH_SRC_ADDR16 :=
  Ctl.get_congr ((Ctl.rd_wr ..).trans (if_neg (by simp only [F.TILE_FETCH_SRC_ADDR16]; omega)))

/-- What GO comes to in a tile that is not held: refused, or taken. -/
theorem Blk.fetchCommand_eq (hn : n < 512) (hw : (b.tile t).wrapped = false) :
    b.fetchCommand fn t n e =
      let a := b.ctl.get (tilePage t 0) F.TILE_FETCH_SRC_ADDR16 * 16
      if b.ctl.flag (tilePage t 0) F.TILE_FETCH_CMD_BUSY then b.onCtl fun c => c.err (tilePage t 0) 0x01 fn.num (tilePage t 0 + 0x64)
      else if spBytes t < a + (n + 1) * 16 then b.onCtl fun c => c.err (tilePage t 0) 0x02 fn.num (tilePage t 0 + 0x64)
      else ((b.fetchStored t n).onCtl fun c => c.put (tilePage t 0) F.TILE_FETCH_CMD_BUSY 1).submitFetch t a ((n + 1) * 16) e := by
  have hlen := b.ctl.fetchStore_len (t := t) hn
  have hsrc := b.ctl.fetchStore_src (t := t) n
  have hadd (x : Nat) : (x + n + 1) * 16 = x * 16 + (n + 1) * 16 := by ring
  rw [Blk.fetchCommand, Blk.fetchWrite]
  change (if !bit (goWord n) 31 || (b.tile t).wrapped then b.fetchStored t n else _) = _
  simp only [goWord_go hn, hw, Bool.not_true, Bool.or_self, Bool.false_eq_true, if_false]
  simp only [Blk.fetchGo, Blk.fetchStored, Blk.errAt, Blk.onCtl_ctl, Ctl.errAt_host, hsrc, hlen, hadd, Bool.false_eq_true, if_false]
  split_ifs
  · rfl
  · rfl
  · rfl

/-- A block whose FETCH_CMD of tile `t` has taken `n` for LEN16_M1 and shows BUSY. -/
def Blk.fetchBusy (b : Blk) (t n : Nat) : Blk := (b.fetchStored t n).onCtl fun c => c.put (tilePage t 0) F.TILE_FETCH_CMD_BUSY 1

theorem Blk.fetchBusy_tile (b : Blk) (t n : Nat) : (b.fetchBusy t n).tile t = b.tile t := rfl
theorem Blk.fetchBusy_net (b : Blk) (t n : Nat) : (b.fetchBusy t n).ctl.net = b.ctl.net := rfl
theorem Blk.fetchBusy_sameStore (b : Blk) (t n : Nat) : SameStore b (b.fetchBusy t n) := ⟨rfl, rfl⟩

theorem Blk.fetchBusy_flag (b : Blk) (t n : Nat) : (b.fetchBusy t n).ctl.flag (tilePage t 0) F.TILE_FETCH_CMD_BUSY = true := by
  rw [Blk.fetchBusy, Blk.onCtl_ctl, Ctl.flag_put_same _ _ _ _ (by decide)]
  decide

/-- Bytes submitted while the tags are cleared wait for that. -/
theorem Blk.submitFetch_waits {a : Nat} (hi : (b.tile t).init = true) : SameOthers b (b.submitFetch t a n e) t ∧
    (b.submitFetch t a n e).ctl = b.ctl ∧ ((b.submitFetch t a n e).tile t).sp.submit = some (a, n) := by
  rw [Blk.submitFetch, if_pos hi]
  refine ⟨SameOthers.refl.onTile _, Blk.onTile_ctl .., ?_⟩
  rw [Blk.onTile_tile_same]

/-- Bytes submitted leave for the row fetcher. -/
theorem Blk.submitFetch_sends {a : Nat} (hi : (b.tile t).init = false) : ∃ c q, SameOthers b (b.submitFetch t a n e) t ∧
    (b.submitFetch t a n e).ctl = c.atRouter t 0 (.pkt q) ∧ b.ctl.Checked t c ∧ q.rim = true ∧ q.endpoint = 0x32 ∧ q.src = t ∧
    q.run.bytes = ((b.tile t).sp.mem.read a n).bytes := by
  rw [Blk.submitFetch, if_neg (Bool.eq_false_iff.mp hi)]
  exact ⟨_, _, (b.spRead_tagsKept t a n e).1.onCtl _, rfl, Ctl.checked_counts _ t ((b.tile t).sp.mem.coldWords a n)
    (checks (wordsOf a n) ((b.tile t).sp.mem.coldList a n) e), rfl, rfl, rfl, rfl⟩

/-- GO taken while the tags are cleared. -/
theorem Blk.fetchTaken_waits (a k : Nat) (hi : (b.tile t).init = true) :
    let d := (b.fetchBusy t n).submitFetch t a k e
    SameOthers b d t ∧ d.ctl.flag (tilePage t 0) F.TILE_FETCH_CMD_BUSY = true ∧ d.ctl.net = b.ctl.net ∧ (d.tile t).sp.submit = some (a, k) := by
  obtain ⟨ho, hc, hs⟩ := Blk.submitFetch_waits (b := b.fetchBusy t n) (n := k) (e := e) (a := a) (by rwa [Blk.fetchBusy_tile])
  exact ⟨(SameOthers.of_sameStore (b.fetchBusy_sameStore t n)).trans ho, by rw [hc, Blk.fetchBusy_flag], by rw [hc, Blk.fetchBusy_net], hs⟩

/-- GO taken. -/
theorem Blk.fetchTaken_sends (a k : Nat) (hi : (b.tile t).init = false) :
    let d := (b.fetchBusy t n).submitFetch t a k e
    ∃ q : Pkt, SameOthers b d t ∧ d.ctl.flag (tilePage t 0) F.TILE_FETCH_CMD_BUSY = true ∧ d.ctl.net = b.ctl.net ++ [⟨.router t 0, .pkt q⟩] ∧
      q.rim = true ∧ q.endpoint = 0x32 ∧ q.src = t ∧ q.run.bytes = ((b.tile t).sp.mem.read a k).bytes := by
  obtain ⟨c, q, ho, hc, hk, hq⟩ := Blk.submitFetch_sends (b := b.fetchBusy t n) (n := k) (e := e) (a := a) (by rwa [Blk.fetchBusy_tile])
  rw [Blk.fetchBusy_tile] at hq
  have hp : (b.fetchBusy t n).ctl.PageKept (tilePage t 0) c := hk.page (tilePage_apart t (by decide)) (by simp only [tilePage]; omega)
  refine ⟨q, (SameOthers.of_sameStore (b.fetchBusy_sameStore t n)).trans ho, ?_, ?_, hq⟩
  · rw [hc]
    exact (hp.flag (by decide)).trans (b.fetchBusy_flag t n)
  · rw [hc, Ctl.atRouter, hk.quiet.net, Blk.fetchBusy_net]

end

theorem Blk.tileUnpaired_flag (b : Blk) (t : Nat) (f : Fld) : (b.tileUnpaired t).ctl.flag (tilePage t 0) f = b.ctl.flag (tilePage t 0) f := rfl
theorem Blk.tileUnpaired_get (b : Blk) (t : Nat) (f : Fld) : (b.tileUnpaired t).ctl.get (tilePage t 0) f = b.ctl.get (tilePage t 0) f := rfl
theorem Blk.tileUnpaired_tile (b : Blk) (t : Nat) : (b.tileUnpaired t).tile t = b.tile t := rfl
theorem Blk.tileUnpaired_net (b : Blk) (t : Nat) : (b.tileUnpaired t).ctl.net = b.ctl.net := rfl
theorem Blk.tileUnpaired_err (b : Blk) (t k f a : Nat) : ((b.tileUnpaired t).onCtl fun c => c.err (tilePage t 0) k f a) =
    b.onCtl fun c => (c.unpair (tilePage t 0)).err (tilePage t 0) k f a := rfl

section
variable {s : State} {fn : Fn} {t : TileId} {e : List Ecc} {n : Fin 512}

/-- GO written to a tile that is not held: refused while BUSY or past the scratchpad, else taken. -/
theorem fetchCmdGo_decides (h : s.blk.ctl.reaches fn (tilePage t 0)) (hu : s.blk.ctl.unlocked (tilePage t 0))
    (hw : (s.blk.tile t).wrapped = false) :
    let p := tilePage t 0
    let a := s.blk.ctl.get p F.TILE_FETCH_SRC_ADDR16 * 16
    Runs (.fetchCmdGo fn t n e) s (if s.blk.ctl.flag p F.TILE_FETCH_CMD_BUSY then s.blk.onCtl fun c => (c.unpair p).err p 0x01 fn.num (p + 0x64)
      else if spBytes t < a + (n.val + 1) * 16 then s.blk.onCtl fun c => (c.unpair p).err p 0x02 fn.num (p + 0x64)
      else ((s.blk.tileUnpaired t).fetchBusy t n).submitFetch t a ((n.val + 1) * 16) e) := by
  have hrun := fetchCmdGo_runs (e := e) n h hu
  rwa [Blk.fetchCommand_eq n.isLt (by rwa [Blk.tileUnpaired_tile]), Blk.tileUnpaired_flag, Blk.tileUnpaired_get, Blk.tileUnpaired_err,
    Blk.tileUnpaired_err] at hrun

end

/-! ### Lists and starts accepted (11 R276, R296) -/

section
variable {s : State} {c : Ctl} {i q : Nat} {p : Pkt} {start : Bool}

/-- What the row fetcher takes a packet for. -/
def Pkt.pass (p : Pkt) : Pass := { bytes := p.run.bytes, bad := p.run.anyBad }

/-- The program a packet is for. -/
def Pkt.progOf (p : Pkt) : Nat := bits (p.pass.w 0) 23 16

/-- Item `i`, the packet `p`, taken as the last pass of its program. -/
def Ctl.passTaken (c : Ctl) (i : Nat) (p : Pkt) : Ctl :=
  (c.takeNet i).setProg p.progOf { c.prog p.progOf with passes := (c.prog p.progOf).passes ++ [p.pass] }

theorem Ctl.prog_setProg (c : Ctl) (n m : Nat) (x : Prog) : (c.setProg n x).prog m = if m = n then x else c.prog m := SMap.get_set ..

theorem Ctl.passTaken_prog (c : Ctl) (i : Nat) (p : Pkt) :
    (c.passTaken i p).prog p.progOf = { c.prog p.progOf with passes := (c.prog p.progOf).passes ++ [p.pass] } :=
  (Ctl.prog_setProg ..).trans (if_pos rfl)

theorem Ctl.submit_takes (hi : c.atRim i = some (q, 0x32, .pkt p)) (hk : p.kind = 0) (hn : (c.prog p.progOf).passes.length < 2)
    (hf : (bits (p.pass.w 0) 31 24 == 0x5D) = start) :
    c.submit i start = if p.src < 1920 then (c.passTaken i p).put (tilePage p.src 0) F.TILE_FETCH_CMD_BUSY 0 else c.passTaken i p := by
  have hno : ¬ (p.kind ≠ 0 ∨ (bits (p.pass.w 0) 31 24 == 0x5D) ≠ start ∨ 2 ≤ (c.prog p.progOf).passes.length) := by
    rintro (h | h | h)
    · exact h hk
    · exact h hf
    · omega
  rw [Ctl.submit, hi]
  exact if_neg hno

theorem Ctl.submit_taken (hi : c.atRim i = some (q, 0x32, .pkt p)) (hk : p.kind = 0) (hn : (c.prog p.progOf).passes.length < 2)
    (hf : (bits (p.pass.w 0) 31 24 == 0x5D) = start) : (c.submit i start).net = c.net.eraseIdx i ∧
      (c.submit i start).prog p.progOf = { c.prog p.progOf with passes := (c.prog p.progOf).passes ++ [p.pass] } ∧
      (p.src < 1920 → (c.submit i start).flag (tilePage p.src 0) F.TILE_FETCH_CMD_BUSY = false) := by
  rw [Ctl.submit_takes hi hk hn hf, ← Ctl.passTaken_prog c i p]
  split_ifs with hs
  · refine ⟨rfl, rfl, fun _ => ?_⟩
    rw [Ctl.flag_put_same _ _ _ _ (by decide)]
    decide
  · exact ⟨rfl, rfl, fun h => absurd h hs⟩

theorem submit_sameStore (b : Blk) (i : Nat) (start : Bool) : SameStore b (b.onCtl fun c => c.submit i start) := ⟨b.onCtl_tiles _, b.onCtl_hbm _⟩

end

end Sys2Proof.Machine
end

section
/-!
PROOF. A pass of the row fetcher: its record read and checked, its transfers sent (08 R210, 11 R274 to R278, R280).
-/
namespace Sys2Proof.Machine

/-! ### What reads of the stacks leave as they were (11 R273, R280) -/

/-- The offsets of what a stack's page counts of the requests it serves or refuses (11 R273, R280). -/
def stackOffs : List Nat := [0x44, 0x48, 0x50, 0x54, 0x58, 0x5C, 0x64]

/-- The registers that requests served or refused by a stack may change (11 R273, R280). -/
def stackRegs (h : Nat) : List Nat := stackOffs.map (hbmPage h + ·) ++ errRegs (hbmPage h)

/-- The register at `a` is none that requests to stacks may change. -/
def offStacks (a : Nat) : Prop := ∀ h, a ∉ stackRegs h

/-- The registers that no request to a stack may change are the same. -/
def Ctl.RegsOffStacks (c d : Ctl) : Prop := ∀ a, offStacks a → d.rd a = c.rd a

theorem offStacks_stage {s off : Nat} (hs : s < 12) (ho : off < 0x1000) : offStacks (stagePage s + off) := fun h => by
  simp only [stackRegs, stackOffs, List.map, errRegs, hbmPage, stagePage, devPage, logPage, List.mem_append, List.mem_cons, List.not_mem_nil, or_false]
  omega

theorem offStacks_ready (h : Nat) : offStacks (hbmPage h + 0x14) := fun k => by
  simp only [stackRegs, stackOffs, List.map, errRegs, hbmPage, devPage, logPage, List.mem_append, List.mem_cons, List.not_mem_nil, or_false]
  omega

section
variable {c d e : Ctl}

theorem Ctl.RegsOffStacks.refl : c.RegsOffStacks c := fun _ _ => rfl
theorem Ctl.RegsOffStacks.symm (h : c.RegsOffStacks d) : d.RegsOffStacks c := fun a ha => (h a ha).symm
theorem Ctl.RegsOffStacks.trans (h : c.RegsOffStacks d) (g : d.RegsOffStacks e) : c.RegsOffStacks e := fun a ha => (g a ha).trans (h a ha)

theorem Ctl.RegsOffStacks.page (h : c.RegsOffStacks d) {s : Nat} (hs : s < 12) : c.PageKept (stagePage s) d :=
  fun _ ho => h _ (offStacks_stage hs ho)

theorem Ctl.RegsOffStacks.ready (h : c.RegsOffStacks d) (k : Nat) : d.stackReady k = c.stackReady k := Ctl.flag_congr (h _ (offStacks_ready k))

/-- `d` follows from `c` by what requests to stacks count. -/
structure Ctl.StacksCounted (c d : Ctl) : Prop where
  quiet : c.Quiet d
  regs : c.RegsOffStacks d

theorem Ctl.StacksCounted.refl (c : Ctl) : c.StacksCounted c := ⟨.refl c, .refl⟩
theorem Ctl.StacksCounted.trans (h : c.StacksCounted d) (g : d.StacksCounted e) : c.StacksCounted e :=
  ⟨h.quiet.trans g.quiet, h.regs.trans g.regs⟩

/-- A field of one of the registers that such requests may change. -/
theorem Ctl.StacksCounted.put {h : Nat} {f : Fld} (hf : f.off ∈ stackOffs) (c : Ctl) (v : Nat) :
    c.StacksCounted (c.put (hbmPage h) f v) := by
  refine ⟨.put .., fun a ha => (Ctl.rd_put ..).trans (if_neg ?_)⟩
  rintro rfl
  exact ha h (List.mem_append_left _ (List.mem_map_of_mem hf))

theorem Ctl.StacksCounted.bump {h : Nat} {f : Fld} (hf : f.off ∈ stackOffs) (c : Ctl) (v : Nat) :
    c.StacksCounted (c.bump (hbmPage h) f v) := by
  refine ⟨.bump .., fun a ha => Ctl.rd_bump_off _ _ _ _ ?_⟩
  rintro rfl
  exact ha h (List.mem_append_left _ (List.mem_map_of_mem hf))

theorem Ctl.StacksCounted.raise (c : Ctl) (h n : Nat) : c.StacksCounted (c.raise (hbmPage h) n) := by
  refine ⟨.raise .., fun a ha => (Ctl.rd_raise ..).trans (if_neg ?_)⟩
  rintro rfl
  exact ha h (List.mem_append_right _ (.head _))

theorem Ctl.StacksCounted.errHw (c : Ctl) (h k : Nat) : c.StacksCounted (c.errHw (hbmPage h) k) :=
  ⟨.errHw .., fun _ ha => Ctl.rd_errHw _ _ _ fun hm => ha h (List.mem_append_right _ hm)⟩

theorem Ctl.StacksCounted.notReady (c : Ctl) (h : Nat) : c.StacksCounted (c.notReady h) :=
  (Ctl.StacksCounted.bump (by decide) _ _).trans (.errHw ..)

end

/-- `b'` follows from `b` by reads of the stacks: counted, uncorrectable bursts poisoned. -/
structure Blk.StacksRead (b b' : Blk) : Prop where
  tiles : b'.tiles = b.tiles
  counted : b.ctl.StacksCounted b'.ctl

theorem Blk.StacksRead.refl (b : Blk) : b.StacksRead b := ⟨rfl, .refl _⟩
theorem Blk.StacksRead.trans {a b c : Blk} (h : a.StacksRead b) (g : b.StacksRead c) : a.StacksRead c :=
  ⟨g.tiles.trans h.tiles, h.counted.trans g.counted⟩

theorem Blk.StacksRead.onCtl {b : Blk} {f : Ctl → Ctl} (h : b.ctl.StacksCounted (f b.ctl)) : b.StacksRead (b.onCtl f) := ⟨b.onCtl_tiles f, h⟩

theorem Blk.hbmEcc_read (b : Blk) (h k : Nat) (e : Ecc) : b.StacksRead (b.hbmEcc h k e) := by
  cases e with
  | ok => exact .refl b
  | onDie =>
    have hc := Ctl.StacksCounted.bump (h := h) (f := F.HBM_STACK_CORR_COUNT) (by decide) b.ctl 1
    exact ⟨rfl, hc⟩
  | corr =>
    have hc := (Ctl.StacksCounted.bump (h := h) (f := F.HBM_CORR_COUNT) (by decide) b.ctl 1).trans (.raise _ h 1)
    exact ⟨rfl, hc⟩
  | uncorr =>
    refine ⟨rfl, ?_⟩
    have h1 := ((Ctl.StacksCounted.bump (h := h) (f := F.HBM_UNCORR_COUNT) (by decide) b.ctl 1).trans
      (.errHw _ h 0x02)).trans (.bump (h := h) (f := F.HBM_POISON_BURSTS_COUNT) (by decide) _ 1)
    rw [Blk.hbmEcc, Blk.setStack_ctl, Blk.onCtl_ctl]
    refine .trans ?_ (.raise ..)
    split_ifs
    · exact h1
    · exact ((h1.trans (.put (by decide) _ _)).trans
        (.put (by decide) _ _)).trans (.put (by decide) _ _)

theorem Blk.hbmChecks_read (b : Blk) (h : Nat) (ks : List Nat) (e : List Ecc) : b.StacksRead (b.hbmChecks h ks e) :=
  List.foldlRecOn (motive := fun d => b.StacksRead d) _ _ (.refl b) fun d hd x _ => hd.trans (d.hbmEcc_read h x.1 x.2)

theorem Blk.stackRead_read (b : Blk) (h l n : Nat) (e : List Ecc) : b.StacksRead (b.stackRead h l n e).2 := b.hbmChecks_read ..

theorem Blk.notReady_read (b : Blk) (h : Nat) : b.StacksRead (b.onCtl fun c => c.notReady h) := .onCtl (.notReady ..)

/-- The stage address is a variable here as in `Blk.setDirty_cases`. -/
theorem Blk.stgRead_read (b : Blk) (s x n : Nat) (e : List Ecc) : b.StacksRead (b.stgRead s x n e).2 := by
  have key : ∀ f, f = @Blk.stgRead → b.StacksRead (f b s x n e).2 := by
    delta Blk.stgRead
    generalize @Ctl.stageAddr = place
    revert place
    refine id ?_
    rintro place _ rfl
    refine List.foldlRecOn (motive := fun y : Run × List Ecc × Blk => b.StacksRead y.2.2) _ _ (.refl b) fun y hy i _ => ?_
    dsimp only
    split
    · split_ifs
      · exact hy.trans (Blk.stackRead_read ..)
      · exact hy.trans (Blk.notReady_read ..)
    · exact hy
  exact key _ rfl

/-! ### What a read of the stage gives (11 R270, R273) -/

/-- Two blocks whose stacks hold and serve the same. -/
structure Blk.StacksAlike (a b : Blk) : Prop where
  hbm : a.hbm = b.hbm
  regs : a.ctl.RegsOffStacks b.ctl

section
variable {a b : Blk}

theorem Blk.StacksAlike.stack (g : a.StacksAlike b) (h : Nat) : a.stack h = b.stack h := by rw [Blk.stack, Blk.stack, g.hbm]

theorem Blk.StacksAlike.stageStacks (g : a.StacksAlike b) {s : Nat} (hs : s < 12) : b.ctl.stageStacks s = a.ctl.stageStacks s := by
  have hk := g.regs.page hs
  rw [Ctl.stageStacks, Ctl.stageStacks, Ctl.valid, Ctl.valid, hk.flag (by decide), hk 0x40 (by decide)]

theorem Blk.StacksAlike.of_counted (g : a.StacksAlike b) {a' b' : Blk} (hm : a'.hbm = b'.hbm) (ha : a.ctl.StacksCounted a'.ctl)
    (hb : b.ctl.StacksCounted b'.ctl) : a'.StacksAlike b' := ⟨hm, (ha.regs.symm.trans g.regs).trans hb.regs⟩

theorem Blk.StacksAlike.hbmEcc (g : a.StacksAlike b) (h k : Nat) (e : Ecc) : (a.hbmEcc h k e).StacksAlike (b.hbmEcc h k e) := by
  refine g.of_counted ?_ (a.hbmEcc_read h k e).counted (b.hbmEcc_read h k e).counted
  cases e with
  | ok => exact g.hbm
  | onDie => exact g.hbm
  | corr => exact g.hbm
  | uncorr => simp only [Blk.hbmEcc, Blk.setStack, Blk.stack, Blk.onCtl_hbm, g.hbm]

theorem Blk.StacksAlike.hbmChecks (g : a.StacksAlike b) (h : Nat) (ks : List Nat) (e : List Ecc) :
    (a.hbmChecks h ks e).StacksAlike (b.hbmChecks h ks e) :=
  List.foldl_rel (r := Blk.StacksAlike) g fun x _ _ _ hc => hc.hbmEcc h x.1 x.2

theorem Blk.StacksAlike.stackRead (g : a.StacksAlike b) (h l n : Nat) (e : List Ecc) :
    (a.stackRead h l n e).1 = (b.stackRead h l n e).1 ∧ (a.stackRead h l n e).2.StacksAlike (b.stackRead h l n e).2 := by
  have hc := g.hbmChecks h (burstsOf l n) e
  exact ⟨congrArg (fun m : Mem => m.read l n) (hc.stack h), hc⟩

theorem Blk.StacksAlike.stageAddr (g : a.StacksAlike b) {s : Nat} (hs : s < 12) (x : Nat) : a.ctl.stageAddr s x = b.ctl.stageAddr s x := by
  rw [Ctl.stageAddr, Ctl.stageAddr, g.stageStacks hs]

/-- A read of the stage gives the same where the stacks hold and serve the same. The stage address is a variable here as in
`Blk.setDirty_cases`. -/
theorem Blk.StacksAlike.stgRead (g : a.StacksAlike b) {s : Nat} (hs : s < 12) (x n : Nat) (e : List Ecc) :
    (a.stgRead s x n e).1 = (b.stgRead s x n e).1 := by
  have key : ∀ f, f = @Blk.stgRead → (f a s x n e).1 = (f b s x n e).1 := by
    delta Blk.stgRead
    have hp {a b : Blk} (h : a.StacksAlike b) (x : Nat) := h.stageAddr hs x
    revert hp
    generalize @Ctl.stageAddr = place
    revert place
    refine id ?_
    rintro place hp _ rfl
    refine And.left (List.foldl_rel (r := fun y z : Run × List Ecc × Blk => y.1 = z.1 ∧ y.2.1 = z.2.1 ∧ y.2.2.StacksAlike z.2.2) ⟨rfl, rfl, g⟩
      fun i _ y z hyz => ?_)
    obtain ⟨ry, ey, by'⟩ := y
    obtain ⟨rz, ez, bz⟩ := z
    obtain ⟨rfl, rfl, h⟩ := hyz
    change by'.StacksAlike bz at h
    dsimp only
    rw [hp h]
    generalize place bz.ctl s (x + i.1) = o
    rcases o with _ | ⟨k, l⟩
    · exact ⟨rfl, rfl, h⟩
    · obtain ⟨hr, hs⟩ := h.stackRead k l i.2 ey
      dsimp only
      rw [h.regs.ready]
      split_ifs
      · exact ⟨congrArg ry.append hr, rfl, hs⟩
      · exact ⟨rfl, rfl, h.of_counted h.hbm (by'.notReady_read k).counted (bz.notReady_read k).counted⟩
  exact key _ rfl

end

end Sys2Proof.Machine
end

section
/-!
PROOF. A pass of the row fetcher: the transfers of its branches, its record's checks, its start (08 R210, 11 R274 to R278).
-/
namespace Sys2Proof.Machine

/-! ### The transfers of a branch (11 R277) -/

section
variable {a b c : Blk} {p k m : Nat}

/-- `b` follows from `a` with `k` items more on the way: the tiles and the passes that program `p` has waiting are as they were. -/
structure Blk.FetchSent (p k : Nat) (a b : Blk) : Prop where
  tiles : b.tiles = a.tiles
  passes : (b.ctl.prog p).passes = (a.ctl.prog p).passes
  net : b.ctl.net.length = a.ctl.net.length + k

theorem Blk.FetchSent.refl (p : Nat) (b : Blk) : b.FetchSent p 0 b := ⟨rfl, rfl, rfl⟩

theorem Blk.FetchSent.trans (h : a.FetchSent p k b) (g : b.FetchSent p m c) : a.FetchSent p (k + m) c :=
  ⟨g.tiles.trans h.tiles, g.passes.trans h.passes, by rw [g.net, h.net, Nat.add_assoc]⟩

theorem Ctl.Quiet.progs {c d : Ctl} (h : c.Quiet d) : d.progs = c.progs := by
  obtain ⟨r, o, g, l, rfl⟩ := h
  rfl

theorem Ctl.Quiet.passes {c d : Ctl} (h : c.Quiet d) (p : Nat) : (d.prog p).passes = (c.prog p).passes := by rw [Ctl.prog, Ctl.prog, h.progs]

theorem Blk.FetchSent.of_quiet (ht : b.tiles = a.tiles) (h : a.ctl.Quiet b.ctl) : a.FetchSent p 0 b :=
  ⟨ht, h.passes p, congrArg List.length h.net⟩

theorem Blk.StacksRead.sent (h : a.StacksRead b) : a.FetchSent p 0 b := .of_quiet h.tiles h.counted.quiet

theorem Ctl.fetchSend_net (c : Ctl) (p e : Nat) (r data : Run) (void : Bool) : (c.fetchSend p r e void data).net.length = c.net.length + 1 :=
  List.length_append ..

theorem Ctl.fetchSend_passes (c : Ctl) (p e : Nat) (r data : Run) (void : Bool) : ((c.fetchSend p r e void data).prog p).passes = (c.prog p).passes := by
  have h := c.prog_setProg p p { c.prog p with sent := (c.prog p).sent.set e ((c.prog p).sent.getD e 0 + 1) }
  rw [if_pos rfl] at h
  exact (congrArg Prog.passes h :)

/-- Every one of a list of steps sends one. -/
theorem Ctl.foldl_sends {α : Type} {f : Ctl → α → Ctl} (hn : ∀ c x, (f c x).net.length = c.net.length + 1)
    (hp : ∀ c x, ((f c x).prog p).passes = (c.prog p).passes) (l : List α) (c : Ctl) :
    (l.foldl f c).net.length = c.net.length + l.length ∧ ((l.foldl f c).prog p).passes = (c.prog p).passes := by
  induction l generalizing c with
  | nil => exact ⟨rfl, rfl⟩
  | cons x l ih =>
    obtain ⟨h1, h2⟩ := ih (f c x)
    exact ⟨by rw [List.foldl_cons, h1, hn, List.length_cons]; omega, h2.trans (hp c x)⟩

/-- The transfers a block goes in. -/
def frParts (r : Run) : Nat := (frBytes r + 8191) / 8192

theorem Blk.fetchParts_sent (b : Blk) (p e : Nat) (r data : Run) (void : Bool) : b.FetchSent p (frParts r)
    (b.onCtl fun c => (List.range (frParts r)).foldl (fun c i => c.fetchSend p r e void (data.slice (8192 * i) 8192)) c) := by
  obtain ⟨h1, h2⟩ := Ctl.foldl_sends (f := fun c i => c.fetchSend p r e void (data.slice (8192 * i) 8192)) (fun c x => c.fetchSend_net p e r _ void)
    (fun c x => c.fetchSend_passes p e r _ void) (List.range (frParts r)) b.ctl
  rw [List.length_range] at h1
  exact ⟨b.onCtl_tiles _, h2, h1⟩

theorem Blk.fetchBlock_sent (b : Blk) (s p e0 n j : Nat) (r : Run) (x : FetchBlk) (ecc : List Ecc) :
    b.FetchSent p (frParts r) (b.fetchBlock s p r e0 n j x ecc) := by
  cases x with
  | layer k =>
    have h := b.stgRead_read s (frSrc r + k * frStride r) (frBytes r) ecc
    have hs := h.sent.trans (Blk.fetchParts_sent _ p (e0 + j % n) r (b.stgRead s (frSrc r + k * frStride r) (frBytes r) ecc).1 false)
    rwa [Nat.zero_add] at hs
  | zero => exact b.fetchParts_sent ..
  | void => exact b.fetchParts_sent ..

/-- Every one of a list of steps sends `m` items. -/
theorem Blk.foldl_sent {α β : Type} {f : Blk × β → α → Blk × β} (hf : ∀ (y : Blk × β) (x : α), y.1.FetchSent p m (f y x).1) (l : List α)
    (y : Blk × β) : y.1.FetchSent p (l.length * m) (l.foldl f y).1 := by
  induction l generalizing y with
  | nil =>
    rw [List.length_nil, Nat.zero_mul]
    exact .refl p _
  | cons x l ih =>
    have h := (hf y x).trans (ih (f y x))
    rwa [Nat.add_comm, ← Nat.succ_mul] at h

theorem Blk.fetchBranch_sent (b : Blk) (s p e0 n : Nat) (r : Run) (l : List FetchBlk) (ecc : List Ecc) :
    b.FetchSent p ((if n = 0 then 0 else l.length) * frParts r) (b.fetchBranch s p r e0 n l ecc).1 := by
  rw [Blk.fetchBranch]
  split_ifs
  · rw [Nat.zero_mul]
    exact .refl p b
  · have h := Blk.foldl_sent (p := p) (f := fun (y : Blk × List Ecc) (x : FetchBlk × Nat) =>
      (y.1.fetchBlock s p r e0 n x.2 x.1 y.2, if x.1.reads then y.2.drop (frBytes r / 64) else y.2))
      (fun y x => y.1.fetchBlock_sent s p e0 n x.2 r x.1 y.2) l.zipIdx (b, ecc)
    rwa [List.length_zipIdx] at h

end

/-! ### The start of a pass (11 R274, R275, R278) -/

/-- Both branches served: `d` for the dense one, `l` for the sparse one. -/
def Blk.fetchBoth (b : Blk) (st p : Nat) (r : Run) (d l : List FetchBlk) (e : List Ecc) : Blk :=
  let q := b.fetchBranch st p r 0 (frDense r) d (e.drop 4)
  (q.1.fetchBranch st p r (frDense r) (frSparse r) l q.2).1

theorem Blk.fetchBoth_sent (b : Blk) (st p : Nat) (r : Run) (d l : List FetchBlk) (e : List Ecc) (hr : frDense r ≠ 0) :
    b.FetchSent p ((d.length + (if frSparse r = 0 then 0 else l.length)) * frParts r) (b.fetchBoth st p r d l e) := by
  have h := (b.fetchBranch_sent st p 0 (frDense r) r d (e.drop 4)).trans (Blk.fetchBranch_sent _ st p (frDense r) (frSparse r) r l
    (b.fetchBranch st p r 0 (frDense r) d (e.drop 4)).2)
  rwa [if_neg hr, ← Nat.add_mul] at h

/-- The oldest waiting pass of program `p` taken off: `rest` wait. -/
def Ctl.passLeft (c : Ctl) (p : Nat) (rest : List Pass) : Ctl := c.setProg p { c.prog p with passes := rest }

/-- The record of program `p` read for stage `st`. -/
def Blk.recordRead (b : Blk) (st p : Nat) (e : List Ecc) : Run × Blk :=
  b.stgRead st (b.ctl.get64 (stagePage st) F.STAGE_FETCH_TABLE_LO_ADDR_LO + (p - b.ctl.get (stagePage st) F.STAGE_FETCH_RANGE_FIRST) * 256) 256 e

/-- The blocks of a list's pass: voids for the dense branch, the layers listed and zero blocks for the sparse one. -/
def Blk.listSent (b : Blk) (st p : Nat) (x : Pass) (r : Run) (e : List Ecc) : Blk :=
  (b.onCtl fun c => c.bump (stagePage st) F.STAGE_SCOUT_PAD_COUNT (x.slots - x.entries.length)).fetchBoth st p r
    (List.replicate (bits (x.w 1) 15 0 + 1) .void)
    (x.entries.map FetchBlk.layer ++ List.replicate (x.slots - x.entries.length) .zero) e

/-- What a pass that starts comes to, its record `r` read. -/
def Blk.passStarted (b : Blk) (st p : Nat) (x : Pass) (r : Run) (e : List Ecc) : Blk :=
  if r.anyBad then b.onCtl fun c => c.consumePoison st 4 0
  else if !b.ctl.recordOk st r then b.onCtl fun c => c.stageFault st 0x15
  else
    let dense := (List.range (frBlocks r)).map FetchBlk.layer
    if x.isStart then b.fetchBoth st p r dense (List.replicate x.slots .void) e
    else
      let b := b.onCtl fun c => c.bump (stagePage st) F.STAGE_SCOUT_LISTS_COUNT
      if !x.wellFormed then
        (b.onCtl fun c => c.bump (stagePage st) F.STAGE_SCOUT_BAD_COUNT).fetchBoth st p r dense
          (List.replicate (min 4088 (Config.badSlots (x.w 1))) .void) e
      else if bit (x.w 2) 0 ∨ x.slots < x.entries.length then
        (b.onCtl fun c => c.bump (stagePage st) F.STAGE_SCOUT_OVERFLOW_COUNT).fetchBoth st p r
          ((List.range (bits (x.w 1) 15 0 + 1)).map FetchBlk.layer) (List.replicate x.slots .void) e
      else b.listSent st p x r e

theorem find?_range_first {n m : Nat} {f : Nat → Bool} (hm : m < n) (hf : f m = true) (hlt : ∀ u, u < m → f u = false) :
    (List.range n).find? f = some m :=
  List.find?_range_eq_some.mpr ⟨hf, List.mem_range.mpr hm, fun u hu => by rw [hlt u hu]; rfl⟩

section
variable {s : State} {p : Fin 256} {st : StageId} {x : Pass} {rest : List Pass} {e : List Ecc}

theorem execFetchPassStart_eq (hp : (s.blk.ctl.prog p).passes = x :: rest) (hv : s.blk.ctl.valid st = true)
    (hr : s.blk.ctl.inRange st F.STAGE_FETCH_RANGE_FIRST F.STAGE_FETCH_RANGE_COUNT p = true)
    (hu : ∀ u, u < st.val → (s.blk.ctl.valid u && s.blk.ctl.inRange u F.STAGE_FETCH_RANGE_FIRST F.STAGE_FETCH_RANGE_COUNT p) = false) :
    execFetchPassStart p e s = .next { s with blk :=
      (((s.blk.onCtl fun c => c.passLeft p rest).recordRead st p e).2.passStarted st p x
        ((s.blk.onCtl fun c => c.passLeft p rest).recordRead st p e).1 e) } := by
  have hf : (List.range 12).find? (fun st => s.blk.ctl.valid st && decide (s.blk.ctl.get (stagePage st) F.STAGE_FETCH_RANGE_FIRST ≤ p.val) &&
      decide (p.val < s.blk.ctl.get (stagePage st) F.STAGE_FETCH_RANGE_FIRST + s.blk.ctl.get (stagePage st) F.STAGE_FETCH_RANGE_COUNT)) =
      some st.val :=
    find?_range_first st.isLt (by rw [Bool.and_assoc]; exact Bool.and_eq_true_iff.mpr ⟨hv, hr⟩)
      fun u h => by rw [Bool.and_assoc]; exact hu u h
  have key : ∀ f, f = @execFetchPassStart → f p e s = .next { s with blk :=
      (((s.blk.onCtl fun c => c.passLeft p rest).recordRead st p e).2.passStarted st p x
        ((s.blk.onCtl fun c => c.passLeft p rest).recordRead st p e).1 e) } := by
    delta execFetchPassStart
    have hrec := @Blk.recordRead.eq_1
    have hstart := @Blk.passStarted.eq_1
    have hboth := @Blk.fetchBoth.eq_1
    have hlist := @Blk.listSent.eq_1
    revert hrec hstart hboth hlist
    generalize @Blk.recordRead = rec, @Blk.passStarted = start, @Blk.fetchBoth = both, @Blk.listSent = list
    generalize @Blk.stgRead = read, @Blk.fetchBranch = branch, @Ctl.recordOk = ok, List.range = range at hf ⊢
    revert rec start both list read branch ok range
    refine id ?_
    rintro rec start both list read branch ok range hf hrec hstart hboth hlist _ rfl
    simp only [State.on_eq, hp, hf, hrec, hstart, hlist, hboth]
    rfl
  exact key _ rfl

/-- What is left of the pass when its record has been read. -/
theorem Blk.recordRead_left (b : Blk) (st p : Nat) (rest : List Pass) (e : List Ecc) :
    let q := (b.onCtl fun c => c.passLeft p rest).recordRead st p e
    q.2.tiles = b.tiles ∧ (q.2.ctl.prog p).passes = rest ∧ q.2.ctl.net = b.ctl.net ∧ b.ctl.RegsOffStacks q.2.ctl ∧
      ∀ t, q.2.ctl.tileOff t = b.ctl.tileOff t := by
  have h : (b.onCtl fun c => c.passLeft p rest).StacksRead ((b.onCtl fun c => c.passLeft p rest).recordRead st p e).2 := Blk.stgRead_read ..
  have hp : ((b.ctl.passLeft p rest).prog p).passes = rest := by rw [Ctl.passLeft, Ctl.prog_setProg, if_pos rfl]
  exact ⟨h.tiles, (h.counted.quiet.passes p).trans hp, h.counted.quiet.net, h.counted.regs, h.counted.quiet.tileOff⟩

/-- The record read is the one that the stage's address space holds before the pass is taken off. -/
theorem Blk.recordRead_run (b : Blk) {st : Nat} (hs : st < 12) (p : Nat) (rest : List Pass) (e : List Ecc) :
    ((b.onCtl fun c => c.passLeft p rest).recordRead st p e).1 = (b.recordRead st p e).1 :=
  Blk.StacksAlike.stgRead (a := b.onCtl fun c => c.passLeft p rest) (b := b) ⟨rfl, .refl⟩ hs _ 256 e

theorem Ctl.recordOk_congr {c d : Ctl} (h : c.RegsOffStacks d) (ho : ∀ t, d.tileOff t = c.tileOff t) {s : Nat} (hs : s < 12) (r : Run) :
    d.recordOk s r = c.recordOk s r := by
  have ht (t : Nat) : d.tileStage t = c.tileStage t := Ctl.tileStage_of_kept (fun _ hs => h.page hs) t
  have hk := h.page hs
  have hb : d.stageBytes s = c.stageBytes s := by
    rw [Ctl.stageBytes, Ctl.stageBytes, Ctl.stageStacks, Ctl.stageStacks, Ctl.valid, Ctl.valid, hk.flag (by decide), hk 0x40 (by decide)]
  simp only [Ctl.recordOk, Ctl.tileGood, ht, ho, hb]

theorem Ctl.recordOk_dense {c : Ctl} {s : Nat} {r : Run} (h : c.recordOk s r = true) : frDense r ≠ 0 := by
  simp only [Ctl.recordOk, Bool.and_eq_true, bne_iff_ne] at h
  exact h.1.1.1.1.1.2

/-- A stage that loads, runs or wraps up enters FAULT. -/
theorem Ctl.stageFault_faults {c : Ctl} {s : Nat} (hs : s < 12) (code : Nat) (h : c.stState s ∈ [1, 2, 3]) :
    (c.stageFault s code).stState s = 4 ∧ c.Quiet (c.stageFault s code) := by
  have h : c.stState s = 1 ∨ c.stState s = 2 ∨ c.stState s = 3 := by simpa using h
  rw [Ctl.stageFault, if_pos h]
  refine ⟨?_, (Ctl.Quiet.put ..).trans ((Ctl.Quiet.errSev ..).trans (.withIrq (.put ..) _ _))⟩
  have hd : stagePage s + 0x44 ≠ devPage + F.DEV_STAGE_FAULTED_STAGE.off := by
    simp only [stagePage, devPage, F.DEV_STAGE_FAULTED_STAGE]
    omega
  have he : stagePage s + 0x44 ∉ errRegs (stagePage s) := by
    simp only [errRegs, stagePage, devPage, logPage, List.mem_cons, List.not_mem_nil, or_false]
    omega
  refine Eq.trans (Ctl.get_congr ?_) (Ctl.get_put_same c (stagePage s) F.STAGE_RUNSTATE_STATE 4 (by decide))
  exact (Ctl.rd_withIrq ..).trans ((Ctl.rd_put ..).trans ((if_neg hd).trans (Ctl.rd_errSev _ _ _ _ _ _ he)))

/-- A pass that starts, its record read: the pass is taken off, and what the check of the record looks at is as it was. -/
theorem fetchPassStart_runs (hp : (s.blk.ctl.prog p).passes = x :: rest) (hv : s.blk.ctl.valid st = true)
    (hr : s.blk.ctl.inRange st F.STAGE_FETCH_RANGE_FIRST F.STAGE_FETCH_RANGE_COUNT p = true)
    (hu : ∀ u, u < st.val → (s.blk.ctl.valid u && s.blk.ctl.inRange u F.STAGE_FETCH_RANGE_FIRST F.STAGE_FETCH_RANGE_COUNT p) = false) :
    ∃ b : Blk, Runs (.fetchPassStart p e) s (b.passStarted st p x (s.blk.recordRead st p e).1 e) ∧ b.tiles = s.blk.tiles ∧
      (b.ctl.prog p).passes = rest ∧ b.ctl.net = s.blk.ctl.net ∧ b.ctl.stState st = s.blk.ctl.stState st ∧
      ∀ r, b.ctl.recordOk st r = s.blk.ctl.recordOk st r := by
  have hrun := execFetchPassStart_eq (e := e) hp hv hr hu
  rw [s.blk.recordRead_run st.isLt p rest e] at hrun
  obtain ⟨ht, hps, hn, hregs, hoff⟩ := s.blk.recordRead_left st p rest e
  exact ⟨_, hrun, ht, hps, hn, Ctl.get_congr (hregs.page st.isLt 0x44 (by decide)), Ctl.recordOk_congr hregs hoff st.isLt⟩

section
variable {b : Blk} {i p : Nat} {r : Run}

theorem Blk.passStarted_faults (hb : r.anyBad = false) (hr : b.ctl.recordOk i r = false) :
    b.passStarted i p x r e = b.onCtl fun c => c.stageFault i 0x15 := by
  rw [Blk.passStarted, hb, hr]
  rfl

/-- The blocks that a start sends. -/
theorem Blk.passStarted_start (hb : r.anyBad = false) (hr : b.ctl.recordOk i r = true) (hx : x.isStart = true) :
    b.FetchSent p ((frBlocks r + (if frSparse r = 0 then 0 else x.slots)) * frParts r) (b.passStarted i p x r e) := by
  have h := b.fetchBoth_sent i p r ((List.range (frBlocks r)).map FetchBlk.layer) (List.replicate x.slots .void) e (Ctl.recordOk_dense hr)
  rw [List.length_map, List.length_range, List.length_replicate] at h
  rw [Blk.passStarted, hb, hr, hx]
  exact h

/-- The blocks that a list sends. -/
theorem Blk.passStarted_list (hb : r.anyBad = false) (hr : b.ctl.recordOk i r = true) (hx : x.isStart = false) (hw : x.wellFormed = true)
    (h0 : bit (x.w 2) 0 = false) (hl : x.entries.length ≤ x.slots) :
    b.FetchSent p ((bits (x.w 1) 15 0 + 1 + (if frSparse r = 0 then 0 else x.slots)) * frParts r) (b.passStarted i p x r e) := by
  have hc : ¬ (bit (x.w 2) 0 = true ∨ x.slots < x.entries.length) := by simp [h0, hl]
  have hb1 : b.FetchSent p 0 (b.onCtl fun c => c.bump (stagePage i) F.STAGE_SCOUT_LISTS_COUNT) := .of_quiet (b.onCtl_tiles _) (.bump ..)
  have hb2 := hb1.trans (.of_quiet (Blk.onCtl_tiles _ fun c => c.bump (stagePage i) F.STAGE_SCOUT_PAD_COUNT (x.slots - x.entries.length))
    (Ctl.Quiet.bump ..))
  have h := hb2.trans (Blk.fetchBoth_sent _ i p r (List.replicate (bits (x.w 1) 15 0 + 1) .void)
    (x.entries.map FetchBlk.layer ++ List.replicate (x.slots - x.entries.length) .zero) e (Ctl.recordOk_dense hr))
  rw [List.length_append, List.length_map, List.length_replicate, List.length_replicate, Nat.add_sub_cancel' hl, Nat.zero_add] at h
  simp only [Blk.passStarted, hb, hr, hx, hw, hc, Bool.not_true, Bool.false_eq_true, if_false]
  exact h

end

end

/-- Settles O30: a fetch command is decided by BUSY and the end of the scratchpad; a pass that starts sends each block of its branches in
parts, in the one step that stands for its delivery (log 39). -/
theorem fetchPassesAreTakenAndDelivered : Obligations.FetchPassesAreTakenAndDelivered := by
  unfold Obligations.FetchPassesAreTakenAndDelivered
  refine fun s => ⟨fun fn t n e h hu hw => ?_, fun i q p hi hk => ?_, fun p e st x rest hp hv hr hu => ?_⟩
  · have hrun := fetchCmdGo_decides (e := e) (n := n) h hu hw
    refine ⟨fun hb => ?_, fun hb hl => ?_, fun hb hl => ?_⟩
    · simpa only [hb, if_true] using hrun
    · simpa only [hb, Bool.false_eq_true, if_false, if_pos hl] using hrun
    · simp only [hb, Bool.false_eq_true, if_false, if_neg hl.not_gt] at hrun
      refine ⟨fun hi => ?_, fun hi => ?_⟩
      · exact ⟨_, hrun, Blk.fetchTaken_waits (b := s.blk.tileUnpaired t) _ _ hi⟩
      · obtain ⟨q, hq⟩ := Blk.fetchTaken_sends (b := s.blk.tileUnpaired t) (n := n) (e := e) _ _ hi
        exact ⟨_, q, hrun, hq⟩
  · refine fun hn => ⟨fun hf => ?_, fun hf => ?_⟩
    · exact ⟨_, rfl, submit_sameStore .., Ctl.submit_taken hi hk hn (beq_eq_false_iff_ne.mpr hf)⟩
    · exact ⟨_, rfl, submit_sameStore .., Ctl.submit_taken hi hk hn (beq_iff_eq.mpr hf)⟩
  · obtain ⟨b, hrun, ht, hps, hn, hst, hok⟩ := fetchPassStart_runs (e := e) hp hv hr hu
    intro pg r parts sends
    change Runs _ _ (b.passStarted st p x r e) at hrun
    clear_value r
    have sent {k : Nat} (h : b.FetchSent p (k * frParts r) (b.passStarted st p x r e)) : sends k :=
      ⟨_, hrun, h.passes.trans hps, h.tiles.trans ht, by rw [h.net, hn]; rfl⟩
    refine ⟨fun hb ho hs => ?_, fun hb ho hx => ?_, fun hb ho hx hw h0 hl => ?_⟩
    · rw [Blk.passStarted_faults hb ((hok r).trans ho)] at hrun
      obtain ⟨hf, hq⟩ := Ctl.stageFault_faults st.isLt 0x15 (hst.symm ▸ hs)
      exact ⟨_, hrun, (hq.passes p).trans hps, hf, hq.net.trans hn⟩
    · exact sent (Blk.passStarted_start hb ((hok r).trans ho) hx)
    · exact sent (Blk.passStarted_list hb ((hok r).trans ho) hx hw h0 hl)

end Sys2Proof.Machine
end
